-- ==== Sys2Proof/Word.lean ====
section
/-! DEFINITION. The word types of the manual and their plainest arithmetic: bytes and 32-bit registers
(R9), little-endian packing (R10), saturating counts and wrap-around 32-bit indices (R44, R495). -/

namespace Sys2Proof

/-- One byte of a buffer, an image or a record. -/
abbrev Byte := BitVec 8

/-- A byte sequence: a buffer, an image, a record or a ring entry. -/
abbrev Bytes := List Byte

/-- A 32-bit register word of BAR0 (R520). -/
abbrev Word := BitVec 32

/-- Two to the 32: tick counts, ring indices and sequence numbers wrap here (R44, R474, R495). -/
def two32 : Nat := 4294967296

/-- The width of a 32-bit difference taken modulo 2^32 (R495, R498). -/
def sub32 (a b : Nat) : Nat := (a % two32 + two32 - b % two32) % two32

/-- The next value of a 32-bit free-running count. -/
def succ32 (a : Nat) : Nat := (a + 1) % two32

/-- A signed 32-bit distance between two tick counts. -/
def dist32 (a b : Nat) : Int :=
  let d := sub32 a b
  if d < 2147483648 then (d : Int) else (d : Int) - 4294967296

/-- A saturating count of `w` bits. -/
def satAdd (w a b : Nat) : Nat := min (a + b) (2 ^ w - 1)

/-- Bit `i` of a word as a truth value. -/
def Word.bit (w : Word) (i : Nat) : Bool := w.getLsbD i

/-- The field `[lo + len - 1 : lo]` of a word as a number (R9). -/
def Word.field (w : Word) (lo len : Nat) : Nat := (w.toNat >>> lo) % 2 ^ len

/-- One bit as a number. -/
def bitNat (b : Bool) : Nat := if b then 1 else 0

/-- A number as a signed value of `w` bits in two's complement. -/
def toSigned (w n : Nat) : Int :=
  let m := n % 2 ^ w
  if m < 2 ^ (w - 1) then (m : Int) else (m : Int) - (2 ^ w : Nat)

/-- A signed value as a field of `w` bits in two's complement. -/
def ofSigned (w : Nat) (x : Int) : Nat := (x % ((2 ^ w : Nat) : Int)).toNat

/-- A signed value held within the range of `w` bits. -/
def satSigned (w : Nat) (x : Int) : Int :=
  max (min x ((2 ^ (w - 1) : Nat) - 1 : Int)) (-((2 ^ (w - 1) : Nat) : Int))

/-- The little-endian bytes of a number in `n` bytes (R10). -/
def leBytes : Nat → Nat → Bytes
  | 0, _ => []
  | n + 1, v => BitVec.ofNat 8 v :: leBytes n (v / 256)

/-- The number that little-endian bytes spell (R10). -/
def leNat : Bytes → Nat
  | [] => 0
  | b :: bs => b.toNat + 256 * leNat bs

/-- The byte at an offset of a byte sequence; bytes beyond its end read as 0 (R500). -/
def byteAt (bs : Bytes) (i : Nat) : Nat := (bs.getD i 0#8).toNat

/-- The little-endian field of `n` bytes at an offset (R10). -/
def fieldAt (bs : Bytes) (i n : Nat) : Nat := leNat ((bs.drop i).take n)

/-- Whether the bytes of a range are all zero: a reserved range as R11 checks it. -/
def zeroRange (bs : Bytes) (i n : Nat) : Bool := ((bs.drop i).take n).all (· == 0#8)

/-- A run of zero bytes. -/
def zeros (n : Nat) : Bytes := List.replicate n 0#8

/-- A word built from fields, each given as its lowest bit and its value. -/
def packWord (fs : List (Nat × Nat)) : Word :=
  fs.foldl (fun w f => w ||| (BitVec.ofNat 32 f.2 <<< f.1)) 0#32

/-- Floor division of integers, as every rounding down of the manual reads it. -/
def floorDiv (a b : Int) : Int := Int.fdiv a b

/-- Ceiling division of integers. -/
def ceilDiv (a b : Int) : Int := -(Int.fdiv (-a) b)

/-- A value held between two bounds. -/
def clampInt (x lo hi : Int) : Int := max lo (min x hi)

/-- Put a value at a position of a list, growing nothing. -/
def putAt {α : Type} (l : List α) (i : Nat) (x : α) : List α := l.set i x

/-- Change the entry at a position of a list. -/
def modAt {α : Type} (l : List α) (i : Nat) (f : α → α) : List α := l.modify i f

end Sys2Proof
end

