-- ==== Sys2Proof/Syntax.lean ====
section
/-! DEFINITION. The commands the block takes: one constructor of `Instr` for each row of
spec/opcode_table.json, with the row's operands. Host commands carry the identity of their descriptor
(tag and ring index), the argument fields of Table HST-8 and the contents of their input buffer. Events
carry what the outside world presents at the event: measured figures, received frames, sample values
and offsets from T0. -/

namespace Sys2Proof

/-- What a completion copies from its descriptor (R505): TAG and the command ring index. -/
structure CmdHdr where
  tag  : Nat
  cidx : Nat
  deriving DecidableEq, Repr, Inhabited

/-- An input buffer as the device's fetch delivers it (R501): address, length and bytes, whether the
transfer met WCOLL (R440) and whether it met a double-bit error (R442). -/
structure InBuf where
  addr  : Nat
  len   : Nat
  data  : Bytes
  wcoll : Bool
  ecc   : Bool
  deriving DecidableEq, Repr, Inhabited

/-- An output buffer of a command (R501). -/
structure OutBuf where
  addr : Nat
  len  : Nat
  deriving DecidableEq, Repr, Inhabited

/-- TX.TEST fields (Table MOD-14). -/
structure TxTestArgs where
  kind : Nat
  paEn : Nat
  rho : Nat
  first : Nat
  count : Nat
  centreKhz : Nat
  level : Int
  duration : Nat
  deriving DecidableEq, Repr, Inhabited

/-- MUTE.SET and MUTE.CLR fields (R282, Table HST-8). -/
structure MuteArgs where
  level : Nat
  bg : Nat
  dir : Nat
  id : Nat
  deriving DecidableEq, Repr, Inhabited

/-- NET.IND fields (Table PRT-6). -/
structure NetIndArgs where
  kind : Nat
  bg : Nat
  scs : Nat
  beamK : Nat
  sfn : Nat
  slot : Nat
  on : Nat
  nslots : Nat
  deriving DecidableEq, Repr, Inhabited

/-- BEAM.SET fields (Table LAY-4, Table HST-8). -/
structure BeamSetArgs where
  target : Nat
  bg : Nat
  index : Nat
  recip : Nat
  sbeams : Nat
  fixed : Nat
  donor : Nat
  e : Nat
  entry : Nat
  k : Nat
  mapEnt : Nat
  deriving DecidableEq, Repr, Inhabited

/-- ARRAY.CAL fields (R162, Table HST-8). -/
structure ArrayCalArgs where
  side : Nat
  rho : Nat
  ticks : Nat
  gRef : Nat
  centreKhz : Nat
  deriving DecidableEq, Repr, Inhabited

/-- CANC.SET fields (Table CAN-2). -/
structure CancArgs where
  inst : Nat
  vkind : Nat
  bg : Nat
  pos : Nat
  beam : Nat
  taps : Nat
  pre : Nat
  forget : Nat
  refs : List Nat
  imods : List Nat
  deriving DecidableEq, Repr, Inhabited

/-- ENTRY.LEARN fields (R203). -/
structure LearnArgs where
  bg : Nat
  e : Nat
  n : Nat
  learnTicks : Nat
  ltaps : Nat
  deriving DecidableEq, Repr, Inhabited

/-- GAIN.SET fields (Table BEL-5). -/
structure GainArgs where
  bg : Nat
  dir : Nat
  beam : Nat
  mask : Nat
  target : Nat
  pmax : Nat
  vlim : Nat
  alim : Nat
  jlim : Nat
  lnaSt : Nat
  pagSt : Nat
  deriving DecidableEq, Repr, Inhabited

/-- BOOK.SET fields (R327). -/
structure BookSetArgs where
  eid : Nat
  mask : Nat
  flags : Nat
  widx : Nat
  offset : Int
  deriving DecidableEq, Repr, Inhabited

/-- MEAS.SUB fields (Table LDL-7). -/
structure MeasArgs where
  subId : Nat
  action : Nat
  src : Nat
  target : Nat
  rho : Nat
  mresp : Nat
  centreKhz : Nat
  n : Nat
  k : Nat
  outr : Nat
  gridSeg : Nat
  gate : Nat
  div : Nat
  deriving DecidableEq, Repr, Inhabited

/-- SPEC.SNAP fields (R351). -/
structure SnapArgs where
  strand : Nat
  tag : Nat
  centreKhz : Nat
  rho : Nat
  mresp : Nat
  avg : Nat
  deriving DecidableEq, Repr, Inhabited

/-- CAPTURE.ARM fields (R354). -/
structure CapArgs where
  bufc : Nat
  format : Nat
  trig : Nat
  nsrc : Nat
  sizeMb : Nat
  preUs : Nat
  postUs : Nat
  targ : Nat
  deriving DecidableEq, Repr, Inhabited

/-- MARCH.RUN fields (Table MEM-4). -/
structure MarchArgs where
  die : Nat
  bank : Nat
  mode : Nat
  offs : Nat
  len : Nat
  deriving DecidableEq, Repr, Inhabited

/-- One command descriptor as fetched from the command ring (Table HST-5), with the bytes its input
buffer holds and the errors its fetch met. -/
structure Descriptor where
  opcode : Nat
  dlen : Nat
  flags : Nat
  tag : Nat
  buf : Nat
  bufLen : Nat
  args : Bytes
  data : Bytes
  wcoll : Bool
  ecc : Bool
  deriving DecidableEq, Repr, Inhabited

/-- The conditions of the PCIe link (R493) that an event starts or ends. -/
inductive PcieEvent where
  | hotReset
  | linkDown
  | linkUp
  | perstLow
  | perstHigh
  | d3hotEnter
  | d3hotExit
  | bmeClear
  | bmeSet
  deriving DecidableEq, Repr, Inhabited

/-- What the module samples at power-good (R530, R544, R546, R550, R552): the strap contacts, TEST_N,
the ILIM_SET resistor in ohms (none: open or shorted), the level of MUTE_N and whether REF_10M is valid
(R79). -/
structure PowerGoodArgs where
  modId0 : Bool
  modId1 : Bool
  testN : Bool
  rIlim : Option Nat
  muteN : Bool
  refValid : Bool
  deriving DecidableEq, Repr, Inhabited

/-- One strand's calibration result at the end of its wave (R91 to R93): whether the RX and the TX steps
succeeded, the ALIGN values in 1.25 ps units and the tile temperature in 1/16 degree C. -/
structure StrandCal where
  g : Nat
  rxOk : Bool
  txOk : Bool
  rxAlign : Nat
  txAlign : Nat
  temp : Int
  deriving DecidableEq, Repr, Inhabited

/-- A node's answer to RD of register 0x00 (R108): the strand and the identity it returns. -/
structure NodeAnswer where
  g : Nat
  data : Nat
  deriving DecidableEq, Repr, Inhabited

/-- A received RSP frame (R106): the strand it answers for, its STATUS word and its DATA. -/
structure RspArgs where
  g : Nat
  status : Nat
  data : Nat
  sub : Nat
  deriving DecidableEq, Repr, Inhabited

/-- The words that the response of one yarn's RX form delivered (Table YRN-2): the yarn ID, the grid index of the
first sample (R86) and the (I, Q) words, 16 bits each. -/
structure YarnWords where
  id : Nat
  first : Nat
  words : List (Int × Int)
  deriving DecidableEq, Repr, Inhabited

/-- The words of a stream imported over the Splice link (R217): the exporter, the stream as the beam yarn identifier
of its direction, band group and position, and the samples as for a yarn. -/
structure PeerWords where
  modId : Nat
  key : Nat
  first : Nat
  words : List (Int × Int)
  deriving DecidableEq, Repr, Inhabited

/-- The words of one strand's RX converter, 16 bits each (R71), from a converter period on, counted from the SYNC
instant. -/
structure StrandWords where
  g : Nat
  first : Nat
  words : List Int
  deriving DecidableEq, Repr, Inhabited

/-- The samples that reached the block since the last command that brought any: the words of RX converters, which the RX
forms turn into yarn words, or yarn words as the RX forms deliver them, and imported streams. -/
structure Samples where
  yarns : List YarnWords
  peers : List PeerWords
  strands : List StrandWords := []
  deriving DecidableEq, Repr, Inhabited

/-- A Splice frame of a module, by the imported streams that it carries, each as the beam yarn identifier of its direction,
band group and position (R217, R221). -/
structure SpliceFrame where
  modId : Nat
  streams : List Nat
  deriving DecidableEq, Repr, Inhabited

/-- An instant of the present tick, as its offset from T0 in 10 ns, with the samples up to it. -/
structure SampledAt where
  sub : Nat
  samples : Samples
  deriving DecidableEq, Repr, Inhabited

/-- The position of a burst whose signature window has passed, with the samples up to its end (R302). -/
structure BurstWindow where
  bg : Nat
  pos : Nat
  samples : Samples
  deriving DecidableEq, Repr, Inhabited

/-- A slot of a Lanyard port (R99). -/
structure PortSlot where
  port : Nat
  slot : Nat
  deriving DecidableEq, Repr, Inhabited

/-- An edge at PPS_IN: its kind, and its distance in ns from the edge of that kind before it (R58). -/
structure PpsEdge where
  rising : Bool
  spacingNs : Nat
  deriving DecidableEq, Repr, Inhabited

/-- The mean donor downlink power of a TDD segment over one frame (R60): in the pattern's uplink symbols and
in its downlink symbols, 1/16 dBFS. -/
structure TddPowers where
  seg : Nat
  up : Int
  down : Int
  deriving DecidableEq, Repr, Inhabited

/-- One access of a bank's port: the byte offset, 1 to 64 bytes, and whether it writes (R441). -/
structure PortAccess where
  off : Nat
  len : Nat
  write : Bool
  deriving DecidableEq, Repr, Inhabited

/-- A port A and a port B access to one bank that begin in the same cycle (R439): the die (8 the Bowline), the bank, and
where port B's master is an engine that no command started, the port A access that its repeat of the transfer met, if any
(R440). -/
structure PortPair where
  die : Nat
  bank : Nat
  a : PortAccess
  b : PortAccess
  engine : Bool
  again : Option PortAccess
  deriving DecidableEq, Repr, Inhabited

/-- The samples of the tick that ends and what happened in it that the device only counts: saturated RX samples (R72),
corrected SRAM errors and port A bus errors, each as a place and a count; double-bit SRAM
errors by die, read through port A and through port B (R442); accesses of two ports to one bank (R439); corrected DRAM
errors, and the addresses of uncorrectable DRAM reads (R452); per TDD segment the donor powers of a frame that ended (R60); whether
REF_10M is valid again (R79); and the capture buffers whose samples overflowed BB3 (R378), each with the contact times
dropped, from and to, in 10 ns from T0. -/
structure TickEnv where
  tail      : Samples
  overRange : List (Nat × Nat)
  sramCor   : List (Nat × Nat)
  sramUnc   : List (Nat × Nat × Nat)
  ports     : List PortPair
  busErr    : List (Nat × Nat)
  dramCor   : Nat
  dramUnc   : List Nat
  tddFrames : List TddPowers
  refBack   : Bool
  bb3       : List (Nat × Nat × Nat)
  deriving DecidableEq, Repr, Inhabited

/-- What a Close reads from outside: the samples up to it and the DRAM activity meter in bytes (R363). -/
structure CloseEnv where
  samples : Samples
  dramBytes : Nat
  deriving DecidableEq, Repr, Inhabited

/-- The tick-planned work items of Table TCK-2; a late canceller solve names the instances of its hawser that have
not finished. -/
inductive WorkItem where
  | draft
  | belay (h : Nat)
  | solve (h : Nat) (late : List Nat)
  | leadline (h : Nat)
  | records (ring : Nat)
  deriving DecidableEq, Repr, Inhabited

/-- The count of the master's tick, and how many converter periods its T0 comes after the T0 that the slave counted
(R63). -/
structure MasterTick where
  n : Nat
  after : Int
  deriving DecidableEq, Repr, Inhabited

/-- One expected sync occasion of a donor cell (R50 to R56): the cell, its donor beam, the detection
(none: nothing within 2 microseconds), as the offset from the expected time in nanoseconds, whether a
frame number was decoded and which, the frame timing against the grid in 80 ps periods, the sync power as energy per
resource element on the donor beam's yarn in 1/16 dBFS and the frequency offset measured in ppb; `khz` is the carrier frequency that the cell is received at. -/
structure Occasion where
  rat : Nat
  pci : Nat
  beam : Nat
  khz : Nat
  detected : Option Int
  sfn : Option Nat
  timing : Int
  power : Int
  freq : Int
  deriving DecidableEq, Repr, Inhabited

/-- A donor candidate that a slave reports over the Splice link (R64). -/
structure CandReport where
  rat : Nat
  pci : Nat
  beam : Nat
  sfnOffs : Nat
  timing : Int
  power : Int
  deriving DecidableEq, Repr, Inhabited

/-- A slave's report to the timing master (R64): the module and its candidates. -/
structure CandReports where
  modId : Nat
  cands : List CandReport
  deriving DecidableEq, Repr, Inhabited

/-- One TDD boundary on one strand's path (R59, R110 to R112): the strand and path, the segment of the
committed plan whose pattern turns, and the symbol of this tick after which the old direction ends. -/
structure SwitchArgs where
  g : Nat
  path : Nat
  seg : Nat
  sym : Nat
  deriving DecidableEq, Repr, Inhabited

/-- One evaluation of the fast oscillation detector on a beam yarn (R210 to R212): its offset from T0 and the samples
up to it. -/
structure OscArgs where
  byid : Nat
  sub : Nat
  samples : Samples
  deriving DecidableEq, Repr, Inhabited

/-- One sensor reading of a thermal sample (R381 to R385): index, raw code, whether the input is open or shorted, and
what the sensor measured: an on-die sensor its temperature in 1/16 degree C, a diode channel its base-emitter voltages in
nV at 10, 40 and 160 microamperes, a thermistor channel its resistance in ohms. -/
structure Reading where
  idx : Nat
  temp : Int
  diode : Nat × Nat × Nat
  ohms : Nat
  raw : Nat
  broken : Bool
  deriving DecidableEq, Repr, Inhabited

/-- A neighbour tracer correlation of one epoch (R215): power in 1/16 dBFS, correlation in 1/16 dB, and the centre
frequency of the neighbour's yarn in Hz. -/
structure Sighting where
  tracer : Nat
  tile : Nat
  bg : Nat
  pos : Nat
  dir : Nat
  guard : Bool
  rho : Nat
  centreHz : Nat
  lag : Int
  power : Int
  snr : Int
  deriving DecidableEq, Repr, Inhabited

/-- One result of ARRAY.CAL (R163). -/
structure ArrayRes where
  g : Nat
  tau : Int
  phase : Nat
  ampl : Int
  qual : Nat
  deriving DecidableEq, Repr, Inhabited

/-- The commands of the block: the rows of spec/opcode_table.json in the table's order. -/
inductive Instr where
  | modeSet (h : CmdHdr) (mode : Nat)
  | coilEnter (h : CmdHdr) (wakeIn : Nat)
  | coilWake (h : CmdHdr)
  | timeSet (h : CmdHdr) (time : Nat)
  | sync (h : CmdHdr)
  | calRun (h : CmdHdr) (first count : Nat)
  | txTest (h : CmdHdr) (a : TxTestArgs)
  | planLoad (h : CmdHdr) (b : InBuf)
  | muteSet (h : CmdHdr) (a : MuteArgs)
  | muteClr (h : CmdHdr) (a : MuteArgs)
  | netInd (h : CmdHdr) (a : NetIndArgs)
  | ulSched (h : CmdHdr) (bg action periodLog2 : Nat) (b : InBuf)
  | feLoad (h : CmdHdr) (nblk : Nat) (b : InBuf)
  | yarnMap (h : CmdHdr) (first count : Nat) (o : OutBuf)
  | beamSet (h : CmdHdr) (a : BeamSetArgs) (b : InBuf)
  | arrayCal (h : CmdHdr) (a : ArrayCalArgs) (o : OutBuf)
  | cancSet (h : CmdHdr) (a : CancArgs)
  | entryLearn (h : CmdHdr) (a : LearnArgs)
  | trcScan (h : CmdHdr) (scanAll nids : Nat) (b : InBuf)
  | gainSet (h : CmdHdr) (a : GainArgs)
  | belBank (h : CmdHdr) (xfade : Nat) (kp ki : List Nat)
  | belRead (h : CmdHdr) (first count : Nat) (o : OutBuf)
  | bookBasis (h : CmdHdr) (bg basisId : Nat) (b : InBuf)
  | bookLoad (h : CmdHdr) (b : InBuf)
  | bookRead (h : CmdHdr) (first count dirtyOnly clean : Nat) (o : OutBuf)
  | bookSet (h : CmdHdr) (a : BookSetArgs)
  | bookDel (h : CmdHdr) (first count mask : Nat)
  | partnerRead (h : CmdHdr) (kind : Nat) (o : OutBuf)
  | measSub (h : CmdHdr) (a : MeasArgs)
  | specSnap (h : CmdHdr) (a : SnapArgs) (o : OutBuf)
  | captureArm (h : CmdHdr) (a : CapArgs) (b : InBuf)
  | captureRead (h : CmdHdr) (bufc offset : Nat) (o : OutBuf)
  | reefCap (h : CmdHdr) (capW : Nat)
  | thmClr (h : CmdHdr) (action target : Nat)
  | marchRun (h : CmdHdr) (a : MarchArgs)
  | logRead (h : CmdHdr) (region fromSeq : Nat) (o : OutBuf)
  | logNonce (h : CmdHdr) (o : OutBuf)
  | logClear (h : CmdHdr) (b : InBuf)
  | lifeSet (h : CmdHdr) (state group : Nat) (b : InBuf)
  | keySet (h : CmdHdr) (slot action : Nat) (b : InBuf)
  | doorbellProducer (idx : Nat)
  | doorbellConsumer (k idx : Nat)
  | commandFetch (ds : List Descriptor)
  | commandOutputDone (cidx : Nat) (unc : Bool)
  | ringRecordWrite (k : Nat)
  | ringRecordDrop (k : Nat)
  | interruptDue (k : Nat)
  | ringCfgWrite (k reg : Nat) (v : Word)
  | idxBaseHiWrite (v : Word)
  | setupLock (v : Word)
  | warmResetRequest (v : Word)
  | chipResetRequest (v : Word)
  | stopperAcknowledge (k : Nat) (v : Word)
  | stopFirstUnlatch (v : Word)
  | w1cClear (offset : Nat) (v : Word)
  | registerWrite (offset : Nat) (v : Word)
  | readClear (offset : Nat)
  | tickCntRead
  | utcLoRead
  | i2cRead (offset : Nat)
  | jtagInstruction (code : Nat)
  | pcieLinkEvent (e : PcieEvent)
  | powerGood (a : PowerGoodArgs)
  | brownOut
  | ilimHold
  | vinSample (mv : Nat)
  | resetRelease
  | sramWipeDone (fails : List (Nat × Nat))
  | firmwareLoaded (ok : Bool) (version : Nat)
  | dramTrained (dens : List Nat)
  | synthLock
  | synth (refLost : Bool)
  | calWaveDone (res : List StrandCal)
  | lanyardDiscovery (ans : List NodeAnswer)
  | lanyardRediscovery (ans : List NodeAnswer)
  | lanyardFrameSend (a : PortSlot)
  | lanyardRsp (a : RspArgs)
  | lanyardRspMissing (g : Nat) (crcErr : Bool)
  | tickEdge (env : TickEnv)
  | runStart
  | closeStart (env : CloseEnv)
  | tickOverrun (item : WorkItem)
  | syncInstant
  | syncInEdge
  | ppsInEdge (e : PpsEdge) (phase : Nat)
  | ppsInTimeout
  | syncOccasion (o : Occasion)
  | searchTimeout
  | donorReplace
  | candidateExpire (idx : Nat)
  | sfnReload
  | tddSwitch (a : SwitchArgs)
  | spliceLinkUp (port modId serial tracer : Nat)
  | electionTimeout
  | masterTakeover
  | spliceTimingMessage (n : MasterTick) (tif sfn hfc : Nat)
  | masterLost
  | spliceSyncMessage (tick : Nat)
  | splicePortDown (port : Nat) (stays : Bool)
  | spliceRefLoss (r : SpliceFrame)
  | spliceRefRestore (r : SpliceFrame)
  | marlineFrame (src : Nat) (uncorrectable : Bool)
  | marlineLinkRestore (src : Nat)
  | oscEvaluate (a : OscArgs)
  | muteNFall (sub : Nat)
  | muteNRise
  | muteRelease
  | donorLoss
  | donorHoldExpiry
  | planExpiry
  | clockSecond
  | timeFloorRaise
  | feedbackDecay (byid : Nat)
  | lockQual
  | thermalSample (rs : List Reading) (sub : Nat)
  | thermalCritical (die sub : Nat)
  | burstOnset (bg pos : Nat) (at_ : SampledAt)
  | burstClose (bg pos : Nat) (at_ : SampledAt)
  | signatureReady (w : BurstWindow)
  | matchComplete (bg pos : Nat) (sub : Nat) (lost : List Nat)
  | matchLate (bg pos : Nat)
  | weightSwitch (bg slot : Nat) (at_ : SampledAt)
  | slotRelease (bg slot : Nat) (at_ : SampledAt)
  | endpointWriteback (eid : Nat)
  | bookLoadCommit
  | entryLearned (x : Samples)
  | entryLearnDone
  | entryAged (bg e : Nat)
  | tracerEpoch (s : List Sighting)
  | arrayCalDone (rs : List ArrayRes)
  | calRunDone (res : List StrandCal)
  | txTestEnd
  | specSnapDone (tag : Nat) (x : Samples)
  | captureTrigger (c : Nat) (sub : Nat)
  | captureEnd (c : Nat) (sub : Nat)
  | captureRecord (c : Nat) (x : Samples)
  | marchWindow (die : Nat) (fails : List Nat)
  | portATouch (die offset : Nat)
  | marchDone (die : Nat) (fails : List Nat)
  | coilWakeStart
  | stopperRaise (src sev unit sub : Nat)
  | blockResetDone (h : Nat)
  | chipResetBegin
  | faultNHoldEnd
  | loglineRecordWrite (readback : Bool)
  | logClearDone
  | lifecycleReset
  | optimeSave
  | spliceCandidateReport (r : CandReports)
  | spliceCalReport (modId : Nat)
  deriving DecidableEq, Repr, Inhabited

end Sys2Proof
end

