-- ==== Sys2Proof/Decode.lean ====
section
/-! DEFINITION. The table's words. No row of spec/opcode_table.json gives bits: a command reaches the block
as a descriptor, a register access or an event, so no word spells one (assumption 2). The descriptors of
Table HST-5 are read in Machine/Descriptor.lean. -/

namespace Sys2Proof

/-- The command that a table word spells: none, since no row of the table gives bits. -/
def decodeTableWord (_nbits _w : Nat) : Option Instr := none

end Sys2Proof
end

