-- ==== Sys2Proof/Machine/Crypto.lean ====
section
/-! DEFINITION. The checks that the manual names by their public standards: SHA-256 and ECDSA over NIST
P-256 (R270, R478, R480, R481), CRC-32 (R323, R483) and CRC-8 (R100). -/

namespace Sys2Proof.Machine

/-! ## SHA-256 (FIPS 180-4) -/

/-- A 32-bit word. -/
abbrev ShaWord := BitVec 32

/-- The integer root of a degree, of a number below 2 to the degree times `bits`, from what is found of it. -/
def rootFrom (degree n : Nat) : (bits found : Nat) → Nat
  | 0, r => r
  | k + 1, r => rootFrom degree n k (if (r + 2 ^ k) ^ degree ≤ n then r + 2 ^ k else r)

/-- The first 32 bits after the point of a root of a prime. -/
def primeFraction (degree p : Nat) : ShaWord := BitVec.ofNat 32 (rootFrom degree (p * 2 ^ (32 * degree)) 36 0)

/-- The first 64 primes. -/
def shaPrimes : List Nat :=
  (List.range 312).filter fun p => decide (2 ≤ p) && (List.range 16).all fun q => p == q + 2 || p % (q + 2) != 0

/-- The round constants, from cube roots, and the initial hash value, from square roots. -/
def shaConstants : List ShaWord := shaPrimes.map (primeFraction 3)
def shaStart : List ShaWord := (shaPrimes.take 8).map (primeFraction 2)

/-- The exclusive or of a word turned right by each of three counts. -/
def turned (x : ShaWord) (i j k : Nat) : ShaWord := x.rotateRight i ^^^ (x.rotateRight j ^^^ x.rotateRight k)

/-- One round on the eight working variables, with its constant and schedule word together. -/
def shaStep (kw : ShaWord) : List ShaWord → List ShaWord
  | [a, b, c, d, e, f, g, h] =>
    let grown := h + turned e 6 11 25 + (g ^^^ (e &&& (f ^^^ g))) + kw
    let major := (a &&& b) ||| (c &&& (a ||| b))
    [grown + turned a 2 13 22 + major, a, b, c, d + grown, e, f, g]
  | other => other

/-- The rounds: the schedule's next 16 words, oldest first, slide on by one with each. -/
def shaRun : List ShaWord → List ShaWord → List ShaWord → List ShaWord
  | k :: ks, x :: xs, vars =>
    let late := xs.getD 13 0
    let early := xs.getD 0 0
    let grown := x + (early.rotateRight 7 ^^^ (early.rotateRight 18 ^^^ early >>> 3)) + xs.getD 8 0 +
      (late.rotateRight 17 ^^^ (late.rotateRight 19 ^^^ late >>> 10))
    shaRun ks (xs ++ [grown]) (shaStep (k + x) vars)
  | _, _, vars => vars

/-- The big-endian words of a block of 64 bytes. -/
def shaWords : Nat → Bytes → List ShaWord
  | 0, _ => []
  | n + 1, bs => BitVec.ofNat 32 (leNat (bs.take 4).reverse) :: shaWords n (bs.drop 4)

/-- Fold a number of blocks into a hash value. -/
def shaBlocks : Nat → Bytes → List ShaWord → List ShaWord
  | 0, _, hash => hash
  | n + 1, bs, hash =>
    shaBlocks n (bs.drop 64) (List.zipWith (· + ·) hash (shaRun shaConstants (shaWords 16 (bs.take 64)) hash))

/-- The big-endian bytes of a number. -/
def beBytes (n v : Nat) : Bytes := (leBytes n v).reverse

/-- The number that big-endian bytes spell. -/
def beNat (bs : Bytes) : Nat := leNat bs.reverse

/-- The SHA-256 digest of a message, 32 bytes. -/
def sha256 (m : Bytes) : Bytes :=
  let pad := (119 - m.length % 64) % 64
  let p := m ++ 0x80#8 :: (zeros pad ++ beBytes 8 (8 * m.length))
  (shaBlocks (p.length / 64) p shaStart).flatMap fun w => beBytes 4 w.toNat

/-! ## ECDSA over P-256 (FIPS 186-5) -/

def p256p : Nat := 0xFFFFFFFF00000001000000000000000000000000FFFFFFFFFFFFFFFFFFFFFFFF
def p256n : Nat := 0xFFFFFFFF00000000FFFFFFFFFFFFFFFFBCE6FAADA7179E84F3B9CAC2FC632551
def p256b : Nat := 0x5AC635D8AA3A93E7B3EBBD55769886BC651D06B0CC53B0F63BCE3C3E27D2604B
def p256gx : Nat := 0x6B17D1F2E12C4247F8BCE6E563A440F277037D812DEB33A0F4A13945D898C296
def p256gy : Nat := 0x4FE342E2FE1A7F9B8EE7EB4A7C0F9E162BCE33576B315ECECBB6406837BF51F5

/-- A power modulo m, by the bits of an exponent of at most `fuel` bits. -/
def powMod (m : Nat) : Nat → Nat → Nat → Nat
  | 0, _, _ => 1 % m
  | fuel + 1, b, e =>
    let r := powMod m fuel (b * b % m) (e / 2)
    if e % 2 = 1 then b * r % m else r

/-- The inverse modulo a prime of 256 bits. -/
def invMod (m x : Nat) : Nat := powMod m 256 (x % m) (m - 2)

/-- A curve point in Jacobian coordinates; z = 0 is the point at infinity. -/
structure Jac where
  x : Nat
  y : Nat
  z : Nat
  deriving DecidableEq, Repr, Inhabited

/-- Subtraction modulo the field prime. -/
def fsub (a b : Nat) : Nat := (a + (p256p - b % p256p)) % p256p

/-- Doubling on a curve with a = -3. -/
def Jac.double (p : Jac) : Jac :=
  if p.z = 0 ∨ p.y = 0 then { x := 1, y := 1, z := 0 }
  else
    let delta := p.z * p.z % p256p
    let gamma := p.y * p.y % p256p
    let beta := p.x * gamma % p256p
    let alpha := 3 * (fsub p.x delta * ((p.x + delta) % p256p)) % p256p
    let x3 := fsub (alpha * alpha) (8 * beta)
    let z3 := fsub ((p.y + p.z) * (p.y + p.z)) (gamma + delta)
    let y3 := fsub (alpha * fsub (4 * beta) x3) (8 * gamma * gamma)
    { x := x3, y := y3, z := z3 }

/-- Addition of two points. -/
def Jac.add (p q : Jac) : Jac :=
  if p.z = 0 then q
  else if q.z = 0 then p
  else
    let z1 := p.z * p.z % p256p
    let z2 := q.z * q.z % p256p
    let u1 := p.x * z2 % p256p
    let u2 := q.x * z1 % p256p
    let s1 := p.y * q.z % p256p * z2 % p256p
    let s2 := q.y * p.z % p256p * z1 % p256p
    if u1 = u2 then (if s1 = s2 then p.double else { x := 1, y := 1, z := 0 })
    else
      let h := fsub u2 u1
      let r := fsub s2 s1
      let hh := h * h % p256p
      let hhh := h * hh % p256p
      let v := u1 * hh % p256p
      let x3 := fsub (r * r) (hhh + 2 * v)
      let y3 := fsub (r * fsub v x3) (s1 * hhh)
      { x := x3, y := y3, z := p.z * q.z % p256p * h % p256p }

/-- A scalar of at most `fuel` bits times a point. -/
def Jac.mul : Nat → Nat → Jac → Jac
  | 0, _, _ => { x := 1, y := 1, z := 0 }
  | fuel + 1, k, p =>
    let r := Jac.mul fuel (k / 2) p.double
    if k % 2 = 1 then p.add r else r

/-- Whether coordinates are a point of the curve (R485). -/
def p256OnCurve (x y : Nat) : Bool :=
  decide (x < p256p) && decide (y < p256p) &&
    decide (y * y % p256p = fsub ((x * x % p256p * x + p256b) % p256p) (3 * x))

/-- Whether (r, s) signs a digest under the public key (x, y). -/
def ecdsaVerify (x y r s : Nat) (digest : Bytes) : Bool :=
  if r = 0 ∨ s = 0 ∨ p256n ≤ r ∨ p256n ≤ s ∨ !p256OnCurve x y then false
  else
    let e := beNat digest
    let w := invMod p256n s
    let u1 := e * w % p256n
    let u2 := r * w % p256n
    let g : Jac := { x := p256gx, y := p256gy, z := 1 }
    let q : Jac := { x := x, y := y, z := 1 }
    let t := (Jac.mul 256 u1 g).add (Jac.mul 256 u2 q)
    if t.z = 0 then false
    else
      let zi := invMod p256p t.z
      decide (t.x * (zi * zi % p256p) % p256p % p256n = r)

/-- Whether a signature over the SHA-256 of a message verifies; the key is X then Y, each little-endian, and
so are SIG_R and SIG_S (R10, R270, R485). -/
def verifySigned (key msg sigR sigS : Bytes) : Bool :=
  ecdsaVerify (leNat (key.take 32)) (leNat ((key.drop 32).take 32)) (leNat sigR) (leNat sigS) (sha256 msg)

/-! ## Cyclic checks -/

/-- CRC-8 with polynomial x^8 + x^2 + x + 1, bits fed most significant first (R100). -/
def crc8 : Nat → Nat → Nat → Nat
  | 0, _, c => c
  | n + 1, v, c =>
    let top := (c / 128 + v / 2 ^ n) % 2
    crc8 n v (if top = 1 then (c * 2 % 256) ^^^ 7 else c * 2 % 256)

/-- One byte of the reflected CRC-32. -/
def crc32Step : Nat → Nat → Nat
  | 0, c => c
  | n + 1, c => crc32Step n ((c / 2) ^^^ (0xEDB88320 * (c % 2)))

/-- CRC-32 of ISO 3309: reflected, initial value and final XOR of all ones. -/
def crc32 (bs : Bytes) : Nat :=
  (bs.foldl (fun c b => crc32Step 8 (c ^^^ b.toNat)) 0xFFFFFFFF) ^^^ 0xFFFFFFFF

end Sys2Proof.Machine
end

