-- ==== Sys2Proof/Machine/Decibel.lean ====
section
/-! DEFINITION. Levels and gains in decibels. A level is an exact integer in units of 1/131,072,000 dB, in
which 1/16 dB, 1 mdB and 2^-20 dB are all whole. Logarithms and powers of ten are computed in fixed point;
the manual gives no intermediate precision, so this one is DESIGN CHOICE (assumption 14). -/

namespace Sys2Proof.Machine

/-- One decibel. -/
def dB : Int := 131072000

/-- 1/16 dB, the step of gain codes and reported levels. -/
def dB16 : Int := 8192000

/-- 1/1,000 dB, the step of Payout limits. -/
def mdB : Int := 131072

/-- A level as a count of 1/16 dB steps, rounded down. -/
def floor16 (x : Int) : Int := floorDiv x dB16

/-- A level as a count of 1/16 dB steps, rounded to the nearest, ties up. -/
def round16 (x : Int) : Int := floorDiv (2 * x + dB16) (2 * dB16)

/-- A level as a count of 1/16 dB steps, rounded up. -/
def ceil16 (x : Int) : Int := ceilDiv x dB16

/-- Bits of the fraction of a base-2 logarithm: m is 2^60 times a number in [1, 2). -/
def log2Frac : Nat → Nat → Nat
  | 0, _ => 0
  | n + 1, m =>
    let q := m * m / 2 ^ 60
    if 2 ^ 61 ≤ q then 2 ^ n + log2Frac n (q / 2) else log2Frac n q

/-- 2^40 times the base-2 logarithm of a / b, for positive a and b. -/
def log2Ratio (a b : Nat) : Int :=
  let e : Int := (Nat.log2 a : Int) - Nat.log2 b
  let m := a * 2 ^ (60 + Nat.log2 b) / (b * 2 ^ Nat.log2 a)
  let (e, m) := if m < 2 ^ 60 then (e - 1, 2 * m) else (e, m)
  e * 2 ^ 40 + log2Frac 40 m

/-- 10 log10 2 in the decibel unit, times 2^20. -/
def dB2 : Int := 413732475677383

/-- 10 log10 (a / b) in the decibel unit, for positive a and b. -/
def ratioDb (a b : Nat) : Int := floorDiv (log2Ratio a b * dB2 + 2 ^ 59) (2 ^ 60)

/-- 2^(2^-i) times 2^60, for i = 1 to 32. -/
def exp2Roots : List Nat :=
  [1630477228166597777, 1371062456318104878, 1257269815929830109, 1203965700457697123,
    1178167198179750971, 1165475996665667822, 1159181754367685998, 1156047391917129430,
    1154483390303177194, 1153702183144312517, 1153311777820267002, 1153116624702523244,
    1153019060527275927, 1152970281535252809, 1152945892813103188, 1152933698645489088,
    1152927601610046619, 1152924553104416455, 1152923028854624131, 1152922266730483658,
    1152921885668602343, 1152921695137708916, 1152921599872274010, 1152921552239559509,
    1152921528423202997, 1152921516515024925, 1152921510560935935, 1152921507583891452,
    1152921506095369213, 1152921505351108094, 1152921504978977535, 1152921504792912256]

/-- 2^60 times 2^f, for f the fraction whose bits, from 1/2 down, are those of n bits of v. -/
def exp2Frac (roots : List Nat) (n v acc : Nat) : Nat :=
  match roots, n with
  | r :: rs, n + 1 => exp2Frac rs n (v % 2 ^ n) (if 2 ^ n ≤ v then acc * r / 2 ^ 60 else acc)
  | _, _ => acc

/-- The linear ratio of a level, scaled by 2^96 (10^(x / 10)). -/
def dbLinear (x : Int) : Nat :=
  let e := floorDiv (x * 2 ^ 52) dB2
  let i := floorDiv e (2 ^ 32)
  let f := (e - i * 2 ^ 32).toNat
  let m := exp2Frac exp2Roots 32 f (2 ^ 60)
  let s := i + 36
  if 0 ≤ s then m * 2 ^ s.toNat else m / 2 ^ (-s).toNat

/-- 10 log10 of a sum of linear ratios scaled by 2^96; none for an empty or vanishing sum. -/
def linearDb (l : List Nat) : Option Int :=
  let t := l.sum
  if t = 0 then none else some (ratioDb t (2 ^ 96))

/-- The power sum of levels. -/
def powerSum (l : List Int) : Option Int := linearDb (l.map dbLinear)

/-- The integer square root, by bits from the highest down. -/
def isqrtBits : Nat → Nat → Nat → Nat
  | 0, _, r => r
  | n + 1, x, r =>
    let t := r + 2 ^ n
    isqrtBits n x (if t * t ≤ x then t else r)

def isqrt (x : Nat) : Nat := isqrtBits (Nat.log2 x / 2 + 1) x 0

/-- The coherent sum of levels, (sum of sqrt(10^(l / 10)))^2, as a level (R346). -/
def coherentSum (l : List Int) : Option Int :=
  let t := (l.map fun x => isqrt (dbLinear x * 2 ^ 96)).sum
  if t = 0 then none else some (2 * ratioDb t (2 ^ 96))

/-- A number of strands as a level: 10 log10 n. -/
def countDb (n : Nat) : Int := if n = 0 then 0 else ratioDb n 1

end Sys2Proof.Machine
end

