-- ==== Sys2Proof/Config.lean ====
section
/-! DEFINITION. What an implementation fixes: the family members and their resources (Table SCP-1,
Table ARC-4), and the free values of the model. A free value is an opaque constant: nothing can evaluate
it, and a statement about it holds for every value. -/

namespace Sys2Proof

/-- The three members of the family (R1). -/
inductive Member where
  | qh5120
  | qh2560
  | qh1280
  deriving DecidableEq, Repr, Inhabited

namespace Config

/-- Hawsers fitted (Table SCP-1). -/
def hawsers : Member → Nat
  | .qh5120 => 8
  | .qh2560 => 4
  | .qh1280 => 2

/-- Strands fitted, 16 per hawser (Table SCP-1). -/
def strands (m : Member) : Nat := 16 * hawsers m

/-- Converter tiles fitted (Table SCP-1). -/
def tiles (m : Member) : Nat := 2 * hawsers m

/-- Yarns fitted (Table SCP-1). -/
def yarns (m : Member) : Nat := 16 * strands m

/-- Canceller instances fitted (Table SCP-1). -/
def cancellers (m : Member) : Nat := 64 * hawsers m

/-- Service beams per band group (Table SCP-1). -/
def serviceBeams (m : Member) : Nat := 8 * hawsers m

/-- Donor beams (Table SCP-1). -/
def donorBeams : Nat := 4

/-- Endpoint Book capacity (Table SCP-1). -/
def bookCapacity : Nat := 262144

/-- Hot endpoint records cached on one hawser (Table EPB-5); Table SCP-1 gives the member's sum. -/
def hotRecords : Nat := 2048

/-- Whether the remote thermal inputs are fitted (Table SCP-1). -/
def remoteThermal : Member → Bool
  | .qh5120 => true
  | _ => false

/-- The PCIe Device ID and BWL_ID.DEVICE (Table HST-1, Table REG-2). -/
def deviceId : Member → Nat
  | .qh5120 => 0x5120
  | .qh2560 => 0x2560
  | .qh1280 => 0x1280

/-- The Orozharad vendor identifier (Table REG-2). -/
def vendorId : Nat := 0x1F3D

/-- Sensor indices that the member has (Table THM-1): 12 per hawser, the Bowline's six, two per tile, and
the remote channels. -/
def sensorExists (m : Member) (i : Nat) : Bool :=
  if i < 96 then i / 12 < hawsers m
  else if i < 102 then true
  else if i < 134 then (i - 102) / 2 < tiles m
  else i < 150 && remoteThermal m

/-- Yarn credits per tick of the member (Table ARC-4). -/
def creditsPerTick (m : Member) : Nat := 4096 * hawsers m

/-- On-chip SRAM in MB (Table ARC-4): 16 on the Bowline and 6 per hawser. -/
def sramMb (m : Member) : Nat := 16 + 6 * hawsers m

/-- Device power at full work, W (Table ARC-5): tiles 12.5 each, hawsers 30 each, Bowline 28, DRAM 36,
I/O 16. -/
def fullWorkW (m : Member) : Nat := (125 * tiles m) / 10 + 30 * hawsers m + 28 + 36 + 16

/-- Maximum input power, W (Table ARC-4). -/
def maxInputW : Member → Nat
  | .qh5120 => 560
  | .qh2560 => 325
  | .qh1280 => 205

/-- Converter throughput in Gbit/s (Table ARC-4): channels x 12.5 GSa/s x 16 bit. -/
def throughputGbps (m : Member) : Nat := 2 * strands m * 200

/-- Hawser-to-Bowline and hawser-to-hawser Marline links (R21). -/
def marlineB (m : Member) : Nat := hawsers m
def marlineP (m : Member) : Nat := hawsers m * (hawsers m - 1) / 2

/-! ## Free values: what the manual says happens without giving the value -/

/-- The 16 bytes that the random number generator draws for LOG.NONCE (R480), as one number. -/
opaque freeNonce : Nat → BitVec 128

/-- The identity-key signature halves over a nonce block (R480): the private key is not in the manual. -/
opaque freeIdSigR : Nat → Nat → BitVec 256
opaque freeIdSigS : Nat → Nat → BitVec 256

/-- The first 8 bytes of the SHA-256 of the new identity public key (R478). -/
opaque freeIdentityDigest : Nat → BitVec 64

/-- The payload of an NMI snapshot record, opaque to the host (R475). -/
opaque freeNmiSnapshot : Nat → BitVec 384

/-- The 500 bytes of calibration data of a strand, opaque to the host (R483), as one number. -/
opaque freeCalData : Nat → Nat → BitVec 4000

/-- The ADC and the DAC reference trim that a tile temperature in 1/16 degree C asks for (R95): the calibrated
temperature coefficients are not in the manual. -/
opaque freeAdcTrim : Nat → Int → Int
opaque freeDacTrim : Nat → Int → Int

/-- The coefficients of the filters of the yarn chains (Table YRN-2), which the manual does not list: tap by tap those of
the response of an index (R124), those of a half-band stage, those of a branch of the resampler toward the converter rate
or from it, and those of the zone equaliser of a TX mode for a centre in kHz and a rate code (R77). -/
opaque freeResponse : (index tap : Nat) → Rat
opaque freeHalfBand : (stage : Nat) → List Rat
opaque freeResampler : (up : Bool) → (branch : Nat) → List Rat
opaque freeEqualiser : (mix : Bool) → (khz rho : Nat) → List Rat

/-- The VCO band threshold above band `v`, 1/16 degree C (R96): the thresholds are not in the manual. -/
opaque freeVcoThreshold : Nat → Int

/-- The rate code and doubled centre frequency of the yarn that a spliced module forms for a direction, band
group and position (R217): another module's state. -/
opaque freePeerYarn : Nat → Nat → Nat → Nat × Int

/-- The octant of the angle of a coefficient 0 in a bucket key (R304): the angle has no value. -/
opaque freeOctant : Nat

/-- The chain delay, ns, that MEAS.SUB returns for a tap that the committed plan does not hold: it has no
relay response to compute D_tap from (R342). -/
opaque freeGdelay : Nat → BitVec 32

/-- MEAN, PEAK, MIN and MEAN_IN of a record that carries no value (R341, NOVAL), and EPRE and EPRE_HI of a donor record
without a reference cell. -/
opaque freeNoval : Nat → BitVec 64

/-- Field B of the MYARN event of a stopped ARRAY.CAL yarn: Table HST-11 codes only subscriptions, captures and
snapshots (R143, R515). -/
opaque freeMyarnKind : Nat → BitVec 32

/-- The margins u_phys (`eff` false) and u_eff of a coupling estimate, 1/16 dB (R190, R193): the manual gives what they are
for and no formula. They lift the figure, and a shorter window lifts it no less: what the window's tick `k` takes off the
margin when it joins, and at k = 1,024 what remains of it. -/
opaque freeMargin : (eff : Bool) → (byid k : Nat) → Nat

/-- A level or isolation that has no value, in 1/16 dB: the logarithm of 0 (the mean of no power, the coupling of an empty
estimate), or the isolation of an entry where k_path is undefined. -/
opaque freeLevel : Nat → Int

/-- The power in 1/16 dBFS at which each tile of a spliced module sends its tracer of a direction, band group and position
in a tick: another module's state (R188, R220). -/
opaque freePeerTracer : Nat → Nat → Nat → Int

/-- Whether a tile of a spliced module transmits on the aggressor side of a direction, band group and position: another
module's state (R220). -/
opaque freePeerTile : (modId key tile : Nat) → Bool

/-- The fields of a Belay record for which Belay keeps no state: those of a beam yarn formed outside the modes in which it
computes gains (R226, R259). -/
opaque freeBelRecord : (byid : Nat) → BitVec 256

/-- The gain k_rx of a donor beam, 1/16 dB, without front-end tables of its strands (R346). -/
opaque freeBeamGain : (beam : Nat) → Int

/-- The power of an output that a chain delivers before the first sample of its yarn, by yarn and sample (R343): the manual
counts such outputs and gives them no value. -/
opaque freeOutput : (yarn k : Nat) → Nat

/-- A byte of a held buffer outside the kept samples, where R454 does not give it as zero: by buffer, the tick it was armed
in and offset. -/
opaque freeSample : (buffer tick offset : Nat) → Byte

end Config
end Sys2Proof
end

