-- ==== Sys2Proof/Machine/State.lean ====
section
/-! DEFINITION. The state of the block as plain data: the queue of waiting commands, the identity of the
module, the setup registers, time, mode, the nonvolatile stores, the rings, and the volatile device state
grouped by the unit that owns it. State.reset is the module as reset is released. -/

namespace Sys2Proof.Machine

/-- Why the machine stops with a fault. No meaning of this model raises one: every command of the table
has an effect (or leaves the state as it is where its condition does not hold). -/
inductive Fault where
  /-- Never raised by a meaning. Safe: kept so that the type is closed and non-empty. -/
  | halted
  deriving DecidableEq, Repr, Inhabited

/-- Why the machine gives no meaning to a command. -/
inductive Refusal where
  /-- Raised by no arm of the finished model: a command whose meaning is not written yet. Safe. -/
  | notModelled (mnemonic : String)
  deriving DecidableEq, Repr, Inhabited

/-! ## Samples -/

/-- A complex number with exact components: a sample, a coefficient or a correlation. -/
structure Cx where
  re : Rat
  im : Rat
  deriving DecidableEq, Repr, Inhabited

/-- A sample of a yarn, in words of full scale 32,768, with its UNS bit (R120). -/
structure Smp where
  z : Cx
  uns : Bool
  deriving DecidableEq, Repr, Inhabited

/-- Where samples are kept: the words of a strand's RX converter, the RX form output of a yarn (T3 and TM), a beam yarn after stage 5 (T5) and after stage 6,
the reference stream of a loop (Table CAN-1) under the identifier of its direction, band group and position, a stream
imported from a module, the tracer of a stream's tile with its lrn bit (R186), and a TX form input (R185). -/
inductive Tap where
  | rx (g : Nat)
  | yarn (id : Nat)
  | stage5 (byid : Nat)
  | stage6 (byid : Nat)
  | ref (key : Nat)
  | peer (modId key : Nat)
  | tracer (lrn key tile : Nat)
  | tx (id : Nat)
  deriving DecidableEq, Repr, Inhabited

/-- The last samples of a point, newest first; `next` is the grid index after the newest (R86). -/
structure Tape where
  tap : Tap
  next : Nat
  data : List Smp
  deriving DecidableEq, Repr, Inhabited

/-- The three windows of a tick (R16). -/
inductive Window where
  | plan
  | run
  | close
  deriving DecidableEq, Repr, Inhabited

/-- The twelve major modes (Table ARC-7). -/
inductive Mode where
  | reset
  | boot
  | hank
  | survey
  | standby
  | relayOpen
  | relaySteered
  | relayNetwork
  | muted
  | coil
  | maintenance
  | latched
  deriving DecidableEq, Repr, Inhabited

/-- The lifecycle states (Table STP-10). -/
inductive Life where
  | blank
  | provisioned
  | deployed
  | service
  | retired
  deriving DecidableEq, Repr, Inhabited

/-- The Painter states (Table TCK-5). -/
inductive PtrState where
  | freerun
  | search
  | lockedDonor
  | lockedPps
  | holdover
  | slave
  deriving DecidableEq, Repr, Inhabited

/-- What is fixed in the module or sampled at power-good (R530, R544, R552). -/
structure Ident where
  member  : Member
  serial  : Nat
  stepMaj : Nat
  stepMin : Nat
  modId   : Nat
  testN   : Bool
  ilim    : Nat
  deriving DecidableEq, Repr, Inhabited

/-- The host-writable registers of BAR0 as raw words (R526), and the index-block address in force (R525). -/
structure Setup where
  ptrCfg  : Word
  lydCfg  : Word
  canCfg  : Word
  belCfg  : Word
  belCfg2 : Word
  prtCfg  : Word
  epbCfg  : Word
  epbCfg2 : Word
  epbCfg3 : Word
  lock    : Word
  ringLo  : List Word
  ringHi  : List Word
  ringCfg : List Word
  idxLo   : Word
  idxHi   : Word
  idxBase : Nat
  hstCfg  : Word
  stopCfg : Word
  stopReact : List Word
  thmCfg  : Word
  remCfg  : List Word
  remPar  : List Word
  reefCfg : Word
  thmStep : List Word
  dlyArray : List Word
  deriving DecidableEq, Repr, Inhabited

/-- The tick grid and its counters (R36, R44), the shadows of R46 and R296, and the converter-period
counts behind R86 and R123. `sub` is the offset from T0 in units of 10 ns. -/
structure TimeSt where
  n       : Nat
  tif     : Nat
  sfn     : Nat
  hfc     : Nat
  running : Bool
  window  : Window
  sub     : Nat
  shTif   : Nat
  shSfn   : Nat
  shHfc   : Nat
  shUtcHi : Nat
  periods : Nat
  conv    : Nat
  syncConv : Nat
  deriving DecidableEq, Repr, Inhabited

/-- The mode in force, the return mode of MUTED, the prior mode of COIL and a running wake (R433). -/
structure ModeSt where
  mode   : Mode
  ret    : Option Mode
  prior  : Option Mode
  waking : Bool
  deriving DecidableEq, Repr, Inhabited

/-- One Logline record (Table STP-6); its LEN is 16 plus the length of the payload. -/
structure LogRec where
  seq    : Nat
  typ    : Nat
  optime : Nat
  pcc    : Nat
  payload : Bytes
  deriving DecidableEq, Repr, Inhabited

/-- The run count of one plan (R274), in ticks; `stamp` orders the plans by their last commit. -/
structure RunCount where
  slot : Nat
  id : Nat
  seq : Nat
  ticks : Nat
  stamp : Nat
  deriving DecidableEq, Repr, Inhabited

/-- One calibration-store entry (R483); `gen` names the opaque data written by that calibration. -/
structure CalEntry where
  valid : Bool
  temp : Int
  gen : Nat
  deriving DecidableEq, Repr, Inhabited

/-- The 8 MB MRAM (Table STP-5): key store, control area, pinned region, general ring and calibration
store. `ringPos` is where the general ring is written next; `lifeFrom` is the pending flag of a lifecycle
change with the state it leaves. -/
structure NvSt where
  life      : Life
  lifeFrom  : Option Life
  keys      : List (Option Bytes)
  group     : Nat
  timeFloor : Nat
  seqFloors : List Nat
  runCounts : List RunCount
  idGen     : Nat
  pinned    : List LogRec
  ring      : List LogRec
  ringPos   : Nat
  seq       : Nat
  pcc       : Nat
  optime    : Nat
  calStore  : List CalEntry
  deriving DecidableEq, Repr, Inhabited

/-- One host ring (R495): free-running indices, the drop count, the entries between them and the records
written since the last interrupt (R517). -/
structure Ring where
  p : Nat
  c : Nat
  drop : Nat
  since : Nat
  entries : List (Nat × Bytes)
  deriving DecidableEq, Repr, Inhabited

/-- A donor cell (R51, R330). `run` is the length of the run of hits of R50, `base` the timing of its first
hit, `decodes` the offsets to the grid's SFN of the frame numbers decoded in the run; `strong` counts the
ticks of rule 3 of R52, and `src` is the spliced module that reports the cell (R64). `khz` is the frequency at which the
cell is received and `hits` the last 16 hits on each donor beam, newest first, as (beam, power, tick) (R346). -/
structure Cand where
  khz : Nat
  hits : List (Nat × Int × Nat)
  src : Option Nat
  idx : Nat
  rat : Nat
  pci : Nat
  beam : Nat
  sfnOffs : Nat
  timing : Int
  power : Int
  run : Nat
  base : Int
  decodes : List Nat
  missed : Nat
  missTicks : Nat
  strong : Nat
  firstBhf : Nat
  lastBhf : Nat
  lastTih : Nat
  deriving DecidableEq, Repr, Inhabited

/-- Painter (R47 to R62). `tracks` are the cells with a run of hits that the candidate list does not hold,
`frac` is the fraction of a converter period that R53 carries from tick to tick, in units of 10^-9, `donors`
the donor-side strands of the plan when donor yarns last ran, and `reload` says that SFN and TIF await R45,
`ppsNext` that the next T0 is one that PPS_IN defines (R62); `step` is a step of R55 that arose in a Close window and
lengthens the next tick. -/
structure Painter where
  st : PtrState
  sync : Bool
  misses : Nat
  cands : List Cand
  tracks : List Cand
  donors : List Nat
  donor : Option (Nat × Nat)
  phaseErr : Int
  freq : Int
  ppsValid : Bool
  ppsRun : Nat
  frac : Int
  searchTicks : Nat
  reload : Bool
  tdd : List (Nat × Nat)
  tickOut : Nat
  ppsOut : Bool
  ppsNext : Bool
  step : Nat
  deriving DecidableEq, Repr, Inhabited

/-- One strand's converter and delay state (R72, R82 to R85, R93, R137). -/
structure Strand where
  rxAlign : Nat
  txAlign : Nat
  array : Nat
  rxOk : Bool
  txOk : Bool
  seeded : Bool
  failed : Bool
  dlySat : Bool
  txMix : Bool
  ovr : Nat
  txClip : Nat
  deriving DecidableEq, Repr, Inhabited

/-- A running CAL.RUN (R511), with the strands calibrated and failed so far. -/
structure CalRunSt where
  hdr : CmdHdr
  first : Nat
  count : Nat
  good : Nat
  failed : Nat
  deriving DecidableEq, Repr, Inhabited

/-- A test signal on one strand (R415): `on` from the Plan window of its start, `ended` from its stop. -/
structure TxTest where
  g : Nat
  y : Nat
  a : TxTestArgs
  start : Nat
  stop : Nat
  on : Bool
  ended : Bool
  deriving DecidableEq, Repr, Inhabited

/-- Converters, clocks and calibration (R71 to R96). `adcTrims` and `dacTrims` are the reference trims of each tile (R95), `power` tells of each converter tile whether it draws
converter power (R90), and `uns` holds the last UNS run of each yarn as (yarn ID, length, grid index of its first
sample) (R133). -/
structure Conv where
  power : List Bool
  refOk : Bool
  locked : Bool
  vcoTc : Nat
  syncIgn : Nat
  lastSync : Nat
  syncPend : Option Nat
  wave : Nat
  calSyncDue : Bool
  strands : List Strand
  adcTrims : List Int
  dacTrims : List Int
  calRun : Option CalRunSt
  tests : List TxTest
  uns : List (Nat × Nat × Nat)
  deriving DecidableEq, Repr, Inhabited

/-- One point of a front-end path (Table CNV-8). -/
structure FePoint where
  freq : Nat
  rxg : List Int
  txg : List Int
  deriving DecidableEq, Repr, Inhabited

/-- One path of a front-end calibration table (Table CNV-8). -/
structure FePath where
  fLo : Nat
  fHi : Nat
  dir : Nat
  paOff : Nat
  swSettle : Nat
  lnaSettle : Nat
  paOn : Nat
  rxLat : Nat
  txLat : Nat
  pts : List FePoint
  deriving DecidableEq, Repr, Inhabited

/-- The front-end table of one node (R113). -/
structure FeNode where
  g : Nat
  paths : List FePath
  deriving DecidableEq, Repr, Inhabited

/-- A timed operation on its way to a node: the LYD_CLK rising edge at which it executes and the masks of PAs
enabled, of T/R switches in transmit and of LNAs enabled that were commanded before it (R103, R107). -/
structure NodeCmd where
  edge : Int
  pa : Nat
  tr : Nat
  lna : Nat
  deriving DecidableEq, Repr, Inhabited

/-- What the module commanded a node to, as masks of its paths: PAs enabled, T/R switches in transmit, LNAs
enabled (R105, R111), with the timed operations that led there; `gains` the gain states that it has commanded, by
4 x operation + path (R104); and how it supervises the node (R107, R108). -/
structure Node where
  pa : Nat
  tr : Nat
  lna : Nat
  gains : List (Nat × Nat)
  cmds : List NodeCmd
  present : Bool
  joining : Bool
  miss : Nat
  good : Nat
  deriving DecidableEq, Repr, Inhabited

/-- A frame that waits for a slot of its port (R99): its word, and for a timed operation the LYD_CLK rising edge,
counted from the start of the clock, at which it executes (R103). The EXEC field of a timed frame is filled in as
the frame is sent. -/
structure QFrame where
  port : Nat
  word : Nat
  edge : Option Int
  deriving DecidableEq, Repr, Inhabited

/-- One step of Table CNV-7: operation, operand and execute instant in ps from T0 (R111). -/
structure SwitchStep where
  op : Nat
  data : Nat
  ps : Int
  deriving DecidableEq, Repr, Inhabited

/-- The Lanyard bus (R97 to R112): the clock, the converter period at which it started (R99), the queued frames,
the last frame sent on each port and the slot from which the port is free again, the steps of the last TDD
boundary, nodes and the front-end tables. -/
structure Lanyard where
  clk : Bool
  clkAt : Nat
  discovered : Bool
  lateSw : Nat
  crcErr : Nat
  nodes : List Node
  queue : List QFrame
  last : List Nat
  nextSlot : List Nat
  steps : List SwitchStep
  fe : List FeNode
  deriving DecidableEq, Repr, Inhabited

/-- A TDD pattern (Table PRT-2, R269). -/
structure Pattern where
  scs : Nat
  offs : Nat
  p1 : Nat
  d1 : Nat
  ds1 : Nat
  u1 : Nat
  us1 : Nat
  p2 : Nat
  d2 : Nat
  ds2 : Nat
  u2 : Nat
  us2 : Nat
  deriving DecidableEq, Repr, Inhabited

/-- A band plan segment (Table PRT-2). -/
structure Seg where
  fLo : Nat
  fHi : Nat
  duplex : Nat
  dir : Nat
  bg : Nat
  prio : Nat
  yrate : Nat
  yresp : Nat
  ycount : Nat
  flags : Nat
  gReg : Nat
  nrise : Nat
  ulOffs : Int
  ssEpre : Nat
  rat : Nat
  ulScs : Nat
  pat : Pattern
  deriving DecidableEq, Repr, Inhabited

/-- A band plan (Table PRT-1). `sides` holds the SIDE_MAP code of each strand. -/
structure Plan where
  slot : Nat
  id : Nat
  seq : Nat
  scope : Nat
  target : Nat
  signedAt : Nat
  notBefore : Nat
  expiry : Nat
  maxRun : Nat
  sides : List Nat
  segs : List Seg
  deriving DecidableEq, Repr, Inhabited

/-- A plan accepted and waiting to commit (R272). -/
structure PendPlan where
  plan : Plan
  tick : Nat
  deriving DecidableEq, Repr, Inhabited

/-- The committed plan, its validity, the plan pending, the events of R274 already posted, and the patterns
of its segments that R40 holds back until the next frame. -/
structure PlanSt where
  committed : Option Plan
  valid : Bool
  pending : Option PendPlan
  posted7 : Bool
  posted24 : Bool
  nextPats : Option (List Pattern)
  deriving DecidableEq, Repr, Inhabited

/-- The device clock (R265, R266). -/
structure ClockSt where
  utc : Option Nat
  ticks : Nat
  sinceFloor : Nat
  deriving DecidableEq, Repr, Inhabited

/-- One mute (R276 to R278): trigger code, level, scope, the tick of its instant and the offset in 10 ns, ticks held, the run of its
release rule and, where the release is a fixed tick, that tick. -/
structure Mute where
  trig : Nat
  level : Nat
  scope : Nat
  start : Nat
  sub : Nat
  held : Nat
  good : Nat
  release : Option Nat
  unit : Nat
  deriving DecidableEq, Repr, Inhabited

/-- The trip history of a loop (R279): scope, consecutive trips and the tick of the last release. -/
structure OscTrip where
  scope : Nat
  k : Nat
  released : Nat
  deriving DecidableEq, Repr, Inhabited

/-- A stored network indication (R286 to R288). -/
structure NetInd where
  kind : Nat
  bg : Nat
  k : Nat
  on : Nat
  first : Nat
  len : Nat
  order : Nat
  deriving DecidableEq, Repr, Inhabited

/-- A trigger that fired and waits for the Plan window that applies it (R277). -/
structure PendTrig where
  trig : Nat
  level : Nat
  scope : Nat
  deriving DecidableEq, Repr, Inhabited

/-- Network protection and muting (R263 to R296). -/
structure Protect where
  mutes : List Mute
  due : List PendTrig
  trips : List OscTrip
  noSync : Nat
  declared : Option Nat
  muteNLow : Bool
  muteNHigh : Nat
  muteNClean : Bool
  ni : List NetInd
  niNext : Nat
  niLate : Nat
  niBad : Nat
  devMute : Nat
  restart : List Nat
  deriving DecidableEq, Repr, Inhabited

/-- Beam counts and donor binding of a band group (R157). -/
structure Group where
  sbeams : Nat
  fixed : Nat
  donor : Nat
  deriving DecidableEq, Repr, Inhabited

/-- A stored weight vector as (strand, weight word) pairs of its nonzero weights, rising (R150, R151). -/
abbrev Vec := List (Nat × Nat)

/-- A beam set by the host (R157): `bg` is 8 for a donor beam. -/
structure BeamVec where
  bg : Nat
  idx : Nat
  rx : Vec
  tx : Option Vec
  deriving DecidableEq, Repr, Inhabited

/-- The stored coefficients of an entry for a position (R204): the lag of the first and their values. -/
structure EntryTaps where
  pos : Nat
  lag : Nat
  w : List Cx
  deriving DecidableEq, Repr, Inhabited

/-- The isolation record of a codebook entry (Table CAN-5), with the stored coefficients of both directions. -/
structure EntryRec where
  ul : List EntryTaps
  dl : List EntryTaps
  valid : Bool
  ltaps : Nat
  ulPhys : Int
  ulEff : Int
  dlPhys : Int
  dlEff : Int
  hfc : Nat
  tih : Nat
  tick : Nat
  deriving DecidableEq, Repr, Inhabited

/-- A codebook entry (R158): its RX vector and its isolation record. -/
structure CodeEnt where
  bg : Nat
  e : Nat
  rx : Vec
  iso : Option EntryRec
  deriving DecidableEq, Repr, Inhabited

/-- A claimed steering slot (R167 to R170): `t0` is the tick and `at10` the offset in 10 ns of the earliest
switch instant; `on` once the switch was made; `gains` the gain of each position and `vec` the endpoint's
vector, both as the switch took them (R155, R169). `onTick` and `on10` are the onset of the burst, which orders the
claims of one cycle (R167); `shut` is the offset from T0 in 10 ns at which its end was detected, once `closed`. -/
structure Slot where
  onTick : Nat
  on10 : Nat
  vec : Vec
  bg : Nat
  idx : Nat
  eid : Nat
  pos : Nat
  entry : Nat
  offset : Int
  on : Bool
  closed : Bool
  shut : Nat
  t0 : Nat
  at10 : Nat
  gains : List (Nat × Int)
  deriving DecidableEq, Repr, Inhabited

/-- A running ARRAY.CAL (R162): the strands that it measures, the tick from which its yarns run, and the ticks
integrated. -/
structure ArrayCalSt where
  gs : List Nat
  start : Nat
  done : Nat
  hdr : CmdHdr
  a : ArrayCalArgs
  addr : Nat
  deriving DecidableEq, Repr, Inhabited

/-- The Lay fabric (R146 to R175). -/
structure Beams where
  groups : List Group
  vecs : List BeamVec
  code : List CodeEnt
  ncr : List (Nat × Nat × Nat)
  slots : List Slot
  arrayCal : Option ArrayCalSt
  netBeam : List (Nat × Nat)
  defStrand : List (Nat × Nat)
  deriving DecidableEq, Repr, Inhabited

/-- The coefficients of an instance: for each used reference, one per tap of the binding (R182). -/
abbrev Coefs := List (List Cx)

/-- A bound canceller instance (R179 to R184). `active` is L_a, `coefs` the coefficients in use and `next` those that the
next Plan window applies, `accA` the accumulated correlations between references and `accB` those with each converter
tile's sub-sum (R194), `mark` the grid index of the next victim sample to accumulate, `aside` what R208 keeps aside,
`cut` whether L does not fit the victim's rate and `rho` the last rate code that a plan gave it; `bulkSet` says that B has been set since the last restart (R183). -/
structure Inst where
  a : CancArgs
  active : Nat
  bulk : Nat
  bulkSet : Bool
  coefs : Coefs
  next : Option Coefs
  accA : List (List Cx)
  accB : List (Nat × List Cx)
  mark : Nat
  aside : Option Coefs
  cut : Bool
  rho : Nat
  deriving DecidableEq, Repr, Inhabited

/-- What one tick adds to the coupling estimate of a source tile (R189): the source, the tile, the tracer's energy and
the correlation with it at each lag from 0 up. The sources are 1 for the victim's own position, 2 and 3 for the positions
below and above it, and 4 + m for module m. -/
structure TileEst where
  src : Nat
  tile : Nat
  energy : Rat
  corr : List Cx
  deriving DecidableEq, Repr, Inhabited

/-- The isolation estimate of one victim beam yarn (R189 to R193, R174, R201). `hist` is the tracer window, newest tick
first, `mark` the grid index of the next sample to correlate, `bulk` the lag of the estimate's largest tap, `oscLag` the
lag at which the oscillation detector correlates (R210), `floors` the fresh noise floors of the last 64 ticks of loop
activity (Table LDL-6), `tileIso` the isolation of a solution prepared for tiles that the draft removes (R202), and `lastPhys`
the physical isolation when it was last known (R253). -/
structure Loop where
  byid : Nat
  win : Nat
  hist : List (List TileEst)
  mark : Nat
  iPhys : Option Int
  iEff : Option Int
  lastPhys : Option Int
  coup : Nat
  coupHold : Nat
  thin : Option Int
  thinLeft : Nat
  preds : List Int
  tileIso : Option Int
  bulk : Nat
  oscLag : Nat
  floors : List (Option Int)
  deriving DecidableEq, Repr, Inhabited

/-- What the learning of an entry has accumulated for a position and direction, by source tile (R204), as for a loop. -/
structure LearnEst where
  pos : Nat
  dir : Nat
  mark : Nat
  tiles : List TileEst
  deriving DecidableEq, Repr, Inhabited

/-- A running ENTRY.LEARN (`host`) or the relearning of R205: the entry it is at, the entries learned and the
ticks of loop activity spent on the present one, with the coupling estimates so far. -/
structure LearnSt where
  ests : List LearnEst
  host : Bool
  hdr : CmdHdr
  a : LearnArgs
  at_ : Nat
  done : Nat
  ticks : Nat
  deriving DecidableEq, Repr, Inhabited

/-- A stream imported from a spliced module (R217 to R221): whether it is lost, the whole ticks of good frames since, and
whether a frame of the present tick was bad. -/
structure Import where
  modId : Nat
  key : Nat
  lost : Bool
  good : Nat
  bad : Bool
  deriving DecidableEq, Repr, Inhabited

/-- The cancellers, the tracer and neighbour search (R176 to R224). `prevLoops` are the isolation estimates as the last
Close found them, which an overrun of that Close restores (Table TCK-2); `power` is the tracer power of each loop as the
last Plan window set it, in 1/16 dBFS under the identifier of its stream (R188), and `epochConv` the converter period at
which the running epoch began (R187). -/
structure Cancel where
  power : List (Nat × Int)
  prevLoops : List Loop
  insts : List Inst
  loops : List Loop
  learn : Option LearnSt
  learnTicks : Nat
  watch : List Nat
  scanAll : Bool
  scanNext : Nat
  epochConv : Nat
  epochs : Nat
  imports : List Import
  deriving DecidableEq, Repr, Inhabited

/-- Settings of one band group and direction (R257). -/
structure GainSet where
  pmax : Nat
  vlim : Nat
  alim : Nat
  jlim : Nat
  lna : Nat
  pag : Nat
  deriving DecidableEq, Repr, Inhabited

/-- The feedback state of a beam yarn (Table BEL-4, R252, R254). -/
inductive FbState where
  | fresh
  | missed
  | hold
  | decay
  deriving DecidableEq, Repr, Inhabited

/-- How a beam yarn's feedback stands (R251 to R255): ticks in freeze-hold, fresh Closes in a row toward the
return, the tick of the last return, the runs of bit-identical figures with the values they repeat, the values that
froze, whether the 20 ticks of freeze-hold have passed, and whether no fresh update has come since the start. -/
structure Feedback where
  st : FbState
  hold : Nat
  good : Nat
  back : Option Nat
  same5 : Nat
  samePout : Nat
  last5 : Option Int
  lastPout : Option Int
  frozen5 : Option Int
  frozenPout : Option Int
  decayDue : Bool
  unfed : Bool
  deriving DecidableEq, Repr, Inhabited

/-- The gain-schedule state of a beam yarn (R240 to R243): the coefficients and the bank in use, the fade
start, the target's coefficients as last seen, the fade target and its step, and the two bands. -/
structure Sched where
  kp : Nat
  ki : Nat
  bank : Nat
  kp0 : Nat
  ki0 : Nat
  kpT : Nat
  kiT : Nat
  target : Nat
  j : Nat
  fading : Bool
  isoBand : Nat
  loadBand : Nat
  deriving DecidableEq, Repr, Inhabited

/-- Belay's state of one beam yarn or slot ceiling (R225, Table BEL-6). Gains and levels are in the dB unit
of Machine/Decibel.lean. `init` asks for the initial state of R255; `code`, `kpath` and `appl` are the gain
of this tick where `hasGain`, the `next` fields that of the next; `outR` and `low` say whether no gain is
given under R231, or because p lies below g_lo; `fall` is the gain that Decay has come down to (R253); `need` is g_need of R372 at the last Close; `rec_` is the record of the last
Plan window. -/
structure BelYarn where
  byid : Nat
  init : Bool
  p : Int
  v : Int
  a : Int
  dirUp : Option Bool
  integ : Int
  sch : Sched
  fb : Feedback
  hasGain : Bool
  code : Int
  kpath : Int
  appl : Int
  nextGain : Bool
  nextCode : Int
  nextKpath : Int
  outR : Bool
  low : Bool
  fall : Option Int
  limit : Nat
  iso : Option Int
  x : Int
  need : Int
  rec_ : Bytes
  deriving DecidableEq, Repr, Inhabited

/-- The built-in figures of a beam yarn (Table LDL-6), levels in 1/16 dBFS; `kind` is 0 for a fresh L5, 1 for CARRY
and 2 for no value (R341). N_v and N_in stand as last measured. -/
structure YarnFig where
  byid : Nat
  kind : Nat
  l5 : Int
  nv : Option Int
  nIn : Option Int
  deriving DecidableEq, Repr, Inhabited

/-- What a Close found of a beam yarn or slot ceiling besides its state, which counts once the Close's deadline has passed
(R41, R232, R244, R261, R262): the no-gain conditions of R232 as trigger codes, whether R231 or a low p gave no gain and
raises its source, freezes and fades begun, the saturations, and for each of the triggers 2 to 5 that it has a figure of,
whether that meets the release rule (R277, Table PRT-5). -/
structure CloseNote where
  byid : Nat
  causes : List Nat
  range : Bool
  raises : Bool
  froze : Bool
  faded : Bool
  satInt : Bool
  satOut : Bool
  satArith : Bool
  meets : List (Nat × Bool)
  deriving DecidableEq, Repr, Inhabited

/-- The donor figures of an uplink segment (R284, R346): the reference cell, its beam, EPRE and EPRE_HI in 1/16 dBm,
the occasions in the estimate and the tick of the last. -/
structure DonorFig where
  seg : Nat
  cand : Nat
  beam : Nat
  epre : Int
  epreHi : Int
  occ : Nat
  tick : Nat
  deriving DecidableEq, Repr, Inhabited

/-- Belay and Payout (R225 to R262). `targets` names beams by their identifier at position 0, `last` keeps the
last figures delivered per beam yarn, `pathLoss` the last PL_d per band group with its tick; `prev` and `prevLast` are
the beam yarns and figures as the last Close found them, which an overrun of that Close restores (Table TCK-2);
`closed` what that Close found, `levels` P_out and L_max of each band group and direction as last delivered, and `others`
the records of formed beam yarns that have no entry in `yarns` (R259). -/
structure Belay where
  prev : List BelYarn
  prevLast : List YarnFig
  closed : List CloseNote
  levels : List (Option (Int × Int))
  others : List (Nat × Bytes)
  sets : List GainSet
  targets : List (Nat × Nat)
  kp : List Nat
  ki : List Nat
  xfade : Nat
  yarns : List BelYarn
  last : List YarnFig
  pathLoss : List (Nat × Int × Nat)
  deriving DecidableEq, Repr, Inhabited

/-- An endpoint record (Table EPB-4). -/
structure Rec where
  eid : Nat
  state : Nat
  flags : Nat
  key : Nat
  bg : Nat
  seg : Nat
  pos : Nat
  consist : Nat
  widx : Nat
  offset : Int
  firstBhf : Nat
  firstTih : Nat
  lastTih : Nat
  lastBhf : Nat
  sightings : Nat
  consBhf : Nat
  lastRho : Nat
  lowRho : Nat
  lastPwr : Int
  relearn : Nat
  coll : Nat
  sig : List (Int × Int)
  acc : List (Int × Int)
  deriving DecidableEq, Repr, Inhabited

/-- The signature of a burst (R302 to R304): the quantised coefficients of e_1 and e_2, the quality, lambda_2 over
sigma^2 and lambda_1 over lambda_2, in 1/16 dB, and the burst's power at the system input in 1/16 dBm. -/
structure BurstSig where
  power : Int
  sig : List (Int × Int)
  sig2 : List (Int × Int)
  quality : Int
  lambda2 : Int
  spread : Int
  deriving DecidableEq, Repr, Inhabited

/-- When a burst was open, as ticks with offsets from T0 in 10 ns (R340). -/
structure BurstSpan where
  bg : Nat
  pos : Nat
  onTick : Nat
  on10 : Nat
  endTick : Nat
  end10 : Nat
  deriving DecidableEq, Repr, Inhabited

/-- An open burst, or one whose match still runs (R300 to R308). `done` says that its match has ended. -/
structure Burst where
  bg : Nat
  pos : Nat
  onTick : Nat
  on10 : Nat
  onBhf : Nat
  onTih : Nat
  isOpen : Bool
  done : Bool
  sig : Option BurstSig
  deriving DecidableEq, Repr, Inhabited

/-- A change that the matcher leaves for the next Plan window (R311, R313, R314): an enrolment, a new
signature whose key moves the record, a merge of two records. -/
inductive BookPend where
  | enrol (eid : Nat)
  | move (eid : Nat) (sig : List (Int × Int))
  | merge (a b : Nat)
  deriving DecidableEq, Repr, Inhabited

/-- A BOOK.LOAD that awaits its commit (R324). -/
structure BookLoadSt where
  hdr : CmdHdr
  recs : List Rec
  skipped : Nat
  exportBhf : Nat
  exportUtc : Nat
  deadline : Nat
  deriving DecidableEq, Repr, Inhabited

/-- A neighbour entry (Table EPB-12). -/
structure Nbr where
  idx : Nat
  tracer : Nat
  tile : Nat
  present : Bool
  loc : Nat
  rho : Nat
  lag : Int
  pwr : Int
  lastTih : Nat
  firstBhf : Nat
  lastBhf : Nat
  sight : Nat
  epoch : Nat
  deriving DecidableEq, Repr, Inhabited

/-- The Endpoint Book (R297 to R334). `cache` holds the cached records, oldest use first, with whether they
await a write-back; `aged` the records that the scan of this Close frees; `refused` the creations refused
since the last FULL report; `spans` are the bursts that ended in this tick and the one before. -/
structure Book where
  spans : List BurstSpan
  bases : List (Nat × Nat × List Vec)
  recs : List Rec
  bursts : List Burst
  cache : List (Nat × Bool)
  bhf : Nat
  scan : Nat
  pend : List BookPend
  load : Option BookLoadSt
  nbrs : List Nbr
  nbrDrop : Nat
  refused : Nat
  aged : List Nat
  deriving DecidableEq, Repr, Inhabited

/-- A measurement yarn (R117, R143): `owner` is 1 subscription, 2 capture, 3 snapshot, 4 ARRAY.CAL,
5 TX.TEST and `tag` its number. It is admitted with its slot and credits as its command is accepted, `live` from
the Plan window of tick `start`, which commits it to the yarn set, and `ended` until the Plan window that takes it out (R38). -/
structure MYarn where
  live : Bool
  ended : Bool
  start : Nat
  g : Nat
  y : Nat
  centreKhz : Nat
  rho : Nat
  mresp : Nat
  owner : Nat
  tag : Nat
  deriving DecidableEq, Repr, Inhabited

/-- One tick integration of a chain (R341): the case (0 fresh, 1 CARRY, 2 NOVAL), the sum, the largest and the smallest
of the included outputs as powers of yarn words, their count, the outputs left out as UNS, and the contact time admitted
in ns. -/
structure ChainFig where
  kind : Nat
  sum : Rat
  peak : Rat
  min : Rat
  incl : Nat
  unsx : Nat
  gateNs : Nat
  deriving DecidableEq, Repr, Inhabited

/-- A subscription (R348) with the merge of R349: the ticks merged, those that gave CARRY, and the merged figures of the
fresh ones; `last` is the last merge with a value, `from_` the converter period at which the chain's settings took effect and
`ranked` says that they changed N or k then (R343); `old` are the settings at the same tap that they replaced, with theirs. -/
structure Sub where
  a : MeasArgs
  old : Option (MeasArgs × Nat × Bool)
  idle : Bool
  from_ : Nat
  ranked : Bool
  cnt : Nat
  carry : Nat
  acc : ChainFig
  last : Option ChainFig
  deriving DecidableEq, Repr, Inhabited

/-- A spectrum snapshot (R351); `shed` is the STATUS of its record, and 3 once that was posted; `words` are the settled
samples taken so far, newest first, and `mark` the grid index of the next. `key` tells running snapshots of one TAG apart:
TAG plus a multiple of 65,536. -/
structure Snap where
  key : Nat
  mark : Nat
  words : List Cx
  a : SnapArgs
  addr : Nat
  shed : Nat
  deriving DecidableEq, Repr, Inhabited

/-- One kept sample of a capture source: its contact time as a tick and an offset from its T0, in units of 1/3,072
converter period, and its bytes as one number. -/
structure CapWord where
  tick : Nat
  off : Int
  word : Nat
  deriving DecidableEq, Repr, Inhabited

/-- One capture buffer (R353 to R357). `state` is the code of Table LDL-10. `rings` are the sub-rings, newest sample
first, `marks` the contact times that the next sample of each has or follows, as in a sample, and `rhos` the rate codes of
the sources as they were armed; `data` are the rotated sub-rings. `wrote` counts the words stored in each sub-ring since
the buffer was armed, and `clean` is set where nothing was stored in its pages before that since the wipe (R454). -/
structure Cap where
  wrote : List Nat
  clean : Bool
  rings : List (List CapWord)
  marks : List (Nat × Int)
  rhos : List Nat
  state : Nat
  a : CapArgs
  srcs : List Bytes
  rate : Nat
  subRing : Nat
  cause : Nat
  muteTrig : Nat
  preShort : Bool
  gap : Bool
  trigTick : Nat
  trigSub : Nat
  startTick : Nat
  startSub : Nat
  endTick : Nat
  endSub : Nat
  armTick : Nat
  armSub : Nat
  recDue : Bool
  data : List Bytes
  deriving DecidableEq, Repr, Inhabited

/-- Leadline and capture (R335 to R358). `noise` is the last N_s of each band group and position, in 1/16 dBFS (R300);
`prevNoise` and `prevSubs` are the noise and the subscriptions as the last Close found them (R347), and `stopped` the tick
and offset in 10 ns at which LATCHED stopped the sampling (R336). -/
structure Leadline where
  noise : List (Nat × Nat × Int)
  prevNoise : List (Nat × Nat × Int)
  stopped : Option (Nat × Nat)
  subs : List Sub
  prevSubs : List Sub
  myarns : List MYarn
  snaps : List Snap
  caps : List Cap
  noval : Nat
  snapShed : Nat
  gapCnt : Nat
  trigCnt : Nat
  deriving DecidableEq, Repr, Inhabited

/-- One item of Table REF-5 that is shed: step, kind and number; `since` is the tick it was shed in. -/
structure Shed where
  step : Nat
  kind : Nat
  num : Nat
  hawser : Nat
  since : Nat
  deriving DecidableEq, Repr, Inhabited

/-- A drafted or committed plan of the governor (R370): the shed set, newest last, the active taps of the
halved instances, the hawsers whose strands are treated as thinned, the clock settings (divide, skip) per hawser, the energy in units of 10^-20 J, whether it
is under the floor, exceeds the ceiling or took a capacity fit. -/
structure RPlan where
  thin : List Nat
  shed : List Shed
  taps : List (Nat × Nat)
  clocks : List (Nat × Nat)
  energy : Nat
  under : Bool
  isOver : Bool
  fit : Bool
  deriving DecidableEq, Repr, Inhabited

/-- An uplink schedule (R367): the bits of its frames, and whether the set or clear still waits. -/
structure UlSched where
  bg : Nat
  log2 : Nat
  bits : List Bool
  deriving DecidableEq, Repr, Inhabited

/-- The Reef governor (R359 to R379). VIN samples are in mV, newest first; `dramBytes` is the DRAM activity meter as the
last Close read it and `dramDraft` the reading that the draft in force used (Table ARC-3). -/
structure Reef where
  capW : Nat
  vin : List Nat
  vinUse : Nat
  ceilUw : Nat
  ceilSrc : Nat
  floorE : Nat
  draftUw : Nat
  draft : Option RPlan
  plan : RPlan
  sched : List UlSched
  dramBytes : Nat
  dramDraft : Nat
  commitCut : Nat
  underCnt : Nat
  capFit : Nat
  deriving DecidableEq, Repr, Inhabited

/-- What an accepted command changes at its Plan window (R39); an uplink schedule waits for the first frame of its period at
or after the tick `from_` (R367). -/
inductive PendWhat where
  | beam (a : BeamSetArgs) (vecs : List Vec)
  | canc (a : CancArgs) (rho : Nat)
  | gain (a : GainArgs)
  | bank (xfade : Nat) (kp ki : List Nat)
  | basis (bg id : Nat) (vecs : List Vec)
  | bookSet (a : BookSetArgs)
  | bookDel (first count mask : Nat)
  | sub (a : MeasArgs)
  | arm (a : CapArgs) (srcs : List Bytes) (rate subRing : Nat)
  | cap (w : Nat)
  | sched (on : Bool) (s : UlSched) (from_ : Nat)
  | hostMute (level scope : Nat) (on : Bool)
  deriving DecidableEq, Repr, Inhabited

/-- A change accepted and waiting for the Plan window of `tick`, with the opcode and TAG of its command
(R39, R431). The list of them stands in ring order (R503). -/
structure Pend where
  tick : Nat
  opcode : Nat
  tag : Nat
  what : PendWhat
  deriving DecidableEq, Repr, Inhabited

/-- One temperature sensor (R380 to R386, R393, R395). `have_` says that a sample stands in `temp` and `raw`;
`same` counts samples of one raw code, `maxq` and `minq` are the falling and rising samples of the last 31,250
as (number, temperature), which hold the extremes of that interval; `crit` counts samples at the critical
limit and `cool` those of R393. -/
structure Sensor where
  temp : Int
  have_ : Bool
  valid : Bool
  fault : Nat
  raw : Nat
  same : Nat
  maxq : List (Nat × Int)
  minq : List (Nat × Int)
  crit : Nat
  cool : Nat
  deriving DecidableEq, Repr, Inhabited

/-- A freeze of a hot-spot group (R392): the group, its floor and the sensors whose failures began or raised it. -/
structure Freeze where
  group : Nat
  floor : Nat
  failed : List Nat
  deriving DecidableEq, Repr, Inhabited

/-- The thermal manager (R380 to R403); `samples` numbers the samples. -/
structure Thermal where
  samples : Nat
  sensors : List Sensor
  active : List Bool
  run : List Nat
  computed : Nat
  reported : Nat
  govSns : Nat
  govTemp : Int
  freezes : List Freeze
  pend : List (Nat × Nat)
  latched : Bool
  deriving DecidableEq, Repr, Inhabited

/-- A running march test (R444 to R450) on a die (8 for the Bowline): the next window, the windows tested, the
abandoned attempts, the failing words with the first, the windows to retry with the attempts made on each,
the windows given up, and the windows that have started in this tick (R448). -/
structure March where
  hdr : CmdHdr
  a : MarchArgs
  started : Bool
  next : Nat
  tested : Nat
  touched : Nat
  fails : Nat
  firstFail : Nat
  retry : List (Nat × Nat)
  untested : Nat
  partial_ : Bool
  here : Nat
  deriving DecidableEq, Repr, Inhabited

/-- On-chip memory and DRAM (R437 to R460). -/
structure Memory where
  bbColl : List Nat
  sramCor : Nat
  sramUnc : Nat
  busErr : Nat
  dramCor : Nat
  dramUnc : Nat
  dens : Nat
  trained : Nat
  failed : Nat
  wiped : Bool
  capDirty : Bool
  march : List March
  rebuild : List (Nat × Nat)
  retained : Bool
  gated : Bool
  selfRefresh : Bool
  key : Nat
  deriving DecidableEq, Repr, Inhabited

/-- One Stopper source (R468, R471, R472): its bit, RPT, raises since the bit was set, highest merged
severity, whether its last reaction drove FAULT_N, and the instant of its last raise. -/
structure Src where
  bit : Bool
  rpt : Nat
  raises : Nat
  maxSev : Nat
  fault : Bool
  lastTick : Nat
  lastSub : Nat
  deriving DecidableEq, Repr, Inhabited

/-- The Stopper (R461 to R472). `faultLow` is the FAULT_N contact, `faultHold` its 1 ms minimum, `links`
the Marline links as (source, last tick with an uncorrectable frame, run of such ticks, down). -/
structure Stopper where
  srcs : List Src
  firstSrc : Nat
  firstSev : Nat
  firstUnit : Nat
  firstOvf : Bool
  firstValid : Bool
  firstTick : Nat
  raises : Nat
  merged : Nat
  faultLow : Bool
  faultHold : Bool
  alertLow : Bool
  nmi : Nat
  links : List (Nat × Nat × Nat × Bool)
  firstAt : Option (Nat × Nat)
  deriving DecidableEq, Repr, Inhabited

/-- A Logline record waiting to be written (R476): its type, whether it is meant for the pinned region and
its payload, whose bytes are complete but for the header. -/
structure StagedLog where
  typ : Nat
  pinned : Bool
  payload : Bytes
  deriving DecidableEq, Repr, Inhabited

/-- A running LOG.CLEAR (R482). -/
structure LogClearSt where
  hdr : CmdHdr
  scope : Nat
  slot : Nat
  upto : Nat
  deriving DecidableEq, Repr, Inhabited

/-- The Logline controller's volatile state (R473 to R482). -/
structure Logline where
  staged : List StagedLog
  nonce : Option Nat
  mirrorOk : Bool
  optime : Nat
  optTicks : Nat
  pinFull : Bool
  pinRaised : Bool
  clear : Option LogClearSt
  deriving DecidableEq, Repr, Inhabited

/-- A record or completion in BB1 staging (R499): the ring, the bytes, the last tick of its deadline, and
whether its TICK field takes the tick in which it is written (R505). -/
structure Staged where
  ring : Nat
  bytes : Bytes
  deadline : Option Nat
  stamp : Bool
  deriving DecidableEq, Repr, Inhabited

/-- A W-marked command whose output buffer is being written (R504): the header, opcode, buffer address,
bytes, the 16 result bytes of its completion and, for CAPTURE.READ, the capture buffer it reads. -/
structure OutWork where
  hdr : CmdHdr
  opcode : Nat
  addr : Nat
  bytes : Bytes
  result : Bytes
  cap : Option Nat
  deriving DecidableEq, Repr, Inhabited

/-- The host interface (R491 to R519). `owed` counts the fetched commands whose completion is owed,
`waiting` the descriptors that a FENCE holds back, `written` the last output buffer written, `sent` the
vectors sent. -/
structure HostIf where
  staged : List Staged
  outs : List OutWork
  owed : Nat
  waiting : List (Nat × Descriptor)
  perstLow : Bool
  started : Bool
  bme : Bool
  d3hot : Bool
  linkUp : Bool
  dbErr : Bool
  dbErrCnt : Nat
  lost : Bool
  written : Option (Nat × Bytes)
  sent : List Nat
  idxBlock : Bytes
  read : Word
  i2c : Word
  jtag : Nat
  deriving DecidableEq, Repr, Inhabited

/-- A mode command that has not yet taken effect (R405): its opcode, target mode, tick and TAG. -/
structure PendMode where
  opcode : Nat
  target : Mode
  tick : Nat
  tag : Nat
  deriving DecidableEq, Repr, Inhabited

/-- Mode qualifications and pending mode changes (R404 to R412, R420 to R428). `lockTicks` and, with SRC_PRIO 2, `standbyTicks` count toward
LOCK_QUAL, `coilEntry` is the entry tick e of COIL, and `wakeTick` the w of a timed or a running wake. -/
structure Qual where
  lockQual : Bool
  lockTicks : Nat
  standbyTicks : Nat
  standbySeen : Bool
  surveyOk : Bool
  survCnt : Nat
  pend : Option PendMode
  wakeIn : Nat
  coilEntry : Option Nat
  wakeTick : Option Nat
  deriving DecidableEq, Repr, Inhabited

/-- Start-up and resets (R416, R429 to R436). `due` is a chip reset waiting to begin with its CAUSE. -/
structure Boot where
  stage : Nat
  fwOk : Bool
  dramOk : Bool
  calDone : Bool
  fwVer : Nat
  sramOk : Bool
  powered : Bool
  cause : Nat
  blkCnt : Nat
  blkLast : Nat
  due : Option Nat
  blkRun : List Nat
  blkDone : Bool
  lifeDue : Bool
  deriving DecidableEq, Repr, Inhabited

/-- A module seen over the Splice link (R63, R419). -/
structure Peer where
  modId : Nat
  serial : Nat
  tracer : Nat
  port : Nat
  calDone : Bool
  deriving DecidableEq, Repr, Inhabited

/-- The Splice link (R63 to R66, R217 to R221, R419). -/
structure Splice where
  peers : List Peer
  linkUp : List Bool
  elected : Bool
  master : Bool
  masterId : Nat
  masterSerial : Nat
  lost : Nat
  syncSent : Option Nat
  deriving DecidableEq, Repr, Inhabited

/-- Counts of hawser h, first part: Lay, cancellers, oscillation detector and memory. -/
structure HwsA where
  steerSw : Nat
  noSlot : Nat
  steerDrop : Nat
  wsat : Nat
  solveRej : Nat
  tapsCut : Nat
  coupChg : Nat
  importLoss : Nat
  tripA : Nat
  tripB : Nat
  lastBg : Nat
  lastDir : Nat
  lastPos : Nat
  coll0 : Nat
  coll1 : Nat
  coll2 : Nat
  eccCor : Nat
  busErr : Nat
  deriving DecidableEq, Repr, Inhabited

/-- Counts of hawser h, second part: Belay and the endpoint matcher. -/
structure HwsB where
  satInt : Bool
  satOut : Bool
  satArith : Bool
  freezeCnt : Nat
  decayCnt : Nat
  fadeCnt : Nat
  umLoop : Nat
  umNoise : Nat
  umPower : Nat
  umRange : Nat
  matched : Nat
  unmatch : Nat
  collide : Nat
  ambig : Nat
  late : Nat
  short : Nat
  noRoom : Nat
  miss : Nat
  deriving DecidableEq, Repr, Inhabited

/-- The running evaluation of the oscillation detector on a beam yarn: evaluations in a row that exceed -1 dB, the powers
of the spectrum's bins at the last evaluation, and each bin's run of rises (R210, R211). -/
structure OscRun where
  byid : Nat
  a : Nat
  bins : List Rat
  rises : List Nat
  deriving DecidableEq, Repr, Inhabited

/-- The volatile device state. `use` holds the setup registers as the tick-bound, thermal and Reef blocks
have taken them up (R523); `tapes` hold the last samples at the points of the relay path (R24); `free` numbers the draws of free values and is the model's own field. -/
structure Dev where
  use : Setup
  pend : List Pend
  ptr : Painter
  conv : Conv
  lyd : Lanyard
  plan : PlanSt
  clk : ClockSt
  prt : Protect
  beams : Beams
  can : Cancel
  osc : List OscRun
  bel : Belay
  book : Book
  ldl : Leadline
  reef : Reef
  thm : Thermal
  mem : Memory
  stop : Stopper
  log : Logline
  host : HostIf
  qual : Qual
  boot : Boot
  splice : Splice
  tapes : List Tape
  hwsA : List HwsA
  hwsB : List HwsB
  free : Nat
  deriving DecidableEq, Repr, Inhabited

/-- The state of the block. `pending` is the queue of waiting commands, first in first out. -/
structure State where
  pending : List Instr
  ident : Ident
  setup : Setup
  time : TimeSt
  modes : ModeSt
  nv : NvSt
  rings : List Ring
  dev : Dev
  deriving DecidableEq, Repr, Inhabited

/-! ## Reset -/

/-- The setup registers at their reset values (Tables TCK-6, CNV-9, CAN-6, BEL-7, BEL-8, PRT-9, EPB-13,
HST-13, HST-14, STP-14, THM-5, THM-8, REF-2, REF-7). -/
def Setup.reset : Setup where
  ptrCfg := 0x00000018#32
  lydCfg := 0x0000FFFF#32
  canCfg := packWord [(0, 0), (12, 6), (16, 60)]
  belCfg := packWord [(0, 96), (10, 960), (21, 5)]
  belCfg2 := packWord [(0, 60), (8, 70)]
  prtCfg := packWord [(0, 20), (8, 1)]
  epbCfg := packWord [(0, 3), (4, 24), (12, 1), (16, 30)]
  epbCfg2 := packWord [(0, 230), (8, 242), (16, 8), (24, 6), (28, 3)]
  epbCfg3 := packWord [(0, 6), (5, 10)]
  lock := 0#32
  ringLo := List.replicate 6 0#32
  ringHi := List.replicate 6 0#32
  ringCfg := (List.range 6).map fun k =>
    if k = 0 then 0#32 else packWord [(8, k), (16, 1)]
  idxLo := 0#32
  idxHi := 0#32
  idxBase := 0
  hstCfg := 0#32
  stopCfg := 0#32
  stopReact := [0x11191999#32, 0x11011191#32, 0x11111111#32, 0x11111111#32, 0x11111111#32,
    0x11111111#32, 0x11111111#32, 0x33331111#32, 0x11113333#32, 0x11111111#32, 0x11111111#32,
    0x11111111#32]
  thmCfg := packWord [(0, 95), (8, 118), (16, 3)]
  remCfg := (List.range 16).map fun r => packWord [(2, r % 8)]
  remPar := (List.range 16).map fun r =>
    if r < 8 then 16#32 else packWord [(0, 1000), (16, 3435)]
  reefCfg := packWord [(0, 5), (5, 8), (13, 1)]
  thmStep := [packWord [(0, 500)], packWord [(0, 460)], packWord [(0, 420), (12, 4)],
    packWord [(0, 380), (10, 1)], packWord [(0, 340), (10, 1), (12, 4)], packWord [(0, 300), (10, 2)]]
  dlyArray := List.replicate 128 0#32

def TimeSt.reset : TimeSt := { (default : TimeSt) with window := .plan, periods := 6250000 }

def ModeSt.reset : ModeSt := { mode := .boot, ret := none, prior := none, waking := false }

/-- The nonvolatile stores as shipped: BLANK, nothing written (R484). -/
def NvSt.shipped : NvSt where
  life := .blank
  lifeFrom := none
  keys := List.replicate 4 none
  group := 0
  timeFloor := 0
  seqFloors := List.replicate 4 0
  runCounts := []
  idGen := 0
  pinned := []
  ring := []
  ringPos := 0
  seq := 0
  pcc := 0
  optime := 0
  calStore := List.replicate 128 { valid := false, temp := 0, gen := 0 }

def Ring.reset : Ring := { p := 0, c := 0, drop := 0, since := 0, entries := [] }

def Painter.reset : Painter := { (default : Painter) with st := .freerun }

def Strand.reset : Strand := default

def Conv.reset : Conv :=
  { (default : Conv) with
    power := List.replicate 16 false
    strands := List.replicate 128 Strand.reset
    adcTrims := List.replicate 16 0
    dacTrims := List.replicate 16 0 }

def Node.reset : Node := default

def Lanyard.reset : Lanyard :=
  { (default : Lanyard) with
    nodes := List.replicate 128 Node.reset
    last := List.replicate 16 0
    nextSlot := List.replicate 16 0 }

def Group.reset : Group := { sbeams := 1, fixed := 1, donor := 0 }

def Beams.reset : Beams := { (default : Beams) with groups := List.replicate 8 Group.reset }

def GainSet.reset : GainSet :=
  { pmax := 320, vlim := 500, alim := 50, jlim := 10, lna := 0, pag := 0 }

def Belay.reset : Belay :=
  { (default : Belay) with
    sets := List.replicate 16 GainSet.reset
    kp := [1024, 1536, 2048, 2048, 3072, 4096, 4096, 5120]
    ki := [4096, 4096, 8192, 8192, 12288, 16384, 16384, 20480]
    xfade := 16 }

def Leadline.reset : Leadline := { (default : Leadline) with caps := List.replicate 16 default }

def RPlan.reset : RPlan :=
  { (default : RPlan) with clocks := List.replicate 8 (1, 0) }

def Reef.reset : Reef := { (default : Reef) with plan := RPlan.reset }

def Sensor.reset : Sensor := { (default : Sensor) with valid := true }

def Thermal.reset : Thermal :=
  { (default : Thermal) with
    sensors := List.replicate 150 Sensor.reset
    active := List.replicate 6 false
    run := List.replicate 6 0 }

def Memory.reset : Memory := { (default : Memory) with bbColl := List.replicate 4 0 }

def Src.reset : Src := default

def Stopper.reset : Stopper := { (default : Stopper) with srcs := List.replicate 96 Src.reset }

def HostIf.reset : HostIf :=
  { (default : HostIf) with jtag := 1 }

def Splice.reset : Splice := { (default : Splice) with linkUp := List.replicate 4 false }

def Boot.reset : Boot := { (default : Boot) with powered := true }

/-- The volatile device state after a reset. -/
def Dev.reset : Dev where
  use := Setup.reset
  pend := []
  ptr := Painter.reset
  conv := Conv.reset
  lyd := Lanyard.reset
  plan := default
  clk := default
  prt := default
  beams := Beams.reset
  can := default
  osc := []
  bel := Belay.reset
  book := default
  ldl := Leadline.reset
  reef := Reef.reset
  thm := Thermal.reset
  mem := Memory.reset
  stop := Stopper.reset
  log := default
  host := HostIf.reset
  qual := default
  boot := Boot.reset
  splice := Splice.reset
  tapes := []
  hwsA := List.replicate 8 default
  hwsB := List.replicate 8 default
  free := 0

/-- The identity of the module that the manual's unqualified figures describe (R1): a QH5120. -/
def Ident.reset : Ident where
  member := .qh5120
  serial := 1
  stepMaj := 0
  stepMin := 0
  modId := 0
  testN := true
  ilim := 8

/-- The module as the reset of its first power-on is released: mode BOOT with STAGE 0 (Table MOD-10, Table MOD-13), every register
at its reset value, the counters at 0 (Table MOD-9), no command waiting. -/
def State.reset : State where
  pending := []
  ident := Ident.reset
  setup := Setup.reset
  time := TimeSt.reset
  modes := ModeSt.reset
  nv := { NvSt.shipped with pcc := 1 }
  rings := List.replicate 6 Ring.reset
  dev := Dev.reset

end Sys2Proof.Machine
end

