-- ==== Sys2Proof/Machine/Ops.lean ====
section
/-! DEFINITION. The operations that every family shares: the read-only context of a command, mode names,
completions, events and Logline records on their way to the host and to the MRAM, the Stopper with its
reactions, and the start of a block reset. -/

namespace Sys2Proof.Machine

/-- Put an item in its place of a sorted list. -/
def insertBy {α : Type} (le : α → α → Bool) (x : α) : List α → List α
  | [] => [x]
  | y :: ys => if le x y then x :: y :: ys else y :: insertBy le x ys

/-- A list in rising order; equal items keep their order. -/
def sortBy {α : Type} (le : α → α → Bool) (l : List α) : List α := l.foldr (insertBy le) []

/-- What a command may read but not change: everything of the state but the queue and the device part. -/
structure Ctx where
  ident : Ident
  setup : Setup
  time : TimeSt
  modes : ModeSt
  nv : NvSt
  rings : List Ring
  deriving DecidableEq, Repr, Inhabited

/-- The context of a state. -/
def State.ctx (s : State) : Ctx :=
  { ident := s.ident, setup := s.setup, time := s.time, modes := s.modes, nv := s.nv, rings := s.rings }

/-- Change the device part of a state by an operation that reads the context. -/
def State.onDev (f : Ctx → Dev → Dev) (s : State) : State := { s with dev := f s.ctx s.dev }

/-! ## Names and indices (R4, Table SCP-2) -/

/-- The mode ID of Table ARC-7. -/
def modeId : Mode → Nat
  | .reset => 0 | .boot => 1 | .hank => 2 | .survey => 3 | .standby => 4 | .relayOpen => 5
  | .relaySteered => 6 | .relayNetwork => 7 | .muted => 8 | .coil => 9 | .maintenance => 10
  | .latched => 11

/-- The mode that an ID of Table ARC-7 names. -/
def modeOfId (i : Nat) : Option Mode :=
  [Mode.reset, .boot, .hank, .survey, .standby, .relayOpen, .relaySteered, .relayNetwork, .muted, .coil,
    .maintenance, .latched][i]?

/-- The three relay modes (R33). -/
def isRelay : Mode → Bool
  | .relayOpen | .relaySteered | .relayNetwork => true
  | _ => false

/-- HANK and the relay modes: the modes in which a level 4 mute enters MUTED (R283). -/
def relays : Mode → Bool
  | .hank => true
  | m => isRelay m

/-- The modes in which Leadline runs (R336). -/
def leadlineRuns : Mode → Bool
  | .reset | .boot | .coil | .latched => false
  | _ => true

/-- The code of a lifecycle state (Table STP-10). -/
def lifeId : Life → Nat
  | .blank => 0 | .provisioned => 1 | .deployed => 2 | .service => 3 | .retired => 4

/-- The lifecycle state that a code of Table STP-10 names. -/
def lifeOfId (i : Nat) : Option Life :=
  [Life.blank, .provisioned, .deployed, .service, .retired][i]?

/-- The code of a Painter state (Table TCK-5). -/
def ptrId : PtrState → Nat
  | .freerun => 0 | .search => 1 | .lockedDonor => 2 | .lockedPps => 3 | .holdover => 4 | .slave => 5

def Ctx.n (c : Ctx) : Nat := c.time.n
def Ctx.mode (c : Ctx) : Mode := c.modes.mode
def Ctx.hawsers (c : Ctx) : Nat := Config.hawsers c.ident.member
def Ctx.strands (c : Ctx) : Nat := Config.strands c.ident.member

/-- The tick within the hyperframe, 20 x SFN + TIF (R44). -/
def Ctx.tih (c : Ctx) : Nat := 20 * c.time.sfn + c.time.tif

/-- The tick whose Plan window a command accepted now changes planned state at (R39). -/
def Ctx.effTick (c : Ctx) : Nat :=
  if !c.time.running then 1
  else match c.time.window with
    | .plan => succ32 c.n
    | _ => succ32 (succ32 c.n)

/-- Whether a tick has come by tick n: it is n or one before it, on the 32-bit count. -/
def tickDue (n tick : Nat) : Bool := decide (0 ≤ dist32 n tick)

/-- The offset from T0 at which the Close window begins, in units of 10 ns: T0 + 476 us, later by what a step adds
to the tick's Run window (R36, R55). -/
def TimeSt.closeSub (t : TimeSt) : Nat := 47600 + (t.periods - 6250000) / 125

/-- The parts of a beam-yarn identifier (R259). -/
def byidPos (b : Nat) : Nat := b % 16
def byidBeam (b : Nat) : Nat := b / 16 % 64
def byidBg (b : Nat) : Nat := b / 1024 % 8
def byidDir (b : Nat) : Nat := b / 8192 % 2
def byidSlot (b : Nat) : Nat := b / 16384 % 2

/-- The beam-yarn identifier of a direction (0 downlink, 1 uplink), band group, beam and position (R259). -/
def mkByid (dir bg b pos : Nat) : Nat := pos + 16 * b + 1024 * bg + 8192 * dir

/-- The scope of a loop mute as Table PRT-7 writes it. -/
def loopScope (bg dir : Nat) : Nat := 1024 * bg + 8192 * dir

/-- The hawser that owns a beam yarn: (BG + b) mod H, with b = 0 for a downlink (R159). -/
def byidOwner (hawsers byid : Nat) : Nat := (byidBg byid + byidBeam byid) % hawsers

/-! ## Completions (R505, R507) -/

/-- Completion status codes (Table HST-7). -/
def stOk : Nat := 0
def stBadArg : Nat := 1
def stBusy : Nat := 2
def stDenied : Nat := 3
def stLate : Nat := 4
def stWcoll : Nat := 5
def stExpired : Nat := 6
def stNoRoom : Nat := 7

/-- A completion record (Table HST-6). -/
def completionBytes (opcode status detail tag cidx tick : Nat) (result : Bytes) : Bytes :=
  leBytes 2 opcode ++ leBytes 1 status ++ leBytes 1 detail ++ leBytes 4 tag ++ leBytes 4 cidx ++
    leBytes 4 tick ++ (result ++ zeros 16).take 16

/-- Put a record behind the others in BB1 staging (R499). -/
def Dev.stage (d : Dev) (r : Staged) : Dev :=
  { d with host := { d.host with staged := d.host.staged ++ [r] } }

/-- Stage a completion. A `tick` is the tick at which a planned change takes effect; without one the record
takes the tick in which it is written (R505). -/
def Dev.complete (d : Dev) (op : Nat) (h : CmdHdr) (status detail : Nat) (tick : Option Nat)
    (result : Bytes) : Dev :=
  d.stage
    { ring := 1
      bytes := completionBytes op status detail h.tag h.cidx (tick.getD 0) result
      deadline := none
      stamp := tick.isNone }

/-- An OK completion without a result that carries the tick of the change. -/
def Dev.okAt (d : Dev) (op : Nat) (h : CmdHdr) (tick : Nat) : Dev := d.complete op h stOk 0 (some tick) []

/-- An OK completion without a result that carries the tick of its writing. -/
def Dev.ok (d : Dev) (op : Nat) (h : CmdHdr) : Dev := d.complete op h stOk 0 none []

/-- A completion with a failing status. -/
def Dev.reject (d : Dev) (op : Nat) (h : CmdHdr) (status : Nat) : Dev := d.complete op h status 0 none []

/-- The status of the first failing check of a list, in the list's order (R507). -/
def firstFail : List (Bool × Nat) → Option Nat
  | [] => none
  | (true, st) :: _ => some st
  | (false, _) :: rest => firstFail rest

/-- Run a command's checks in order: the first that fails completes the command, else it acts (R507). -/
def guarded (op : Nat) (h : CmdHdr) (checks : List (Bool × Nat)) (act : Dev → Dev) (d : Dev) : Dev :=
  match firstFail checks with
  | some st => d.reject op h st
  | none => act d

/-- One more command whose completion is owed (R502). -/
def Dev.fetched (d : Dev) : Dev := { d with host := { d.host with owed := d.host.owed + 1 } }

/-- The state with one more command owed (R502). -/
def State.fetched (s : State) : State := { s with dev := s.dev.fetched }

/-- Append a change for the Plan window of a tick, with its completion (R39, R503). -/
def Dev.planned (d : Dev) (c : Ctx) (op : Nat) (h : CmdHdr) (what : PendWhat) : Dev :=
  let p : Pend := { tick := c.effTick, opcode := op, tag := h.tag, what := what }
  ({ d with pend := d.pend ++ [p] }).okAt op h c.effTick

/-- The checks of an input buffer: alignment and length, then what its reading met (R440, R442, R501). -/
def inChecks (b : InBuf) (need : Nat) : List (Bool × Nat) :=
  [(decide (b.addr % 4 ≠ 0), stBadArg), (b.len == 0, stBadArg), (decide (b.len < need), stBadArg),
    (b.wcoll, stWcoll), (b.ecc, stBadArg)]

/-- The argument checks of an output buffer (R501, R509). -/
def outChecks (o : OutBuf) : List (Bool × Nat) :=
  [(decide (o.addr % 4 ≠ 0), stBadArg), (o.len == 0, stBadArg)]

/-- A number outside a range. -/
def outside (x lo hi : Nat) : Bool := decide (x < lo) || decide (hi < x)

/-! ### Which modes accept a command -/

/-- The modes that accept an opcode: the owner's rule where it names modes, else R508, with R423 for COIL
and LOG.READ, LOG.NONCE and THM.CLR alone in LATCHED. -/
def modeAccepts (m : Mode) (op : Nat) : Bool :=
  let general : Bool := match m with
    | .reset | .coil | .latched => false
    | _ => true
  match m with
  | .reset => false
  | .coil => op ∈ [0x0103, 0x0104, 0x0201, 0x0202, 0x0203, 0x0701, 0x0702, 0x0801, 0x0802, 0x0803]
  | .latched => op ∈ [0x0801, 0x0802, 0x0702]
  | _ =>
    if op = 0x0103 then false                                                   -- R426
    else if op = 0x0102 then m ∈ [.standby, .survey, .relayOpen, .relaySteered, .relayNetwork]   -- R420
    else if op = 0x0105 then m ∈ [.boot, .survey, .standby, .maintenance]        -- R87
    else if op = 0x0106 then m = .maintenance                                   -- R511
    else if op = 0x0107 then m = .maintenance                                   -- R415
    else if op = 0x0304 then m ∈ [.survey, .maintenance]                         -- R162
    else if op ∈ [0x0601] then leadlineRuns m                                   -- R348
    else if op ∈ [0x0803] then m ≠ .boot                                        -- R482
    else if op ∈ [0x0804, 0x0805] then m ∈ [.standby, .maintenance]              -- R485, R486
    else general

/-! ## Events and Logline records -/

/-- ENTRIES_LOG2 as the device reads it (Table HST-13). -/
def ringLog2 (w : Word) : Nat :=
  let e := w.field 0 5
  if e = 0 then 0 else if e < 6 then 6 else if 16 < e then 16 else e

/-- The configuration word of ring k. -/
def Ctx.ringCfg (c : Ctx) (k : Nat) : Word := c.setup.ringCfg.getD k 0#32

/-- Whether ring k is enabled (R495). -/
def Ctx.ringOn (c : Ctx) (k : Nat) : Bool := ringLog2 (c.ringCfg k) != 0

/-- An event record (Table HST-10). -/
def eventBytes (kind a tick sub b cc : Nat) (dd : Bytes) : Bytes :=
  leBytes 1 kind ++ leBytes 1 0 ++ leBytes 2 a ++ leBytes 4 tick ++ leBytes 2 sub ++ leBytes 2 b ++
    leBytes 4 cc ++ (dd ++ zeros 16).take 16

/-- Put an event behind the others, but before later kinds of the same instant (R514). -/
def insertEvent : List Staged → Staged → List Staged
  | [], e => [e]
  | x :: xs, e =>
    if x.ring = 2 ∧ fieldAt x.bytes 4 6 = fieldAt e.bytes 4 6 ∧ byteAt e.bytes 0 < byteAt x.bytes 0 then
      e :: x :: xs
    else x :: insertEvent xs e

/-- Post an event (R514). A disabled event ring discards it (R495). Its deadline lies in the next tick
(Table TCK-2). -/
def Dev.event (d : Dev) (c : Ctx) (kind a sub b cc : Nat) (dd : Bytes := []) : Dev :=
  if c.ringOn 2 then
    let r : Staged :=
      { ring := 2, bytes := eventBytes kind a c.n sub b cc dd, deadline := some (succ32 c.n),
        stamp := false }
    { d with host := { d.host with staged := insertEvent d.host.staged r } }
  else d

/-- Stage a record of the endpoint, measurement or capture ring with the last tick of its deadline
(R499). -/
def Dev.record (d : Dev) (c : Ctx) (k : Nat) (bytes : Bytes) (deadline : Nat) : Dev :=
  if c.ringOn k then d.stage { ring := k, bytes := bytes, deadline := some deadline, stamp := false }
  else d

/-- Hand a record to the Logline controller (R476). -/
def Dev.logRec (d : Dev) (typ : Nat) (pinned : Bool) (payload : Bytes) : Dev :=
  let r : StagedLog := { typ := typ, pinned := pinned, payload := payload }
  { d with log := { d.log with staged := d.log.staged ++ [r] } }

/-- Whether the device may master the bus (R493). -/
def HostIf.mastering (h : HostIf) : Bool := h.bme && !h.d3hot && h.linkUp

/-- Send an MSI-X vector, unless bus mastering is stopped (R493, R516). -/
def Dev.msi (d : Dev) (v : Nat) : Dev :=
  if d.host.mastering then { d with host := { d.host with sent := d.host.sent ++ [v] } } else d

/-- The event of a mode change (Table HST-11, kind 1). -/
def Dev.modeEvent (d : Dev) (c : Ctx) (old new : Mode) (sub cause tag : Nat) : Dev :=
  d.event c 1 (modeId new + 16 * modeId old) sub cause tag

/-- The event of a discarded command (Table HST-11, kind 9). -/
def Dev.discardEvent (d : Dev) (c : Ctx) (sub opcode tag : Nat) : Dev := d.event c 9 opcode sub 0 tag

/-! ## Capture stops that other units cause -/

/-- End a buffer that is writing: it becomes HELD and owes its record (R356, R357). -/
def Cap.endNow (b : Cap) (tick sub : Nat) : Cap :=
  if b.state = 2 then { b with state := 3, endTick := tick, endSub := sub, recDue := true } else b

/-- What COIL entry and a block reset do to a buffer: ARMED goes to IDLE and TRIGGERED ends (R421, R431). -/
def Cap.quit (b : Cap) (tick sub : Nat) : Cap :=
  if b.state = 1 then { b with state := 0 } else b.endNow tick sub

/-! ## Strands that run (R93, R152, R158, R173, R431, R447, R463) -/

/-- The side of a strand: 0 unused, 1 donor, 2 service (Table PRT-1). -/
def Plan.side (p : Plan) (g : Nat) : Nat := p.sides.getD g 0

/-- The side of a strand in the committed plan. -/
def Dev.side (d : Dev) (g : Nat) : Nat := (d.plan.committed.map fun p => p.side g).getD 0

/-- Whether the service strands of a tile are thinned under step 5. -/
def RPlan.tileShed (r : RPlan) (t : Nat) : Bool := r.shed.any fun s => s.step == 5 && s.num == t

/-- The hawsers i < j of a MARLINE_P source (Table STP-2). -/
def marlinePair (src : Nat) : Option (Nat × Nat) :=
  ((List.range 8).flatMap fun i => ((List.range 8).filter fun j => decide (i < j)).map fun j => (i, j)).find?
    fun p => src = 68 + p.1 * (15 - p.1) / 2 + p.2 - p.1 - 1

/-- Whether a MARLINE_P link of which h is the higher end is down (R463). -/
def Stopper.linkDownOf (t : Stopper) (h : Nat) : Bool :=
  t.links.any fun l => l.2.2.2 && ((marlinePair l.1).map (·.2) == some h)

/-- Whether a hawser runs no strand at all: its block reset runs, or its HB0 is under a destructive test or awaits the
rebuild after one. -/
def Dev.hawserOut (d : Dev) (h : Nat) : Bool :=
  decide (h ∈ d.boot.blkRun) ||
    (d.mem.march.any fun m => m.started && m.a.die == h && m.a.bank == 0 && m.a.mode == 2) ||
    decide ((h, 0) ∈ d.mem.rebuild)

/-- Whether a hawser matches and learns nothing: its HB2 is under a destructive test or awaits the rebuild after one
(R447). -/
def Dev.matcherOut (d : Dev) (h : Nat) : Bool :=
  (d.mem.march.any fun m => m.started && m.a.die == h && m.a.bank == 2 && m.a.mode == 2) ||
    decide ((h, 2) ∈ d.mem.rebuild)

/-- Whether a draft treats a hawser's strands as thinned: it runs none, or its MARLINE_P link is down. -/
def Dev.hawserThin (d : Dev) (h : Nat) : Bool := d.hawserOut h || d.stop.linkDownOf h

/-- The strand entry of g. -/
def Dev.strand (d : Dev) (g : Nat) : Strand := d.conv.strands.getD g Strand.reset

/-- Whether a strand is thinned under a governor plan: its hawser is there, or runs none, or its tile is shed and it faces
the sensors. The strand set changes through a draft alone (R28, Table TCK-1). Donor-side strands are never thinned by the governor (Table REF-5). -/
def Dev.thinned (d : Dev) (r : RPlan) (g : Nat) : Bool :=
  decide (g / 16 ∈ r.thin) || d.hawserOut (g / 16) || (d.side g == 2 && r.tileShed (g / 8))

/-- Whether the committed plan runs a strand under a governor plan (R93, R173). -/
def Dev.strandRuns (d : Dev) (r : RPlan) (g : Nat) : Bool :=
  d.side g != 0 && !(d.strand g).failed && !d.thinned r g

/-- Whether a strand counts toward n in a mode (R152, R165). -/
def Dev.strandCounts (d : Dev) (r : RPlan) (m : Mode) (g : Nat) : Bool :=
  d.strandRuns r g && (m != .hank || decide (g < 16))

/-- The lowest-numbered strand of a side that counts (R158). -/
def Dev.lowestStrand (d : Dev) (r : RPlan) (m : Mode) (side : Nat) : Option Nat :=
  (List.range 128).find? fun g => d.side g == side && d.strandCounts r m g

/-- The default strands of the guard and donor beams, chosen afresh (R158). -/
def Dev.chooseDefaults (d : Dev) (m : Mode) : Dev :=
  let pick (side : Nat) : List (Nat × Nat) := match d.lowestStrand d.reef.plan m side with
    | some g => [(side, g)]
    | none => []
  { d with beams := { d.beams with defStrand := pick 1 ++ pick 2 } }

/-! ## Block reset (R431) -/

/-- The default state of the endpoint book with what a block reset keeps: the partner tables and the
registers that the survival table keeps. -/
def Book.blockReset (b : Book) : Book :=
  { (default : Book) with nbrs := b.nbrs, nbrDrop := b.nbrDrop }

/-- Whether a pending change survives a block reset: host mutes do, the rest returns to reset values. -/
def Pend.survivesBlock (p : Pend) : Bool :=
  match p.what with
  | .hostMute .. => true
  | _ => false

/-- Post the DISCARD event of each pending change that a block reset discards (R431). -/
def discardPend (c : Ctx) (sub : Nat) : List Pend → Dev → Dev
  | [], d => d
  | p :: ps, d =>
    discardPend c sub ps (if p.survivesBlock then d else d.discardEvent c sub p.opcode p.tag)

/-- Discard a pending mode command with its event (R412, R431). -/
def Dev.discardMode (d : Dev) (c : Ctx) (sub : Nat) : Dev :=
  match d.qual.pend with
  | none => d
  | some p =>
    { d.discardEvent c sub p.opcode p.tag with
      qual := { d.qual with pend := none } }

/-- Discard a BOOK.LOAD that awaits its commit (R431): it is a pending change of the book. -/
def Dev.discardBook (d : Dev) (c : Ctx) (sub : Nat) : Dev :=
  match d.book.load with
  | none => d
  | some l => d.discardEvent c sub 0x0502 l.hdr.tag

/-- A march test on the die ends early (R450). -/
def March.stopEarly (m : March) : March := { m with partial_ := true }

/-- The device part as the start of the block reset of hawser h leaves it (R431, steps 1 to 4), but for the default
strands. -/
def Dev.blockState (d : Dev) (c : Ctx) (h sub : Nat) : Dev :=
  let d := discardPend c sub d.pend d
  let d := d.discardMode c sub
  let d := d.discardBook c sub
  { d with
    boot := { d.boot with blkRun := d.boot.blkRun ++ [h] }
    pend := d.pend.filter Pend.survivesBlock
    qual := { d.qual with surveyOk := false, survCnt := 0 }
    lyd := { d.lyd with fe := [] }
    beams := { Beams.reset with arrayCal := d.beams.arrayCal }
    can := { (default : Cancel) with
      imports := d.can.imports
      epochConv := d.can.epochConv
      learn := d.can.learn }
    osc := d.osc.filter fun o => byidOwner c.hawsers o.byid ≠ h
    bel := Belay.reset
    book := d.book.blockReset
    prt := { d.prt with ni := [] }
    ldl := { d.ldl with
      subs := []
      caps := d.ldl.caps.map fun b => b.quit c.n sub
      myarns := d.ldl.myarns.map fun y => if y.owner < 3 then { y with ended := true } else y }
    reef := { d.reef with sched := [], capW := 0 }
    mem := { d.mem with march := d.mem.march.map fun m => if m.a.die = h then m.stopEarly else m }
    hwsA := d.hwsA.set h default
    hwsB := d.hwsB.set h default }

/-- Start the block reset of hawser h (R431). The guard and donor beams have the weights of R158 from there on: 1.0
on the lowest-numbered strand of their side that still counts. -/
def Dev.startBlockReset (d : Dev) (c : Ctx) (h sub : Nat) : Dev :=
  if h ∈ d.boot.blkRun then d else (d.blockState c h sub).chooseDefaults c.mode

/-! ## The Stopper (R461 to R472) -/

/-- Whether the member fits the unit of a source (R461, Table STP-2). -/
def sourceFits (m : Member) (src unit : Nat) : Bool :=
  let h := Config.hawsers m
  if src < 4 then true
  else if src < 6 then decide (unit < Config.strands m)
  else if src < 9 then true
  else if src = 9 then decide (unit < h) || unit == 8
  else if src < 14 then true
  else if src < 17 then decide (unit < h)
  else if src = 17 then decide (unit < h) || unit == 8
  else if src = 18 then true
  else if src < 27 then decide (src - 19 < h)
  else if src = 27 then Config.sensorExists m unit
  else if src < 36 then decide (src - 28 < h)
  else if src < 44 then true
  else if src < 60 then decide (src - 44 < Config.tiles m)
  else if src < 68 then decide (src - 60 < h)
  else if src < 96 then
    match marlinePair src with
    | some p => decide (p.2 < h)
    | none => false
  else false

/-- The hawser that a raise names (R464). -/
def namedHawser (src unit : Nat) : Option Nat :=
  if 14 ≤ src ∧ src ≤ 17 then (if unit < 8 then some unit else none)
  else if 19 ≤ src ∧ src ≤ 26 then some (src - 19)
  else if 28 ≤ src ∧ src ≤ 35 then some (src - 28)
  else if 44 ≤ src ∧ src ≤ 59 then some ((src - 44) / 2)
  else if 60 ≤ src ∧ src ≤ 67 then some (src - 60)
  else none

/-- The configured LEVEL of a source; 5 to 7 act as 4 (R464, Table STP-3). -/
def Setup.level (u : Setup) (src : Nat) : Nat := min ((u.stopReact.getD (src / 8) 0#32).field (4 * (src % 8)) 3) 4

/-- The configured FAULT bit of a source. -/
def Setup.faultBit (u : Setup) (src : Nat) : Bool := (u.stopReact.getD (src / 8) 0#32).bit (4 * (src % 8) + 3)

/-- The level before R466: level 3 of a raise that names no hawser acts as 4 (R464). -/
def levelForUnit (level src unit : Nat) : Nat :=
  if level = 3 ∧ (namedHawser src unit).isNone then 4 else level

/-- What COIL and LATCHED make of a level (R466). -/
def levelForMode (m : Mode) (level : Nat) : Nat :=
  match m with
  | .coil => if level = 3 then 2 else level
  | .latched => if 3 ≤ level then 2 else level
  | _ => level

/-- The payload of a fault or repeat summary record after its header (Table STP-8). -/
def faultPayload (tick sub src sev unit level flags rpt mode : Nat) : Bytes :=
  leBytes 4 tick ++ leBytes 2 sub ++ leBytes 1 src ++ leBytes 1 sev ++ leBytes 1 unit ++ leBytes 1 level ++
    leBytes 1 flags ++ leBytes 1 rpt ++ leBytes 1 mode ++ zeros 3

/-- The source entry of a number. -/
def Stopper.src (t : Stopper) (i : Nat) : Src := t.srcs.getD i Src.reset

/-- Whether FAULT_N must be low (R467). -/
def Stopper.wantsFault (t : Stopper) : Bool := t.faultHold || t.srcs.any fun s => s.bit && s.fault

/-- How a raise is taken: the level of its source's reaction before R464, and the flags of its record. -/
structure Reaction where
  level : Nat
  escalated : Bool
  rise : Bool
  first : Bool
  deriving DecidableEq, Repr, Inhabited

/-- Carry out a reaction: FAULT_N, the record, the event, and the level's action (R464 to R467). -/
def Dev.react (d : Dev) (c : Ctx) (src sev unit sub : Nat) (r : Reaction) : Dev :=
  let lvl0 := levelForUnit r.level src unit
  let lvl := levelForMode c.mode lvl0
  let supp := decide (lvl ≠ lvl0)
  let drive := c.setup.faultBit src || (r.escalated && decide (3 ≤ r.level))
  let s := d.stop.src src
  let t : Stopper :=
    { d.stop with
      srcs := d.stop.srcs.set src { s with fault := drive }
      faultHold := d.stop.faultHold || drive }
  let d := { d with stop := { t with faultLow := t.wantsFault } }
  let flags := bitNat r.first + 2 * bitNat r.escalated + 4 * bitNat r.rise + 8 * bitNat supp +
    16 * bitNat drive
  let d := d.logRec 0x0200 (decide (4 ≤ sev))
    (faultPayload c.n sub src sev unit lvl flags s.rpt (modeId c.mode))
  let d := d.event c 2 src sub (sev + 16 * lvl + 256 * bitNat r.escalated + 512 * bitNat supp +
    1024 * bitNat drive) unit
  let d := if 1 ≤ lvl ∧ lvl ≤ 3 then d.msi (c.setup.hstCfg.field 0 6) else d
  if lvl = 2 then
    let d := d.logRec 0x0202 false (leBytes 48 (Config.freeNmiSnapshot d.free).toNat)
    { d with stop := { d.stop with nmi := d.stop.nmi + 1 }, free := d.free + 1 }
  else if lvl = 3 then
    match namedHawser src unit with
    | some h => d.startBlockReset c h sub
    | none => d
  else if 4 ≤ lvl then { d with boot := { d.boot with due := some 2 } }
  else d

/-- Latch a new raise in STOP_FIRST (R469). The answer says whether it is now the first. A later raise of
the same instant takes the place of one of lower severity, or of equal severity and higher number. -/
def Stopper.latchFirst (t : Stopper) (n src sev unit sub : Nat) : Stopper × Bool :=
  let first : Stopper :=
    { t with firstSrc := src, firstSev := sev, firstUnit := unit, firstTick := n, firstValid := true,
             firstAt := some (n, sub) }
  if !t.firstValid then (first, true)
  else if t.firstAt = some (n, sub) ∧ (t.firstSev < sev ∨ (t.firstSev = sev ∧ src < t.firstSrc)) then
    ({ first with firstOvf := true }, true)
  else ({ t with firstOvf := true }, false)

/-- Clear the first-flag of the records of an instant that a stronger raise replaced (R469). -/
def unflagFirst (n sub : Nat) (l : List StagedLog) : List StagedLog :=
  l.map fun r =>
    if r.typ = 0x0200 ∧ fieldAt r.payload 0 4 = n ∧ fieldAt r.payload 4 2 = sub then
      { r with payload := r.payload.set 10 (BitVec.ofNat 8 (byteAt r.payload 10 / 2 * 2)) }
    else r

/-- One raise on a source line (R461, R466, R468, R471, R472). -/
def Dev.raise (d : Dev) (c : Ctx) (src sev unit sub : Nat) : Dev :=
  if c.mode = .reset ∨ !sourceFits c.ident.member src unit then d
  else if (namedHawser src unit).any (· ∈ d.boot.blkRun) then d
  else
    let s := d.stop.src src
    let put (s' : Src) (d : Dev) : Dev :=
      let e : Src := { s' with lastTick := c.n, lastSub := sub }
      { d with stop := { d.stop with srcs := d.stop.srcs.set src e } }
    if !s.bit then
      let (t, isFirst) := d.stop.latchFirst c.n src sev unit sub
      let replaced := isFirst && d.stop.firstValid
      let d := { d with
        stop := { t with raises := satAdd 16 t.raises 1 }
        log := if replaced then { d.log with staged := unflagFirst c.n sub d.log.staged } else d.log }
      let d := put { s with bit := true, rpt := 0, raises := 1, maxSev := sev } d
      d.react c src sev unit sub
        { level := c.setup.level src, escalated := false, rise := false, first := isFirst }
    else
      let rises := decide (s.maxSev < sev)
      let k := s.raises + 1
      let s' := { s with rpt := min (s.rpt + 1) 15, raises := k, maxSev := max s.maxSev sev }
      let d := put s' { d with stop := { d.stop with merged := satAdd 16 d.stop.merged 1 } }
      if c.setup.stopCfg.bit 0 then
        d.react c src sev unit sub
          { level := min (c.setup.level src + (k - 1)) 4, escalated := true, rise := false, first := false }
      else if rises then
        d.react c src sev unit sub
          { level := c.setup.level src, escalated := false, rise := true, first := false }
      else d

/-- Host acknowledgement of a source, with its repeat summary (R467, R468, R471). The summary carries the highest severity
of the repeats, the acknowledgement's SUB and no UNIT, LEVEL or FLAGS (DESIGN CHOICE, assumption 127). -/
def Dev.acknowledge (d : Dev) (c : Ctx) (src sub : Nat) : Dev :=
  let s := d.stop.src src
  if !s.bit then d
  else
    let d := if 0 < s.rpt then
        d.logRec 0x0201 false (faultPayload c.n sub src s.maxSev 0 0 0 s.rpt (modeId c.mode))
      else d
    let e : Src := { s with bit := false, rpt := 0, raises := 0, maxSev := 0, fault := false }
    let t := { d.stop with srcs := d.stop.srcs.set src e }
    { d with stop := { t with faultLow := t.faultLow && t.wantsFault } }

end Sys2Proof.Machine
end

