-- ==== Sys2Proof/Machine/Tables.lean ====
section
/-! DEFINITION. The tables of the manual as functions: yarn rates, responses and delays (spec/04), the
Nyquist plan and zone response (spec/03), symbol timing (spec/05, spec/08), Leadline delays (spec/10),
memory banks and ports (spec/14), contacts and inputs (spec/18). -/

namespace Sys2Proof.Machine

/-! ## Yarn rates and tuning (R121, R122, R138) -/

/-- The yarn rate of code rho in kHz (Table YRN-3). -/
def rateKhz (rho : Nat) : Nat := 3840 * 2 ^ (rho - 1)

/-- The yarn rate in samples per second. -/
def rateHz (rho : Nat) : Nat := 1000 * rateKhz rho

/-- The credit cost of a yarn (Table YRN-3). -/
def creditCost (rho : Nat) : Nat := 2 ^ (rho - 1)

/-- Half-band stages (Table YRN-3). -/
def halfBands (rho : Nat) : Nat := 12 - rho

/-- The usable bandwidth, 0.8 x rate, in kHz (Table YRN-3). -/
def usableKhz (rho : Nat) : Nat := rateKhz rho * 4 / 5

/-- The fraction of the converter rate that the resampler starts from, as (input, output) of the exact
ratio (Table YRN-2). -/
def resamplerRatio : Nat × Nat := (49152, 78125)

/-- Pass edge of a relay choice in twentieths of the rate (Table YRN-4). -/
def passEdge20 (c : Nat) : Nat := if c < 2 then 8 else if c < 4 then 7 else 6

/-- Stop edge of a relay choice in twentieths of the rate (Table YRN-4). -/
def stopEdge20 (c : Nat) : Nat := if c < 2 then 12 else if c < 4 then 10 else 8

/-- Whether a relay choice is deep (Table YRN-4). -/
def deepChoice (c : Nat) : Bool := c % 2 == 1

/-- Whether a relay choice is seam-capable (Table YRN-4). -/
def seamCapable (c : Nat) : Bool := decide (c < 2)

/-- Pass and stop edges of a relay response in Hz from the yarn centre (Table YRN-5). -/
def responseEdgesHz (rho c : Nat) : Nat × Nat :=
  (rateHz rho / 20 * passEdge20 c, rateHz rho / 20 * stopEdge20 c)

/-- Pass and stop edges of a measurement choice in twentieths of the rate (Table YRN-7). -/
def measEdges20 (m : Nat) : Nat × Nat :=
  if m < 2 then (8, 12) else if m < 4 then (8, 10) else (9, 10)

/-- The relay response index of a rate code and choice (R124). -/
def relayIndex (rho c : Nat) : Nat := 6 * (rho - 1) + c

/-- The measurement response index of a rate code and choice (R124). -/
def measIndex (rho m : Nat) : Nat := 48 + 6 * (rho - 1) + m

/-- What a response index names: a relay or measurement response, or nothing (R124). -/
inductive RespKind where
  | relay (rho c : Nat)
  | meas (rho m : Nat)
  deriving DecidableEq, Repr, Inhabited

def respOfIndex (i : Nat) : Option RespKind :=
  if i < 48 then some (.relay (i / 6 + 1) (i % 6))
  else if i < 96 then some (.meas ((i - 48) / 6 + 1) ((i - 48) % 6))
  else none

/-- The pass-band ripple of a relay choice in 1/100 dB, either way (Table YRN-4). -/
def relayRipple (c : Nat) : Nat := if deepChoice c then 5 else 10

/-- The pass-band ripple of a measurement choice in 1/100 dB, either way (Table YRN-7). -/
def measRipple (m : Nat) : Nat := if m % 2 = 1 then 5 else 10

/-- How far from the yarn centre the stop-band attenuation holds, kHz (R125). -/
def stopBandKhz : Nat := 6250000

/-- The flatness of the summed response across a seam in 1/100 dB, either way, and where two seam-capable responses are
amplitude-complementary, in twentieths of the rate from each centre (R139). -/
def seamFlatness : Nat := 15
def seamPoint20 : Nat := 10

/-- Unsettled counts of the responses, by index (Tables YRN-6 and YRN-7). -/
def unsettledTable : List Nat :=
  [13, 17, 13, 17, 13, 17] ++ [19, 31, 19, 31, 19, 31] ++ [27, 37, 33, 47, 33, 57] ++
    (List.replicate 5 [27, 37, 33, 47, 45, 67]).flatten ++
    (List.replicate 8 [27, 37, 45, 67, 81, 123]).flatten

/-- The unsettled count U of a response (R127, R128). -/
def unsettled (index : Nat) : Nat := unsettledTable.getD index 0

/-- Stop-band attenuation of the relay responses, dB, by index (Table YRN-6). -/
def relayAttenuation (index : Nat) : Nat :=
  ([21, 35, 18, 28, 14, 21] ++ [39, 71, 31, 55, 23, 39] ++ [60, 90, 59, 90, 42, 77] ++
    (List.replicate 5 [60, 90, 60, 90, 60, 90]).flatten).getD index 0

/-- Stop-band attenuation of the measurement choices, dB (Table YRN-7). -/
def measAttenuation (m : Nat) : Nat := if m % 2 = 0 then 60 else 90

/-- The length of a response in taps. DEDUCED (assumption 12): the unsettled count less 8, which the taps of
responses 1 and 43 and every group delay of Table YRN-8 bear out. -/
def respTaps (index : Nat) : Nat := unsettled index - 8

/-- Group delay of the measurement responses, ns, by index from 48 (Table YRN-8). -/
def measDelayTable : List Nat :=
  [2704, 4006, 5048, 7912, 9735, 15204] ++ [1436, 2087, 2608, 4040, 4952, 7686] ++
    [786, 1111, 1372, 2088, 2544, 3911] ++ [445, 608, 738, 1096, 1324, 2007] ++
    [274, 356, 421, 600, 714, 1056] ++ [185, 226, 258, 348, 405, 576] ++
    [141, 161, 177, 222, 250, 336] ++ [114, 124, 133, 155, 169, 212]

def measDelayNs (rho m : Nat) : Nat := measDelayTable.getD (measIndex rho m - 48) 0

/-- RX chain without response, ns (Table YRN-10); the TX chain without padding takes the same. -/
def chainNs (rho : Nat) : Nat := [0, 320, 224, 160, 112, 88, 72, 64, 56].getD rho 0

/-- Allowance for response and padding, ns (Table YRN-10). -/
def allowanceNs (rho : Nat) : Nat := [0, 1248, 1440, 1568, 1664, 1712, 1744, 1760, 1776].getD rho 0

/-- The parts of the relay delay in ns: converters with strand delay and ALIGN, the Lay fabric, the subtraction with the
gain stage, and the yarn chains (Table YRN-9). -/
def converterDelayNs : Nat := 80
def layDelayNs : Nat := 64
def stageDelayNs : Nat := 16
def yarnChainDelayNs (rho : Nat) : Nat := 2 * chainNs rho + allowanceNs rho
def relayDelayNs (rho : Nat) : Nat := converterDelayNs + layDelayNs + stageDelayNs + yarnChainDelayNs rho

/-- The parts of the Lay delay in ns: partial sum, hop, final sum, hop, TX weighting (Table LAY-5). -/
def layParts : List Nat := [8, 20, 8, 20, 8]

/-- The padding of a relay response: whole yarn samples and 1/1,024 sample (R130). -/
def padding (rho c : Nat) : Nat × Nat :=
  let num : Int := 2 * (allowanceNs rho : Int) * rateHz rho - ((respTaps (relayIndex rho c) : Int) - 1) * 1000000000
  let den : Int := 2000000000
  let whole := floorDiv num den
  let frac := floorDiv ((num - whole * den) * 2048 + den) (2 * den)
  if frac = 1024 then ((whole + 1).toNat, 0) else (whole.toNat, frac.toNat)

/-- The delay of a T3 tap, ns: RX converter and strand delay, RX chain and relay response (R342). -/
def tapDelayNs (rho c : Nat) : Nat :=
  40 + chainNs rho +
    ((respTaps (relayIndex rho c) - 1) * 1000000000 + rateHz rho) / (2 * rateHz rho)

/-- Twice the centre of yarn i of an arrangement, in kHz (R138). -/
def centre2 (fLo fHi rho k i : Nat) : Int :=
  (fLo : Int) + fHi + (2 * (i : Int) - ((k : Int) - 1)) * rateKhz rho

/-- Twice a centre in kHz to the nearest kHz (R144). DESIGN CHOICE (assumption 72): half a kHz is rounded up. -/
def centreKhz (c2 : Int) : Nat := (floorDiv (c2 + 1) 2).toNat

/-- Whether a frequency in kHz lies in the second Nyquist zone. -/
def zone2 (khz : Nat) : Bool := decide (6250000 < khz)

/-- The NCO word of a yarn whose doubled centre is c2 kHz (R122). -/
def ncoWord (c2 : Int) : Nat :=
  let d2 : Int := if 12500000 < c2 then 25000000 - c2 else c2
  (floorDiv (d2 * 8589934592 + 25000000) 50000000).toNat % two32

/-- The NCO phase, of 2^32 per turn, some converter periods after the last SYNC instant (R123). -/
def ncoPhase (word periods : Nat) : Nat := word * periods % two32

/-- The span of an arrangement in twentieths of a kHz (R138). -/
def span20 (rho c k : Nat) : Nat := 20 * (k - 1) * rateKhz rho + 2 * passEdge20 c * rateKhz rho

/-! ## Nyquist plan and zone response (R74, R75, R77) -/

/-- Whether a range in kHz lies wholly within one zone's usable part (R74). -/
def rangeInZone (lo hi : Nat) : Bool :=
  (decide (600000 ≤ lo) && decide (hi ≤ 6150000)) || (decide (6350000 ≤ lo) && decide (hi ≤ 7125000))

/-- Whether a zone-1 range lies less than 50 MHz from the image of a zone-2 range, in kHz (R75). -/
def imageClash (lo1 hi1 lo2 hi2 : Nat) : Bool :=
  let a : Int := 12500000 - hi2
  let b : Int := 12500000 - lo2
  decide ((lo1 : Int) - b < 50000) && decide (a - (hi1 : Int) < 50000)

/-- The points of Table CNV-3 as (MHz, 1/100 dB), NRZ then mix mode. -/
def zonePoints (mix : Bool) : List (Int × Int) :=
  if mix then [(600, -2250), (3000, -890), (5375, -470), (6150, -390), (6350, -380), (7125, -340)]
  else [(600, -3), (3000, -80), (5375, -270), (6150, -380)]

/-- Linear interpolation in a list of rising points, holding the end values; the answer carries a factor of
`scale`. -/
def interpolate (scale : Int) : List (Int × Int) → Int → Int
  | [], _ => 0
  | [p], _ => p.2 * scale
  | p :: q :: rest, x =>
    if x ≤ p.1 then p.2 * scale
    else if x ≤ q.1 then p.2 * scale + floorDiv ((q.2 - p.2) * scale * (x - p.1)) (q.1 - p.1)
    else interpolate scale (q :: rest) x

/-- The TX zone response at a frequency in kHz, in the dB unit of Machine/Decibel.lean (Table CNV-3). The
manual gives points; the line between them is DESIGN CHOICE (assumption 13). -/
def zoneResponse (mix : Bool) (khz : Nat) : Int :=
  interpolate 1310720 ((zonePoints mix).map fun p => (p.1 * 1000, p.2)) khz

/-! ## Strand delay (R82) -/

/-- The coarse and fine delay of a total in 1.25 ps units. -/
def delaySplit (total : Nat) : Nat × Nat :=
  let d := min total 17343
  let coarse := min (d / 64) 255
  (coarse, d - 64 * coarse)

/-- Whether a total delay is applied saturated. -/
def delaySaturates (total : Nat) : Bool := decide (17343 < total)

/-- The through-delay between two strands in 1.25 ps units (R84). -/
def throughDelay (array1 array2 : Nat) : Nat := 1638400 + array1 + array2

/-- An RX sample as the converter saturates it (R72): words 0x7FFC and 0x8000. -/
def rxSaturate (x : Int) : Int := max (min x 32764) (-32768)

/-- One component of a TX strand sum (R137). -/
def txSaturate (x : Int) : Int := max (min x 32767) (-32767)

/-! ## Symbols and TDD patterns (R168, R269) -/

/-- Converter periods of 1/30.72 us: a tick holds 15,360 of them. -/
def tickUnits : Nat := 15360

/-- Uplink symbol starts of one period in units of 1/30.72 us, and the ticks of the period (Table LAY-7). -/
def symbolStarts (ulScs : Nat) : List Nat × Nat :=
  if ulScs = 0 then ((List.range 7).map fun j => if j = 0 then 0 else 2208 + 2192 * (j - 1), 1)
  else if ulScs = 1 then ((List.range 14).map fun j => if j = 0 then 0 else 1112 + 1096 * (j - 1), 1)
  else ((List.range 7).map fun j => 8448 * j, 4)

/-- The length of period code P in units of 1/8 ms (Table PRT-2). -/
def periodEighths (p : Nat) : Nat := [0, 4, 5, 8, 10, 16, 20, 40, 80].getD p 0

/-- Slots of period code P; none where it is not whole (R269). A slot of SCS 0 lasts 1 ms. -/
def periodSlots (scs p : Nat) : Option Nat :=
  let e := periodEighths p
  let slot := if scs = 0 then 8 else 4
  if e % slot = 0 then some (e / slot) else none

/-- One period of a pattern is well formed (R269). -/
def periodValid (scs p d ds u us : Nat) : Bool :=
  match periodSlots scs p with
  | none => false
  | some s =>
    decide (d + u ≤ s) && (decide (d + u ≠ s) || (ds == 0 && us == 0)) &&
      (decide (d + u + 1 ≠ s) || decide (ds + us ≤ 14))

/-- A pattern is valid (R269). -/
def Pattern.valid (p : Pattern) : Bool :=
  let e := periodEighths p.p1 + periodEighths p.p2
  periodValid p.scs p.p1 p.d1 p.ds1 p.u1 p.us1 &&
    (p.p2 == 0 || periodValid p.scs p.p2 p.d2 p.ds2 p.u2 p.us2) &&
    decide (0 < e) && decide (160 % e = 0) &&
    decide (p.offs < (periodSlots p.scs p.p1).getD 0 + (if p.p2 = 0 then 0 else (periodSlots p.scs p.p2).getD 0))

/-- The direction of a symbol: 0 downlink, 1 uplink, 2 flexible. -/
def symbolOfPeriod (s d ds u us slot sym : Nat) : Nat :=
  if slot < d then 0
  else if s ≤ slot + u then 1
  else if slot = d ∧ sym < ds then 0
  else if slot + 1 + u = s ∧ 14 ≤ sym + us then 1
  else 2

/-- The direction of symbol `sym` of a slot counted from the pattern's start (R269). -/
def Pattern.symbol (p : Pattern) (slot sym : Nat) : Nat :=
  let s1 := (periodSlots p.scs p.p1).getD 1
  let s2 := if p.p2 = 0 then 0 else (periodSlots p.scs p.p2).getD 0
  let k := slot % (s1 + s2)
  if k < s1 then symbolOfPeriod s1 p.d1 p.ds1 p.u1 p.us1 k sym
  else symbolOfPeriod s2 p.d2 p.ds2 p.u2 p.us2 (k - s1) sym

/-- The slot, counted from the pattern's start, that a tick of the even-frame grid falls in (R269): the
sequence repeats from every frame with even SFN, later by TDD_OFFS slots. -/
def Pattern.slotOfTick (p : Pattern) (sfn tif : Nat) : Nat :=
  let t := 20 * (sfn % 2) + tif
  let slot := if p.scs = 0 then t / 2 else t
  let n := if p.scs = 0 then 20 else 40
  (slot + n - p.offs % n) % n

/-- The symbols of a tick with their directions: 7 of 15 kHz, in the half of the slot that the tick holds,
or 14 of 30 kHz. -/
def Pattern.tickSymbols (p : Pattern) (sfn tif : Nat) : List Nat :=
  let slot := p.slotOfTick sfn tif
  if p.scs = 0 then (List.range 7).map fun j => p.symbol slot (7 * (tif % 2) + j)
  else (List.range 14).map fun j => p.symbol slot j

/-- The tick after and the tick before one, as (SFN, TIF) (R44). -/
def tickAfter (t : Nat × Nat) : Nat × Nat := if t.2 = 19 then ((t.1 + 1) % 1024, 0) else (t.1, t.2 + 1)
def tickBefore (t : Nat × Nat) : Nat × Nat := if t.2 = 0 then ((t.1 + 1023) % 1024, 19) else (t.1, t.2 - 1)

/-- An instant of the symbol grid, in units of 1/30.72 us, in ps. -/
def unitsPs (u : Int) : Int := floorDiv (u * 3125000 + 48) 96

/-- The start of symbol j of a tick in units of 1/30.72 us; j past the last symbol is the end of the tick (R59, Table
LAY-7). -/
def symbolUnits (scs j : Nat) : Nat := (symbolStarts scs).1.getD j tickUnits

/-- Where the symbols of a direction of a tick lie, in units of 1/30.72 us from its T0. -/
def Pattern.spans (p : Pattern) (t : Nat × Nat) (dir : Nat) : List (Int × Int) :=
  let syms := p.tickSymbols t.1 t.2
  ((List.range syms.length).filter fun j => syms.getD j 2 == dir).map fun j =>
    ((symbolUnits p.scs j : Int), (symbolUnits p.scs (j + 1) : Int))

/-- Where the symbols of a direction of a tick and of its neighbours lie, in ps from its T0 and later by `shift` ps. -/
def Pattern.spansPs (p : Pattern) (sfn tif dir : Nat) (shift : Int) : List (Int × Int) :=
  let at_ (t : Nat × Nat) (k : Int) : List (Int × Int) := (p.spans t dir).map fun e =>
    (unitsPs (e.1 + k * tickUnits) + shift, unitsPs (e.2 + k * tickUnits) + shift)
  at_ (tickBefore (sfn, tif)) (-1) ++ at_ (sfn, tif) 0 ++ at_ (tickAfter (sfn, tif)) 1

/-- Whether some span meets the interval [lo, hi). -/
def spansMeet (l : List (Int × Int)) (lo hi : Int) : Bool := l.any fun e => decide (e.1 < hi) && decide (lo < e.2)

/-- Whether a tick holds a symbol of a direction. -/
def Pattern.tickHas (p : Pattern) (sfn tif dir : Nat) : Bool := (p.tickSymbols sfn tif).any (· == dir)

/-! ## Leadline (R338, R342, R343, R344) -/

/-- E(N, k) over 360,360 (R338). -/
def rankMean (n k : Nat) : Nat := ((List.range k).map fun j => 360360 / (n - j)).sum

/-- v(N, k) over 360,360 squared (R344). -/
def rankVar (n k : Nat) : Nat := ((List.range k).map fun j => (360360 / (n - j)) ^ 2).sum

/-- Whether a rank filter is allowed (R338). -/
def rankValid (n k : Nat) : Bool := decide (n ∈ [3, 5, 7, 9, 11, 13, 15]) && decide (1 ≤ k) && decide (k ≤ n)

/-- D_rank in ns, rounded (Table LDL-5). -/
def rankDelayNs (rho n : Nat) : Nat := ((n + 3) * 1000000000 + rateHz rho) / (2 * rateHz rho)

/-- T_out in tenths of a ns (Table LDL-3). -/
def outPeriod10 (outr : Nat) : Nat := [714290, 357140, 2750000, 10000, 40000, 160000, 640000].getD outr 1

/-- D_res in ns, rounded (Table LDL-3). -/
def outDelayNs (outr : Nat) : Nat := [33333, 16667, 133333, 1000, 4000, 16000, 64000].getD outr 0

/-- The unsettled outputs U_L of a marking event whose run lasts `samples` yarn samples (R343). -/
def unsettledOutputs (rho outr samples : Nat) : Nat :=
  let num := samples * 10000000000
  let den := rateHz rho * outPeriod10 outr
  (num + den - 1) / den + (if outr < 3 then 1 else 2)

/-! ## Memory (R437 to R439, R441, R447) -/

/-- The size of a bank in bytes; die 8 is the Bowline (Table MEM-1). -/
def bankSize (die bank : Nat) : Nat := if die = 8 then (if bank < 4 then 4194304 else 0) else if bank < 3 then 2097152 else 0

/-- The handler region of a bank: the bytes from 0 up to the answer (Table MEM-1). -/
def handlerSize (die bank : Nat) : Nat :=
  if die = 8 then (if bank = 0 then 0x40000 else if bank = 1 then 0x10000 else 0)
  else if bank = 0 then 0x10000 else 0

/-- Whether a bank can be tested destructively in MAINTENANCE at all (Table MEM-1). -/
def bankDestructible (die bank : Nat) : Bool := die != 8 || bank == 3

/-- The sub-bank of a byte address (R439). -/
def subBank (addr : Nat) : Nat := addr / 64 % 32

/-- Whether two accesses of one cycle conflict: one sub-bank, different words (R439). -/
def portConflict (a b : Nat) : Bool := subBank a == subBank b && decide (a / 8 ≠ b / 8)

/-- One port's access to a word: the byte lanes it writes with their values; none written is a read. -/
abbrev WordLanes := List (Nat × Byte)

/-- The word that two accesses of one cycle leave, and whether they are a collision; a port that reads gets the old word
(Table MEM-3). -/
def portsOnWord (word : List Byte) (a b : WordLanes) : List Byte × Bool :=
  let put (w : List Byte) (l : WordLanes) : List Byte := l.foldl (fun w e => w.set e.1 e.2) w
  (put (put word b) a, a.any fun e => b.any fun f => e.1 = f.1)

/-- The words that an access of some bytes touches, in ascending order (R441). -/
def wordsTouched (addr len : Nat) : List Nat :=
  if len = 0 then [] else (List.range ((addr + len - 1) / 8 - addr / 8 + 1)).map (addr / 8 + ·)

/-- DRAM channel of an address (R451) and the base of the record of an endpoint (Table MEM-6). -/
def dramChannel (addr : Nat) : Nat := addr / 4096 % 8
def endpointAddr (e : Nat) : Nat := 0x10000000 + 256 * e
def codebookAddr (bg e : Nat) : Nat := 0x14000000 + bg * 0x200000 + e * 512
def isolationAddr (bg e : Nat) : Nat := 0x14000000 + 0x1000000 + bg * 0x20000 + e * 32

/-- The capture region in MB for a density code (R453). -/
def captureMb (dens : Nat) : Nat := if dens = 0 then 0 else dens * 32768 - 368

/-! ## Package (R537 to R539, R544, R552, R558) -/

/-- ILIM in amperes from the ILIM_SET resistor in ohms; none for an open or shorted contact (R544). -/
def ilimOf (r : Option Nat) : Nat :=
  match r with
  | none => 8
  | some r => if r < 9600 ∨ 31200 < r then 8 else min 24 (max 8 ((480000 + r) / (2 * r)))

/-- The row and column of an RF contact of strand g: RX or TX, P or N (R538, Table PKG-2). -/
def rfContact (g : Nat) (tx neg : Bool) : Nat × Nat :=
  let t := g / 8
  let u := g % 8 + (if tx then 8 else 0)
  let n := bitNat neg
  if t ≤ 7 then (3 * (u % 4) + 1 + n, 11 * t + 2 + 2 * (u / 4))
  else (88 - 3 * (u % 4) - n, 11 * (t - 8) + 2 + 2 * (u / 4))

/-- The row and column of a Lanyard contact: signal 0 CLK, 1 FRM, 2 DAT (R537, Table PKG-1). -/
def lydContact (p sig : Nat) (neg : Bool) : Nat × Nat :=
  let col := 11 * (p % 8) + 2 + 2 * sig
  if p ≤ 7 then (14 + bitNat neg, col) else (75 - bitNat neg, col)

/-- The row and column of a Splice lane contact (R537, Table PKG-1). -/
def spliceContact (s l : Nat) (rx neg : Bool) : Nat × Nat :=
  let r := if s % 2 = 0 then 20 else 48
  let col := if s ≤ 1 then (if rx then 5 else 2) else (if rx then 84 else 87)
  (r + 3 * l + bitNat neg, col)

/-- The first row and column of a DRAM channel's block (R539). -/
def dramBlock (c : Nat) : Nat × Nat := (if c ≤ 3 then 17 else 61, 12 + 16 * (c % 4))

/-- The JTAG IDCODE (R558). -/
def idcode (i : Ident) : Nat := i.stepMaj % 16 * 2 ^ 28 + Config.deviceId i.member * 2 ^ 12 + 0x1D3 * 2 + 1

/-- Junction rise over the lid at full work in tenths of a degree: hawser, tile, Bowline (Table PKG-10). -/
def junctionRise10 : List Nat := [210, 188, 224]

end Sys2Proof.Machine
end

