-- ==== Sys2Proof/Machine/Operands.lean ====
section
/-! DEFINITION. What several families read of the committed plan: segments, strands and their sides, the
strands that run, the beams that are formed and their weights (R6, R117, R146 to R158, R172, R173). -/

namespace Sys2Proof.Machine

/-! ## Plans and segments -/

/-- The loaded plan of R151: the plan most recently accepted, committed or waiting. -/
def PlanSt.loaded (p : PlanSt) : Option Plan :=
  match p.pending with
  | some q => some q.plan
  | none => p.committed

/-- Whether a segment relays in a direction: 0 downlink, 1 uplink (Table PRT-2). -/
def Seg.has (s : Seg) (dir : Nat) : Bool :=
  if s.duplex = 1 then true else if dir = 0 then s.dir == 1 else s.dir == 2

/-- The index of the segment of a band group and direction (check 12 of Table PRT-3 leaves at most one). -/
def Plan.segIndex (p : Plan) (bg dir : Nat) : Option Nat :=
  p.segs.findIdx? fun s => s.bg == bg && s.has dir

/-- The segment of a band group and direction. -/
def Plan.seg (p : Plan) (bg dir : Nat) : Option Seg := (p.segIndex bg dir).bind fun i => p.segs[i]?

/-- The strands of a plan with a side. -/
def Plan.used (p : Plan) : List Nat := (List.range 128).filter fun g => p.side g != 0

/-- The segment of a band group and direction in the committed plan. -/
def Dev.seg (d : Dev) (bg dir : Nat) : Option Seg := d.plan.committed.bind fun p => p.seg bg dir

/-- HANK_OK of a segment. -/
def Seg.hankOk (s : Seg) : Bool := s.flags % 2 == 1

/-- The doubled yarn centre of a position of a segment, kHz (R138). -/
def Seg.centre2 (s : Seg) (i : Nat) : Int := Machine.centre2 s.fLo s.fHi s.yrate s.ycount i

/-- Credits of one arrangement on one strand. -/
def Seg.credits (s : Seg) : Nat := s.ycount * creditCost s.yrate

/-- The side that receives in a direction, and the side that transmits (Table YRN-1). -/
def rxSide (dir : Nat) : Nat := if dir = 0 then 1 else 2
def txSide (dir : Nat) : Nat := if dir = 0 then 2 else 1

/-- Whether a segment is shed under step 6 of Table REF-5: everywhere, or on one hawser by a fit (R373). -/
def RPlan.segShed (r : RPlan) (i : Nat) : Bool := r.shed.any fun s => s.step == 6 && s.num == i && s.hawser == 0
def RPlan.segShedOn (r : RPlan) (i h : Nat) : Bool :=
  r.shed.any fun s => s.step == 6 && s.num == i && (s.hawser == 0 || s.hawser == h + 1)

/-- Whether a service beam is shed under step 4. -/
def RPlan.beamShed (r : RPlan) (bg b : Nat) : Bool := r.shed.any fun s => s.step == 4 && s.num == 64 * bg + b

/-! ## Weights (R150 to R158) -/

/-- The components of a weight word. -/
def weightI (w : Nat) : Int := toSigned 16 w
def weightQ (w : Nat) : Int := toSigned 16 (w / 65536)

/-- A weight word from components, saturating at +-32,767 (R153). -/
def mkWeight (i q : Int) : Nat :=
  ofSigned 16 (txSaturate i) + 65536 * ofSigned 16 (txSaturate q)

/-- The complex conjugate of a weight (R154): I stays as it is. DESIGN CHOICE (assumption 69): Q = -32,768, whose
negative has no code, becomes +32,767. -/
def conjWeight (w : Nat) : Nat := w % 65536 + 65536 * ofSigned 16 (min (-weightQ w) 32767)

/-- |w|^2 with 1.0 = 2^28. -/
def weightSq (w : Nat) : Nat := ((weightI w) ^ 2 + (weightQ w) ^ 2).toNat

/-- Unit weight. -/
def unitWeight : Nat := 16384

/-- A vector conjugated. -/
def Vec.conj (v : Vec) : Vec := v.map fun e => (e.1, conjWeight e.2)

/-- The weight of a strand in a vector. -/
def Vec.at (v : Vec) (g : Nat) : Nat := ((v.find? fun e => e.1 == g).map (·.2)).getD 0

/-- A vector on the strands of a side that the plan runs; other stored weights are treated as 0 (R151). -/
def Dev.live (d : Dev) (r : RPlan) (m : Mode) (side : Nat) (v : Vec) : Vec :=
  v.filter fun e => e.2 != 0 && d.side e.1 == side && d.strandCounts r m e.1

/-- The default vector of a guard or donor beam: weight 1.0 on the chosen strand (R158). -/
def Beams.default (b : Beams) (key : Nat) : Vec :=
  match b.defStrand.find? fun e => e.1 == key with
  | some e => [(e.2, unitWeight)]
  | none => []

/-- The key of the default strand of a side: 2 for guard beams, 1 for donor beams. -/
def Beams.stored (b : Beams) (bg idx : Nat) : Option BeamVec := b.vecs.find? fun v => v.bg == bg && v.idx == idx

/-- The settings of a band group (R157). -/
def Beams.group (b : Beams) (bg : Nat) : Group := b.groups.getD bg Group.reset

/-- The codebook entry E of a band group. -/
def Beams.entry (b : Beams) (bg e : Nat) : Option CodeEnt := b.code.find? fun x => x.bg == bg && x.e == e

/-- The RX vector of a codebook entry; an entry that nothing has written has no weight (R158). -/
def Beams.entryVec (b : Beams) (bg e : Nat) : Vec := ((b.entry bg e).map (·.rx)).getD []

/-- The isolation record of an entry while VALID is 1 (R205). -/
def Beams.entryIso (b : Beams) (bg e : Nat) : Option EntryRec :=
  (b.entry bg e).bind fun x => x.iso.bind fun r => if r.valid then some r else none

/-- The entry of the network beam indication in force for a band group (R171). -/
def Beams.network (b : Beams) (bg : Nat) : Option Nat := (b.netBeam.find? fun e => e.1 == bg).map (·.2)

/-- The claimed and switched slot of a beam number. -/
def Beams.slot (b : Beams) (bg idx : Nat) : Option Slot := b.slots.find? fun s => s.bg == bg && s.idx == idx

/-- The vector that a claimed slot has or will have: the endpoint's entry as the switch took it, before it the entry's
present one (R155, R169). -/
def Beams.slotVec (b : Beams) (s : Slot) : Vec := if s.on then s.vec else b.entryVec s.bg s.entry

/-- The stored RX vector of a service beam: the network indication's entry, the vector that a slot's switch took, the
host's vector, or the default of the guard beam (R155, R158). -/
def Dev.serviceRx (d : Dev) (bg b : Nat) : Vec :=
  match d.beams.network bg with
  | some e => d.beams.entryVec bg e
  | none =>
    if (d.beams.group bg).fixed ≤ b then
      match d.beams.slot bg b with
      | some s => if s.on then s.vec else []
      | none => []
    else match d.beams.stored bg b with
      | some v => v.rx
      | none => if b = 0 then d.beams.default 2 else []

/-- The stored TX vector of a guard or fixed service beam; codebook entries use RECIP (R154). -/
def Dev.serviceTx (d : Dev) (bg b : Nat) : Vec :=
  match d.beams.network bg with
  | some e => Vec.conj (d.beams.entryVec bg e)
  | none => match d.beams.stored bg b with
    | some v => v.tx.getD (Vec.conj v.rx)
    | none => if b = 0 then d.beams.default 2 else []

/-- The vectors of the donor beam that a band group binds. -/
def Dev.donorRx (d : Dev) (bg : Nat) : Vec :=
  match d.beams.stored 8 (d.beams.group bg).donor with
  | some v => v.rx
  | none => d.beams.default 1
def Dev.donorTx (d : Dev) (bg : Nat) : Vec :=
  match d.beams.stored 8 (d.beams.group bg).donor with
  | some v => v.tx.getD (Vec.conj v.rx)
  | none => d.beams.default 1

/-! ## Formed beams (R148, R165, R166, R172, R173) -/

/-- Whether the mode forms beams at all (Table LAY-6). -/
def formsBeams : Mode → Bool
  | .hank | .survey | .standby | .muted | .relayOpen | .relaySteered | .relayNetwork => true
  | _ => false

/-- The guard and fixed beams that a mode forms: in HANK and under a network indication number 0 alone (Table LAY-6). -/
def Dev.namedBeams (d : Dev) (m : Mode) (bg : Nat) : List Nat :=
  if m = .hank ∨ (d.beams.network bg).isSome then [0] else List.range (d.beams.group bg).fixed

/-- The vector that decides whether a service beam keeps a strand: a claimed slot's endpoint's, else its RX vector
(R168, R173). -/
def Dev.formVec (d : Dev) (bg b : Nat) : Vec :=
  match d.beams.slot bg b with
  | some s => if (d.beams.group bg).fixed ≤ b ∧ (d.beams.network bg).isNone then d.beams.slotVec s else d.serviceRx bg b
  | none => d.serviceRx bg b

/-- The formed service beams of a band group under a governor plan, in rising order (Tables LAY-2 and LAY-6). While a
network indication is in force, the indicated beam is the only one and takes number 0 (assumption 20). In a mode that
relays, a group whose guard beam has no receiving strand relays no uplink (R173). -/
def Dev.serviceBeams (d : Dev) (r : RPlan) (m : Mode) (bg : Nat) : List Nat :=
  if !formsBeams m || (relays m && (d.live r m 2 (d.serviceRx bg 0)).isEmpty) then []
  else
    let g := d.beams.group bg
    let slots : List Nat :=
      if (m = .relaySteered ∨ m = .relayNetwork) ∧ (d.beams.network bg).isNone then
        ((List.range g.sbeams).drop g.fixed).filter fun b => (d.beams.slot bg b).isSome
      else []
    (d.namedBeams m bg ++ slots).filter fun b =>
      (b == 0 || !r.beamShed bg b) && !(d.live r m 2 (d.formVec bg b)).isEmpty

/-- The guard and fixed beams over which the downlink of a band group is distributed. In a mode that relays, a group whose
guard beam has no transmitting strand relays no downlink (R173). -/
def Dev.downlinkBeams (d : Dev) (r : RPlan) (m : Mode) (bg : Nat) : List Nat :=
  if !formsBeams m || (relays m && (d.live r m 2 (d.serviceTx bg 0)).isEmpty) then []
  else (d.namedBeams m bg).filter fun b =>
    (b == 0 || !r.beamShed bg b) && !(d.live r m 2 (d.serviceTx bg b)).isEmpty

/-- The steering slots of a band group that a governor plan holds in the steered modes, claimed or not (R43, R172): a
claim inside the tick adds no beam to them. -/
def Dev.planSlots (d : Dev) (r : RPlan) (m : Mode) (bg : Nat) : List Nat :=
  if m = .relaySteered ∨ m = .relayNetwork then
    let g := d.beams.group bg
    ((List.range g.sbeams).drop g.fixed).filter fun b => !r.beamShed bg b
  else []

/-- Whether the donor beam of a band group is formed. -/
def Dev.donorFormed (d : Dev) (r : RPlan) (m : Mode) (bg : Nat) : Bool :=
  formsBeams m && !(d.live r m 1 (d.donorRx bg)).isEmpty

/-- Whether the mode runs a segment's relay forms: in HANK only with HANK_OK (R263). -/
def segInMode (m : Mode) (s : Seg) : Bool := m != .hank || s.hankOk

/-- Whether an uplink schedule gates a tick (R367): bit 20 x (SFN mod 2^P) + TIF is 0. -/
def UlSched.gates (u : UlSched) (sfn tif : Nat) : Bool :=
  !(u.bits.getD (20 * (sfn % 2 ^ u.log2) + tif) true)

/-- The uplink symbol starts of a segment at the service-side RX contacts, in ps from T0 of a tick, that fall in that
tick's Run window up to `runEnd` (R168, Table LAY-7). In a TDD segment only starts inside the pattern's uplink symbols
count. -/
def Seg.ulStarts (s : Seg) (t : Nat × Nat) (runEnd : Int) : List Int :=
  let (starts, ticks) := symbolStarts s.ulScs
  let back := t.2 % ticks
  let inUplink (u : Int) : Bool := s.duplex == 0 ||
    ([((-1 : Int), tickBefore t), (0, t), (1, tickAfter t)].any fun e =>
      (s.pat.spans e.2 1).any fun p => decide (p.1 + e.1 * tickUnits ≤ u) && decide (u < p.2 + e.1 * tickUnits))
  let grid := [-1, 0, 1].flatMap fun k => starts.map fun x => ((ticks : Int) * k - back) * tickUnits + x
  ((grid.filter inUplink).map fun u => unitsPs u + 1000 * s.ulOffs - 2048000).filter fun x =>
    decide (24000000 ≤ x) && decide (x < runEnd)

/-- Whether no uplink symbol of a TDD segment has a contact time, on either side, within [T0 - 8 us, T0 + 508 us)
(R366). The service side's lie 2,048 ns before the donor side's (R110). -/
def patternGates (s : Seg) (sfn tif : Nat) : Bool :=
  s.duplex == 1 &&
    [(0 : Int), -2048000].all fun side =>
      !spansMeet (s.pat.spansPs sfn tif 1 (1000 * s.ulOffs + side)) (-8000000) 508000000

/-- Whether a tick is gated for a segment (R366). -/
def Dev.gated (d : Dev) (m : Mode) (s : Seg) (sfn tif : Nat) : Bool :=
  relays m && s.has 1 &&
    ((d.use.reefCfg.bit 13 && patternGates s sfn tif) ||
      d.reef.sched.any fun u => u.bg == s.bg && u.gates sfn tif)

/-- What an UL.SCHED changes: a later one of the group takes its place (R367). -/
def Dev.applySched (d : Dev) (on : Bool) (u : UlSched) : Dev :=
  let keep := d.reef.sched.filter fun x => x.bg != u.bg
  { d with reef := { d.reef with sched := if on then keep ++ [u] else keep } }

/-- Whether a change is due at the Plan window of a tick: a schedule at the first frame of its period from its effective tick
on (R39, R367). -/
def Pend.due (p : Pend) (t : TimeSt) : Bool :=
  match p.what with
  | .sched _ u from_ => tickDue t.n from_ && t.tif == 0 && t.sfn % 2 ^ u.log2 == 0
  | _ => tickDue t.n p.tick

/-- The uplink schedules that a frame brings (R367). -/
def Dev.takeScheds (d : Dev) (t : TimeSt) : Dev :=
  let sched (p : Pend) : Bool := match p.what with
    | .sched _ _ _ => true
    | _ => false
  let hit (p : Pend) : Bool := sched p && p.due t
  (d.pend.filter hit).foldl
    (fun d p => match p.what with
      | .sched on u _ => d.applySched on u
      | _ => d)
    { d with pend := d.pend.filter fun p => !hit p }

/-- The beam yarns formed in a mode under a governor plan (R148, R368, R371): one for every formed beam and position of
its group's arrangements; in a mode that relays, a downlink that no beam distributes has none (R173). -/
def Dev.formedYarns (d : Dev) (c : Ctx) (r : RPlan) (m : Mode) : List Nat :=
  match d.plan.committed with
  | none => []
  | some p =>
    (List.range 8).flatMap fun bg =>
      let down : List Nat := match p.segIndex bg 0 with
        | none => []
        | some i => match p.segs[i]? with
          | none => []
          | some s =>
            if !segInMode m s ∨ r.segShed i ∨ !d.donorFormed r m bg ∨
                (relays m ∧ (d.downlinkBeams r m bg).isEmpty) then []
            else (List.range s.ycount).map fun pos => mkByid 0 bg 0 pos
      let up : List Nat := match p.segIndex bg 1 with
        | none => []
        | some i => match p.segs[i]? with
          | none => []
          | some s =>
            if !segInMode m s ∨ r.segShed i ∨ d.gated m s c.time.sfn c.time.tif then []
            else (d.serviceBeams r m bg).flatMap fun b =>
              (List.range s.ycount).map fun pos => mkByid 1 bg b pos
      down ++ up

/-- The state without uplink gating: Belay's beam yarns run on through gated ticks (R368). -/
def Dev.ungated (d : Dev) : Dev :=
  { d with
    use := { d.use with reefCfg := d.use.reefCfg &&& 0xFFFFDFFF#32 }
    reef := { d.reef with sched := [] } }

/-- The mode whose beam yarns Belay serves: the mode, or the return mode of MUTED (R226). -/
def ModeSt.belayMode (m : ModeSt) : Mode :=
  match m.mode, m.ret with
  | .muted, some r => r
  | k, _ => k

/-- The beam yarns formed now, under the committed governor plan. -/
def Dev.formedNow (d : Dev) (c : Ctx) : List Nat := d.formedYarns c d.reef.plan c.mode

/-- The segment of a beam yarn in the committed plan. -/
def Dev.segOfByid (d : Dev) (byid : Nat) : Option Seg := d.seg (byidBg byid) (byidDir byid)

/-- The yarn rate code of a beam yarn; 0 where the committed plan gives it none. -/
def Dev.rhoOf (d : Dev) (byid : Nat) : Nat := ((d.segOfByid byid).map (·.yrate)).getD 0

/-! ## The settings of a band group and direction (R257) -/

/-- The index of a band group and direction in the list of settings. -/
def setIdx (bg dir : Nat) : Nat := 2 * bg + dir

/-- The settings of a band group and direction. -/
def Belay.set (b : Belay) (bg dir : Nat) : GainSet := b.sets.getD (setIdx bg dir) GainSet.reset

/-! ## Distribution (Table LAY-2, R153) -/

/-- The downlink distribution weights: the saturating sum of the TX vectors of the formed guard and fixed
beams, or the indicated beam's alone. -/
def Dev.downlinkTx (d : Dev) (r : RPlan) (m : Mode) (bg : Nat) : Vec :=
  let vs := (d.downlinkBeams r m bg).map fun b => d.live r m 2 (d.serviceTx bg b)
  let gs := (List.range 128).filter fun g => vs.any fun v => v.any fun e => e.1 == g
  gs.map fun g =>
    (g, mkWeight ((vs.map fun v => weightI (Vec.at v g)).sum) ((vs.map fun v => weightQ (Vec.at v g)).sum))

/-- How many strands' summed weights saturate (R153). -/
def Dev.downlinkSaturations (d : Dev) (r : RPlan) (m : Mode) (bg : Nat) : Nat :=
  let vs := (d.downlinkBeams r m bg).map fun b => d.live r m 2 (d.serviceTx bg b)
  ((List.range 128).filter fun g =>
    let i := (vs.map fun v => weightI (Vec.at v g)).sum
    let q := (vs.map fun v => weightQ (Vec.at v g)).sum
    decide (txSaturate i ≠ i) || decide (txSaturate q ≠ q)).length

/-- The combining vector of a beam yarn and the vector that transmits it, on the strands that count. -/
def Dev.rxVecOf (d : Dev) (r : RPlan) (m : Mode) (byid : Nat) : Vec :=
  if byidDir byid = 0 then d.live r m 1 (d.donorRx (byidBg byid))
  else d.live r m 2 (d.serviceRx (byidBg byid) (byidBeam byid))
def Dev.txVecOf (d : Dev) (r : RPlan) (m : Mode) (byid : Nat) : Vec :=
  if byidDir byid = 0 then d.downlinkTx r m (byidBg byid)
  else d.live r m 1 (d.donorTx (byidBg byid))

/-! ## Lists of unit states -/

/-- Change the entry of hawser h in the first part of its counts. -/
def Dev.onHwsA (d : Dev) (h : Nat) (f : HwsA → HwsA) : Dev := { d with hwsA := d.hwsA.modify h f }

/-- Change the entry of hawser h in the second part of its counts. -/
def Dev.onHwsB (d : Dev) (h : Nat) (f : HwsB → HwsB) : Dev := { d with hwsB := d.hwsB.modify h f }

end Sys2Proof.Machine
end

