-- ==== Sys2Proof/Machine/Frames.lean ====
section
/-! DEFINITION. Lanyard frames and the front-end tables (R97 to R106, R113, R115): frame words, queues, the
paths of a strand and what they cover, and which PAs the device may enable. -/

namespace Sys2Proof.Machine

/-! ## Frames (R99, R100) -/

/-- A Lanyard frame word with its CRC (Table CNV-5). -/
def lydFrame (node op reg exec data : Nat) (bcast : Bool) : Nat :=
  let body := node % 8 * 2 ^ 53 + op % 16 * 2 ^ 49 + reg % 256 * 2 ^ 41 + exec % 65536 * 2 ^ 25 +
    data % 2 ^ 24 * 2 + bitNat bcast
  body * 256 + crc8 56 body 0

/-- The fields of a frame word (Table CNV-5). -/
def frameNode (w : Nat) : Nat := w / 2 ^ 61 % 8
def frameOp (w : Nat) : Nat := w / 2 ^ 57 % 16
def frameReg (w : Nat) : Nat := w / 2 ^ 49 % 256
def frameExec (w : Nat) : Nat := w / 2 ^ 33 % 65536
def frameData (w : Nat) : Nat := w / 2 ^ 9 % 2 ^ 24
def frameBcast (w : Nat) : Bool := w / 2 ^ 8 % 2 == 1

/-- Operation codes (Table CNV-6). -/
def opRd : Nat := 2
def opTrx : Nat := 3
def opPa : Nat := 4
def opLna : Nat := 5
def opPag : Nat := 6
def opKill : Nat := 7
def opPoll : Nat := 8

/-- The port of a strand's node (R97). -/
def portOf (g : Nat) : Nat := g / 8

/-- Whether port p is enabled and fitted (Table CNV-9). -/
def Dev.portOn (d : Dev) (c : Ctx) (p : Nat) : Bool :=
  d.use.lydCfg.bit p && decide (p < Config.tiles c.ident.member)

/-- The enabled ports. -/
def Dev.ports (d : Dev) (c : Ctx) : List Nat := (List.range 16).filter fun p => d.portOn c p

/-- Queue frames behind the others. -/
def Dev.queueFrames (d : Dev) (fs : List QFrame) : Dev :=
  { d with lyd := { d.lyd with queue := d.lyd.queue ++ fs } }

/-- Queue frames ahead of any queued frame (R105, R107). -/
def Dev.queueFirst (d : Dev) (fs : List QFrame) : Dev :=
  { d with lyd := { d.lyd with queue := fs ++ d.lyd.queue } }

/-- The node of a strand. -/
def Dev.node (d : Dev) (g : Nat) : Node := d.lyd.nodes.getD g Node.reset

/-- Change the node of a strand. -/
def Dev.onNode (d : Dev) (g : Nat) (f : Node → Node) : Dev :=
  { d with lyd := { d.lyd with nodes := d.lyd.nodes.modify g f } }

/-- Bit `i` of a mask. -/
def maskBit (m i : Nat) : Bool := m / 2 ^ i % 2 == 1

/-- A mask with bit `i` set to a value. -/
def setBit (m i v : Nat) : Nat := m - (m / 2 ^ i % 2) * 2 ^ i + (v % 2) * 2 ^ i

/-- The gain state that was commanded last for an operation, LNA or PAG, on a path of a node. -/
def Node.gain (n : Node) (op path : Nat) : Option Nat := (n.gains.find? fun e => e.1 == 4 * op + path).map (·.2)

/-- A node after a gain state was commanded (Table CNV-6). -/
def Node.setGain (n : Node) (op path st : Nat) : Node :=
  { n with gains := (n.gains.filter fun e => e.1 != 4 * op + path) ++ [(4 * op + path, st)] }

/-- The commanded state of a node after an operation (Table CNV-6). An LNA that is enabled takes its gain state with it. -/
def Node.after (n : Node) (op path data : Nat) : Node :=
  if op = opTrx then { n with tr := setBit n.tr path data }
  else if op = opPa then { n with pa := setBit n.pa path data }
  else if op = opLna then
    let on : Node := { n with lna := setBit n.lna path (data / 4) }
    if data / 4 % 2 = 1 then on.setGain opLna path (data % 4) else on
  else if op = opKill then { n with pa := 0, cmds := n.cmds.map fun k => { k with pa := 0 } }
  else n

/-- The commanded state of a node after an operation that executes at an edge. -/
def Node.timed (n : Node) (edge : Int) (op path data : Nat) : Node :=
  let k : NodeCmd := { edge := edge, pa := n.pa, tr := n.tr, lna := n.lna }
  { n.after op path data with cmds := n.cmds ++ [k] }

/-- The masks of PAs, T/R switches and LNAs that were commanded for an edge (R107, R111): those before the first operation
that executes later. -/
def Node.commandedAt (n : Node) (edge : Int) : Nat × Nat × Nat :=
  match n.cmds.find? fun k => decide (edge < k.edge) with
  | some k => (k.pa, k.tr, k.lna)
  | none => (n.pa, n.tr, n.lna)

/-- The LYD_CLK rising edge nearest to an instant, counted from the start of the clock (R98, R103). The instant is
`ps` after T0 of the tick and is computed in whole converter periods of 80 ps; an edge comes every 31.25 of them. -/
def Dev.lydEdge (d : Dev) (c : Ctx) (ps : Int) : Int :=
  let periods := (c.time.conv : Int) - d.lyd.clkAt + floorDiv (ps + 40) 80
  floorDiv (8 * periods + 125) 250

/-- Queue a timed operation for the edge nearest to an instant, `ps` after T0 of the tick (R103). -/
def Dev.queueTimed (d : Dev) (c : Ctx) (g op path data : Nat) (ps : Int) : Dev :=
  let e := d.lydEdge c ps
  let q : QFrame := { port := portOf g, word := lydFrame (g % 8) op path 0 data false, edge := some e }
  (d.queueFrames [q]).onNode g fun n =>
    { n with cmds := n.cmds.filter fun k => decide (d.lydEdge c 0 < k.edge) }.timed e op path data

/-- A frame whose operation is immediate, or that names none. -/
def plainFrame (port word : Nat) : QFrame := { port := port, word := word, edge := none }

/-- Whether a frame enables a PA. -/
def QFrame.paOn (q : QFrame) : Bool := frameOp q.word == opPa && frameData q.word % 2 == 1

/-- Take back the frames that would enable a PA of the strands a condition selects: a mute that has turned a PA off
leaves it off (R29, R105). -/
def Dev.dropPaOn (d : Dev) (sel : Nat → Bool) : Dev :=
  { d with lyd := { d.lyd with queue := d.lyd.queue.filter fun q => !(q.paOn && sel (8 * q.port + frameNode q.word)) } }

/-- KILL with BCAST = 1 on every enabled port in the next slot (R105). LYD_CLK must run. -/
def Dev.kill (d : Dev) (c : Ctx) : Dev :=
  if d.lyd.clk then
    let d := (d.dropPaOn fun _ => true).queueFirst ((d.ports c).map fun p => plainFrame p (lydFrame 0 opKill 0 0 0 true))
    { d with lyd := { d.lyd with nodes := d.lyd.nodes.map fun n => n.after opKill 0 0 } }
  else d

/-- PA off for each path of a strand's node, ahead of any queued frame (R105). -/
def Dev.paOff (d : Dev) (c : Ctx) (g : Nat) : Dev :=
  if d.lyd.clk && d.portOn c (portOf g) then
    ((d.dropPaOn (· == g)).queueFirst ((List.range 4).map fun p =>
      plainFrame (portOf g) (lydFrame (g % 8) opPa p 0 0 false))).onNode g (·.after opKill 0 0)
  else d

/-- LYD_CLK starts at a converter period with slot 0 of every port (R99), or stops with every queued frame lost and
every PA off (R101, R102). -/
def Dev.lydClk (d : Dev) (conv : Nat) (on : Bool) : Dev :=
  if on then
    { d with lyd := { d.lyd with clk := true, clkAt := conv, nextSlot := d.lyd.nextSlot.map fun _ => 0 } }
  else
    let nodes := d.lyd.nodes.map fun n => { n with pa := 0, cmds := [], gains := [] }
    { d with lyd := { d.lyd with clk := false, queue := [], nodes := nodes } }

/-! ## Front-end tables (R113, R115) -/

/-- The table of a strand's node. -/
def Dev.feNode (d : Dev) (g : Nat) : Option FeNode := d.lyd.fe.find? fun f => f.g == g

/-- Whether a path serves a direction: 1 receive, 2 transmit (Table CNV-8). -/
def FePath.serves (p : FePath) (dir : Nat) : Bool := p.dir == dir || p.dir == 3

/-- Whether a path covers a range in kHz. -/
def FePath.covers (p : FePath) (lo hi : Nat) : Bool := decide (p.fLo * 1000 ≤ lo) && decide (hi ≤ p.fHi * 1000)

/-- Whether a path covers a doubled centre in kHz. -/
def FePath.holds (p : FePath) (c2 : Int) : Bool :=
  decide ((p.fLo : Int) * 2000 ≤ c2) && decide (c2 ≤ (p.fHi : Int) * 2000)

/-- The number of the path of a node that covers a range in a direction. -/
def FeNode.pathFor (f : FeNode) (dir lo hi : Nat) : Option Nat :=
  f.paths.findIdx? fun p => p.serves dir && p.covers lo hi

/-- The direction in which a strand of a side serves a relay direction: 1 receive, 2 transmit. -/
def serveDir (side dir : Nat) : Nat := if side = rxSide dir then 1 else 2

/-- Whether a strand's table covers every segment of a plan in each direction that the strand serves. -/
def Dev.feCovers (d : Dev) (p : Plan) (g : Nat) : Bool :=
  match d.feNode g with
  | none => false
  | some f => p.segs.all fun s => [0, 1].all fun dir =>
      !s.has dir || (f.pathFor (serveDir (p.side g) dir) s.fLo s.fHi).isSome

/-- The front-end gain of a strand at a yarn centre in a direction and gain state, in the dB unit (R115). -/
def Dev.feGain (d : Dev) (g dir : Nat) (c2 : Int) (state : Nat) : Option Int :=
  (d.feNode g).bind fun f => (f.paths.find? fun p => p.serves dir && p.holds c2).map fun p =>
    interpolate dB16
      (p.pts.map fun q => ((q.freq : Int) * 2000, (if dir = 1 then q.rxg else q.txg).getD state 0)) c2

/-! ## Which PAs are enabled (R105, R111) -/

/-- Whether the mode transmits from the relay's TX forms: relayed signal, or the tracer in SURVEY (R33). -/
def modeTransmits : Mode → Bool
  | .hank | .survey | .relayOpen | .relaySteered | .relayNetwork => true
  | _ => false

/-- Whether a device mute holds (levels 4 and 5). -/
def Dev.deviceMuted (d : Dev) : Bool := d.prt.mutes.any fun m => decide (4 ≤ m.level)

/-- Whether a strand mute holds on g. -/
def Dev.strandMuted (d : Dev) (g : Nat) : Bool := d.prt.mutes.any fun m => m.level == 3 && m.scope == g

/-- Whether strand g may have a PA enabled for a segment's direction (R111). DEDUCED (assumption 24). -/
def Dev.paAllowed (d : Dev) (m : Mode) (g : Nat) : Bool :=
  modeTransmits m && d.plan.valid && !d.deviceMuted && !d.strandMuted g && d.strandCounts d.reef.plan m g

/-- The band that a test signal occupies, kHz (R415). -/
def testBand (a : TxTestArgs) : Nat × Nat :=
  (a.centreKhz - rateKhz a.rho * 2 / 5, a.centreKhz + rateKhz a.rho * 2 / 5)

/-- The segment of a plan that holds a test signal's band and transmits on a side (R415, Table YRN-1). -/
def Plan.testSeg (p : Plan) (side : Nat) (a : TxTestArgs) : Option Seg :=
  p.segs.find? fun s => decide (s.fLo ≤ (testBand a).1) && decide ((testBand a).2 ≤ s.fHi) &&
    [0, 1].any fun dir => s.has dir && txSide dir == side

/-- The path that covers a test signal's band in transmit. -/
def Dev.testPath (d : Dev) (g : Nat) (a : TxTestArgs) : Option Nat :=
  (d.feNode g).bind fun f => f.pathFor 2 (testBand a).1 (testBand a).2

/-- A running test signal on strand g that enables a PA, with its segment (R415). -/
def Dev.paTest (d : Dev) (g : Nat) : Option (TxTest × Seg) :=
  match d.conv.tests.find? fun t => t.g == g && t.on && !t.ended && t.a.paEn == 1 with
  | some t => (d.plan.committed.bind fun p => p.testSeg (p.side g) t.a).map fun s => (t, s)
  | none => none

/-- The strands of the group of 16 that a CAL.RUN is at (R93, R511), and of all that it has left. -/
def CalRunSt.group (w : CalRunSt) : List Nat :=
  let done := w.good + w.failed
  (List.range (min 16 (w.count - done))).map fun i => w.first + done + i
def CalRunSt.rest (w : CalRunSt) : List Nat :=
  let done := w.good + w.failed
  (List.range (w.count - done)).map fun i => w.first + done + i

/-- Whether a mute or a calibration holds every PA of strand g off: a device mute, its strand mute, or a CAL.RUN that
is at the strand (R29, R91, R105). -/
def Dev.paHeld (d : Dev) (g : Nat) : Bool :=
  d.deviceMuted || d.strandMuted g || d.conv.calRun.any fun w => decide (g ∈ w.group)

/-- The path mask of strand g that a test signal transmits on, unless its PAs are held off. -/
def Dev.testMask (d : Dev) (g duplex : Nat) : Nat :=
  match d.paTest g with
  | some (t, s) =>
    if s.duplex = duplex ∧ d.paHeld g = false then ((d.testPath g t.a).map fun p => 2 ^ p).getD 0 else 0
  | none => 0

/-- The paths of strand g on which an FDD segment of the committed plan receives, as a mask. DESIGN CHOICE
(assumption 106): the plan's receive paths have their LNA enabled in every mode in which LYD_CLK runs. -/
def Dev.lnaWanted (d : Dev) (g : Nat) : Nat :=
  match d.plan.committed, d.feNode g with
  | some p, some f =>
    let bits := p.segs.flatMap fun s => [0, 1].filterMap fun dir =>
      if s.duplex = 0 ∧ s.has dir = true ∧ p.side g = rxSide dir then f.pathFor 1 s.fLo s.fHi else none
    bits.dedup.foldl (fun a b => a + 2 ^ b) 0
  | _, _ => 0

/-- The LNA gain state of GAIN.SET for the path of a strand: that of the first segment of the committed plan that
receives on it (R104, R257). -/
def Dev.lnaState (d : Dev) (g path : Nat) : Nat :=
  match d.plan.committed, d.feNode g with
  | some p, some f =>
    let dir := if p.side g = 1 then 0 else 1
    ((p.segs.find? fun s => s.has dir && f.pathFor 1 s.fLo s.fHi == some path).map fun s =>
      (d.bel.set s.bg dir).lna).getD 0
  | _, _ => 0

/-- The gain states that the committed plan and GAIN.SET give the paths of strand g, as operation, path and state: those of
the first segment that receives on a path and of the first that transmits on it (R104, R257). -/
def Dev.gainStates (d : Dev) (g : Nat) : List (Nat × Nat × Nat) :=
  match d.plan.committed, d.feNode g with
  | some p, some f =>
    let first (k way dir : Nat) : Option GainSet :=
      (p.segs.find? fun s => s.has dir && f.pathFor way s.fLo s.fHi == some k).map fun s => d.bel.set s.bg dir
    let (rx, tx) : Nat × Nat := if p.side g = 1 then (0, 1) else (1, 0)
    if p.side g = 0 then []
    else (List.range f.paths.length).flatMap fun k =>
      ((first k 1 rx).map fun s => (opLna, k, s.lna)).toList ++ ((first k 2 tx).map fun s => (opPag, k, s.pag)).toList
  | _, _ => []

/-- A gain state goes to strand g: its frame executes at an edge, and the LNA keeps the enable that it has there. A queued
frame that enables the LNA later takes the new state (R104, Table CNV-6). -/
def Dev.sendGain (d : Dev) (g : Nat) (edge : Int) (e : Nat × Nat × Nat) : Dev :=
  let (op, path, st) := e
  let on := op == opLna && maskBit ((d.node g).commandedAt edge).2.2 path
  let frame (data : Nat) : Nat := lydFrame (g % 8) op path 0 data false
  let queue := d.lyd.queue.map fun q =>
    if op == opLna && q.port == portOf g && q.word == frame (frameData q.word) && 4 ≤ frameData q.word &&
        q.edge.any (fun k => decide (edge < k)) then { q with word := frame (4 + st) }
    else q
  let q : QFrame := { port := portOf g, word := frame (st + if on then 4 else 0), edge := some edge }
  ({ d with lyd := { d.lyd with queue := queue ++ [q] } }).onNode g (·.setGain op path st)

/-- The gain states of tick n + 1 that differ from those commanded go out at the Close of tick n and execute at the T0 that
ends it, on the present nodes of the enabled ports (R104). `next` is the state that the next Plan window brings. DESIGN
CHOICE (assumption 111): a state that a node holds already is not sent again. -/
def Dev.sendGains (d next : Dev) (c : Ctx) : Dev :=
  if d.lyd.clk && d.lyd.discovered then
    let edge := d.lydEdge c (80 * c.time.periods)
    ((List.range 128).filter fun g => d.portOn c (portOf g) && (d.node g).present).foldl
      (fun d g => ((next.gainStates g).filter fun e => (d.node g).gain e.1 e.2.1 != some e.2.2).foldl
        (fun d e => d.sendGain g edge e) d) d
  else d

/-- The paths of strand g that an FDD segment of the committed plan, or a test signal in one, transmits on,
as a mask. -/
def Dev.paWanted (d : Dev) (m : Mode) (g : Nat) : Nat :=
  if m = .maintenance then d.testMask g 0
  else if !d.paAllowed m g then 0
  else match d.plan.committed, d.feNode g with
    | some p, some f =>
      let bits := p.segs.flatMap fun s => [0, 1].filterMap fun dir =>
        if s.duplex = 0 ∧ s.has dir = true ∧ segInMode m s = true ∧ p.side g = txSide dir then
          f.pathFor 2 s.fLo s.fHi
        else none
      bits.dedup.foldl (fun a b => a + 2 ^ b) 0
    | _, _ => 0

/-- The paths of strand g that a TDD segment of the committed plan uses, as a mask: TDD_SWITCH drives
them. -/
def Dev.tddPaths (d : Dev) (g : Nat) : Nat :=
  match d.plan.committed, d.feNode g with
  | some p, some f =>
    let bits := p.segs.flatMap fun s => [0, 1].filterMap fun dir =>
      if s.duplex = 1 then f.pathFor (serveDir (p.side g) dir) s.fLo s.fHi else none
    bits.dedup.foldl (fun a b => a + 2 ^ b) 0
  | _, _ => 0

/-- The TDD paths of strand g that may transmit: the plan's, or that of a test signal in MAINTENANCE. -/
def Dev.tddAllowed (d : Dev) (m : Mode) (g : Nat) : Nat :=
  if m = .maintenance then d.testMask g 1 else if d.paAllowed m g then d.tddPaths g else 0

/-- The settle times of a path of strand g: PA_OFF, SW_SETTLE and PA_ON in ps (Table CNV-8). -/
def Dev.settleTimes (d : Dev) (g path : Nat) : Int × Int × Int :=
  match (d.feNode g).bind fun f => f.paths[path]? with
  | some p => (1000 * p.paOff, 1000 * p.swSettle, 1000 * p.paOn)
  | none => (0, 0, 0)

/-- Where the operations of a Plan window execute: at the start of Run, T0 + 24 us, in ps. DESIGN CHOICE (assumption
107): the frames go out in the Plan window, no later than 10 us before. -/
def planEdgePs : Int := 24000000

/-- A path of strand g leaves transmit: PA off, then T/R to receive (R111). -/
def Dev.leaveTx (d : Dev) (c : Ctx) (g p : Nat) : Dev :=
  (d.queueTimed c g opPa p 0 planEdgePs).queueTimed c g opTrx p 0 (planEdgePs + (d.settleTimes g p).1)

/-- A path of strand g enters transmit: LNA off, T/R to transmit, then the PA on (R111). -/
def Dev.enterTx (d : Dev) (c : Ctx) (g p : Nat) : Dev :=
  let d' := if maskBit (d.node g).lna p then d.queueTimed c g opLna p 0 planEdgePs else d
  (d'.queueTimed c g opTrx p 1 (planEdgePs + 100000)).queueTimed c g opPa p 1
    (planEdgePs + 100000 + (d.settleTimes g p).2.1)

/-- A path of strand g enters receive: its LNA is enabled in the gain state of GAIN.SET once the T/R switch has
settled. -/
def Dev.enterRx (d : Dev) (c : Ctx) (g p : Nat) : Dev :=
  d.queueTimed c g opLna p (4 + d.lnaState g p)
    (planEdgePs + (d.settleTimes g p).1 + (d.settleTimes g p).2.1)

/-- Bring one path of strand g to what the committed plan wants: transmit before the PA is enabled, the PA off before
receive, and no LNA enabled in transmit (R111). TDD paths keep their state while the strand may transmit. -/
def Dev.settlePath (d : Dev) (c : Ctx) (m : Mode) (g p : Nat) : Dev :=
  let want := maskBit (d.paWanted m g) p
  let rx := maskBit (d.lnaWanted g) p && !want
  let n := d.node g
  if maskBit (d.tddAllowed m g) p && !want then d
  else
    let d := if want && !maskBit n.pa p then d.enterTx c g p
      else if !want && maskBit n.tr p then d.leaveTx c g p
      else d
    if rx && !maskBit n.lna p then d.enterRx c g p else d

/-- Bring every path of strand g to what the committed plan wants. -/
def Dev.settlePa (d : Dev) (c : Ctx) (m : Mode) (g : Nat) : Dev :=
  (List.range 4).foldl (fun d p => d.settlePath c m g p) d

end Sys2Proof.Machine
end

