-- ==== Sys2Proof/Machine/Mutes.lean ====
section
/-! DEFINITION. Mutes (R276 to R283, R290, R291): what a mute covers, how a trigger imposes one, what it
records and stops, and how it is released. -/

namespace Sys2Proof.Machine

/-! ## Time of an event in units of 10 ns -/

/-- The instant `us` microseconds after (tick, sub), on the nominal grid. -/
def laterUs (tick sub us : Nat) : Nat × Nat :=
  let t := sub + 100 * us
  ((tick + t / 50000) % two32, t % 50000)

/-- The instant `us` microseconds before (tick, sub), on the nominal grid. -/
def earlierUs (tick sub us : Nat) : Nat × Nat :=
  let back := 100 * us
  if back ≤ sub then (tick, sub - back)
  else
    let need := back - sub
    let ticks := (need + 49999) / 50000
    ((tick + two32 - ticks % two32) % two32, ticks * 50000 - need)

/-- How far (t2, s2) lies after (t1, s1), in units of 10 ns. -/
def elapsed10 (t1 s1 t2 s2 : Nat) : Int := dist32 t2 t1 * 50000 + (s2 : Int) - s1

/-! ## Captures (R356) -/

/-- A trigger instant moves an ARMED buffer to TRIGGERED: it keeps [trigger - PRE_US, trigger + POST_US), or
from its arming where the pre-trigger ring has not filled. -/
def Cap.trigger (b : Cap) (cause mute tick sub : Nat) : Cap :=
  if b.state = 1 then
    let pre := earlierUs tick sub b.a.preUs
    let post := laterUs tick sub b.a.postUs
    let short := decide (elapsed10 b.armTick b.armSub tick sub < 100 * (b.a.preUs : Int))
    { b with
      state := 2
      cause := cause
      muteTrig := mute
      preShort := short
      trigTick := tick
      trigSub := sub
      startTick := if short then b.armTick else pre.1
      startSub := if short then b.armSub else pre.2
      endTick := post.1
      endSub := post.2 }
  else b

/-- Trigger the buffers that a condition selects, counting each (R356, R358). -/
def Dev.triggerCaps (d : Dev) (sel : Cap → Bool) (cause mute tick sub : Nat) : Dev :=
  let hit := d.ldl.caps.countP fun b => b.state == 1 && sel b
  let caps := d.ldl.caps.map fun b => if sel b then b.trigger cause mute tick sub else b
  { d with ldl := { d.ldl with caps := caps, trigCnt := satAdd 8 d.ldl.trigCnt hit } }

/-- A mute ends a TRIGGERED buffer POST_US after its instant, if that is earlier than its own end (R356). -/
def Cap.curtail (b : Cap) (tick sub : Nat) : Cap :=
  let post := laterUs tick sub b.a.postUs
  if b.state = 2 ∧ 0 < elapsed10 post.1 post.2 b.endTick b.endSub then
    { b with endTick := post.1, endSub := post.2 }
  else b

/-- What a mute does to the captures (R290, R356), before it triggers the ARMED ones. -/
def Dev.curtailCaps (d : Dev) (tick sub : Nat) : Dev :=
  { d with ldl := { d.ldl with caps := d.ldl.caps.map fun b => b.curtail tick sub } }

/-- The mask of the buffers that a mute stops: those it triggers, and those whose end it moves (R290). -/
def Dev.capMask (d : Dev) (tick sub : Nat) : Nat :=
  ((List.range 16).filter fun i =>
    let b := d.ldl.caps.getD i default
    b.state == 1 || decide (b.curtail tick sub ≠ b)).foldl (fun a i => a + 2 ^ i) 0

/-- Every running test signal stops (R415). -/
def Dev.stopTests (d : Dev) : Dev :=
  { d with conv := { d.conv with tests := d.conv.tests.map fun t => { t with ended := true } } }

/-! ## What a mute covers (R276, R278) -/

/-- Whether a mute covers a beam yarn. -/
def Mute.covers (m : Mute) (byid : Nat) : Bool :=
  decide (4 ≤ m.level) || (m.level == 1 && m.scope == byid) ||
    (m.level == 2 && byidBg m.scope == byidBg byid && byidDir m.scope == byidDir byid)

/-- Whether any mute covers a beam yarn. -/
def Dev.yarnMuted (d : Dev) (byid : Nat) : Bool := d.prt.mutes.any fun m => m.covers byid

/-- A mute covers a slot's loop, or a strand that its endpoint's vector combines (R170). -/
def Dev.slotMuted (d : Dev) (s : Slot) : Bool :=
  d.yarnMuted (mkByid 1 s.bg s.idx s.pos) ||
    d.prt.mutes.any fun m => m.level == 3 && (d.beams.slotVec s).any fun e => e.1 == m.scope && e.2 != 0

/-- A mute that falls cancels the pending switches of the slots that it covers (R170). -/
def Dev.cancelPending (d : Dev) (c : Ctx) : Dev :=
  (d.beams.slots.filter fun s => !s.on && d.slotMuted s).foldl
    (fun d s => ({ d with beams := { d.beams with slots := d.beams.slots.erase s } }).onHwsA ((s.bg + s.idx) % c.hawsers)
      fun w => { w with steerDrop := satAdd 8 w.steerDrop 1 })
    d

/-- Whether a mute of a trigger, level and scope holds. -/
def Dev.holds (d : Dev) (trig level scope : Nat) : Bool :=
  d.prt.mutes.any fun m => m.trig == trig && m.level == level && m.scope == scope

/-- Whether a level 4 mute holds, whether a level 5 mute holds. -/
def Dev.level4 (d : Dev) : Bool := d.prt.mutes.any fun m => m.level == 4
def Dev.level5 (d : Dev) : Bool := d.prt.mutes.any fun m => m.level == 5

/-- Whether PLAN_EXPIRY holds (R283). -/
def Dev.planExpired (d : Dev) : Bool := d.holds 11 4 0

/-! ## Records and events (R291) -/

/-- The Belay states that a mute's scope names; slot ceilings do not count. -/
def Dev.belScope (d : Dev) (level scope : Nat) : List BelYarn :=
  d.bel.yarns.filter fun y => byidSlot y.byid == 0 &&
    ((level == 1 && y.byid == scope) ||
      (level == 2 && byidBg y.byid == byidBg scope && byidDir y.byid == byidDir scope))

/-- The Belay state with the highest applied gain of a scope. -/
def highestGain : List BelYarn → Option BelYarn
  | [] => none
  | y :: ys => match highestGain ys with
    | none => some y
    | some z => if z.hasGain && (!y.hasGain || decide (y.appl < z.appl)) then some z else some y

/-- The last pinned mute record of a trigger, level and scope carries this HFC (R291): the newest staged or written
one decides. -/
def samePinned (c : Ctx) (d : Dev) (trig level scope : Nat) : Bool :=
  let mine (typ : Nat) (p : Bytes) : Bool :=
    typ == 0x0100 && fieldAt p 12 1 == level && fieldAt p 13 1 == trig && fieldAt p 14 2 == scope
  match (d.log.staged.filter fun r => r.pinned && mine r.typ r.payload).getLast? with
  | some r => fieldAt r.payload 4 4 == c.time.hfc
  | none => match (c.nv.pinned.filter fun r => mine r.typ r.payload).getLast? with
    | some r => fieldAt r.payload 4 4 == c.time.hfc
    | none => false

/-- Write the record and post the event of a mute or a release (R291, Table PRT-7, Table HST-11). -/
def Dev.muteRecord (d : Dev) (c : Ctx) (release : Bool) (trig level scope sub : Nat) (loopg : Nat)
    (mask : Nat) : Dev :=
  let y := highestGain (d.belScope level scope)
  let g : Nat := match y with
    | some b => if b.hasGain then ofSigned 16 (floor16 b.appl) else 0
    | none => 0
  let iso : Nat := match y.bind (·.iso) with
    | some i => ofSigned 16 (floor16 i)
    | none => 0xFFFF
  let pid := (d.plan.committed.map (·.id)).getD 0
  let pseq := (d.plan.committed.map (·.seq)).getD 0
  let payload := leBytes 4 c.n ++ leBytes 4 c.time.hfc ++ leBytes 2 c.tih ++ leBytes 2 sub ++
    leBytes 1 level ++ leBytes 1 trig ++ leBytes 2 scope ++ leBytes 2 g ++ leBytes 2 iso ++
    leBytes 2 (min loopg 65535) ++ leBytes 1 (modeId c.mode) ++
    leBytes 1 (ptrId d.ptr.st + 8 * bitNat d.ptr.sync) ++ leBytes 2 (ofSigned 16 d.thm.govTemp) ++
    leBytes 2 mask ++ leBytes 4 pid ++ leBytes 4 pseq ++ leBytes 4 (d.clk.utc.getD 0) ++ zeros 8
  let d := d.logRec (if release then 0x0101 else 0x0100) (!release && !samePinned c d trig level scope) payload
  d.event c 3 (trig + 32 * level + 256 * bitNat release) sub scope (if release then loopg else 0)

/-! ## Imposing a mute (R277 to R279, R283, R290) -/

/-- A trigger that fires: its code, level, scope, the unit its Stopper source names, the detector's loop
gain for trigger 1, and the offset from T0. -/
structure Trigger where
  trig : Nat
  level : Nat
  scope : Nat
  unit : Nat
  loopg : Int
  sub : Nat
  deriving DecidableEq, Repr, Inhabited

/-- The Stopper source, severity and unit that a trigger raises (Table PRT-5, Table STP-2); a host mute of
levels 1 to 4 raises none. -/
def Trigger.source (t : Trigger) : Option (Nat × Nat × Nat) :=
  if t.trig = 1 then some (14, 4, t.unit)
  else if t.trig ≤ 5 then some (3, 2, t.trig)
  else if t.trig = 7 then some (4, 4, t.unit)
  else if t.trig = 8 then some (5, 4, t.unit)
  else if t.trig = 10 then some (2, 4, 0)
  else if t.trig = 12 then some (3, 0, 12)
  else if t.trig = 13 then none
  else if t.trig = 15 then some (0, 5, 0)
  else if t.trig = 16 then some (3, 5, 16)
  else some (3, 4, t.trig)

/-- The hold of the k-th consecutive trip in ticks (R279). -/
def oscHold (k : Nat) : Nat := min (20 * 2 ^ (min k 8 - 1)) 2560

/-- The trip history of a loop. -/
def Protect.trip (p : Protect) (scope : Nat) : Option OscTrip := p.trips.find? fun t => t.scope == scope

/-- The number that a trip in tick n takes: one more while the loop's mute holds or within 2,000 ticks of the
release that ended the hold before it, else 1 (R279). -/
def Protect.tripNumber (p : Protect) (scope n : Nat) (held : Bool) : Nat :=
  match p.trip scope with
  | none => 1
  | some t => if held ∨ sub32 n t.released ≤ 2000 then t.k + 1 else 1

/-- Record a trip or a release in the trip history. -/
def Protect.setTrip (p : Protect) (t : OscTrip) : Protect :=
  { p with trips := t :: p.trips.filter fun u => u.scope != t.scope }

/-- A trigger fires. On a scope that it already holds it restarts its release rule; else the mute begins, with
its Stopper raise, its record and event, its capture trigger and its Lanyard frames (R277, R278). -/
def Dev.impose (d : Dev) (c : Ctx) (t : Trigger) : Dev :=
  let held := d.holds t.trig t.level t.scope
  let k := d.prt.tripNumber t.scope c.n held
  let rel : Option Nat := if t.trig = 1 then some ((c.n + oscHold k + 1) % two32) else none
  let prt := if t.trig = 1 then d.prt.setTrip { scope := t.scope, k := k, released := 0 } else d.prt
  if held then
    let mutes := prt.mutes.map fun m =>
      if m.trig == t.trig && m.level == t.level && m.scope == t.scope then
        { m with good := 0, release := rel }
      else m
    { d with prt := { prt with mutes := mutes } }
  else
    let mask := d.capMask c.n t.sub
    let d := d.muteRecord c false t.trig t.level t.scope t.sub
      (if t.trig = 1 then ofSigned 16 t.loopg else 0) mask
    let d := (d.curtailCaps c.n t.sub).triggerCaps (fun _ => true) 4 t.trig c.n t.sub
    let d := if 4 ≤ t.level then d.stopTests else d
    let m : Mute :=
      { trig := t.trig, level := t.level, scope := t.scope, start := c.n, sub := t.sub, held := 0, good := 0,
        release := rel, unit := t.unit }
    let prt : Protect :=
      { prt with
        mutes := prt.mutes ++ [m]
        devMute := if t.level = 4 then satAdd 8 prt.devMute 1 else prt.devMute }
    let d := ({ d with prt := prt } : Dev).cancelPending c
    let d := if 4 ≤ t.level then d.kill c else if t.level = 3 then d.paOff c t.scope else d
    match t.source with
    | some (src, sev, unit) => d.raise c src sev unit t.sub
    | none => d

/-! ## Release (R277 to R280, R283) -/

/-- A beam yarn takes the initial state of R255. -/
def BelYarn.restart (y : BelYarn) : BelYarn :=
  { y with
    init := true
    hasGain := false
    nextGain := false }

/-- Restart the beam yarns that a condition selects. -/
def Dev.restartYarns (d : Dev) (sel : Nat → Bool) : Dev :=
  let ys := d.bel.yarns.map fun y => if sel y.byid then y.restart else y
  { d with bel := { d.bel with yarns := ys } }

/-- Whether forwarding is on in a tick (R289): the last accepted on/off indication that covers it decides,
else NET_DEF_ON. -/
def Dev.niCovering (d : Dev) (kind bg n : Nat) : Option NetInd :=
  (d.prt.ni.filter fun i =>
    i.kind == kind && (kind == 2 || i.bg == bg) && decide (sub32 n i.first < i.len)).foldl
    (fun best i => match best with
      | none => some i
      | some b => if b.order ≤ i.order then some i else some b) none

/-- Forwarding is off in a tick (R289). -/
def Dev.netOff (d : Dev) (n : Nat) : Bool :=
  match d.niCovering 2 0 n with
  | some i => i.on == 0
  | none => !d.use.prtCfg.bit 8

/-- Whether the network indications rule the tick: RELAY_NETWORK, or MUTED with it as return mode (R286). -/
def networkRules (m : ModeSt) : Bool :=
  m.mode == .relayNetwork || (m.mode == .muted && m.ret == some .relayNetwork)

/-- Whether a mute's release rule is met at the Plan window of tick n (Table PRT-5). -/
def Dev.released (d : Dev) (c : Ctx) (m : Mute) : Bool :=
  if m.trig = 1 then m.release.any fun r => decide (dist32 c.n r ≥ 0)
  else if m.trig ≤ 4 then decide (20 ≤ m.good)
  else if m.trig = 5 then decide (1 ≤ m.good)
  else if m.trig = 6 then decide (8 ≤ m.good)
  else if m.trig ≤ 10 then decide (20 ≤ m.good)
  else if m.trig = 11 then d.plan.valid && m.release.isSome
  else if m.trig = 12 then !(networkRules c.modes && d.netOff c.n)
  else if m.trig = 13 then m.level != 5 && m.release.isSome
  else if m.trig = 14 then !d.prt.muteNLow && decide (4 ≤ d.prt.muteNHigh)
  else false

/-- Release one mute: its record and event, and its trip's release tick. -/
def Dev.releaseMute (d : Dev) (c : Ctx) (m : Mute) : Dev :=
  let d := d.muteRecord c true m.trig m.level m.scope 0 m.held 0
  let prt : Protect := { d.prt with mutes := d.prt.mutes.erase m }
  let prt := if m.trig = 1 then
      match prt.trip m.scope with
      | some t => prt.setTrip { t with released := c.n }
      | none => prt
    else prt
  { d with prt := prt }

/-- Release every mute whose rule is met; a beam yarn whose last cover goes takes the initial state of R255
(R278). -/
def Dev.releaseMutes (d : Dev) (c : Ctx) : Dev :=
  let go := d.prt.mutes.filter fun m => d.released c m
  let before := d.prt
  let d' := go.foldl (fun d m => d.releaseMute c m) d
  d'.restartYarns fun b => (before.mutes.any fun m => m.covers b) && !d'.yarnMuted b

/-! ## Mode and mutes (R283, R404, R412) -/

/-- The mode that the mutes make of a mode: LATCHED with a level 5 mute; MUTED from HANK and the relay modes
with a level 4 mute, the mode left becoming the return mode. -/
def ModeSt.underMutes (m : ModeSt) (d : Dev) : ModeSt :=
  if m.mode = .reset then m
  else if d.level5 then
    if m.mode = .latched then m else { mode := .latched, ret := none, prior := none, waking := false }
  else if relays m.mode && d.level4 then { m with mode := .muted, ret := some m.mode }
  else m

/-- The KILL frames that wait go out in the first slot (R105, R396). -/
def Dev.sendKills (d : Dev) : Dev :=
  let last := (d.lyd.queue.filter fun q => frameOp q.word == opKill).foldl (fun l q => l.set q.port q.word) d.lyd.last
  { d with lyd := { d.lyd with last := last } }

/-- Entry into LATCHED: after KILL LYD_CLK stops, a pending mode command is discarded, march tests end early and Leadline stops (R102,
R276, R336, R412, R450). -/
def Dev.enterLatched (d : Dev) (c : Ctx) (sub : Nat) : Dev :=
  let d := ((d.discardMode c sub).sendKills).lydClk 0 false
  { d with
    mem := { d.mem with march := d.mem.march.map March.stopEarly }
    ldl := { d.ldl with stopped := some (c.n, sub) } }

/-- Take the modes after the mutes of an instant, with the MODE event of a change (R404, R515). -/
def State.settleMutesAt (s : State) (sub : Nat) : State :=
  let m := s.modes.underMutes s.dev
  if m = s.modes then s
  else
    let d := if m.mode = s.modes.mode then s.dev else s.dev.modeEvent s.ctx s.modes.mode m.mode sub 1 0
    let d := if m.mode = .latched then d.enterLatched s.ctx sub else d
    { s with modes := m, dev := d }

/-- The same at T0. -/
def State.settleMutes (s : State) : State := s.settleMutesAt 0

end Sys2Proof.Machine
end

