-- ==== Sys2Proof/Machine/Wave.lean ====
section
/-! DEFINITION. Samples (R86, R120, R132): complex numbers, the sample grid, words and levels, and the tapes that hold the
last samples of the points of the relay path. The manual gives the arithmetic of the path no word lengths but those of
its words; between them it is exact here (assumption 65). -/

namespace Sys2Proof.Machine

/-! ## Complex numbers -/

def Cx.zero : Cx := { re := 0, im := 0 }
def Cx.one : Cx := { re := 1, im := 0 }
def Cx.add (a b : Cx) : Cx := { re := a.re + b.re, im := a.im + b.im }
def Cx.sub (a b : Cx) : Cx := { re := a.re - b.re, im := a.im - b.im }
def Cx.mul (a b : Cx) : Cx := { re := a.re * b.re - a.im * b.im, im := a.re * b.im + a.im * b.re }
def Cx.conj (a : Cx) : Cx := { re := a.re, im := -a.im }
def Cx.scale (r : Rat) (a : Cx) : Cx := { re := r * a.re, im := r * a.im }

/-- |a|^2. -/
def Cx.sq (a : Cx) : Rat := a.re * a.re + a.im * a.im

/-- The inverse; that of 0 is 0. -/
def Cx.inv (a : Cx) : Cx := a.conj.scale (1 / a.sq)

/-- The sum of a list. -/
def Cx.sum (l : List Cx) : Cx := l.foldl Cx.add Cx.zero

/-- The sum of the products of two lists, term by term. -/
def Cx.dot (a b : List Cx) : Cx := Cx.sum (List.zipWith Cx.mul a b)

/-- A pair of integers as a number. -/
def Cx.ofPair (p : Int × Int) : Cx := { re := p.1, im := p.2 }

/-- The nearest integer, ties up. -/
def nearest (x : Rat) : Int := (x + 1 / 2).floor

/-- A number as the words of a yarn sample: whole, and saturating at +-32,767 as R137 has it. DESIGN CHOICE (assumption
65): the nearest whole number, after every stage. -/
def Cx.word (a : Cx) : Cx := Cx.ofPair (txSaturate (nearest a.re), txSaturate (nearest a.im))

/-! ## Levels (R120, R337) -/

/-- A positive rational ratio in decibels. -/
def ratDb (r : Rat) : Option Int := if r ≤ 0 then none else some (ratioDb r.num.toNat r.den)

/-- The power of yarn full scale: a magnitude of 32,768. -/
def fullScale : Rat := 1073741824

/-- A power of yarn words in dBFS. -/
def powerLevel (p : Rat) : Option Int := ratDb (p / fullScale)

/-- A power in 1/16 dBFS; that of 0 is the logarithm of 0 (assumption 84). -/
def powerLevel16 (p : Rat) (n : Nat) : Int :=
  match powerLevel p with
  | some x => round16 x
  | none => Config.freeLevel n

/-- The linear ratio of a level, and its square root. -/
def dbRat (x : Int) : Rat := (dbLinear x : Rat) / (2 ^ 96 : Nat)
def dbAmp (x : Int) : Rat := (isqrt (dbLinear x * 2 ^ 96) : Rat) / (2 ^ 96 : Nat)

/-- The square root of a rational, to 2^-48. -/
def ratSqrt (r : Rat) : Rat := if r ≤ 0 then 0 else (isqrt (r.num.toNat * 2 ^ 96 / r.den) : Rat) / (2 ^ 48 : Nat)

/-! ## Turns -/

/-- The terms of a Taylor series in fixed point with 60 fraction bits: the signs alternate, and each term is the last
times x^2 / (i (i + 1)). -/
def taylor (sq : Int) : Nat → Nat → Int → Int
  | 0, _, t => t
  | n + 1, i, t => t + taylor sq n (i + 2) (-(t * sq / 2 ^ 60) / (i * (i + 1) : Nat))

/-- Cosine and sine of an angle in fixed point with 60 fraction bits, for angles of up to an eighth of a turn. -/
def cosSin (x : Int) : Int × Int :=
  let sq := x * x / 2 ^ 60
  (taylor sq 12 1 (2 ^ 60), taylor sq 12 2 x)

/-- pi times 2^60. -/
def pi60 : Int := 3622009729038561421

/-- The unit number at a / b of a turn, to about 2^-56. -/
def turn (a : Int) (b : Nat) : Cx :=
  let r := (a % b) * 8
  let oct := r / b
  let rest := r % b
  let e := if oct % 2 = 0 then rest else (b : Int) - rest
  let x := cosSin (pi60 * e / (4 * b))
  let (c, s) := x
  let p : Int × Int :=
    if oct = 0 then (c, s) else if oct = 1 then (s, c) else if oct = 2 then (-s, c) else if oct = 3 then (-c, s)
    else if oct = 4 then (-c, -s) else if oct = 5 then (-s, -c) else if oct = 6 then (s, -c) else (c, -s)
  (Cx.ofPair p).scale (1 / (2 ^ 60 : Nat))

/-- Bin k of the discrete Fourier transform of a list, whose k-th term has index k. -/
def dftBin (xs : List Cx) (k : Int) : Cx :=
  Cx.sum (((List.range xs.length).zip xs).map fun e => Cx.mul e.2 (turn (-(k * e.1)) xs.length))

/-! ## The sample grid (R86, R132) -/

/-- Times are in units of 1/3,072 converter period after the SYNC instant, in which every sample of every rate falls on a
whole number: sample k of rate code rho at k times the answer. -/
def sampleUnits (rho : Nat) : Nat := 78125 * 2 ^ (8 - rho)

/-- One converter period, 1 ns and 1 us in these units. -/
def periodUnits : Nat := 3072
def nsUnits : Int := 38400
def usUnits : Int := 38400000

/-- T0 of the tick and of the next one. -/
def TimeSt.t0 (t : TimeSt) : Int := ((t.conv : Int) - t.syncConv) * periodUnits
def TimeSt.t1 (t : TimeSt) : Int := t.t0 + t.periods * (periodUnits : Int)

/-- An offset from T0 in 10 ns. -/
def TimeSt.at10 (t : TimeSt) (sub : Nat) : Int := t.t0 + 10 * nsUnits * sub

/-- k0: the first sample at or after an instant (R132). -/
def firstSample (rho : Nat) (u : Int) : Nat := (ceilDiv u (sampleUnits rho)).toNat

/-- The contact time of a sample. -/
def sampleAt (rho k : Nat) : Int := sampleUnits rho * (k : Int)

/-- A time in ps in these units, rounded down, and back: 192 units are 5 ps. -/
def unitsOfPs (ps : Int) : Int := floorDiv (ps * 192) 5
def psOfUnits (u : Int) : Int := floorDiv (u * 5) 192

/-- How many samples of a rate a time in ns spans, rounded up. -/
def samplesIn (rho : Nat) (ns : Nat) : Nat := (ns * rateKhz rho + 999999) / 1000000

/-! ## Tapes -/

/-- How many samples a tape holds: 1.2 ms, which is more than any figure of a Close looks back. -/
def tapeLength (rho : Nat) : Nat := rateKhz rho * 6 / 5

/-- The tape of a point. -/
def tapeOf (ts : List Tape) (p : Tap) : Tape :=
  (ts.find? fun t => t.tap == p).getD { tap := p, next := 0, data := [] }

/-- The sample of a grid index. -/
def Tape.at (t : Tape) (k : Nat) : Option Smp := if k < t.next then t.data[t.next - 1 - k]? else none

/-- The value at a grid index: 0 where the tape holds none. -/
def Tape.value (t : Tape) (k : Int) : Cx :=
  if k < 0 then Cx.zero else ((t.at k.toNat).map (·.z)).getD Cx.zero

/-- Write one sample. A sample that does not follow the last one starts the tape again; an index already passed is
ignored. -/
def Tape.push (t : Tape) (keep k : Nat) (x : Smp) : Tape :=
  if k < t.next then t
  else { t with next := k + 1, data := x :: (if k = t.next then t.data.take (keep - 1) else []) }

/-- The values of a tape as a signal. -/
def Tape.signal (t : Tape) : Int → Cx := t.value

/-- Write one sample of a point. -/
def pushAt (ts : List Tape) (p : Tap) (keep k : Nat) (x : Smp) : List Tape :=
  (tapeOf ts p).push keep k x :: ts.filter fun t => t.tap != p

/-- The grid indices from a to b. -/
def indices (a b : Nat) : List Nat := (List.range (b - a)).map (a + ·)

end Sys2Proof.Machine
end

