-- ==== Sys2Proof/Machine/Forms.lean ====
section
/-! DEFINITION. The stages of a yarn's RX form and TX form in the order of Table YRN-2 (R119, R122, R123, R130, R137), as
operations on signals. The coefficients of the filters are not in the manual: each filter is its list of coefficients, a
free value, and is linear phase, so that it looks as far ahead as behind. -/

namespace Sys2Proof.Machine

/-- A signal: its value at every index of its grid. -/
abbrev Signal := Int → Cx

/-- A linear-phase filter of coefficients `h`, centred on its output. -/
def fir (h : List Rat) (x : Signal) : Signal := fun n =>
  Cx.sum (((List.range h.length).zip h).map fun e => (x (n + (h.length / 2 : Nat) - e.1)).scale e.2)

/-- The NCO's rotation some converter periods after the last SYNC instant (R123). -/
def ncoTurn (word : Nat) (n : Int) : Cx := turn (ncoPhase word n.toNat) two32

/-- The relay or measurement response from the ROM, at the yarn rate (R124). -/
def response (index : Nat) : Signal → Signal := fir ((List.range (respTaps index)).map (Config.freeResponse index))

/-! ## The RX form -/

/-- What an RX form runs with: its rate code, response index and NCO word, and whether it conjugates (zone 2). -/
structure RxForm where
  rho : Nat
  index : Nat
  nco : Nat
  zone2 : Bool
  deriving DecidableEq, Repr, Inhabited

/-- Stage 1: the strand stream mixed by the NCO frequency to complex baseband. A real tone has half its amplitude at
either sign of its frequency, and the chain has 0 dB gain at the yarn centre (R120). -/
def RxForm.tuner (f : RxForm) (x : Signal) : Signal := fun n => (Cx.mul (x n) (ncoTurn f.nco n).conj).scale 2

/-- One half-band decimation stage. -/
def halve (stage : Nat) (x : Signal) : Signal := fun n => fir (Config.freeHalfBand stage) x (2 * n)

/-- Stage 2: 12 - rho half-band stages. -/
def RxForm.decimation (f : RxForm) (x : Signal) : Signal := (List.range (halfBands f.rho)).foldl (fun y s => halve s y) x

/-- Stage 3: the polyphase resampler of the exact ratio 49,152/78,125. -/
def downSampler (x : Signal) : Signal := fun k =>
  let at_ := k * resamplerRatio.2
  fir (Config.freeResampler false (at_ % resamplerRatio.1).toNat) x (floorDiv at_ resamplerRatio.1)

/-- A word of a zone-2 form conjugated. DESIGN CHOICE (assumption 109): the negative of Q = -32,768, which has no word,
becomes +32,767. -/
def Cx.flip (z : Cx) : Cx := { z with im := min (-z.im) 32767 }

/-- Stages 1 to 5: the words of the form on its sample grid. -/
def RxForm.words (f : RxForm) (x : Signal) : Signal := fun k =>
  let z := (response f.index (downSampler (f.decimation (f.tuner x))) k).word
  if f.zone2 then z.flip else z

/-- The delay of the form from the RX contact to its output in ns: the chain's and the response's (R129, Tables YRN-8 and
YRN-10). -/
def RxForm.delayNs (f : RxForm) : Nat :=
  if f.index < 48 then tapDelayNs f.rho (f.index % 6) else measDelayNs f.rho (f.index % 6)

/-! ## The TX form -/

/-- What a TX form runs with: its rate code, relay choice, doubled centre and whether its converter runs in mix mode. -/
structure TxForm where
  rho : Nat
  resp : Nat
  c2 : Int
  mix : Bool
  deriving DecidableEq, Repr, Inhabited

/-- The padding of R130, which follows from the response: whole yarn samples, and the offset of the resampler in 1/1,024
sample. -/
def TxForm.pad (f : TxForm) : Nat × Nat := padding f.rho f.resp

/-- Stage 1: whole yarn samples of delay. -/
def TxForm.padded (f : TxForm) (x : Signal) : Signal := fun k => x (k - f.pad.1)

/-- Stage 2: the equaliser that flattens the zone response across the yarn (R77). -/
def TxForm.equaliser (f : TxForm) : Signal → Signal := fir (Config.freeEqualiser f.mix (centreKhz f.c2) f.rho)

/-- The relay delay from RX contact to TX contact, 2,048 ns (R129, R130). -/
def relayUnits : Int := 2048 * nsUnits

/-- What the rest of the path delays, in 1/1,024 units: the relay delay without the padding. Every filter here is centred,
so that its own delay stands in this one. -/
def TxForm.own (f : TxForm) : Int := 1024 * relayUnits - ((1024 * f.pad.1 + f.pad.2 : Nat) : Int) * sampleUnits f.rho

/-- Stage 3: the polyphase resampler of the exact ratio 78,125/49,152 with the fractional delay of the padding: output n
lies at n times the period of 2^(12 - rho) converter periods. -/
def TxForm.upSampler (f : TxForm) (x : Signal) : Signal := fun n =>
  let per : Nat := sampleUnits f.rho * 1024
  let at_ := 1024 * (n * (periodUnits * 2 ^ halfBands f.rho : Nat)) - f.own - (f.pad.2 * sampleUnits f.rho : Nat)
  fir (Config.freeResampler true (at_ % per).toNat) x (floorDiv at_ per)

/-- One half-band interpolation stage: zeros between the samples, then the filter. -/
def double (stage : Nat) (x : Signal) : Signal :=
  fir (Config.freeHalfBand stage) fun n => if n % 2 = 0 then (x (n / 2)).scale 2 else Cx.zero

/-- Stage 4: 12 - rho half-band stages. -/
def TxForm.interpolation (f : TxForm) (x : Signal) : Signal :=
  (List.range (halfBands f.rho)).reverse.foldl (fun y s => double s y) x

/-- Stages 1 to 5: the form's part of the strand sum at a converter period, mixed to its centre. -/
def TxForm.out (f : TxForm) (x : Signal) : Signal := fun n =>
  Cx.mul (f.interpolation (f.upSampler (f.equaliser (f.padded x))) n) (ncoTurn (ncoWord f.c2) n)

/-- Whether the word of a value saturates in I or in Q (R137). -/
def Cx.saturates (z : Cx) : Bool :=
  decide (txSaturate (nearest z.re) ≠ nearest z.re) || decide (txSaturate (nearest z.im) ≠ nearest z.im)

/-- Stage 6: the strand sum of TX forms, each with its input, before it saturates. -/
def strandSum (forms : List (TxForm × Signal)) : Signal := fun n => Cx.sum (forms.map fun e => e.1.out e.2 n)

end Sys2Proof.Machine
end

