-- ==== Sys2Proof/Machine/Lanyard.lean ====
section
/-! DEFINITION. The Lanyard bus (R97 to R115): FE.LOAD, discovery, frames, node status and the TDD switch
sequence. -/

namespace Sys2Proof.Machine

/-! ## Front-end tables (R113, R114) -/

/-- One path block of a node block. -/
def fePathOf (b : Bytes) : FePath × Nat :=
  let n := byteAt b 5
  let pts := (List.range n).map fun i =>
    let q := 32 + 18 * i
    let p : FePoint :=
      { freq := fieldAt b q 2
        rxg := (List.range 4).map fun k => toSigned 16 (fieldAt b (q + 2 + 2 * k) 2)
        txg := (List.range 4).map fun k => toSigned 16 (fieldAt b (q + 10 + 2 * k) 2) }
    p
  let p : FePath :=
    { fLo := fieldAt b 0 2, fHi := fieldAt b 2 2, dir := byteAt b 4, paOff := fieldAt b 6 2,
      swSettle := fieldAt b 8 2, lnaSettle := fieldAt b 10 2, paOn := fieldAt b 12 2,
      rxLat := fieldAt b 14 2, txLat := fieldAt b 16 2, pts := pts }
  (p, n)

/-- Frequencies ascend strictly. -/
def ascending : List Nat → Bool
  | a :: b :: rest => decide (a < b) && ascending (b :: rest)
  | _ => true

/-- A path block passes R114 and the ranges of Table CNV-8. -/
def fePathOk (p : FePath) (n : Nat) : Bool :=
  !outside n 1 16 && !outside p.dir 1 3 && (p.pts.all fun q => !outside q.freq p.fLo p.fHi) &&
    ascending (p.pts.map (·.freq)) && decide (p.paOff ≤ 10000) && decide (p.swSettle ≤ 10000) &&
    decide (p.lnaSettle ≤ 10000) && decide (p.paOn ≤ 10000)

/-- Two paths share a direction and a frequency (R114). -/
def fePathsClash (p q : FePath) : Bool :=
  ((p.serves 1 && q.serves 1) || (p.serves 2 && q.serves 2)) && decide (p.fLo ≤ q.fHi) && decide (q.fLo ≤ p.fHi)

/-- No two paths of a node clash. -/
def fePathsApart : List FePath → Bool
  | [] => true
  | p :: ps => !(ps.any fun q => fePathsClash p q) && fePathsApart ps

/-- The node blocks of an FE.LOAD buffer, back to back; none where one fails R114 or the buffer ends early. -/
def feNodesOf (strands : Nat) : Nat → Bytes → Option (List FeNode)
  | 0, _ => some []
  | k + 1, b =>
    let g := fieldAt b 0 2
    let n := byteAt b 2
    if b.length < 16 ∨ strands ≤ g ∨ outside n 1 4 = true ∨ b.length < 16 + 320 * n then none
    else
      let ps := (List.range n).map fun i => fePathOf ((b.drop (16 + 320 * i)).take 320)
      if (ps.all fun p => fePathOk p.1 p.2) && fePathsApart (ps.map (·.1)) then
        (feNodesOf strands k (b.drop (16 + 320 * n))).map fun rest =>
          { g := g, paths := ps.map (·.1) } :: rest
      else none

/-- FE.LOAD (R114): the tables of the named strands are replaced. -/
def cmdFeLoad (h : CmdHdr) (nblk : Nat) (b : InBuf) (s : State) : State :=
  s.onDev fun c d =>
    let nodes := feNodesOf c.strands nblk (b.data.take b.len)
    let ns := nodes.getD []
    guarded 0x0301 h
      ((nblk == 0, stBadArg) :: inChecks b 1 ++
        [(nodes.isNone, stBadArg), (!decide ((ns.map (·.g)).Nodup), stBadArg),
          (!modeAccepts c.mode 0x0301, stDenied)])
      (fun d =>
        let keep := d.lyd.fe.filter fun f => ns.all fun m => m.g != f.g
        ({ d with lyd := { d.lyd with fe := keep ++ ns } }).ok 0x0301 h) d

def execFeLoad (h : CmdHdr) (nblk : Nat) (b : InBuf) (s : State) : Host.Outcome State Fault Refusal :=
  .next (cmdFeLoad h nblk b s.fetched)

/-! ## Discovery (R108, R109) -/

/-- The strands whose node address is probed: those of the enabled ports. -/
def Dev.probed (d : Dev) (c : Ctx) : List Nat :=
  (List.range c.strands).filter fun g => d.portOn c (portOf g)

/-- The first tick after calibration: every node address of every enabled port is probed, and a node that
answers is present (R108). BOOT ends at the next Plan window. -/
def execLanyardDiscovery (ans : List NodeAnswer) (s : State) : Host.Outcome State Fault Refusal :=
  if s.modes.mode ≠ .boot ∨ !s.dev.boot.calDone ∨ !s.dev.lyd.clk ∨ s.dev.lyd.discovered then .next s
  else .next (s.onDev fun c d =>
    let probed := d.probed c
    let nodes := (List.range 128).map fun g =>
      let nd := d.node g
      { nd with present := decide (g ∈ probed) && ans.any (fun a => a.g == g), gains := [] }
    let last := (List.range 16).map fun p =>
      if d.portOn c p then lydFrame 7 opRd 0 0 0 false else d.lyd.last.getD p 0
    { d with
      lyd := { d.lyd with discovered := true, nodes := nodes, last := last }
      boot := { d.boot with stage := if d.boot.stage = 5 then 5 else 3 } })

/-- Every 2,000 ticks the absent nodes are probed again, in the Run window (R109): RD of register 0x00 goes to each
absent node address of every enabled port. A node that answers is present from the next tick. -/
def execLanyardRediscovery (ans : List NodeAnswer) (s : State) : Host.Outcome State Fault Refusal :=
  if !s.dev.lyd.clk ∨ !s.dev.lyd.discovered ∨ s.time.n % 2000 ≠ 0 ∨ s.time.window ≠ .run then .next s
  else .next (s.onDev fun c d =>
    let probed := d.probed c
    let nodes := (List.range 128).map fun g =>
      let nd := d.node g
      if decide (g ∈ probed) && !nd.present && ans.any fun a => a.g == g then { nd with joining := true }
      else nd
    let rds := (probed.filter fun g => !(d.node g).present).map fun g =>
      plainFrame (portOf g) (lydFrame (g % 8) opRd 0 0 0 false)
    ({ d with lyd := { d.lyd with nodes := nodes } }).queueFrames rds)

/-- Nodes that answered a rediscovery are present from the next tick, with every PA off (R101, R109). -/
def Node.join (n : Node) : Node :=
  if n.joining then { n with present := true, joining := false, pa := 0, tr := 0, lna := 0, gains := [], cmds := [], miss := 0, good := 0 }
  else n

/-! ## Frames on a port (R99) -/

/-- The converter period at which slot k of every port starts: a slot is 68 bit times of 2.5 ns (R99). -/
def Lanyard.slotStart (l : Lanyard) (k : Nat) : Nat := l.clkAt + 2125 * k

/-- The EXEC offset of an edge for a frame in slot k: from the first rising edge after LYD_FRM falls, 65 edges after
the slot starts (R100). DEDUCED (assumption 23). -/
def execOffset (k : Nat) (edge : Int) : Int := edge - (68 * (k : Int) + 65)

/-- Whether a frame may go out in slot k: a timed one between 40 us and 10 us before its execute edge (R103). -/
def QFrame.fits (q : QFrame) (k : Nat) : Bool :=
  match q.edge with
  | none => true
  | some e => decide (4000 ≤ execOffset k e) && decide (execOffset k e ≤ 16000)

/-- The word as slot k carries it: EXEC of a timed frame is filled in (R100). -/
def QFrame.inSlot (q : QFrame) (k : Nat) : Nat :=
  match q.edge with
  | none => q.word
  | some e => lydFrame (frameNode q.word) (frameOp q.word) (frameReg q.word) (execOffset k e).toNat (frameData q.word)
      (frameBcast q.word)

/-- The first queued frame of a port that may go out in slot k, with the queue without it. -/
def takeFrame (p k : Nat) : List QFrame → Option (QFrame × List QFrame)
  | [] => none
  | x :: xs => if x.port = p ∧ x.fits k = true then some (x, xs) else (takeFrame p k xs).map fun r => (r.1, x :: r.2)

/-- The slots that a frame takes: the answer to RD or POLL fills the one after it (R101). -/
def slotsTaken (w : Nat) : Nat := if frameOp w = opRd ∨ frameOp w = opPoll then 2 else 1

/-- Whether slot k of a port starts in the present tick and no earlier frame or answer takes it (R99). -/
def State.slotFree (s : State) (port k : Nat) : Bool :=
  decide (s.time.conv ≤ s.dev.lyd.slotStart k) && decide (s.dev.lyd.slotStart k < s.time.conv + s.time.periods) &&
    decide (s.dev.lyd.nextSlot.getD port 0 ≤ k)

/-- A queued frame goes out in slot `slot` of its port (R99). -/
def execLanyardFrameSend (a : PortSlot) (s : State) : Host.Outcome State Fault Refusal :=
  let port := a.port
  let slot := a.slot
  if !s.dev.lyd.clk ∨ !s.dev.portOn s.ctx port ∨ !s.slotFree port slot then .next s
  else match takeFrame port slot s.dev.lyd.queue with
    | none => .next s
    | some (q, rest) =>
      let w := q.inSlot slot
      let lyd : Lanyard := { s.dev.lyd with
        queue := rest
        last := s.dev.lyd.last.set port w
        nextSlot := s.dev.lyd.nextSlot.set port (slot + slotsTaken w) }
      .next { s with dev := { s.dev with lyd := lyd } }

/-- POLL to every present node, once per tick in the Run window (R107). -/
def Dev.pollNodes (d : Dev) (c : Ctx) : Dev :=
  if d.lyd.clk && d.lyd.discovered then
    d.queueFrames (((d.probed c).filter fun g => (d.node g).present).map fun g =>
      plainFrame (portOf g) (lydFrame (g % 8) opPoll 0 0 0 false))
  else d

/-! ## Node status (R106, R107) -/

/-- Change the strand mutes that Lanyard holds on g. -/
def Dev.onLydMutes (d : Dev) (g : Nat) (f : Mute → Mute) : Dev :=
  let mutes := d.prt.mutes.map fun m =>
    if (m.trig == 7 || m.trig == 8) && m.scope == g then f m else m
  { d with prt := { d.prt with mutes := mutes } }

/-- A trigger waits for the next Plan window (R277). -/
def Dev.dueTrigger (d : Dev) (trig level scope : Nat) : Dev :=
  if d.holds trig level scope then
    let mutes := d.prt.mutes.map fun m =>
      if m.trig == trig && m.level == level && m.scope == scope then { m with good := 0 } else m
    { d with prt := { d.prt with mutes := mutes } }
  else if d.prt.due.any fun t => t.trig == trig && t.level == level && t.scope == scope then d
  else
    let t : PendTrig := { trig := trig, level := level, scope := scope }
    { d with prt := { d.prt with due := d.prt.due ++ [t] } }

/-- What an RSP leaves (R107), against the state that was commanded for the instant of the poll: a PA enabled where off was commanded mutes the strand; another mismatch, a CRC
count or a fault raises Lanyard-node at severity 2; a matching RSP counts toward recovery. -/
def Dev.rsp (d : Dev) (c : Ctx) (g status sub : Nat) : Dev :=
  let was := (d.node g).commandedAt (d.lydEdge c (10000 * (sub : Int)))
  let pa := status % 16
  let tr := status / 16 % 16
  let extra := (List.range 4).any fun i => maskBit pa i && !maskBit was.1 i
  let off := (List.range 4).any fun i => !maskBit pa i && maskBit was.1 i
  let matching := pa == was.1 && tr == was.2.1
  let d := d.onNode g fun n => { n with miss := 0, good := if matching then n.good + 1 else 0 }
  let d := d.onLydMutes g fun m => { m with good := if matching then m.good + 1 else 0 }
  let d := if extra then d.dueTrigger 7 3 g else d
  let d := if off || tr != was.2.1 || decide (0 < status / 256 % 16) || maskBit status 13 then
      d.raise c 5 2 g sub
    else d
  let old := d.prt.mutes.any fun m => decide (4 ≤ m.level) &&
    decide (100000 ≤ elapsed10 m.start m.sub c.n sub)
  let t : Trigger := { trig := 16, level := 5, scope := 0, unit := 0, loopg := 0, sub := sub }
  if pa ≠ 0 ∧ old then d.impose c t else d

/-- An RSP frame answers the POLL of a present node. -/
def execLanyardRsp (a : RspArgs) (s : State) : Host.Outcome State Fault Refusal :=
  if !s.dev.lyd.clk ∨ s.ctx.strands ≤ a.g ∨ !(s.dev.node a.g).present then .next s
  else .next (s.onDev fun c d => d.rsp c a.g a.status a.sub)

/-- An expected RSP is missing or corrupt (R107): once, the POLL is retried in the next slot; twice in a row,
the node is lost. -/
def execLanyardRspMissing (g : Nat) (crcErr : Bool) (s : State) : Host.Outcome State Fault Refusal :=
  if !s.dev.lyd.clk ∨ s.ctx.strands ≤ g ∨ !(s.dev.node g).present then .next s
  else .next (s.onDev fun _ d =>
    let crc := if crcErr then satAdd 16 d.lyd.crcErr 1 else d.lyd.crcErr
    let d : Dev := { d with lyd := { d.lyd with crcErr := crc } }
    if (d.node g).miss = 0 then
      (d.onNode g fun n => { n with miss := 1 }).queueFirst
        [plainFrame (portOf g) (lydFrame (g % 8) opPoll 0 0 0 false)]
    else
      ((d.onNode g fun n => { n with miss := 0, good := 0 }).onLydMutes g
        fun m => { m with good := 0 }).dueTrigger 8 3 g)

/-! ## TDD switching (R110 to R112) -/

/-- The first symbol that is not flexible among those of tick t and the ticks after it, with its direction and
the instant in units of 1/30.72 us from the start of the tick at `at_`. From the next frame on the pattern is `nx` (R40). -/
def Pattern.ahead (p nx : Pattern) : Nat → Nat × Nat → Nat → Option (Nat × Nat)
  | 0, _, _ => none
  | k + 1, t, at_ =>
    let q := if t.2 = 0 then nx else p
    let syms := q.tickSymbols t.1 t.2
    match syms.findIdx? (· != 2) with
    | some j => some (syms.getD j 2, at_ + symbolUnits q.scs j)
    | none => q.ahead nx k (tickAfter t) (at_ + tickUnits)

/-- The boundary of a TDD pattern after symbol `sym` of a tick, if there is one (R59): the direction that ends, and the
instants at which it ends and at which the other direction begins, in units of 1/30.72 us from T0. Flexible symbols may
lie between them, and `nx` is the pattern from the next frame on. -/
def Pattern.boundary (p nx : Pattern) (sfn tif sym : Nat) : Option (Nat × Nat × Nat) :=
  let syms := p.tickSymbols sfn tif
  match syms[sym]? with
  | none => none
  | some dir =>
    let rest := syms.drop (sym + 1)
    let next := match rest.findIdx? (· != 2) with
      | some j => some (rest.getD j 2, symbolUnits p.scs (sym + 1 + j))
      | none => p.ahead nx 40 (tickAfter (sfn, tif)) tickUnits
    match next with
    | none => none
    | some (other, b) => if dir = 2 ∨ other = dir then none else some (dir, symbolUnits p.scs (sym + 1), b)

/-- How far a side's instant lies after the donor antenna's, in ps (R110). -/
def sideShift (side dir : Nat) : Int :=
  if side = 2 then (if dir = 0 then 2048000 else -2048000) else 0

/-- An instant of a direction of a segment at the front ends of a side, in ps from T0: uplink instants lie UL_OFFS
later (R269), the service side is displaced (R110), and the path latency is taken into account (R103): what is
transmitted reaches the antenna TX_LAT after the contact, what is received leaves it RX_LAT before. DEDUCED
(assumption 67). -/
def Seg.edgePs (s : Seg) (p : FePath) (side dir units : Nat) : Int :=
  unitsPs units + (if dir = 1 then 1000 * s.ulOffs else 0) + sideShift side dir +
    (if side = txSide dir then (p.txLat : Int) else -(p.rxLat : Int))

/-- The steps of Table CNV-7 for a path, and whether the new direction starts late (R112). The path leaves transmit or
receive at E if it serves it, and enters the other direction, which begins at B, if it serves that. -/
def switchSteps (p : FePath) (leavesTx : Bool) (serves enters : Bool) (lna : Nat) (e b : Int) : List SwitchStep × Bool :=
  let sw : Int := 1000 * p.swSettle
  if leavesTx then
    let t1 := e + 1000 * p.paOff
    let t2 := t1 + sw
    ((if serves then [{ op := opPa, data := 0, ps := e }, { op := opTrx, data := 0, ps := t1 }] else []) ++
      (if enters then [{ op := opLna, data := 4 + lna, ps := t2 }] else []),
      enters && decide (b < t2 + 1000 * p.lnaSettle))
  else
    let on : Int := 1000 * p.paOn
    let t := max (e + 100000) (b - on - sw)
    ((if serves then [{ op := opLna, data := 0, ps := e }] else []) ++
      (if enters then [{ op := opTrx, data := 1, ps := t }, { op := opPa, data := 1, ps := t + sw }] else []),
      enters && decide (b < t + sw + on))

/-- A path of strand g steps through the sequence of a TDD boundary (R111): `dir` ends at `e` and the other direction
begins at `b`, in units of 1/30.72 us from T0. The PA is not enabled while the strand may not transmit (R29, R105);
a late start counts all the same, DESIGN CHOICE (assumption 68). -/
def Dev.tddSwitch (d : Dev) (c : Ctx) (a : SwitchArgs) (s : Seg) (p : FePath) (dir e b : Nat) : Dev :=
  let side := d.side a.g
  let leavesTx := side == txSide dir
  let role (k : Nat) : Bool := p.serves (serveDir side k)
  let (steps, late) := switchSteps p leavesTx (role dir) (role (1 - dir)) (d.bel.set s.bg (if side = 1 then 0 else 1)).lna
    (s.edgePs p side dir e) (s.edgePs p side (1 - dir) b)
  let may := maskBit (d.tddAllowed c.mode a.g) a.path
  let steps := steps.filter fun t => may || !(t.op == opPa && t.data == 1)
  let d := steps.foldl (fun d t => d.queueTimed c a.g t.op a.path t.data t.ps) d
  { d with lyd := { d.lyd with
      steps := steps
      lateSw := if late then satAdd 16 d.lyd.lateSw 1 else d.lyd.lateSw } }

/-- The pattern of segment i from the next frame on: the one that R40 holds back, else the one in force. -/
def PlanSt.nextPat (x : PlanSt) (i : Nat) (s : Seg) : Pattern := (x.nextPats.bind fun l => l[i]?).getD s.pat

/-- What a TDD_SWITCH names: the TDD segment of the committed plan and the path of the strand's table that serves it
there, with the boundary of the pattern after the symbol. -/
def State.switchOf (s : State) (a : SwitchArgs) : Option (Seg × FePath × Nat × Nat × Nat) :=
  match s.dev.plan.committed.bind fun p => p.segs[a.seg]?, (s.dev.feNode a.g).bind fun f => f.paths[a.path]? with
  | some seg, some p =>
    let serves := p.covers seg.fLo seg.fHi &&
      ((seg.has 0 && p.serves (serveDir (s.dev.side a.g) 0)) || (seg.has 1 && p.serves (serveDir (s.dev.side a.g) 1)))
    if seg.duplex = 1 ∧ s.dev.side a.g ≠ 0 ∧ serves = true then
      (seg.pat.boundary (s.dev.plan.nextPat a.seg seg) s.time.sfn s.time.tif a.sym).map fun t => (seg, p, t)
    else none
  | _, _ => none

/-- A TDD boundary on one path of a strand: the pattern of its segment turns after the symbol (R59, R110 to R112). -/
def execTddSwitch (a : SwitchArgs) (s : State) : Host.Outcome State Fault Refusal :=
  match s.switchOf a with
  | none => .next s
  | some (seg, p, dir, e, b) =>
    if !s.dev.lyd.clk then .next s
    else .next (s.onDev fun c d => d.tddSwitch c a seg p dir e b)

end Sys2Proof.Machine
end

