-- ==== Sys2Proof/Machine/HostIf.lean ====
section
/-! DEFINITION. The host interface (spec/16_host_interface.md): doorbells, ring records, the index block,
interrupts, ring and index-block registers and the PCIe link. The fetch of commands stands in
Machine/Fetch.lean, after the commands. -/

namespace Sys2Proof.Machine

/-! ## Rings and the index block (R495, R496) -/

/-- Ring k of a state. -/
def State.ring (s : State) (k : Nat) : Ring := s.rings.getD k Ring.reset

/-- Replace ring k. -/
def State.setRing (s : State) (k : Nat) (r : Ring) : State := { s with rings := s.rings.set k r }

/-- Entries between the consumer and the producer index (R495). -/
def Ring.used (r : Ring) : Nat := sub32 r.p r.c

/-- The number of entries of ring k; 0 while disabled (R495). -/
def Ctx.ringSize (c : Ctx) (k : Nat) : Nat := if c.ringOn k then 2 ^ ringLog2 (c.ringCfg k) else 0

/-- Whether ring k can take a record (R495). -/
def State.ringRoom (s : State) (k : Nat) : Bool := decide ((s.ring k).used < s.ctx.ringSize k)

/-- The 64 bytes of the index block (Table HST-4). -/
def indexBlock (rings : List Ring) (n : Nat) : Bytes :=
  leBytes 4 (rings.getD 0 Ring.reset).c ++
    (rings.drop 1).flatMap (fun r => leBytes 4 r.p) ++ leBytes 4 n ++ zeros 36

/-- Write the index block, unless its address is 0 or bus mastering is stopped (R493, R496). -/
def State.writeIndex (s : State) : State :=
  if s.setup.idxBase = 0 ∨ !s.dev.host.mastering then s
  else { s with dev := { s.dev with host := { s.dev.host with idxBlock := indexBlock s.rings s.time.n } } }

/-- Count an invalid doorbell write (R498). -/
def Dev.doorbellError (d : Dev) : Dev :=
  { d with host := { d.host with dbErr := true, dbErrCnt := satAdd 8 d.host.dbErrCnt 1 } }

/-- Whether a producer index is valid (R498, doorbell 0). -/
def producerValid (r : Ring) (size idx : Nat) : Bool :=
  decide (sub32 idx r.c ≤ size) && decide (sub32 idx r.p ≤ size)

/-- Whether a consumer index is valid (R498, doorbells 1 to 5). -/
def consumerValid (r : Ring) (idx : Nat) : Bool := decide (sub32 idx r.c ≤ r.used)

/-- A write to doorbell 0 (R497, R498). -/
def execDoorbellProducer (idx : Nat) (s : State) : Host.Outcome State Fault Refusal :=
  let r := s.ring 0
  if s.ctx.ringOn 0 && producerValid r (s.ctx.ringSize 0) idx then
    .next (s.setRing 0 { r with p := idx % two32 })
  else .next { s with dev := s.dev.doorbellError }

/-- Entries that stay once the consumer index moves (R498). -/
def Ring.consume (r : Ring) (idx : Nat) : Ring :=
  let c := idx % two32
  { r with c := c, entries := r.entries.filter fun e => decide (sub32 e.1 c < sub32 r.p c) }

/-- A write to doorbell k = 1 to 5; doorbells 6 to 63 are reserved (R497, R498). -/
def execDoorbellConsumer (k idx : Nat) (s : State) : Host.Outcome State Fault Refusal :=
  if k = 0 ∨ 5 < k then .next s
  else
    let r := s.ring k
    if s.ctx.ringOn k && consumerValid r idx then .next (s.setRing k (r.consume idx))
    else .next { s with dev := s.dev.doorbellError }

/-! ## Records on their way to the host (R499) -/

/-- The first staged record of a ring, with the list without it. -/
def takeStaged (k : Nat) : List Staged → Option (Staged × List Staged)
  | [] => none
  | x :: xs =>
    if x.ring = k then some (x, xs)
    else match takeStaged k xs with
      | some (y, ys) => some (y, x :: ys)
      | none => none

/-- The bytes as they are written: TICK of a completion that takes the tick of its writing (R505), and LOST
of the first event after a drop (R499). -/
def finishRecord (r : Staged) (n : Nat) (lost : Bool) : Bytes :=
  let b := if r.stamp then r.bytes.take 12 ++ leBytes 4 n ++ r.bytes.drop 16 else r.bytes
  if r.ring = 2 ∧ lost then b.set 1 (BitVec.ofNat 8 (byteAt b 1 / 2 * 2 + 1)) else b

/-- A record takes the next entry of its ring. -/
def Ring.push (r : Ring) (b : Bytes) : Ring :=
  { r with p := succ32 r.p, since := r.since + 1, entries := r.entries ++ [(r.p, b)] }

/-- Whether the deadline of a staged record has passed: later than T0 + 476 us of its last tick (R499,
Table TCK-2). -/
def deadlinePassed (t : TimeSt) (r : Staged) : Bool :=
  match r.deadline with
  | none => false
  | some d => decide (0 < dist32 t.n d) || (decide (t.n = d) && decide (t.window = .close))

/-- The oldest staged record of ring k is written once the ring has room, unless its deadline has passed first (R496, R499).
A disabled ring other than the completion ring discards it (R495). -/
def execRingRecordWrite (k : Nat) (s : State) : Host.Outcome State Fault Refusal :=
  match takeStaged k s.dev.host.staged with
  | none => .next s
  | some (r, rest) =>
    if !s.ctx.ringOn k then
      if k = 1 then .next s
      else .next { s with dev := { s.dev with host := { s.dev.host with staged := rest } } }
    else if !s.ringRoom k ∨ !s.dev.host.mastering ∨ deadlinePassed s.time r then .next s
    else
      let b := finishRecord r s.time.n s.dev.host.lost
      let host : HostIf :=
        { s.dev.host with
          staged := rest
          owed := if k = 1 then s.dev.host.owed - 1 else s.dev.host.owed
          lost := if k = 2 then false else s.dev.host.lost }
      .next ({ s with dev := { s.dev with host := host } }.setRing k ((s.ring k).push b)).writeIndex

/-- Take the first staged record of ring k whose deadline has passed. -/
def takeExpired (t : TimeSt) (k : Nat) : List Staged → Option (List Staged)
  | [] => none
  | x :: xs =>
    if x.ring = k ∧ deadlinePassed t x then some xs
    else (takeExpired t k xs).map (x :: ·)

/-- A record whose deadline passes before it is written, its ring full or bus mastering stopped, is dropped and counted
(R493, R499). Completions are never dropped. -/
def execRingRecordDrop (k : Nat) (s : State) : Host.Outcome State Fault Refusal :=
  if k = 1 ∨ !s.ctx.ringOn k then .next s
  else match takeExpired s.time k s.dev.host.staged with
    | none => .next s
    | some rest =>
      let r := s.ring k
      let host : HostIf := { s.dev.host with staged := rest, lost := s.dev.host.lost || k == 2 }
      .next ({ s with dev := { s.dev with host := host } }.setRing k { r with drop := satAdd 16 r.drop 1 })

/-- A ring's interrupt falls due: the index block is written first, then the vector is sent, and the count
restarts (R516, R517). The command ring raises none. -/
def execInterruptDue (k : Nat) (s : State) : Host.Outcome State Fault Refusal :=
  if k = 0 ∨ 5 < k then .next s
  else
    let r := s.ring k
    if r.since = 0 ∨ !s.ctx.ringOn k ∨ !s.dev.host.mastering then .next s
    else
      let s := s.writeIndex
      .next ({ s with dev := s.dev.msi ((s.ctx.ringCfg k).field 8 6) }.setRing k { r with since := 0 })

/-- The output buffer of a W-marked command is written and its completion posted (R504). A capture read that
met an uncorrectable DRAM error completes with BAD_ARG (R452). -/
def execCommandOutputDone (cidx : Nat) (unc : Bool) (s : State) : Host.Outcome State Fault Refusal :=
  match s.dev.host.outs.find? (fun w => w.hdr.cidx = cidx) with
  | none => .next s
  | some w =>
    if !s.dev.host.mastering then .next s
    else
      let bad := unc && w.cap.isSome
      let host : HostIf :=
        { s.dev.host with
          outs := s.dev.host.outs.erase w
          written := some (w.addr, w.bytes) }
      let d : Dev := { s.dev with host := host }
      .next { s with dev :=
        if bad then d.reject w.opcode w.hdr stBadArg
        else d.complete w.opcode w.hdr stOk 0 none w.result }

/-- Whether a descriptor stands between the consumer and the producer index, and may be fetched (R493, R502,
R508). -/
def State.mayFetch (s : State) : Bool :=
  s.dev.boot.fwOk && s.dev.host.mastering && s.ctx.ringOn 0 && decide ((s.ring 0).used ≠ 0)

/-- Whether the completion ring is enabled and has an entry for one more completion owed (R502). -/
def State.completionRoom (s : State) : Bool :=
  s.ctx.ringOn 1 && decide ((s.ring 1).used + s.dev.host.owed + 1 ≤ s.ctx.ringSize 1)

/-- CMD_STALL: the device waits for completion space, or for the completion ring (R502). -/
def State.stalls (s : State) : Bool := s.mayFetch && !s.completionRoom

/-- Accept a W-marked command: its buffer is written next, its completion follows (R504). -/
def Dev.startOutput (d : Dev) (op : Nat) (h : CmdHdr) (addr : Nat) (bytes result : Bytes)
    (cap : Option Nat := none) : Dev :=
  let w : OutWork := { hdr := h, opcode := op, addr := addr, bytes := bytes, result := result, cap := cap }
  { d with host := { d.host with outs := d.host.outs ++ [w] } }

/-! ## Ring and index-block registers (R495, R525) -/

/-- Whether SETUP_LOCK closes the RWL fields (R527). -/
def Setup.locked (u : Setup) : Bool := u.lock.bit 0

/-- The bits of BWL_RINGk_CFG that the host can write (Table HST-13): VEC and the coalescing fields are
reserved for k = 0. -/
def ringCfgMask (k : Nat) : Word := if k = 0 then 0x0000001F#32 else 0xFFFF3F1F#32

/-- The configuration word after a write: ENTRIES_LOG2 never changes between two nonzero values (R495). -/
def ringCfgNext (k : Nat) (old v : Word) : Word :=
  let v := v &&& ringCfgMask k
  if old.field 0 5 ≠ 0 ∧ v.field 0 5 ≠ 0 then (v &&& 0xFFFFFFE0#32) ||| (old &&& 0x1F#32) else v

/-- A ring as a change of ENTRIES_LOG2 leaves it: both ways its indices are 0 (R495). -/
def Ring.clear (r : Ring) : Ring := { r with p := 0, c := 0, since := 0, entries := [] }

/-- A write to BASE_LO (reg 0), BASE_HI (1) or CFG (2) of ring k (R495, R518, R527). -/
def execRingCfgWrite (k reg : Nat) (v : Word) (s : State) : Host.Outcome State Fault Refusal :=
  if s.setup.locked ∨ 5 < k ∨ 2 < reg then .next s
  else
    let on := s.ctx.ringOn k
    if reg = 0 then
      if on then .next s
      else .next { s with setup := { s.setup with ringLo := s.setup.ringLo.set k (v &&& 0xFFFFF000#32) } }
    else if reg = 1 then
      if on then .next s
      else .next { s with setup := { s.setup with ringHi := s.setup.ringHi.set k v } }
    else
      let new := ringCfgNext k (s.ctx.ringCfg k) v
      let s' := { s with setup := { s.setup with ringCfg := s.setup.ringCfg.set k new } }
      if on = s'.ctx.ringOn k then .next s'
      else
        let keep := s.dev.host.staged.filter fun r => decide (r.ring ≠ k ∨ k = 1)
        .next ({ s' with dev := { s'.dev with host := { s'.dev.host with staged := keep } } }.setRing k
          (s'.ring k).clear)

/-- A write to BWL_IDX_BASE_HI takes the address up together with the held LO half (R525). -/
def execIdxBaseHiWrite (v : Word) (s : State) : Host.Outcome State Fault Refusal :=
  if s.setup.locked then .next s
  else
    .next { s with setup := { s.setup with
      idxHi := v
      idxBase := v.toNat * two32 + s.setup.idxLo.toNat } }

/-! ## The PCIe link (R493, R546) -/

/-- The configuration space and the link at their PCIe reset values. -/
def HostIf.pcieReset (h : HostIf) : HostIf := { h with bme := false, d3hot := false, linkUp := false }

/-- A condition of the PCIe link starts or ends. No other state changes (R493). -/
def HostIf.pcie (h : HostIf) : PcieEvent → HostIf
  | .hotReset => h.pcieReset
  | .linkDown => h.pcieReset
  | .linkUp => if h.perstLow then h else { h with linkUp := true, started := true }
  | .perstLow => { h.pcieReset with perstLow := true }
  | .perstHigh => { h with perstLow := false }
  | .d3hotEnter => { h with d3hot := true }
  | .d3hotExit => { h with d3hot := false }
  | .bmeClear => { h with bme := false }
  | .bmeSet => { h with bme := h.linkUp }

/-- Hot reset, link, PERST_N, D3hot and Bus Master Enable changes (R493). With TEST_N read as 0 the link
does not train (R552). -/
def execPcieLinkEvent (e : PcieEvent) (s : State) : Host.Outcome State Fault Refusal :=
  if !s.ident.testN ∧ e = .linkUp then .next s
  else .next { s with dev := { s.dev with host := s.dev.host.pcie e } }

end Sys2Proof.Machine
end

