-- ==== Sys2Proof/Machine/Yarns.lean ====
section
/-! DEFINITION. Yarn slots and credits (R117, R118, R138 to R145): which yarns the committed plan holds, the
admission and stopping of measurement yarns, and the yarn map. -/

namespace Sys2Proof.Machine

/-! ## Relay yarns of a plan (R141, R145) -/

/-- The relay yarns of a strand as (segment, position), in the order of their indices y. -/
def Plan.slots (p : Plan) (g : Nat) : List (Nat × Nat) :=
  if p.side g = 0 then []
  else ((List.range p.segs.length).zip p.segs).flatMap fun e =>
    (List.range e.2.ycount).map fun i => (e.1, i)

/-- The committed plan's relay yarns of a strand. -/
def Dev.slots (d : Dev) (g : Nat) : List (Nat × Nat) := (d.plan.committed.map fun p => p.slots g).getD []

/-- Whether a strand holds its relay yarns under a governor plan: not failed and not thinned (R145). -/
def Dev.holdsYarns (d : Dev) (r : RPlan) (g : Nat) : Bool :=
  d.side g != 0 && !(d.strand g).failed && !d.thinned r g

/-- Whether a segment's donor beam carries Painter's timing donor or a candidate: its donor-side RX yarns are never shed
(R369). -/
def Dev.painterSeg (d : Dev) (s : Seg) : Bool :=
  s.has 0 && d.ptr.cands.any fun x => x.beam == (d.beams.group s.bg).donor

/-- Whether segment i keeps its yarns on strand g: it is not shed there, or they are Painter's (Table REF-5). -/
def Dev.keepsSeg (d : Dev) (r : RPlan) (g i : Nat) : Bool :=
  !r.segShedOn i (g / 16) ||
    (d.side g == 1 && (d.plan.committed.bind fun p => p.segs[i]?).any d.painterSeg)

/-- The relay yarns that a strand holds, as (y, segment, position): shed segments hold none but Painter's (R145, R369). -/
def Dev.heldYarns (d : Dev) (r : RPlan) (g : Nat) : List (Nat × Nat × Nat) :=
  if d.holdsYarns r g then ((List.range 16).zip (d.slots g)).filter fun e => d.keepsSeg r g e.2.1 else []

/-- The rate code of a segment of the committed plan. -/
def Dev.segRate (d : Dev) (i : Nat) : Nat :=
  ((d.plan.committed.bind fun p => p.segs[i]?).map (·.yrate)).getD 0

/-- The measurement yarns of the yarn set in force (R38). -/
def Dev.liveYarns (d : Dev) : List MYarn := d.ldl.myarns.filter (·.live)

/-- The measurement yarns that hold or await their place: those not yet ended. -/
def Dev.keptYarns (d : Dev) : List MYarn := d.ldl.myarns.filter fun y => !y.ended

/-- Credits of the measurement yarns of a hawser. -/
def Dev.credMeas (d : Dev) (h : Nat) : Nat :=
  ((d.liveYarns.filter fun y => y.g / 16 == h).map fun y => creditCost y.rho).sum

/-- Credits of the relay yarns of a hawser (R142, R145). -/
def Dev.credRelay (d : Dev) (r : RPlan) (h : Nat) : Nat :=
  ((List.range 16).map fun s =>
    ((d.heldYarns r (16 * h + s)).map fun e => creditCost (d.segRate e.2.1)).sum).sum

/-- Credits that the committed plan holds on a hawser (R142, R145). -/
def Dev.credUsed (d : Dev) (r : RPlan) (h : Nat) : Nat := d.credRelay r h + d.credMeas h

/-- Credits of a hawser with the measurement yarns admitted but not yet committed (R143). -/
def Dev.credAdmitted (d : Dev) (r : RPlan) (h : Nat) : Nat :=
  d.credRelay r h + ((d.keptYarns.filter fun y => y.g / 16 == h).map fun y => creditCost y.rho).sum

/-- Step 1 items by kind: 0 snapshot by key, 1 ENTRY.LEARN, 2 ARRAY.CAL, 3 capture buffer, 4 subscription. -/
def RPlan.item1 (r : RPlan) (kind num : Nat) : Bool :=
  r.shed.any fun s => s.step == 1 && s.kind == kind && s.num == num

/-- The yarns of a strand that hold a slot, as a mask (R145). -/
def Dev.yarnMask (d : Dev) (r : RPlan) (g : Nat) : Nat :=
  let ys := (d.heldYarns r g).map (·.1) ++ (d.liveYarns.filter fun m => m.g == g).map (·.y)
  ((List.range 16).filter fun y => decide (y ∈ ys)).foldl (fun a y => a + 2 ^ y) 0

/-! ## The clock ceiling of a hawser (R364, Table REF-7) -/

/-- The Reef step that holds. -/
def Dev.reefStep (d : Dev) : Nat := d.thm.reported

/-- The settings of the steps 1…k in force. -/
def Dev.stepWords (d : Dev) (k : Nat) : List Word := d.use.thmStep.take k

/-- A clock setting: divide 1, 2 or 4, and skip. -/
abbrev Clock := Nat × Nat

/-- The capacity factor of a setting in 1/64 (Table REF-4). -/
def clockCap (k : Clock) : Nat := (16 - k.2) * 4 / k.1

/-- The clock ceiling that one step word gives (Table REF-7). -/
def clockOf (w : Word) : Clock :=
  ((if w.field 10 2 = 0 then 1 else if w.field 10 2 = 1 then 2 else 4), min 8 (w.field 12 4))

/-- The tightest clock ceiling among the steps up to k: least capacity, and on equal capacity the higher
divide. -/
def Dev.clockCeiling (d : Dev) (k : Nat) : Clock :=
  ((d.stepWords k).map clockOf).foldl
    (fun best x =>
      if clockCap x < clockCap best ∨ (clockCap x = clockCap best ∧ best.1 < x.1) then x else best) (1, 0)

/-! ## Measurement yarns (R143) -/

/-- The highest free y of a strand; the plan's indices count as taken while they are shed (assumption 25). -/
def Dev.freeSlot (d : Dev) (g : Nat) : Option Nat :=
  (List.range 16).reverse.find? fun y =>
    decide ((d.slots g).length ≤ y) && !(d.keptYarns.any fun m => m.g == g && m.y == y)

/-- The credits that a hawser holds at its clock ceiling: floor(4,096 c) (R364). -/
def Dev.creditLimit (d : Dev) : Nat := 64 * clockCap (d.clockCeiling d.reefStep)

/-- Admit one measurement yarn: a free slot on its strand and credits on its hawser (R142, R143, R364). It joins the
yarn set at the Plan window of its start tick (R38, R39). -/
def Dev.admit1 (d : Dev) (m : MYarn) : Option Dev :=
  match d.freeSlot m.g with
  | none => none
  | some y =>
    if d.creditLimit < d.credAdmitted d.reef.plan (m.g / 16) + creditCost m.rho then none
    else
      let e : MYarn := { m with y := y }
      some { d with ldl := { d.ldl with myarns := d.ldl.myarns ++ [e] } }

/-- Admit all of a list of measurement yarns, or none of them. -/
def Dev.admitAll : List MYarn → Dev → Option Dev
  | [], d => some d
  | m :: ms, d => (d.admit1 m).bind (Dev.admitAll ms)

/-- A measurement yarn of an owner, from its admission on. -/
def mkYarn (owner tag start g centreKhz rho mresp : Nat) : MYarn :=
  { live := false, ended := false, start := start, g := g, y := 0, centreKhz := centreKhz, rho := rho, mresp := mresp,
    owner := owner, tag := tag }

/-- End the measurement yarns that a condition selects: they leave the yarn set at the next Plan window (R38). -/
def Dev.endYarnsBy (d : Dev) (sel : MYarn → Bool) : Dev :=
  { d with ldl := { d.ldl with myarns := d.ldl.myarns.map fun m => if sel m then { m with ended := true } else m } }

/-- End the measurement yarns of an owner and number. -/
def Dev.freeYarns (d : Dev) (owner tag : Nat) : Dev := d.endYarnsBy fun m => m.owner == owner && m.tag == tag

/-- End the measurement yarns of an owner and number but for the newest, which later commands reserved. -/
def Dev.keepNewest (d : Dev) (owner tag keep : Nat) : Dev :=
  let mine := d.keptYarns.filter fun m => m.owner == owner && m.tag == tag
  let old := mine.take (mine.length - keep)
  d.endYarnsBy fun m => decide (m ∈ old)

/-- The Plan window commits the yarn set: yarns that ended leave it, admitted ones whose tick has come join (R38). -/
def Dev.commitYarns (d : Dev) (n : Nat) : Dev :=
  { d with ldl := { d.ldl with
      myarns := d.keptYarns.map fun m => if tickDue n m.start then { m with live := true } else m } }

/-- The yarn ID of a measurement yarn. -/
def MYarn.id (m : MYarn) : Nat := 16 * m.g + m.y

/-- Whether the plan on a measurement yarn's strand or hawser does not fit with it (R143, R364). -/
def Dev.yarnPressed (d : Dev) (r : RPlan) (m : MYarn) : Bool :=
  decide (16 < (d.slots m.g).length + (d.keptYarns.countP fun n => n.g == m.g)) ||
    decide (d.creditLimit < d.credAdmitted r (m.g / 16))

/-- The pressed measurement yarn of highest yarn ID. -/
def Dev.pressedYarn (d : Dev) (r : RPlan) : Option MYarn :=
  (d.ldl.myarns.filter fun m => d.yarnPressed r m).foldl
    (fun best m => match best with
      | none => some m
      | some b => if b.id < m.id then some m else some b) none

/-- Whether a buffer writes: ARMED or TRIGGERED (Table LDL-10). -/
def Cap.writing (b : Cap) : Bool := b.state == 1 || b.state == 2

/-- A source of buffer c stores zeros from here on, if the buffer writes (R356). -/
def Dev.capGap (d : Dev) (c : Nat) : Dev :=
  if (d.ldl.caps.getD c default).writing then
    { d with ldl := { d.ldl with
        caps := d.ldl.caps.modify c fun b => { b with gap := true }
        gapCnt := satAdd 8 d.ldl.gapCnt 1 } }
  else d

/-- Stop one measurement yarn with its event; its subscription goes idle and its snapshot ends with status 2
(R143, R348, R352). -/
def Dev.stopYarn (d : Dev) (c : Ctx) (m : MYarn) : Dev :=
  let subs := d.ldl.subs.map fun s => if m.owner = 1 ∧ s.a.subId = m.tag then { s with idle := true } else s
  let snaps := d.ldl.snaps.map fun s =>
    if m.owner = 3 ∧ s.key = m.tag ∧ s.shed = 0 then { s with shed := 2 } else s
  let d : Dev := { d with ldl := { d.ldl with myarns := d.ldl.myarns.erase m, subs := subs, snaps := snaps } }
  let d := if m.owner = 2 then d.capGap m.tag else d
  if m.owner < 4 then d.event c 8 m.id 0 m.owner (m.tag % 65536)
  else if m.owner = 4 then
    { d with free := d.free + 1 }.event c 8 m.id 0 (Config.freeMyarnKind d.free).toNat m.tag
  else d

/-- Stop measurement yarns, highest yarn ID first, until the plan fits (R143). -/
def Dev.stopPressed (c : Ctx) (r : RPlan) : Nat → Dev → Dev
  | 0, d => d
  | n + 1, d => match d.pressedYarn r with
    | none => d
    | some m => Dev.stopPressed c r n (d.stopYarn c m)

/-- A measurement yarn whose index the plan now takes, while the slots suffice, moves to the highest free one. DESIGN
CHOICE (assumption 70): R143 gives a measurement yarn the highest free y and stops it only for want of slots. -/
def Dev.moveYarns (d : Dev) : List MYarn → Dev
  | [] => d
  | m :: ms =>
    let d := if m.y < (d.slots m.g).length then
        match d.freeSlot m.g with
        | some y =>
          let l := d.ldl.myarns.map fun n => if n = m then { n with y := y } else n
          { d with ldl := { d.ldl with myarns := l } }
        | none => d
      else d
    d.moveYarns ms

/-- What a commit does to the running measurement yarns. -/
def Dev.fitYarns (d : Dev) (c : Ctx) : Dev :=
  let d := Dev.stopPressed c d.reef.plan d.ldl.myarns.length d
  d.moveYarns d.ldl.myarns

/-! ## UNS marks (R133) -/

/-- Every measurement yarn and every relay yarn of the segments that `keep` selects by index, as (yarn ID,
response index, NCO word). -/
def Dev.runningYarns (d : Dev) (r : RPlan) (keep : Nat → Bool) : List (Nat × Nat × Nat) :=
  ((List.range 128).flatMap fun g => ((d.heldYarns r g).filter fun e => keep e.2.1).map fun e =>
    (16 * g + e.1, match d.plan.committed.bind fun p => p.segs[e.2.1]? with
      | some s => (relayIndex s.yrate s.yresp, ncoWord (s.centre2 e.2.2))
      | none => (0, 0))) ++
    (d.liveYarns.filter fun m => m.owner != 5).map fun m =>
      (m.id, measIndex m.rho m.mresp, ncoWord (2 * (m.centreKhz : Int)))

/-- The rate code of a response (R124). -/
def indexRho (index : Nat) : Nat := index % 48 / 6 + 1

/-- Mark the yarns that a condition selects with a new UNS run of samples k0 to k0 + U - 1, where k0 is the first sample
at or after an instant; a new event restarts the run (R133). -/
def Dev.markUns (d : Dev) (r : RPlan) (u : Int) (sel : Nat × Nat × Nat → Bool) : Dev :=
  let new := ((d.runningYarns r fun _ => true).filter sel).map fun e =>
    (e.1, unsettled e.2.1, firstSample (indexRho e.2.1) u)
  let keep := d.conv.uns.filter fun e => new.all fun f => f.1 != e.1
  { d with conv := { d.conv with uns := keep ++ new } }

/-- The marks of a commit at T0: yarns that start or change their response or frequency (R132, R133). DESIGN CHOICE
(assumption 70): a measurement yarn that moves to another index starts there, since its yarn ID is new. -/
def Dev.markStarted (d : Dev) (before : List (Nat × Nat × Nat)) (u : Int) : Dev :=
  let d := d.markUns d.reef.plan u fun e => !decide (e ∈ before)
  let now := d.runningYarns d.reef.plan fun _ => true
  { d with conv := { d.conv with uns := d.conv.uns.filter fun e => now.any fun f => f.1 == e.1 } }

/-! ## The yarn map (R144) -/

/-- The forms of a relay yarn on a side: bit 0 RX, bit 1 TX (Table YRN-1). -/
def Seg.forms (s : Seg) (side : Nat) : Nat :=
  if s.duplex = 1 then 3
  else
    let dir := if s.dir = 1 then 0 else 1
    if side = rxSide dir then 1 else 2

/-- One entry of the yarn map (Table YRN-11). DESIGN CHOICE (assumption 71): a relay yarn that holds no slot under R145,
on a shed segment or on a thinned or failed strand, reads KIND 0. -/
def Dev.mapEntry (d : Dev) (id : Nat) : Bytes :=
  let g := id / 16
  let y := id % 16
  let entry (kind seg resp pos forms nco khz : Nat) : Bytes :=
    leBytes 2 id ++ leBytes 1 kind ++ leBytes 1 seg ++ leBytes 1 resp ++ leBytes 1 pos ++ leBytes 1 forms ++
      zeros 1 ++ leBytes 4 nco ++ leBytes 4 khz
  match d.liveYarns.find? fun m => m.g == g && m.y == y with
  | some m =>
    entry 2 0xFF (if m.owner = 5 then relayIndex m.rho 1 else measIndex m.rho m.mresp) 0
      (if m.owner = 5 then 2 else 1) (ncoWord (2 * (m.centreKhz : Int))) m.centreKhz
  | none =>
    match (d.heldYarns d.reef.plan g).find? fun e => e.1 == y with
    | none => entry 0 0xFF 0 0 0 0 0
    | some e => match d.plan.committed.bind fun p => p.segs[e.2.1]? with
      | none => entry 0 0xFF 0 0 0 0 0
      | some s =>
        let c2 := s.centre2 e.2.2
        entry 1 e.2.1 (relayIndex s.yrate s.yresp) e.2.2 (s.forms (d.side g)) (ncoWord c2) (centreKhz c2)

/-- YARN.MAP (R144, R501). -/
def cmdYarnMap (h : CmdHdr) (first count : Nat) (o : OutBuf) (s : State) : State :=
  s.onDev fun c d =>
    guarded 0x0302 h
      (outChecks o ++
        [(count == 0, stBadArg), (decide (Config.yarns c.ident.member < first + count), stBadArg),
          (!modeAccepts c.mode 0x0302, stDenied), (decide (o.len < 16 * count), stNoRoom)])
      (fun d => d.startOutput 0x0302 h o.addr ((List.range count).flatMap fun i => d.mapEntry (first + i))
        (leBytes 2 count)) d

def execYarnMap (h : CmdHdr) (first count : Nat) (o : OutBuf) (s : State) :
    Host.Outcome State Fault Refusal :=
  .next (cmdYarnMap h first count o s.fetched)

end Sys2Proof.Machine
end

