-- ==== Sys2Proof/Machine/Relay.lean ====
section
/-! DEFINITION. The relay path (Table ARC-2, stages 3 to 8) on samples: RX form outputs, combining, cancellation, gain,
reference streams, the tracer and TX form inputs (R120, R122, R132, R133, R152, R182, R185 to R188), with k_path (R229)
and the activity of loops (R177, R560). -/

namespace Sys2Proof.Machine

/-! ## System gain (R229) -/

/-- The zone response of a strand's TX mode at a doubled centre (Table CNV-3). -/
def Dev.zoneAt (d : Dev) (g : Nat) (c2 : Int) : Int := zoneResponse (d.strand g).txMix (centreKhz c2)

/-- The beam yarn whose vectors a ceiling takes: the guard beam's at its position (assumption 28). -/
def carrier (byid : Nat) : Nat := byid % 16384

/-- k_rx of a combining vector at a doubled centre, with the front-end states of a band group and direction (R229); none
where a strand has no path at the centre, or no weight is left. -/
def Dev.rxPart (d : Dev) (set : GainSet) (c2 : Int) (rx : Vec) : Option Int :=
  let fs := rx.map fun e => (d.feGain e.1 1 c2 set.lna).map fun f => isqrt (weightSq e.2 * dbLinear f)
  let sum := (fs.map fun x => x.getD 0).sum
  if rx.isEmpty || fs.any (·.isNone) || sum == 0 then none else some (2 * ratioDb sum (rx.length * 2 ^ 62))

/-- k_tx of a distribution vector. -/
def Dev.txPart (d : Dev) (set : GainSet) (c2 : Int) (tx : Vec) : Option Int :=
  let tx := tx.filter fun e => weightSq e.2 != 0
  let fs := tx.map fun e => (d.feGain e.1 2 c2 set.pag).map fun f =>
    weightSq e.2 * dbLinear (f + d.zoneAt e.1 c2)
  let sum := (fs.map fun x => x.getD 0).sum
  if tx.isEmpty || fs.any (·.isNone) || sum == 0 then none else some (ratioDb sum (2 ^ 124))

/-- Both. -/
def Dev.vecParts (d : Dev) (set : GainSet) (c2 : Int) (rx tx : Vec) : Option (Int × Int) :=
  (d.rxPart set c2 rx).bind fun a => (d.txPart set c2 tx).map fun b => (a, b)

/-- k_rx of a beam yarn under a governor plan. -/
def Dev.kRx (d : Dev) (r : RPlan) (m : Mode) (byid : Nat) : Option Int :=
  let b := carrier byid
  (d.segOfByid b).bind fun s =>
    d.rxPart (d.bel.set (byidBg b) (byidDir b)) (s.centre2 (byidPos b)) (d.rxVecOf r m b)

/-- k_rx and k_tx of a beam yarn under a governor plan. -/
def Dev.kParts (d : Dev) (r : RPlan) (m : Mode) (byid : Nat) : Option (Int × Int) :=
  let b := carrier byid
  (d.segOfByid b).bind fun s =>
    d.vecParts (d.bel.set (byidBg b) (byidDir b)) (s.centre2 (byidPos b)) (d.rxVecOf r m b) (d.txVecOf r m b)

/-- k_path of a pair of vectors, and of a beam yarn (R229). -/
def pathOf (k : Int × Int) : Int := k.1 + k.2 - 3 * dB
def Dev.kPath (d : Dev) (r : RPlan) (m : Mode) (byid : Nat) : Option Int := (d.kParts r m byid).map pathOf

/-! ## Digital gain (R135, R169) -/

/-- Whether a beam yarn is a steering slot's: Belay gives slots a ceiling and no gain of their own (R235). -/
def Dev.isSlot (d : Dev) (byid : Nat) : Bool :=
  byidDir byid == 1 && decide ((d.beams.group (byidBg byid)).fixed ≤ byidBeam byid)

/-- The digital gain code of a beam yarn at stage 6, in 1/16 dB; none where it has no gain or a mute holds it. A slot's
gain becomes a code within the range of R135. -/
def Dev.gainCode (d : Dev) (c : Ctx) (byid : Nat) : Option Int :=
  if d.yarnMuted byid then none
  else if d.isSlot byid then
    ((d.beams.slot (byidBg byid) (byidBeam byid)).bind fun s => s.gains.find? fun e => e.1 == byidPos byid).bind fun g =>
      (d.kPath d.reef.plan c.mode byid).map fun k => clampInt (floor16 (g.2 - k)) (-640) 960
  else (d.bel.yarns.find? fun y => y.byid == byid).bind fun y => if y.hasGain then some y.code else none

/-! ## Loops (R176, R177, R185, R560) -/

/-- The stream of a direction, band group and position that a beam yarn belongs to (Table CAN-1). -/
def streamKey (byid : Nat) : Nat := mkByid (byidDir byid) (byidBg byid) 0 (byidPos byid)

/-- The victim beam yarn of a binding (Table CAN-2). -/
def victim (a : CancArgs) : Nat := if a.vkind = 1 then mkByid 0 a.bg 0 a.pos else mkByid 1 a.bg a.beam a.pos

/-- The instance bound to a victim. -/
def Cancel.inst (k : Cancel) (byid : Nat) : Option Inst := k.insts.find? fun i => victim i.a == byid

/-- The loop of a victim. -/
def Cancel.loop (k : Cancel) (byid : Nat) : Option Loop := k.loops.find? fun l => l.byid == byid

/-- Where the symbols of a segment and direction lie at the contacts of a side, in ps from T0 of the present tick; none in
an FDD segment, whose every instant is one (R110, R340). Uplink symbols come later by UL_OFFS, and the service side
is displaced by the relay delay: later in the downlink, earlier in the uplink. -/
def Seg.symbolSpans (s : Seg) (c : Ctx) (dir : Nat) (service : Bool) : Option (List (Int × Int)) :=
  if s.duplex = 0 then none
  else
    let side : Int := if !service then 0 else if dir = 0 then 2048000 else -2048000
    let shift : Int := side + if dir = 0 then 0 else 1000 * s.ulOffs
    some (s.pat.spansPs c.time.sfn c.time.tif dir shift)

/-- Whether a contact time lies in a symbol of a direction. -/
def Seg.symbolAt (s : Seg) (c : Ctx) (dir : Nat) (service : Bool) (u : Int) : Bool :=
  match s.symbolSpans c dir service with
  | none => s.has dir
  | some l =>
    let x := psOfUnits (u - c.time.t0)
    l.any fun e => decide (e.1 ≤ x) && decide (x < e.2)

/-- Whether a loop's direction has a symbol in the tick, at the victim's RX contacts: always in FDD (R177, R560). -/
def Seg.loopTick (s : Seg) (c : Ctx) (dir : Nat) : Bool :=
  match s.symbolSpans c dir (dir == 1) with
  | none => true
  | some l => spansMeet l 0 (80 * (c.time.periods : Int))

/-- Whether the tick is gated for a segment's direction: only an uplink is (R368). -/
def Dev.gatedFor (d : Dev) (c : Ctx) (s : Seg) (dir : Nat) : Bool :=
  dir == 1 && d.gated c.mode s c.time.sfn c.time.tif

/-- Whether mutes hold everything that a stream transmits: its loop, or each of its beam yarns (R185). -/
def Dev.streamMuted (d : Dev) (key : Nat) (formed : List Nat) : Bool :=
  let mine := formed.filter fun b => streamKey b == key
  (d.prt.mutes.any fun m => decide (2 ≤ m.level) && m.covers key) ||
    (!mine.isEmpty && mine.all fun b => d.yarnMuted b)

/-- The strands that carry a stream's tracer: those of its TX vector that run and are not muted (R185). -/
def Dev.tracerStrands (d : Dev) (c : Ctx) (key : Nat) : Vec :=
  if modeTransmits c.mode && d.plan.valid && !d.streamMuted key (d.formedNow c) then
    (d.txVecOf d.reef.plan c.mode key).filter fun e => !d.strandMuted e.1
  else []

/-- Whether the tracer is transmitted on some aggressor-side TX form of a loop, at the power of the last Plan window (R185,
R188, R560). -/
def Dev.tracerOn (d : Dev) (c : Ctx) (byid : Nat) : Bool :=
  !(d.tracerStrands c (streamKey byid)).isEmpty && d.can.power.any fun e => e.1 == streamKey byid

/-- Whether this tick is a tick of loop activity for a formed victim (R560). -/
def Dev.loopActive (d : Dev) (c : Ctx) (byid : Nat) : Bool :=
  (d.segOfByid byid).any fun s => s.loopTick c (byidDir byid) && !d.gatedFor c s (byidDir byid) && d.tracerOn c byid

/-! ## References (R182, R217, R221) -/

/-- The source that a used reference field names: its kind, with the module for an import. -/
def refSources (a : CancArgs) : List (Nat × Nat) :=
  ((a.refs.zip a.imods).filter fun e => e.1 != 0).map fun e => (e.1, if e.1 = 4 then e.2 else 0)

/-- The position that a source of a victim at a position names: its own, the one below or the one above. -/
def refPos (kind pos : Nat) : Option Nat :=
  if kind = 2 then (if pos = 0 then none else some (pos - 1)) else if kind = 3 then some (pos + 1) else some pos

/-- Where the samples of a source are; none where there is no such position. -/
def refTap (byid : Nat) (src : Nat × Nat) : Option Tap :=
  let key (p : Nat) : Nat := mkByid (byidDir byid) (byidBg byid) 0 p
  (refPos src.1 (byidPos byid)).map fun p => if src.1 = 4 then .peer src.2 (key p) else .ref (key p)

/-- The rotation that translates sample k of a source by the difference between its centre and the victim's, in the
segment's doubled kHz (R182). -/
def Seg.translation (s : Seg) (byid : Nat) (kind : Nat) (k : Int) : Cx :=
  match refPos kind (byidPos byid) with
  | none => Cx.one
  | some p => turn ((s.centre2 p - s.centre2 (byidPos byid)) * k) (2 * rateKhz s.yrate)

/-- Whether an imported stream is lost (R221). -/
def Cancel.importLost (k : Cancel) (modId key : Nat) : Bool :=
  k.imports.any fun x => x.modId == modId && x.key == key && x.lost

/-- Whether a source of a victim is a lost import. -/
def Dev.sourceLost (d : Dev) (byid : Nat) (src : Nat × Nat) : Bool := src.1 == 4 && d.can.importLost src.2 (streamKey byid)

/-- A source's sample at a grid index, translated. A source whose stream is not formed contributes zero. -/
def refValue (ts : List Tape) (s : Seg) (byid : Nat) (src : Nat × Nat) (k : Int) : Cx :=
  match refTap byid src with
    | none => Cx.zero
    | some p =>
      let z := (tapeOf ts p).value k
      if src.1 = 2 ∨ src.1 = 3 then Cx.mul z (s.translation byid src.1 k) else z

/-- Whether an instance subtracts (R184): a relay mode other than HANK, a formed victim, active taps. -/
def Dev.subtracts (d : Dev) (c : Ctx) (i : Inst) : Bool :=
  isRelay c.mode && decide (0 < i.active) && decide (victim i.a ∈ d.formedNow c)

/-- Stage 5 at one sample (R182): what is left of the victim's sample k. An inactive loop subtracts nothing (R177). -/
def Dev.subtract (d : Dev) (c : Ctx) (ts : List Tape) (s : Seg) (i : Inst) (k : Nat) (x : Cx) : Cx :=
  let v := victim i.a
  if !d.subtracts c i ∨ !s.symbolAt c (byidDir v) (byidDir v == 1) (sampleAt s.yrate k) then x
  else
    let at_ (l : Nat) : Int := (k : Int) - i.bulk + i.a.pre - l
    let parts := List.zipWith
      (fun src w => Cx.dot w ((List.range w.length).map fun l => refValue ts s v src (at_ l)))
      (refSources i.a) i.coefs
    (Cx.sub x (Cx.sum parts)).word

/-! ## The tracer (R185 to R188) -/

/-- The two shift registers of a tracer stream (R186). -/
structure TracerGen where
  a : Nat
  b : Nat
  deriving DecidableEq, Repr, Inhabited

/-- The seed of register a: lrn is 1 only for entry learning. -/
def tracerSeed (lrn tracerId tile : Nat) : Nat := 1 + lrn * 65536 + tracerId * 16 + tile

/-- The registers at an epoch's start. -/
def TracerGen.start (lrn tracerId tile : Nat) : TracerGen :=
  { a := tracerSeed lrn tracerId tile, b := 2 ^ 31 - 1 }

/-- One step of both registers, x^31 + x^28 + 1 and x^31 + x^3 + 1, with the exclusive or of their outputs. -/
def TracerGen.step (g : TracerGen) : Nat × TracerGen :=
  let bit (x i : Nat) : Nat := x / 2 ^ i % 2
  ((bit g.a 30 + bit g.b 30) % 2,
    { a := (2 * g.a + (bit g.a 30 + bit g.a 27) % 2) % 2 ^ 31
      b := (2 * g.b + (bit g.b 30 + bit g.b 2) % 2) % 2 ^ 31 })

/-- One sample of the sequence at amplitude 1: ci and cq by two steps. -/
def TracerGen.sample (g : TracerGen) : Cx × TracerGen :=
  let x := g.step
  let y := x.2.step
  (Cx.ofPair (1 - 2 * (x.1 : Int), 1 - 2 * (y.1 : Int)), y.2)

/-- The generator after some samples, and the next samples of it. -/
def TracerGen.skip : Nat → TracerGen → TracerGen
  | 0, g => g
  | n + 1, g => TracerGen.skip n g.sample.2
def TracerGen.take : Nat → TracerGen → List Cx
  | 0, _ => []
  | n + 1, g => g.sample.1 :: TracerGen.take n g.sample.2

/-- The grid index of the running epoch's sample 0 at a rate (R187); below 0 where a SYNC came later. -/
def Dev.epochStart (d : Dev) (c : Ctx) (rho : Nat) : Int :=
  ceilDiv (((d.can.epochConv : Int) - c.time.syncConv) * periodUnits) (sampleUnits rho)

/-- The sequence of a tracer at the grid indices from a to b, at amplitude 1. -/
def Dev.tracerRun (d : Dev) (c : Ctx) (rho lrn tracerId tile a b : Nat) : List Cx :=
  let k0 := d.epochStart c rho
  let gen := TracerGen.start lrn tracerId tile
  List.replicate (min (b : Int) k0 - a).toNat Cx.zero ++
    TracerGen.take (b - max (a : Int) k0).toNat (TracerGen.skip (a - k0).toNat gen)

/-- The converter tiles of a vector. -/
def vecTiles (v : Vec) : List Nat := (v.map fun e => e.1 / 8).dedup

/-- The amplitude of one tile's tracer where all tiles of a stream together have a power in 1/16 dBFS (R188): a sample
of amplitude 1 has power 2. -/
def tracerAmp (power : Int) (tiles : Nat) : Rat :=
  if tiles = 0 then 0 else ratSqrt (fullScale * dbRat (power * dB16) / (2 * tiles : Nat))

/-! ## One beam yarn and one stream at a sample (R152, R182, R185) -/

/-- The index y that a position of a segment takes on every strand (R141). -/
def Plan.yarnIndex (p : Plan) (i pos : Nat) : Nat := ((p.segs.take i).map (·.ycount)).sum + pos

/-- What a beam yarn relays while nothing changes: its combining weights by yarn ID, the strands that transmit it, its
instance and the amplitude of its gain. -/
structure BeamPath where
  byid : Nat
  rx : List (Nat × Cx)
  txs : List Nat
  inst : Option Inst
  amp : Rat
  deriving DecidableEq, Repr, Inhabited

/-- A weight word as a number: 16,384 stands for 1.0 (R150). -/
def Cx.ofWeight (w : Nat) : Cx := { re := weightI w / 16384, im := weightQ w / 16384 }

/-- A vector by the yarn IDs of a position. -/
def Vec.onYarns (v : Vec) (y : Nat) : List (Nat × Cx) := v.map fun e => (16 * e.1 + y, Cx.ofWeight e.2)

/-- The path of a beam yarn whose position has index y. -/
def Dev.beamPath (d : Dev) (c : Ctx) (y byid : Nat) : BeamPath :=
  { byid := byid
    rx := (d.rxVecOf d.reef.plan c.mode byid).onYarns y
    txs := (d.txVecOf d.reef.plan c.mode byid).map (·.1)
    inst := d.can.inst byid
    amp := if relays c.mode && d.plan.valid then
        match d.gainCode c byid with
        | some q => dbAmp (q * dB16)
        | none => 0
      else 0 }

/-- Stage 4: y = (1/n) sum of w x over the strands, as a word; unsettled where a strand's sample is (R152). -/
def combine (ts : List Tape) (rx : List (Nat × Cx)) (k : Nat) : Smp :=
  let xs := rx.map fun e => (e.2, ((tapeOf ts (.yarn e.1)).at k).getD { z := Cx.zero, uns := false })
  { z := ((Cx.sum (xs.map fun e => Cx.mul e.1 e.2.z)).scale (1 / (rx.length : Rat))).word
    uns := xs.any (·.2.uns) }

/-- The tapes on their way through the relay path, with the strand of every TX word that saturated (R137). -/
structure Flow where
  tapes : List Tape
  clips : List Nat
  deriving DecidableEq, Repr, Inhabited

/-- Write one sample of a point. -/
def Flow.push (f : Flow) (p : Tap) (keep k : Nat) (x : Smp) : Flow := { f with tapes := pushAt f.tapes p keep k x }

/-- A value becomes a word on the way to the TX forms of some strands: one that saturates counts at each of them (R137,
assumption 110). -/
def Flow.word (f : Flow) (gs : List Nat) (z : Cx) : Flow := if z.saturates then { f with clips := gs ++ f.clips } else f

/-- Stages 4 to 6 of a beam yarn at sample k. Outside its direction's symbols it relays nothing (R263). -/
def Dev.beamSample (d : Dev) (c : Ctx) (s : Seg) (k : Nat) (f : Flow) (p : BeamPath) : Flow :=
  let keep := tapeLength s.yrate
  let x := combine f.tapes p.rx k
  let v := match p.inst with
    | some i => d.subtract c f.tapes s i k x.z
    | none => x.z
  let dir := byidDir p.byid
  let z := if s.symbolAt c dir (dir == 1) (sampleAt s.yrate k) then v.scale p.amp else Cx.zero
  ((f.push (.stage5 p.byid) keep k { x with z := v }).push (.stage6 p.byid) keep k { x with z := z.word }).word p.txs z

/-- What the TX side of a stream needs at its samples: its TX weights by yarn ID and tile, the tracers of its tiles and,
while an entry is learned, the entry's TX weights with the tracers of lrn = 1 (R185, R204). -/
structure TxPath where
  key : Nat
  y : Nat
  zone2 : Bool
  tx : List (Nat × Cx)
  quiet : List Nat
  tau : List (Nat × List Cx)
  learn : List (Nat × Cx)
  tau1 : List (Nat × List Cx)
  deriving DecidableEq, Repr, Inhabited

/-- The tracers of a path at the i-th sample of the present run, by tile. -/
def tracerAt (l : List (Nat × List Cx)) (i : Nat) : List (Nat × Cx) := l.map fun e => (e.1, e.2.getD i Cx.zero)

/-- The value of a tile in such a list. -/
def tileValue (l : List (Nat × Cx)) (tile : Nat) : Cx := ((l.find? fun e => e.1 == tile).map (·.2)).getD Cx.zero

/-- Stages 6 and 7 of a stream at sample k, the i-th of the run: its reference, its tracers, and the TX form inputs
t[g] = w (s + tau) with the entry's tracer, which zone 2 conjugates (R122, R176, R185). A strand under a strand mute
transmits nothing (R278). -/
def streamSample (rho k i : Nat) (formed : List Nat) (f : Flow) (p : TxPath) : Flow :=
  let keep := tapeLength rho
  let parts := (formed.filter fun b => streamKey b == p.key).map fun b =>
    ((tapeOf f.tapes (.stage6 b)).at k).getD { z := Cx.zero, uns := false }
  let s : Smp := { z := (Cx.sum (parts.map (·.z))).word, uns := parts.any (·.uns) }
  let tau := tracerAt p.tau i
  let tau1 := tracerAt p.tau1 i
  let f := f.push (.ref p.key) keep k s
  let put (lrn : Nat) (f : Flow) (e : Nat × Cx) : Flow :=
    f.push (.tracer lrn p.key e.1) keep k { z := e.2, uns := false }
  let f := tau1.foldl (put 1) (tau.foldl (put 0) f)
  let ids := ((p.tx ++ p.learn).map (·.1)).dedup
  ids.foldl (fun f id =>
    let tile := id / 128
    let on (l : List (Nat × Cx)) : Cx := ((l.find? fun e => e.1 == id).map (·.2)).getD Cx.zero
    let z := if id / 16 ∈ p.quiet then Cx.zero
      else Cx.add (Cx.mul (on p.tx) (Cx.add s.z (tileValue tau tile))) (Cx.mul (on p.learn) (tileValue tau1 tile))
    (f.push (.tx id) keep k { s with z := if p.zone2 then z.word.flip else z.word }).word [id / 16] z) f

/-! ## The entry under learning (R204) -/

/-- The band group and entry that are learned in this tick: a learning whose work is not shed and is at an entry. -/
def Dev.learning (d : Dev) : Option (Nat × Nat) :=
  if d.reef.plan.shed.any fun s => s.step == 1 && s.kind == 1 then none
  else d.can.learn.bind fun l => if l.at_ < l.a.e + l.a.n then some (l.a.bg, l.at_) else none

/-- The vector of the entry under learning for a band group, on the strands that count. -/
def Dev.learnVec (d : Dev) (c : Ctx) (bg : Nat) : Vec :=
  match d.learning with
  | some (g, e) => if g = bg then d.live d.reef.plan c.mode 2 (d.beams.entryVec bg e) else []
  | none => []

/-- The TX side of a stream for the samples from a to b. -/
def Dev.txPath (d : Dev) (c : Ctx) (s : Seg) (y a b key : Nat) : TxPath :=
  let id := c.setup.canCfg.field 0 12
  let on := d.tracerStrands c key
  let tiles := vecTiles on
  let power := (d.can.power.find? fun e => e.1 == key).map (·.2)
  let learn := if byidDir key = 0 && !on.isEmpty then Vec.conj (d.learnVec c (byidBg key)) else []
  let run (lrn : Nat) (ts : List Nat) : List (Nat × List Cx) := match power with
    | none => []
    | some x => ts.map fun t =>
        (t, (d.tracerRun c s.yrate lrn id t a b).map fun z => z.scale (tracerAmp x ts.length))
  { key := key
    y := y
    zone2 := decide (12500000 < s.centre2 (byidPos key))
    tx := (d.txVecOf d.reef.plan c.mode key).onYarns y
    quiet := ((d.txVecOf d.reef.plan c.mode key).map (·.1)).filter fun g => d.strandMuted g
    tau := run 0 tiles
    learn := Vec.onYarns (learn.filter fun e => !d.strandMuted e.1) y
    tau1 := run 1 (vecTiles learn) }

/-! ## The samples of a command (R120, R122, R132, R133) -/

/-- The segment and position of a relay yarn that runs (R141, R145). -/
def Dev.relayYarn (d : Dev) (id : Nat) : Option (Seg × Nat) :=
  ((d.heldYarns d.reef.plan (id / 16)).find? fun e => e.1 == id % 16).bind fun e =>
    (d.plan.committed.bind fun p => p.segs[e.2.1]?).map fun s => (s, e.2.2)

/-- An RX form of a rate code, response and doubled centre. -/
def rxFormOf (rho index : Nat) (c2 : Int) : RxForm :=
  { rho := rho, index := index, nco := ncoWord c2, zone2 := decide (12500000 < c2) }

/-- The RX form that a yarn runs: a live measurement yarn's, or a relay yarn's (Table YRN-1). -/
def Dev.rxForm (d : Dev) (id : Nat) : Option RxForm :=
  match d.liveYarns.find? fun m => m.id == id with
  | some m => if m.owner = 5 then none else some (rxFormOf m.rho (measIndex m.rho m.mresp) (2 * (m.centreKhz : Int)))
  | none => (d.relayYarn id).bind fun e =>
      if e.1.forms (d.side (id / 16)) % 2 = 1 then
        some (rxFormOf e.1.yrate (relayIndex e.1.yrate e.1.yresp) (e.1.centre2 e.2))
      else none

/-- The TX form that a yarn runs: a test signal's, or a relay yarn's (Table YRN-1, R415). -/
def Dev.txForm (d : Dev) (id : Nat) : Option TxForm :=
  let form (rho resp : Nat) (c2 : Int) : TxForm :=
    { rho := rho, resp := resp, c2 := c2, mix := (d.strand (id / 16)).txMix }
  match d.liveYarns.find? fun m => m.id == id with
  | some m => if m.owner = 5 then some (form m.rho 1 (2 * (m.centreKhz : Int))) else none
  | none => (d.relayYarn id).bind fun e =>
      if e.1.forms (d.side (id / 16)) / 2 = 1 then some (form e.1.yrate e.1.yresp (e.1.centre2 e.2)) else none

/-- Whether sample k of a yarn carries UNS: it lies in the yarn's last run (R133). -/
def Conv.unsettledAt (v : Conv) (id k : Nat) : Bool :=
  v.uns.any fun e => e.1 == id && decide (e.2.2 ≤ k) && decide (k < e.2.2 + e.2.1)

/-- The words of a run that belong to the present tick, with their grid indices. -/
def tickWords (t : TimeSt) (rho first : Nat) (ws : List (Int × Int)) : List (Nat × Cx) :=
  let lo := firstSample rho t.t0
  let hi := firstSample rho t.t1
  (((indices first (first + ws.length)).zip ws).filter fun e => decide (lo ≤ e.1) && decide (e.1 < hi)).map fun e =>
    (e.1, Cx.ofPair e.2)

/-- The RX form's output samples of a yarn: a zone-2 yarn's are conjugated (R122), and UNS is marked (R133). -/
def Dev.takeYarn (d : Dev) (c : Ctx) (ts : List Tape) (w : YarnWords) : List Tape :=
  match d.rxForm w.id with
  | none => ts
  | some f =>
    (tickWords c.time f.rho w.first w.words).foldl (fun ts e =>
      pushAt ts (.yarn w.id) (tapeLength f.rho) e.1
        { z := if f.zone2 then e.2.flip else e.2, uns := d.conv.unsettledAt w.id e.1 }) ts

/-- How many words of a strand's RX converter are kept: 100 us, more than any RX form looks back. -/
def stripLength : Nat := 1250000

/-- The words of a strand's RX converter in the present tick join its tape. -/
def takeStrand (c : Ctx) (ts : List Tape) (w : StrandWords) : List Tape :=
  let lo := c.time.conv - c.time.syncConv
  (((indices w.first (w.first + w.words.length)).zip w.words).filter fun e =>
      decide (lo ≤ e.1) && decide (e.1 < lo + c.time.periods)).foldl (fun ts e =>
    pushAt ts (.rx w.g) stripLength e.1 { z := { re := e.2, im := 0 }, uns := false }) ts

/-- Before zone 2 conjugates them, the words that a yarn's RX form makes of its strand's words (Table YRN-2): the samples
after the last it has delivered whose delay has passed at the end of the strand's words (R129, R132). -/
def Dev.formWords (d : Dev) (c : Ctx) (ts : List Tape) (w : StrandWords) (id : Nat) : Option YarnWords :=
  (d.rxForm id).map fun f =>
    let x := tapeOf ts (.rx w.g)
    let a := max (max (firstSample f.rho c.time.t0) (firstSample f.rho ((w.first : Int) * periodUnits)))
      (tapeOf ts (.yarn id)).next
    let b := firstSample f.rho ((x.next : Int) * periodUnits - f.delayNs * nsUnits)
    { id := id, first := a, words := (indices a b).map fun k =>
        let z := ({ f with zone2 := false }).words x.signal k
        (nearest z.re, nearest z.im) }

/-- The yarn words of the strands' words. -/
def Dev.formRun (d : Dev) (c : Ctx) (ts : List Tape) (ws : List StrandWords) : List YarnWords :=
  ws.flatMap fun w => (List.range 16).filterMap fun y => d.formWords c ts w (16 * w.g + y)

/-- The samples of an imported stream, 1,000 ns after the exporter formed them on the common grid (R218). A lost stream is
zero from its first affected sample on (R221): nothing of it is written, and what a tape does not hold reads as 0. -/
def Dev.takePeer (d : Dev) (c : Ctx) (ts : List Tape) (w : PeerWords) : List Tape :=
  let rho := d.rhoOf w.key
  if d.can.importLost w.modId w.key then ts
  else (tickWords c.time rho w.first w.words).foldl (fun ts e =>
    pushAt ts (.peer w.modId w.key) (tapeLength rho) e.1 { z := e.2, uns := false }) ts

/-- Stages 4 to 8 of one band group and direction, for the samples that its RX forms delivered. -/
def Dev.flowGroup (d : Dev) (c : Ctx) (yarns : List YarnWords) (f : Flow) (key : Nat) : Flow :=
  let bg := byidBg key
  let dir := byidDir key
  match d.plan.committed.bind fun p => (p.segIndex bg dir).bind fun i => p.segs[i]?.map fun s => (p, i, s) with
  | none => f
  | some (p, i, s) =>
    let y0 := p.yarnIndex i 0
    let mine := yarns.filter fun w =>
      d.side (w.id / 16) == rxSide dir && decide (y0 ≤ w.id % 16) && decide (w.id % 16 < y0 + s.ycount)
    let ks := mine.flatMap fun w => (tickWords c.time s.yrate w.first w.words).map (·.1)
    let a := ks.foldl min (ks.headD 0)
    let b := ks.foldl (fun m k => max m (k + 1)) 0
    let formed := (d.formedNow c).filter fun b => byidBg b == bg && byidDir b == dir
    let beams := formed.map fun b => d.beamPath c (y0 + byidPos b) b
    let outs := (List.range s.ycount).map fun pos => d.txPath c s (y0 + pos) a b (mkByid dir bg 0 pos)
    (indices a b).foldl (fun f k =>
      outs.foldl (streamSample s.yrate k (k - a) formed) (beams.foldl (fun f q => d.beamSample c s k f q) f)) f

/-! ## Test signals (R415) -/

/-- Whether a test signal is sent at a contact time: while no mute or calibration holds its strand (R29, R91), and with
PA_EN in a TDD segment only in the symbols of the direction that its strand's side transmits. -/
def Dev.testSends (d : Dev) (c : Ctx) (t : TxTest) (u : Int) : Bool :=
  if d.paHeld t.g then false
  else if t.a.paEn = 0 then true
  else match d.paTest t.g with
    | none => false
    | some (_, s) => [0, 1].any fun dir => s.has dir && txSide dir == d.side t.g && s.symbolAt c dir (dir == 1) u

/-- The noise of a test at the samples from a to b, at an RMS of 1: the pseudo-noise of R186 for the strand's tile, shaped
by its relay response, over which the response's energy spreads the power. -/
def Dev.testNoise (d : Dev) (c : Ctx) (t : TxTest) (a b : Nat) : List Cx :=
  let index := relayIndex t.a.rho 1
  let n := respTaps index
  let lo := a - n
  let run := d.tracerRun c t.a.rho 0 (c.setup.canCfg.field 0 12) (t.g / 8) lo (b + n)
  let energy : Rat := ((List.range n).map fun i => Config.freeResponse index i * Config.freeResponse index i).sum
  (indices a b).map fun k =>
    (response index (fun i => if i < lo then Cx.zero else run.getD (i - lo).toNat Cx.zero) k).scale
      (ratSqrt (1 / (2 * energy)))

/-- The TX form input of a test at the samples from a to b at an RMS of LEVEL: a tone at the yarn centre, or the noise.
Zone 2 conjugates it (R122). -/
def Dev.testRun (d : Dev) (c : Ctx) (t : TxTest) (a b : Nat) : List (Nat × Cx) :=
  let amp := ratSqrt (fullScale * dbRat (t.a.level * dB16))
  let xs := if t.a.kind = 1 then (indices a b).map fun _ => Cx.one else d.testNoise c t a b
  ((indices a b).zip xs).map fun e =>
    let z := (e.2.scale amp).word
    (e.1, if !d.testSends c t (sampleAt t.a.rho e.1) then Cx.zero
      else if 6250000 < t.a.centreKhz then z.flip else z)

/-- A running test writes the samples of the tick. -/
def Dev.testTick (c : Ctx) (d : Dev) (t : TxTest) : Dev :=
  if !t.on || t.ended then d
  else
    let xs := d.testRun c t (firstSample t.a.rho c.time.t0) (firstSample t.a.rho c.time.t1)
    { d with tapes := xs.foldl (fun ts e =>
      pushAt ts (.tx (16 * t.g + t.y)) (tapeLength t.a.rho) e.1 { z := e.2, uns := false }) d.tapes }

/-- The test signals of a tick. -/
def Dev.testTicks (d : Dev) (c : Ctx) : Dev := d.conv.tests.foldl (Dev.testTick c) d

/-! ## The strand sum (R119, R130, R137) -/

/-- TX_CLIP of a strand counts some saturations, and saturates itself (R137). -/
def Dev.countTx (d : Dev) (g k : Nat) : Dev :=
  { d with conv := { d.conv with
      strands := d.conv.strands.modify g fun x => { x with txClip := satAdd 8 x.txClip k } } }

/-- The TX forms of a strand with their inputs. -/
def Dev.txForms (d : Dev) (g : Nat) : List (TxForm × Tape) :=
  (List.range 16).filterMap fun y =>
    (d.txForm (16 * g + y)).bind fun f => (d.tapes.find? fun t => t.tap == .tx (16 * g + y)).map fun t => (f, t)

/-- The sum that passes to a strand's TX converter at a converter period, counted from the SYNC instant, before it
saturates. -/
def Dev.strandOut (d : Dev) (g : Nat) : Signal := strandSum ((d.txForms g).map fun e => (e.1, e.2.signal))

/-- The converter periods of the present tick at which the inputs of some TX form of a strand reach its contact. -/
def Dev.sumSpan (d : Dev) (c : Ctx) (g : Nat) : Nat × Nat :=
  let lo := c.time.conv - c.time.syncConv
  let at_ (f : TxForm) (k : Nat) : Nat := (ceilDiv (sampleAt f.rho k + relayUnits) periodUnits).toNat
  let spans := (d.txForms g).map fun e => (at_ e.1 (e.2.next - e.2.data.length), at_ e.1 e.2.next)
  (spans.foldl (fun m x => min m x.1) (lo + c.time.periods) |> max lo,
    spans.foldl (fun m x => max m x.2) lo |> min (lo + c.time.periods))

/-- The saturations of the strand sums of the tick that ends count (R137). -/
def Dev.sumTicks (d : Dev) (c : Ctx) : Dev :=
  ((List.range c.strands).filter fun g => !(d.txForms g).isEmpty).foldl (fun d g =>
    let x := d.sumSpan c g
    d.countTx g ((indices x.1 x.2).countP fun n => (d.strandOut g n).saturates)) d

/-! ## Grids that change -/

/-- The rate code of the samples of a point; none where nothing runs there, and for the words of a converter. -/
def Dev.tapRho (d : Dev) (p : Tap) : Option Nat :=
  let of (byid : Nat) : Option Nat := (d.segOfByid byid).map (·.yrate)
  match p with
  | .rx _ => none
  | .yarn id => (d.rxForm id).map (·.rho)
  | .tx id => (d.txForm id).map (·.rho)
  | .stage5 b | .stage6 b | .ref b | .peer _ b | .tracer _ b _ => of b

/-- A commit that changes the rate of a point starts its grid anew (R132): its tape starts again. -/
def Dev.restartTapes (old d : Dev) : Dev :=
  { d with tapes := d.tapes.filter fun t => decide (old.tapRho t.tap = d.tapRho t.tap) }

/-! ## The path -/

/-- The relay path takes the samples of a command (Table ARC-2). -/
def Dev.flow (d : Dev) (c : Ctx) (x : Samples) : Dev :=
  let ts := x.strands.foldl (takeStrand c) d.tapes
  let yarns := x.yarns ++ d.formRun c ts x.strands
  let ts := x.peers.foldl (fun ts w => d.takePeer c ts w) (yarns.foldl (fun ts w => d.takeYarn c ts w) ts)
  let keys := (List.range 8).flatMap fun bg => [mkByid 0 bg 0 0, mkByid 1 bg 0 0]
  let f := keys.foldl (fun f k => d.flowGroup c yarns f k) { tapes := ts, clips := [] }
  f.clips.foldl (fun d g => d.countTx g 1) { d with tapes := f.tapes }

/-- The samples of a command pass the relay path while ticks run. -/
def State.feed (s : State) (x : Samples) : State := if s.time.running then s.onDev fun c d => d.flow c x else s

end Sys2Proof.Machine
end

