-- ==== Sys2Proof/Machine/Solver.lean ====
section
/-! DEFINITION. Correlation and solution of the cancellers on the tapes of the relay path: the accumulators (R194, R196),
block least squares (R195), the tracer estimates (R189), couplings and isolations (R190), the windows of reduced tap
counts (R201), the solutions for removed converter tiles (R202) and stored coefficients (R204, R207). -/

namespace Sys2Proof.Machine

/-! ## Least squares (R195) -/

/-- A row without its first unknown, after subtracting a pivot row. Rows hold the coefficients of the unknowns and the
right side last. -/
def eliminate (p q : List Cx) : List Cx :=
  match q with
  | [] => []
  | h :: t => List.zipWith (fun a b => Cx.sub a (Cx.mul h b)) t p

/-- The unknowns of a list of rows. The matrix is Hermitian and positive definite, so no pivot is 0. -/
def solveRows : Nat → List (List Cx) → List Cx
  | n + 1, (h :: t) :: rs =>
    let p := t.map (Cx.mul h.inv)
    let x := solveRows n (rs.map (eliminate p))
    Cx.sub (p.getLastD Cx.zero) (Cx.dot p x) :: x
  | _, _ => []

/-- The entries of a list that a selection keeps. -/
def keepSel {α : Type} : List Bool → List α → List α
  | true :: s, x :: xs => x :: keepSel s xs
  | false :: s, _ :: xs => keepSel s xs
  | _, _ => []

/-- The list whose selected entries are given and whose others are 0. -/
def fillSel : List Bool → List Cx → List Cx
  | [], _ => []
  | false :: s, xs => Cx.zero :: fillSel s xs
  | true :: s, xs => xs.headD Cx.zero :: fillSel s xs.tail

/-- The diagonal term that R195 adds: 2^-20 x trace(A) / (R x L). -/
def diagonal (a : List (List Cx)) : Rat :=
  (((List.range a.length).map fun i => ((a.getD i []).getD i Cx.zero).re).sum) / (2 ^ 20 * a.length : Nat)

/-- w = (A + delta I)^-1 b on the selected taps, 0 on the others; 0 where nothing was accumulated. -/
def leastSquares (a : List (List Cx)) (b : List Cx) (sel : List Bool) : List Cx :=
  let delta := diagonal a
  if delta ≤ 0 then sel.map fun _ => Cx.zero
  else
    let rows := (List.range a.length).map fun i =>
      let row := a.getD i []
      keepSel sel (row.set i (Cx.add (row.getD i Cx.zero) { re := delta, im := 0 })) ++ [b.getD i Cx.zero]
    let rows := keepSel sel rows
    fillSel sel (solveRows rows.length rows)

/-! ## Sums of lists -/

/-- The sum of two lists, the longer one's rest kept. -/
def addList : List Cx → List Cx → List Cx
  | [], ys => ys
  | xs, [] => xs
  | x :: xs, y :: ys => Cx.add x y :: addList xs ys

def scaleList (r : Rat) (l : List Cx) : List Cx := l.map (Cx.scale r)
def subList (xs ys : List Cx) : List Cx := addList xs (scaleList (-1) ys)

/-- The sum of |x|^2. -/
def energy (l : List Cx) : Rat := (l.map Cx.sq).sum

/-- The sum of two matrices. -/
def addRows : List (List Cx) → List (List Cx) → List (List Cx)
  | [], b => b
  | a, [] => a
  | x :: a, y :: b => addList x y :: addRows a b

/-- The sum of two lists by tile. -/
def addTiles (a b : List (Nat × List Cx)) : List (Nat × List Cx) :=
  ((a.map (·.1)) ++ b.map (·.1)).dedup.map fun t =>
    let of (l : List (Nat × List Cx)) : List Cx := ((l.find? fun e => e.1 == t).map (·.2)).getD []
    (t, addList (of a) (of b))

/-! ## The samples of a Close -/

/-- The grid indices of a tape from a mark on, as far as it holds them. -/
def Tape.since (t : Tape) (mark : Nat) : List Nat := indices (max mark (t.next - t.data.length)) t.next

/-- Those of them at which a victim's loop is active (R177). -/
def Seg.activeIndices (s : Seg) (c : Ctx) (byid : Nat) (ks : List Nat) : List Nat :=
  ks.filter fun k => s.symbolAt c (byidDir byid) (byidDir byid == 1) (sampleAt s.yrate k)

/-- The index y of a beam yarn's position on every strand (R141). -/
def Dev.yarnIndexOf (d : Dev) (byid : Nat) : Nat :=
  ((d.plan.committed.bind fun p => (p.segIndex (byidBg byid) (byidDir byid)).map fun i =>
    p.yarnIndex i (byidPos byid))).getD 0

/-! ## The accumulators (R194) -/

/-- The taps of a binding's window, reference by reference. -/
def windowTaps (a : CancArgs) : List ((Nat × Nat) × Nat) :=
  (refSources a).flatMap fun src => (List.range a.taps).map fun l => (src, l)

/-- The reference samples of a binding's window at victim sample k. -/
def windowRow (ts : List Tape) (s : Seg) (i : Inst) (k : Nat) : List Cx :=
  (windowTaps i.a).map fun e => refValue ts s (victim i.a) e.1 ((k : Int) - i.bulk + i.a.pre - e.2)

/-- Whether a reference sample of the window carries UNS. -/
def windowUnsettled (ts : List Tape) (i : Inst) (k : Nat) : Bool :=
  (windowTaps i.a).any fun e =>
    let j : Int := (k : Int) - i.bulk + i.a.pre - e.2
    decide (0 ≤ j) && (refTap (victim i.a) e.1).any fun p => ((tapeOf ts p).at j.toNat).any (·.uns)

/-- The sub-sums of a beam yarn by converter tile at a sample, each a part of (1/n) sum of w x (R152, R194). -/
def subSums (ts : List Tape) (rx : List (Nat × Cx)) (k : Nat) : List (Nat × Cx) :=
  ((rx.map fun e => e.1 / 128).dedup).map fun t =>
    (t, (Cx.sum ((rx.filter fun e => e.1 / 128 == t).map fun e =>
      Cx.mul e.2 ((tapeOf ts (.yarn e.1)).value k))).scale (1 / (rx.length : Rat)))

/-- What one tick adds to the accumulators of an instance. Samples at which the victim or a reference carries UNS are
left out. -/
def Dev.correlate (d : Dev) (s : Seg) (i : Inst) (rx : List (Nat × Cx)) (ks : List Nat) :
    List (List Cx) × List (Nat × List Cx) :=
  ks.foldl
    (fun acc k =>
      if (combine d.tapes rx k).uns || windowUnsettled d.tapes i k then acc
      else
        let x := (windowRow d.tapes s i k).map Cx.conj
        (addRows acc.1 (x.map fun p => x.map fun q => Cx.mul p q.conj),
          addTiles acc.2 ((subSums d.tapes rx k).map fun e => (e.1, x.map fun p => Cx.mul p e.2))))
    ([], [])

/-- alpha = 1 - 2^-F, and 0 for F = 0 (R196). -/
def forgetting (f : Nat) : Rat := if f = 0 then 0 else 1 - 1 / (2 ^ f : Nat)

/-- The accumulators after a tick of loop activity (R196). -/
def Inst.accumulate (i : Inst) (x : List (List Cx) × List (Nat × List Cx)) : Inst :=
  let r := forgetting i.a.forget
  { i with
    accA := addRows (i.accA.map (scaleList r)) x.1
    accB := addTiles (i.accB.map fun e => (e.1, scaleList r e.2)) x.2 }

/-- b summed over the tiles that a condition keeps. -/
def tileSum (b : List (Nat × List Cx)) (keep : Nat → Bool) : List Cx :=
  (b.filter fun e => keep e.1).foldl (fun acc e => addList acc e.2) []

/-- The coefficients of the references of a binding, cut from one list of taps. -/
def splitRefs (a : CancArgs) (w : List Cx) : Coefs :=
  (List.range (refSources a).length).map fun r => (w.drop (r * a.taps)).take a.taps

/-- The coefficients that subtract nothing. -/
def zeroCoefs (a : CancArgs) : Coefs := (refSources a).map fun _ => List.replicate a.taps Cx.zero

/-! ## Tracer estimates (R189) -/

/-- The number of a reference's source in the estimates: its kind, or 4 + m for module m. -/
def sourceOf (src : Nat × Nat) : Nat := if src.1 = 4 then 4 + src.2 else src.1

/-- Lags from 0 that an estimate covers at a rate: 16 us, or the end of the lag window (R183, R189). -/
def lagCount (rho : Nat) (i : Option Inst) : Nat :=
  let far := match i with
    | some i => if i.a.taps = 0 then 0 else i.bulk + i.a.taps + samplesIn rho 3000
    | none => 0
  max (samplesIn rho 16000 + 1) far

/-- The lag window of a victim: from 1 us before the tap window to 3 us after it; without taps 0 to 16 us
(DESIGN CHOICE, assumption 81). -/
def lagWindow (rho : Nat) (i : Option Inst) : Nat × Nat :=
  match i with
  | some i =>
    if i.a.taps = 0 then (0, samplesIn rho 16000 + 1)
    else (i.bulk - i.a.pre - samplesIn rho 1000, i.bulk - i.a.pre + i.a.taps + samplesIn rho 3000)
  | none => (0, samplesIn rho 16000 + 1)

/-- The correlation of samples with a tracer at the lags from 0, and the tracer's energy over them. -/
def tileEst (src tile lags : Nat) (v : List (Nat × Cx)) (tau : Int → Cx) : TileEst :=
  { src := src
    tile := tile
    energy := energy (v.map fun e => tau e.1)
    corr := (List.range lags).map fun m => Cx.sum (v.map fun e => Cx.mul e.2 (tau ((e.1 : Int) - m)).conj) }

/-- The tracer of a spliced module's tile at the grid indices from a on, at the power at which that module sends it
(R220). -/
def Dev.peerTracer (d : Dev) (c : Ctx) (rho modId id tile key a b : Nat) : Int → Cx :=
  let run := d.tracerRun c rho 0 id tile a b
  let amp := tracerAmp (Config.freePeerTracer modId key c.n) 1
  fun k => if k < a then Cx.zero else (run.getD (k - a).toNat Cx.zero).scale amp

/-- One tick's estimates of a victim, for every source and tile of its loop (R189, R220): the victim's own position, the
neighbouring positions that its instance references, translated, and the aggressor-side tiles of every spliced module. -/
def Dev.estimate (d : Dev) (c : Ctx) (s : Seg) (byid : Nat) (i : Option Inst) (ks : List Nat) : List TileEst :=
  let v : List (Nat × Cx) := ks.map fun k => (k, (tapeOf d.tapes (.stage5 byid)).value (k : Int))
  let lags := lagCount s.yrate i
  let key (p : Nat) : Nat := mkByid (byidDir byid) (byidBg byid) 0 p
  let kinds := 1 :: ((i.map fun i => (refSources i.a).map (·.1)).getD []).filter fun k => k == 2 || k == 3
  let own := kinds.flatMap fun kind => match refPos kind (byidPos byid) with
    | none => []
    | some p =>
      if s.ycount ≤ p then []
      else (vecTiles (d.tracerStrands c (key p))).map fun t =>
        let tape := tapeOf d.tapes (.tracer 0 (key p) t)
        tileEst kind t lags v fun k => Cx.mul (tape.value k) (if kind = 1 then Cx.one else s.translation byid kind k)
  let a := ks.headD 0 - lags
  let b := ks.getLastD 0 + 1
  let peers := d.splice.peers.flatMap fun p =>
    ((List.range 16).filter fun t => Config.freePeerTile p.modId (key (byidPos byid)) t).map fun t =>
    tileEst (4 + p.modId) t lags v (d.peerTracer c s.yrate p.modId p.tracer t (key (byidPos byid)) a b)
  own ++ peers

/-- Add estimates tile by tile. -/
def addEsts (l m : List TileEst) : List TileEst :=
  m.foldl
    (fun l e =>
      if l.any fun x => x.src == e.src && x.tile == e.tile then
        l.map fun x => if x.src == e.src && x.tile == e.tile then
          { x with energy := x.energy + e.energy, corr := addList x.corr e.corr } else x
      else l ++ [e]) l

/-- h_t of one source tile: 0 where nothing of its tracer was seen. -/
def TileEst.taps (e : TileEst) : List Cx := if e.energy ≤ 0 then [] else scaleList (1 / e.energy) e.corr

/-- h of a source over a tracer window: the sum over the tiles that a condition keeps (R190). -/
def couplingTaps (est : List TileEst) (src : Nat) (keep : Nat → Bool) : List Cx :=
  ((est.filter fun e => e.src == src && keep e.tile).map TileEst.taps).foldl addList []

/-- The estimates that a loop's tracer window holds, summed over its ticks. -/
def Loop.window (l : Loop) : List TileEst := l.hist.foldl addEsts []

/-- The lag of the largest of some taps, the first on a tie. -/
def largestTap (h : List Cx) : Nat :=
  ((List.range h.length).zip h).foldl (fun best e => if (h.getD best Cx.zero).sq < e.2.sq then e.1 else best) 0

/-- The lag of the largest tap of an estimate over 0 to 16 us (R183). -/
def largestLag (rho : Nat) (h : List Cx) : Nat := largestTap (h.take (samplesIn rho 16000 + 1))

/-! ## Couplings and isolations (R190) -/

/-- The coefficient that stands at a lag. -/
def Inst.at (i : Inst) (row : List Cx) (m : Nat) : Cx :=
  if m + i.a.pre < i.bulk then Cx.zero else row.getD (m + i.a.pre - i.bulk) Cx.zero

/-- The coefficients that count against a source: none while its import is lost (R221). -/
def Dev.rowFor (d : Dev) (i : Inst) (w : Coefs) (src : Nat) : List Cx :=
  (((refSources i.a).zip w).find? fun e => sourceOf e.1 == src && !d.sourceLost (victim i.a) e.1).elim [] (·.2)

/-- The sources of a loop's coupling: its own position, the positions its instance references and every spliced module. -/
def Dev.couplingSources (d : Dev) (i : Option Inst) : List Nat :=
  let refs : List Nat := match i with
    | some i => (refSources i.a).map sourceOf
    | none => []
  let peers : List Nat := d.splice.peers.map fun p => 4 + p.modId
  (1 :: refs ++ peers).dedup

/-- The power of h - w over a loop's sources and lag window, h of the module's own sources over the tiles that a condition
keeps. -/
def Dev.couplingPower (d : Dev) (rho : Nat) (est : List TileEst) (keep : Nat → Bool) (i : Option Inst) (w : Coefs) : Rat :=
  let x := lagWindow rho i
  ((d.couplingSources i).map fun src =>
    let h := couplingTaps est src fun t => decide (4 ≤ src) || keep t
    ((indices x.1 x.2).map fun m =>
      (Cx.sub (h.getD m Cx.zero) (match i with
        | some i => i.at (d.rowFor i w src) m
        | none => Cx.zero)).sq).sum).sum

/-- I = k_path - C in 1/16 dB, rounded down, for a coupling power lifted by a margin in 1/16 dB; none where k_path is
undefined (R178, R190). -/
def isolation (free : Nat) (k : Option Int) (p : Rat) (margin : Nat) : Option Int :=
  k.map fun k => match ratDb p with
    | some x => floor16 (k - x) - margin
    | none => Config.freeLevel free

/-! ## Windows of reduced counts (R184, R201) -/

/-- The first tap of the best window of n taps: that with the most energy, the first on a tie. -/
def bestWindow (h : List Cx) (n : Nat) : Nat :=
  let e (k : Nat) : Rat := energy ((h.drop k).take n)
  (List.range (h.length - n + 1)).foldl (fun best k => if e best < e k then k else best) 0

/-- The estimate at the taps of a binding's window for a source. -/
def Inst.inWindow (i : Inst) (h : List Cx) : List Cx :=
  (List.range i.a.taps).map fun l => if i.bulk + l < i.a.pre then Cx.zero else h.getD (i.bulk + l - i.a.pre) Cx.zero

/-- The taps that are active when an instance runs with n per reference: all of them, or for each reference the best
window of n (DESIGN CHOICE, assumption 82). -/
def Inst.activeTaps (i : Inst) (est : List TileEst) (n : Nat) : List (List Bool) :=
  (refSources i.a).map fun src =>
    let k := bestWindow (i.inWindow (couplingTaps est (sourceOf src) fun _ => true)) n
    (List.range i.a.taps).map fun l => decide (k ≤ l) && decide (l < k + n)

/-- A row with 0 at the taps that a selection leaves out. -/
def onTaps (sel : List Bool) (row : List Cx) : List Cx := List.zipWith (fun on z => if on then z else Cx.zero) sel row

/-- h restricted to the active tap windows (R198, R201). -/
def Inst.restricted (i : Inst) (est : List TileEst) (n : Nat) : Coefs :=
  List.zipWith
    (fun src sel => onTaps sel (i.inWindow (couplingTaps est (sourceOf src) fun _ => true)))
    (refSources i.a) (i.activeTaps est n)

/-- The five counts of R201. -/
def drafts (taps : Nat) : List Nat := [taps, taps / 2, taps / 4, taps / 8, 0]

/-! ## Solutions (R195, R198, R202, R221) -/

/-- The coefficients of an import that is lost stay frozen (R221). -/
def Dev.freezeRows (d : Dev) (i : Inst) (w : Coefs) : Coefs :=
  List.zipWith
    (fun src e => if d.sourceLost (victim i.a) src then e.1 else e.2)
    (refSources i.a) (i.coefs.zip w)

/-- The least-squares solution with n taps per reference for the sub-sums of the tiles that a condition keeps, which the
combining over n' instead of n strands scales by a ratio (R195, R202). -/
def Dev.solveFor (d : Dev) (i : Inst) (est : List TileEst) (n : Nat) (keep : Nat → Bool) (ratio : Rat) : Coefs :=
  d.freezeRows i (splitRefs i.a
    (leastSquares i.accA (scaleList ratio (tileSum i.accB keep)) (i.activeTaps est n).flatten))

/-- w less the estimates of the module's own removed aggressor tiles, at the active taps (R202). -/
def Inst.withoutTiles (i : Inst) (est : List TileEst) (w : Coefs) (n : Nat) (gone : Nat → Bool) : Coefs :=
  List.zipWith
    (fun src e => if src.1 = 4 then e.1
      else subList e.1 (onTaps e.2 (i.inWindow (couplingTaps est (sourceOf src) gone))))
    (refSources i.a) (w.zip (i.activeTaps est n))

/-- Coefficients within the active count: of each reference the best window of that length (R201). -/
def Inst.bounded (i : Inst) (w : Coefs) : Coefs :=
  w.map fun row =>
    let k := bestWindow row i.active
    onTaps ((List.range row.length).map fun l => decide (k ≤ l) && decide (l < k + i.active)) row

/-! ## Stored coefficients (R204, R207, R208) -/

/-- The best window of a count of taps of an estimate, as an entry stores it. -/
def storeTaps (pos n : Nat) (h : List Cx) : EntryTaps :=
  let k := bestWindow h n
  { pos := pos, lag := k, w := (h.drop k).take n }

/-- An instance with an entry's stored coefficients for its position, within its active count: they stand at the lags at
which they were learned, on its own position's reference. A slot's instance takes the lag of the first as its bulk delay (DESIGN CHOICE, assumption
83). -/
def Inst.load (i : Inst) (l : List EntryTaps) : Inst :=
  match l.find? fun t => t.pos == i.a.pos with
  | none => { i with coefs := zeroCoefs i.a }
  | some t =>
    let i : Inst := if i.a.vkind = 3 then { i with bulk := t.lag + i.a.pre, bulkSet := true } else i
    { i with coefs := i.bounded ((refSources i.a).map fun src => (List.range i.a.taps).map fun k =>
        if src.1 = 1 ∧ i.a.pre + t.lag ≤ i.bulk + k then t.w.getD (i.bulk + k - i.a.pre - t.lag) Cx.zero else Cx.zero) }

end Sys2Proof.Machine
end

