-- ==== Sys2Proof/Machine/Beams.lean ====
section
/-! DEFINITION. Beams and the Lay fabric (spec/05_beams_and_lay_fabric.md): BEAM.SET, array calibration and
the endpoint weight switch. -/

namespace Sys2Proof.Machine

/-! ## Vectors and BEAM.SET (R150, R151, R157) -/

/-- A 512-byte vector as its nonzero weights. -/
def vecOf (b : Bytes) (off : Nat) : Vec :=
  (List.range 128).filterMap fun g =>
    let w := fieldAt b (off + 4 * g) 4
    if w = 0 then none else some (g, w)

/-- A vector fails R151: no nonzero weight, or one on a strand that the loaded plan does not give the side. -/
def vecBad (p : Option Plan) (side : Nat) (v : Vec) : Bool :=
  v.isEmpty || match p with
    | none => true
    | some p => v.any fun e => p.side e.1 != side

/-- The vectors that a BEAM.SET carries: RX and, without RECIP, TX; or the codebook entries. -/
def beamVectors (a : BeamSetArgs) (b : Bytes) : List Vec :=
  if a.target = 1 ∨ a.target = 2 then
    (if a.recip = 0 then [vecOf b 0, vecOf b 512] else [vecOf b 0])
  else if a.target = 3 then (List.range a.entry).map fun i => vecOf b (512 * i)
  else []

/-- The bytes that a BEAM.SET needs of its buffer (Table HST-8). -/
def beamBytes (a : BeamSetArgs) : Nat :=
  if a.target = 1 ∨ a.target = 2 then (if a.recip = 0 then 1024 else 512)
  else if a.target = 3 then 512 * a.entry
  else 0

/-- A field of BEAM.SET that its target uses lies out of range (Table LAY-4). -/
def beamBad (m : Member) (d : Dev) (a : BeamSetArgs) : Bool :=
  match a.target with
  | 0 => decide (7 < a.bg) || a.fixed == 0 || decide (a.sbeams < a.fixed) ||
      decide (Config.serviceBeams m < a.sbeams) || decide (3 < a.donor)
  | 1 => decide (7 < a.bg) || decide ((d.beams.group a.bg).fixed ≤ a.index) || decide (1 < a.recip)
  | 2 => decide (3 < a.index) || decide (1 < a.recip)
  | 3 => decide (7 < a.bg) || a.entry == 0 || decide (4096 < a.e + a.entry)
  | 4 => decide (7 < a.bg) || decide (63 < a.k) || (decide (4095 < a.mapEnt) && a.mapEnt != 0xFFFF)
  | _ => true

/-- BEAM.SET (R157). -/
def cmdBeamSet (h : CmdHdr) (a : BeamSetArgs) (b : InBuf) (s : State) : State :=
  s.onDev fun c d =>
    let vs := beamVectors a (b.data.take b.len)
    let side := if a.target = 2 then 1 else 2
    let buf := if beamBytes a = 0 then [] else inChecks b (beamBytes a)
    guarded 0x0303 h
      ((beamBad c.ident.member d a, stBadArg) :: buf ++
        [(vs.any fun v => vecBad d.plan.loaded side v, stBadArg), (!modeAccepts c.mode 0x0303, stDenied)])
      (fun d => d.planned c 0x0303 h (.beam a vs)) d

def execBeamSet (h : CmdHdr) (a : BeamSetArgs) (b : InBuf) (s : State) : Host.Outcome State Fault Refusal :=
  .next (cmdBeamSet h a b s.fetched)

/-- Replace the codebook entries from E on; a rewritten entry loses VALID (R205). -/
def putEntries (bg : Nat) : Nat → List Vec → List CodeEnt → List CodeEnt
  | _, [], l => l
  | e, v :: vs, l =>
    let old := (l.find? fun y => y.bg == bg && y.e == e).bind (·.iso)
    let x : CodeEnt := { bg := bg, e := e, rx := v, iso := old.map fun r => { r with valid := false } }
    putEntries bg (e + 1) vs (l.filter (fun y => !(y.bg == bg && y.e == e)) ++ [x])

/-- What a BEAM.SET changes at its Plan window (Table LAY-4). -/
def Dev.applyBeam (d : Dev) (a : BeamSetArgs) (vs : List Vec) : Dev :=
  let b := d.beams
  match a.target with
  | 0 =>
    let g : Group := { sbeams := a.sbeams, fixed := a.fixed, donor := a.donor }
    { d with beams := { b with groups := b.groups.set a.bg g } }
  | 1 | 2 =>
    let key := if a.target = 2 then 8 else a.bg
    let v : BeamVec := { bg := key, idx := a.index, rx := vs.headD [], tx := vs[1]? }
    { d with beams := { b with vecs := b.vecs.filter (fun x => !(x.bg == key && x.idx == a.index)) ++ [v] } }
  | 3 => { d with beams := { b with code := putEntries a.bg a.e vs b.code } }
  | 4 =>
    let keep := b.ncr.filter fun e => !(e.1 == a.bg && e.2.1 == a.k)
    { d with beams := { b with ncr := if a.mapEnt = 0xFFFF then keep else keep ++ [(a.bg, a.k, a.mapEnt)] } }
  | _ => d

/-- Count the saturated downlink weights of each band group on its guard beam's owner, where the mode relays and
a downlink beam yarn of the group is distributed (R153, R166). -/
def Dev.countWsat (d : Dev) (c : Ctx) (m : Mode) : Dev :=
  let formed := d.formedYarns c d.reef.plan m
  (List.range 8).foldl
    (fun d bg =>
      let n := d.downlinkSaturations d.reef.plan m bg
      if n = 0 ∨ !relays m ∨ !(formed.any fun b => byidDir b == 0 && byidBg b == bg) then d else d.onHwsA (bg % c.hawsers) fun w => { w with wsat := satAdd 8 w.wsat n })
    d

/-! ## Array calibration (R162, R163) -/

/-- The strands of a side in the loaded plan. -/
def sideStrands (p : Option Plan) (side : Nat) : List Nat :=
  match p with
  | none => []
  | some p => (List.range 128).filter fun g => p.side g == side

/-- A frequency lies within a segment of the loaded plan. -/
def inSegment (p : Option Plan) (khz : Nat) : Bool :=
  match p with
  | none => false
  | some p => p.segs.any fun s => !outside khz s.fLo s.fHi

/-- ARRAY.CAL (R162). The measurement choice of its yarns is not given: choice 0 (assumption 26). -/
def cmdArrayCal (h : CmdHdr) (a : ArrayCalArgs) (o : OutBuf) (s : State) : State :=
  s.onDev fun c d =>
    let gs := sideStrands d.plan.loaded a.side
    let ys : List MYarn := gs.map fun g => mkYarn 4 0 c.effTick g a.centreKhz a.rho 0
    let admitted := d.admitAll ys
    guarded 0x0304 h
      (outChecks o ++
        [(outside a.side 1 2, stBadArg), (outside a.rho 1 8, stBadArg), (outside a.ticks 1 64, stBadArg),
          (!decide (a.gRef ∈ gs), stBadArg), (!inSegment d.plan.loaded a.centreKhz, stBadArg),
          (!modeAccepts c.mode 0x0304, stDenied), (d.beams.arrayCal.isSome, stBusy),
          (decide (o.len < 16 * gs.length), stNoRoom), (admitted.isNone, stNoRoom)])
      (fun d =>
        let d := admitted.getD d
        let w : ArrayCalSt := { gs := gs, start := c.effTick, done := 0, hdr := h, a := a, addr := o.addr }
        { d with beams := { d.beams with arrayCal := some w } }) d

def execArrayCal (h : CmdHdr) (a : ArrayCalArgs) (o : OutBuf) (s : State) :
    Host.Outcome State Fault Refusal :=
  .next (cmdArrayCal h a o s.fetched)

/-- Whether the work of ARRAY.CAL is shed (step 1 of Table REF-5). -/
def RPlan.arrayShed (r : RPlan) : Bool := r.shed.any fun s => s.step == 1 && s.kind == 2

/-- Tick n ends: a running ARRAY.CAL whose yarns have started has integrated one more (R162). -/
def Dev.arrayTick (d : Dev) (n : Nat) : Dev :=
  if d.reef.plan.arrayShed then d
  else { d with beams := { d.beams with arrayCal := d.beams.arrayCal.map fun w =>
    { w with done := w.done + bitNat (tickDue n w.start) } } }

/-- One result of ARRAY.CAL (R163). -/
def arrayResult (r : ArrayRes) : Bytes :=
  leBytes 2 r.g ++ leBytes 2 (ofSigned 16 r.tau) ++ leBytes 2 (r.phase % 65536) ++
    leBytes 2 (ofSigned 16 (satSigned 16 r.ampl)) ++ leBytes 1 (min r.qual 255) ++ zeros 7

/-- ARRAY.CAL ends after its integration length: the results of every strand of the side are written in ascending g, then its
completion is posted (R163, R504). The write waits while bus mastering is stopped. -/
def execArrayCalDone (rs : List ArrayRes) (s : State) : Host.Outcome State Fault Refusal :=
  match s.dev.beams.arrayCal with
  | none => .next s
  | some w =>
    if !s.dev.host.mastering ∨ w.done < w.a.ticks then .next s
    else .next (s.onDev fun _ d =>
      let out := w.gs.map fun g => (rs.find? fun r => r.g == g).getD
        { g := g, tau := 0, phase := 0, ampl := 0, qual := 0 }
      let d := d.freeYarns 4 0
      let d : Dev := { d with
        beams := { d.beams with arrayCal := none }
        host := { d.host with written := some (w.addr, out.flatMap arrayResult) } }
      d.complete 0x0304 w.hdr stOk 0 none (leBytes 2 out.length))

/-! ## The endpoint weight switch (R167 to R170) -/

/-- The applied gain of a Belay state. -/
def Dev.belGain (d : Dev) (byid : Nat) : Option Int :=
  (d.bel.yarns.find? fun y => y.byid == byid).bind fun y => if y.hasGain then some y.appl else none

/-- The gain that a slot takes at a position: min(C, G_guard + OFFSET) (R169). -/
def Dev.slotGain (d : Dev) (s : Slot) (pos : Nat) : Option Int :=
  match d.belGain (16384 + mkByid 1 s.bg 0 pos), d.belGain (mkByid 1 s.bg 0 pos) with
  | some ceil, some guard_ => some (min ceil (guard_ + s.offset * dB16))
  | _, _ => none

/-- The gains of a slot at the positions of its band group's uplink segment, where C and the guard beam have one. -/
def Dev.slotGains (d : Dev) (s : Slot) : List (Nat × Int) :=
  (List.range (((d.seg s.bg 1).map (·.ycount)).getD 0)).filterMap fun p => (d.slotGain s p).map fun g => (p, g)

/-- Change one slot. -/
def Beams.onSlot (b : Beams) (bg idx : Nat) (f : Slot → Slot) : Beams :=
  { b with slots := b.slots.map fun s => if s.bg == bg && s.idx == idx then f s else s }

/-- Release a slot: its weights and gain become 0, and a slot instance clears its coefficients (R170,
R207). A pending switch that ends so counts as dropped. -/
def Dev.releaseSlot (d : Dev) (c : Ctx) (s : Slot) : Dev :=
  let insts := d.can.insts.map fun i =>
    if i.a.vkind = 3 ∧ i.a.bg = s.bg ∧ i.a.beam = s.idx then { i with coefs := zeroCoefs i.a } else i
  let drop := !s.on
  let d : Dev := { d with
    beams := { d.beams with slots := d.beams.slots.erase s }
    can := { d.can with insts := insts } }
  if drop then
    d.onHwsA ((s.bg + s.idx) % c.hawsers) fun w => { w with steerDrop := satAdd 8 w.steerDrop 1 }
  else d

/-- Whether the committed plan leaves a slot a strand of its endpoint's vector (R168, R173). -/
def Dev.slotFormed (d : Dev) (m : Mode) (s : Slot) : Bool :=
  !(d.live d.reef.plan m 2 (d.beams.slotVec s)).isEmpty

/-- Whether an offset, in 10 ns, lies in the Run window of a tick (R16, R55). -/
def TimeSt.inRun (t : TimeSt) (sub : Nat) : Bool := decide (2400 ≤ sub) && decide (sub < t.closeSub)

/-- The uplink symbol starts of a band group in the Run window of the tick that lies `back` ticks before the present
one, in 10 ns from its T0 (R168). -/
def State.symbolSubs (s : State) (bg back : Nat) : List Nat :=
  match s.dev.seg bg 1 with
  | none => []
  | some g =>
    let t := (List.range back).foldl (fun t _ => tickBefore t) (s.time.sfn, s.time.tif)
    let runEnd := if back = 0 then s.time.closeSub else 47600
    (g.ulStarts t (10000 * (runEnd : Int))).map fun x => (x / 10000).toNat

/-- Whether an offset in the present tick is the first uplink symbol start of a band group in a Run window at or after
(tick, at10) (R168, R170). -/
def State.firstStart (s : State) (bg tick at10 sub : Nat) : Bool :=
  let gone := sub32 s.time.n tick
  let from_ := if gone = 0 then at10 else 0
  let here := s.symbolSubs bg 0
  tickDue s.time.n tick && decide (sub ∈ here) && decide (from_ ≤ sub) && (here.all fun x => decide (x < from_) || decide (sub ≤ x)) &&
    ((List.range (min gone 64)).all fun k =>
      (s.symbolSubs bg (k + 1)).all fun x => decide (k + 1 = gone) && decide (x < at10))

/-- The switch instant of a claimed slot (R168, R169): the first uplink symbol start in Run 4 us after the match, while
the burst is open and the slot formed. The slot takes the endpoint's vector and gain, and its instance its stored
coefficients (R207). A switch whose burst closed, or that a mute covers, is dropped (R170); where C is no gain, or the
entry's isolation is no longer recorded, no switch is made. -/
def State.switchWeights (s : State) (bg slot sub : Nat) : State :=
  match s.dev.beams.slot bg slot with
  | none => s
  | some w =>
    if w.on then s
    else if w.closed || s.dev.slotMuted w then s.onDev fun c d => d.releaseSlot c w
    else if s.time.window ≠ .run ∨ !s.firstStart bg w.t0 w.at10 sub ∨ !s.dev.slotFormed s.modes.mode w then s
    else match s.dev.slotGain w w.pos, s.dev.beams.entryIso bg w.entry with
      | some _, some r => s.onDev fun c d =>
          let insts := d.can.insts.map fun i =>
            if i.a.vkind = 3 ∧ i.a.bg = bg ∧ i.a.beam = slot then i.load r.ul else i
          let d : Dev := { d with
            beams := d.beams.onSlot bg slot fun x =>
              { x with on := true, vec := d.beams.entryVec bg w.entry, gains := d.slotGains w }
            can := { d.can with insts := insts } }
          d.onHwsA ((bg + slot) % c.hawsers) fun h => { h with steerSw := satAdd 8 h.steerSw 1 }
      | _, _ => s

/-- The samples before the switch pass with the old weights. -/
def execWeightSwitch (bg slot : Nat) (at_ : SampledAt) (s : State) : Host.Outcome State Fault Refusal :=
  .next ((s.feed at_.samples).switchWeights bg slot at_.sub)

/-- After the burst end, the slot is released at the first uplink symbol start in Run, if no Plan window comes before
(R170). -/
def State.dropSlot (s : State) (bg slot sub : Nat) : State :=
  match s.dev.beams.slot bg slot with
  | none => s
  | some w =>
    if w.closed && s.time.window == .run && s.firstStart bg s.time.n w.shut sub then
      s.onDev fun c d => d.releaseSlot c w
    else s

def execSlotRelease (bg slot : Nat) (at_ : SampledAt) (s : State) : Host.Outcome State Fault Refusal :=
  .next ((s.feed at_.samples).dropSlot bg slot at_.sub)

/-- The slots that a Plan window ends: closed bursts, slots no longer formed or left with no strand, and every slot where a
steered mode is left, also for the other one (R170, R172, R410). -/
def Dev.slotEnds (d : Dev) (old m : Mode) (s : Slot) : Bool :=
  let g := d.beams.group s.bg
  !(m == .relaySteered || m == .relayNetwork) || old != m || s.closed || decide (s.idx < g.fixed) ||
    decide (g.sbeams ≤ s.idx) || d.reef.plan.beamShed s.bg s.idx || !d.slotFormed m s || (!s.on && d.slotMuted s)

/-- Release the slots that the Plan window ends. -/
def Dev.settleSlots (d : Dev) (c : Ctx) (old m : Mode) : Dev :=
  (d.beams.slots.filter fun s => d.slotEnds old m s).foldl (fun d s => d.releaseSlot c s) d

end Sys2Proof.Machine
end

