-- ==== Sys2Proof/Machine/Cancel.lean ====
section
/-! DEFINITION. Feedback cancellation and isolation (spec/06_feedback_cancellation.md): canceller bindings,
tracer windows and isolations, codebook learning, the fast oscillation detector and imported streams. -/

namespace Sys2Proof.Machine

/-! ## Loops (R176, R189 to R193, R200) -/

/-- The tracer window's length in ticks (Table CAN-6). -/
def Setup.isoTicks (u : Setup) : Nat := 2 ^ (min (max (u.canCfg.field 12 4) 4) 10)

/-- Whether a loop's isolations are known (R192, R193). -/
def Loop.known (l : Loop) : Bool := decide (16 ≤ l.win) || decide (0 < l.coupHold)

/-- A loop that has just started. -/
def Loop.start (byid : Nat) : Loop :=
  { byid := byid, win := 0, hist := [], mark := 0, iPhys := none, iEff := none, lastPhys := none, coup := 0, coupHold := 0, thin := none,
    thinLeft := 0, preds := [], tileIso := none, bulk := 0, oscLag := 0, floors := [] }

/-- A restart clears the tracer window, which takes samples from a grid index on (R200); the last known physical isolation
stays for R253. -/
def Loop.restart (l : Loop) (mark : Nat) : Loop :=
  { l with mark := mark, win := 0, hist := [], iEff := none, coup := 0, coupHold := 0, thin := none, thinLeft := 0, preds := [],
           tileIso := none }

/-- The estimate of a loop's own position, 0 before anything was seen. -/
def Loop.own (l : Loop) : List Cx := couplingTaps l.window 1 fun _ => true

/-! ## Bindings (R179 to R184, R217 to R219) -/

/-- The largest R x L at a rate code; 0 stands for no rate (R181). -/
def tapBudget (rho : Nat) : Nat := if rho = 0 then 256 else min 256 (8192 / 2 ^ (rho - 1))

/-- Used references of a binding. -/
def usedRefs (a : CancArgs) : Nat := a.refs.countP (· != 0)

/-- The modules that a binding imports from. -/
def importsOf (a : CancArgs) : List Nat :=
  ((a.refs.zip a.imods).filter fun e => e.1 == 4).map (·.2)

/-- The largest taps per reference that fit a rate (R184). -/
def fitTaps (a : CancArgs) (rho : Nat) : Nat :=
  if usedRefs a = 0 then 0 else min a.taps (tapBudget rho / usedRefs a)

/-- The Splice port that links to a module. -/
def Splice.portTo (s : Splice) (m : Nat) : Option Nat := (s.peers.find? fun p => p.modId == m).map (·.port)

/-- The rate code that the committed plan gives a beam yarn; 0 where no segment of it forms one there (R180). -/
def Dev.victimRho (d : Dev) (byid : Nat) : Nat :=
  match d.segOfByid byid with
  | some s => if byidPos byid < s.ycount then s.yrate else 0
  | none => 0

/-- The credits of the streams imported over a port: each stream counts once, by module, direction, band group and
position, at the last rate that a plan gave its victim (R219). -/
def Dev.importCredits (d : Dev) (as : List (CancArgs × Nat)) (port : Nat) : Nat :=
  let streams := (as.flatMap fun a => (importsOf a.1).map fun m => ((m, streamKey (victim a.1)), a.2)).filter fun e =>
    d.splice.portTo e.1.1 == some port
  ((streams.map (·.1)).dedup.map fun e =>
    creditCost (((streams.find? fun x => x.1 == e).map (·.2)).getD 0)).sum

/-- A field of CANC.SET lies out of range, no reference is used for its taps, or two name one source (R180, Table
CAN-2). -/
def cancRange (m : Member) (a : CancArgs) : Bool :=
  decide (Config.cancellers m ≤ a.inst) || decide (3 < a.vkind) || decide (7 < a.bg) || decide (15 < a.pos) ||
    (decide (1 < a.vkind) && decide (Config.serviceBeams m ≤ a.beam)) || (a.vkind == 0 && decide (63 < a.beam)) ||
    (decide (0 < a.taps) && usedRefs a == 0) || !decide ((refSources a).Nodup) || (a.refs.any fun r => decide (4 < r)) ||
    (a.imods.any fun r => decide (3 < r)) || decide (256 < a.taps) || decide (16 < a.pre) ||
    decide (10 < a.forget) || (decide (0 < a.taps) && decide (a.taps ≤ a.pre))

/-- The imports of a binding fail R217 or R218: the module itself, one not present, a yarn of another rate
or centre, or a bulk delay too short. DESIGN CHOICE (assumption 85): where the committed plan gives the victim no segment
or none of its positions, there is no yarn to compare and no rate for B - P, and the import fails. -/
def Dev.importBad (d : Dev) (c : Ctx) (a : CancArgs) : Bool :=
  let v := victim a
  let lag : Int := (((d.can.loop v).map (·.bulk)).getD 0 : Int) - a.pre
  (importsOf a).any fun m =>
    m == c.ident.modId || (d.splice.portTo m).isNone ||
      (match d.segOfByid v with
        | none => true
        | some s =>
          decide (s.ycount ≤ a.pos) ||
          decide (Config.freePeerYarn d.free m (mkByid (byidDir v) a.bg 0 a.pos) ≠
            (s.yrate, s.centre2 a.pos)) ||
            decide (lag * 1000000 < (rateHz s.yrate : Int)))

/-- A binding fails R180 or R217. -/
def Dev.cancBad (d : Dev) (c : Ctx) (a : CancArgs) : Bool :=
  cancRange c.ident.member a ||
    (a.vkind != 0 &&
      ((a.vkind == 2 && decide ((d.beams.group a.bg).fixed ≤ a.beam)) ||
        (a.vkind == 3 && decide (a.beam < (d.beams.group a.bg).fixed)) ||
        byidOwner c.hawsers (victim a) != a.inst / 64 ||
        (d.can.insts.any fun i => i.a.inst != a.inst && victim i.a == victim a) ||
        decide (tapBudget (d.victimRho (victim a)) < usedRefs a * a.taps) ||
        d.importBad c a))

/-- A binding's imports do not fit the port that links to their module (R219). -/
def Dev.importsOver (d : Dev) (a : CancArgs) : Bool :=
  let as := (a, d.victimRho (victim a)) :: (d.can.insts.filter fun i => i.a.inst != a.inst).map fun i => (i.a, i.rho)
  (importsOf a).any fun m => match d.splice.portTo m with
    | some p => decide (1024 < d.importCredits as p)
    | none => false

/-- CANC.SET (R179). -/
def cmdCancSet (h : CmdHdr) (a : CancArgs) (s : State) : State :=
  s.onDev fun c d =>
    let d' : Dev := if a.vkind != 0 && !(importsOf a).isEmpty then { d with free := d.free + 1 } else d
    guarded 0x0305 h
      [(d.cancBad c a, stBadArg), (!modeAccepts c.mode 0x0305, stDenied),
        (a.vkind != 0 && d.importsOver a, stNoRoom)]
      (fun d => d.planned c 0x0305 h (.canc a (d.victimRho (victim a)))) d'

def execCancSet (h : CmdHdr) (a : CancArgs) (s : State) : Host.Outcome State Fault Refusal :=
  .next (cmdCancSet h a s.fetched)

/-- Keep one import entry for each stream that some binding imports. -/
def Cancel.keepImports (k : Cancel) : Cancel :=
  let ms := (k.insts.flatMap fun i => (importsOf i.a).map fun m => (m, streamKey (victim i.a))).dedup
  let fresh (m : Nat × Nat) : Import := { modId := m.1, key := m.2, lost := false, good := 0, bad := false }
  { k with imports := ms.map fun m => (k.imports.find? fun x => x.modId == m.1 && x.key == m.2).getD (fresh m) }

/-- An instance after a restart (R200): no accumulators, which take samples from a grid index on, coefficients 0, also
aside, and B set again from the estimate of its loop. Without an estimate B is set at the first Close that has one (R183;
DESIGN CHOICE, assumption 80). -/
def Inst.restart (i : Inst) (l : Option Loop) (mark : Nat) : Inst :=
  let seen := l.any fun l => decide (0 < energy l.own)
  { i with
    mark := mark
    coefs := zeroCoefs i.a
    next := none
    accA := []
    accB := []
    aside := i.aside.map fun _ => zeroCoefs i.a
    bulk := if seen then (l.map (·.bulk)).getD 0 else i.bulk
    bulkSet := seen }

/-- The grid index after the last sample of a victim. -/
def Dev.markOf (d : Dev) (byid : Nat) : Nat := (tapeOf d.tapes (.stage5 byid)).next

/-- An instance as it is bound; `rho` is the rate at which its binding was accepted. -/
def Dev.bind (d : Dev) (a : CancArgs) (rho : Nat) : Inst :=
  let v := victim a
  let now := d.victimRho v
  let i : Inst :=
    { a := a, active := fitTaps a now, bulk := 0, bulkSet := false, coefs := [], next := none, accA := [], accB := [],
      mark := 0, aside := none, cut := false, rho := if now = 0 then rho else now }
  i.restart (d.can.loop v) (d.markOf v)

/-- What a CANC.SET changes at its Plan window: the binding, with a restart of its loop (R180, R200). -/
def Dev.applyCanc (d : Dev) (a : CancArgs) (rho : Nat) : Dev :=
  if d.can.insts.any fun i => i.a == a then d
  else
    let keep := d.can.insts.filter fun i => i.a.inst != a.inst
    let loops := d.can.loops.map fun l =>
      if a.vkind != 0 && l.byid == victim a then l.restart (d.markOf l.byid) else l
    let k : Cancel := { d.can with insts := if a.vkind = 0 then keep else keep ++ [d.bind a rho], loops := loops }
    { d with can := k.keepImports }

/-! ## Restarts at a commit (R193, R200) -/

/-- The host's RX vector of a victim, on strands of its side that calibration left usable. A network
indication and thinning are no restarts. -/
def Dev.settledVec (d : Dev) (side : Nat) (v : Vec) : Vec :=
  v.filter fun e => d.side e.1 == side && !(d.strand e.1).failed

/-- The guard and fixed TX vectors of a band group. -/
def Dev.groupTx (d : Dev) (bg : Nat) : List Vec :=
  (List.range (d.beams.group bg).fixed).map fun b => d.settledVec 2 (match d.beams.stored bg b with
    | some v => v.tx.getD (Vec.conj v.rx)
    | none => if b = 0 then d.beams.default 2 else [])

/-- What a restart watches for a victim: its RX vector, the TX vectors that carry its reference, its rate,
response and centre, and the donor binding of its group (R200). -/
structure LoopSig where
  rx : Vec
  tx : List Vec
  rate : Nat
  resp : Nat
  centre : Int
  donor : Nat
  deriving DecidableEq, Repr, Inhabited

def Dev.loopSig (d : Dev) (byid : Nat) : LoopSig :=
  let bg := byidBg byid
  let b := byidBeam byid
  let s := d.segOfByid byid
  let rx := if byidDir byid = 0 then d.settledVec 1 (d.donorRx bg)
    else d.settledVec 2 (match d.beams.stored bg b with
      | some v => v.rx
      | none => if b = 0 then d.beams.default 2 else [])
  { rx := rx
    tx := if byidDir byid = 0 then d.groupTx bg else [d.settledVec 1 (d.donorTx bg)]
    rate := (s.map (·.yrate)).getD 0
    resp := (s.map (·.yresp)).getD 0
    centre := (s.map fun s => s.centre2 (byidPos byid)).getD 0
    donor := (d.beams.group bg).donor }

/-- Whether thinning takes a part of some converter tile from a vector (R202). -/
def partTile (before after : List Nat) (v : Vec) : Bool :=
  let gs := (v.map (·.1)).filter fun g => decide (g ∈ before)
  gs.any fun g => !decide (g ∈ after) && gs.any fun h => h / 8 == g / 8 && decide (h ∈ after)

/-- The strands that a plan and its governor plan run. -/
def Dev.unthinned (d : Dev) : List Nat := (List.range 128).filter fun g => !d.thinned d.reef.plan g

/-- Whether a commit restarts the loop of a victim: it changes what R200 watches, or thins a vector by a part of a tile
(R200, R202). -/
def Dev.loopRestarts (old d : Dev) (byid : Nat) : Bool :=
  let g := d.loopSig byid
  decide (old.loopSig byid ≠ g) || (g.rx :: g.tx).any fun v => partTile old.unthinned d.unthinned v

/-- A lag in samples of one rate in samples of another. -/
def lagAt (old new lag : Nat) : Nat := if old = 0 ∨ new = 0 then lag else lag * 2 ^ new / 2 ^ old

/-- Restart the loops and instances that a commit restarts: they take samples from its T0 on. A change of the rate leaves no
estimate on the new grid, and B stays where it was in time. -/
def Dev.restartLoops (old d : Dev) (c : Ctx) : Dev :=
  let mark (byid : Nat) : Nat := firstSample (d.rhoOf byid) c.time.t0
  let rates (byid : Nat) : Nat × Nat := (old.rhoOf byid, d.rhoOf byid)
  let loops := d.can.loops.map fun l =>
    if old.loopRestarts d l.byid then
      let r := rates l.byid
      { l.restart (mark l.byid) with bulk := lagAt r.1 r.2 l.bulk }
    else l
  let insts := d.can.insts.map fun i =>
    let v := victim i.a
    if old.loopRestarts d v then
      let r := rates v
      ({ i with bulk := lagAt r.1 r.2 i.bulk }).restart (if r.1 = r.2 then d.can.loop v else none) (mark v)
    else i
  { d with can := { d.can with loops := loops, insts := insts } }

/-- The entry whose coefficients the instance of a donor or guard beam yarn uses in a network beam indication, with the
stored ones of its direction (R208). -/
def Dev.networkTaps (d : Dev) (i : Inst) : Option (List EntryTaps) :=
  if i.a.vkind == 1 || (i.a.vkind == 2 && i.a.beam == 0) then
    ((d.beams.network i.a.bg).bind fun e => d.beams.entryIso i.a.bg e).map fun r => if i.a.vkind = 1 then r.dl else r.ul
  else none

/-- Apply the solutions of the last Close, but for imports lost since (R221); while a network indication is in force, use the entry's coefficients and keep
the instance's own aside with its accumulators (R191, R195, R208). -/
def Dev.applySolutions (d : Dev) : Dev :=
  let insts := d.can.insts.map fun i =>
    let i : Inst := match i.next with
      | some k => { i with coefs := d.freezeRows i k, next := none }
      | none => i
    match d.networkTaps i, i.aside with
    | some l, none => { i.load l with aside := some i.coefs }
    | some l, some _ => i.load l
    | none, some k => { i with coefs := k, aside := none }
    | none, none => i
  { d with can := { d.can with insts := insts } }

/-- Whether the committed plan forms the victim of a binding: a steering slot's as soon as it holds the slot, claimed or
not, so that the claim finds the taps of its instance (R43, R168, R184). -/
def Dev.victimFormed (d : Dev) (c : Ctx) (formed : List Nat) (a : CancArgs) : Bool :=
  decide (victim a ∈ formed) ||
    (a.vkind == 3 && decide (a.beam ∈ d.planSlots d.reef.plan c.mode a.bg) && d.victimRho (victim a) != 0)

/-- The active tap counts of a commit: none where the committed plan does not form the victim, else what fits the
victim's rate and the governor's plan (R184, R201). A commit that brings a rate at which L does not fit counts once. -/
def Dev.fitInsts (old d : Dev) (c : Ctx) : Dev :=
  let formed := d.ungated.formedYarns c d.reef.plan c.mode
  d.can.insts.foldl
    (fun d i =>
      let rho := d.victimRho (victim i.a)
      let fits := fitTaps i.a rho
      let act := match d.reef.plan.taps.find? fun t => t.1 == i.a.inst with
        | some t => min fits t.2
        | none => fits
      let cut := decide (rho ≠ 0) && decide (fits < i.a.taps) && decide (0 < usedRefs i.a)
      let d : Dev := { d with can := { d.can with insts := d.can.insts.map fun j =>
        if j.a == i.a then
          { j with
            active := if d.victimFormed c formed i.a then act else 0
            cut := cut
            rho := if rho = 0 then j.rho else rho }
        else j } }
      if cut && decide (old.victimRho (victim i.a) ≠ rho) then
        d.onHwsA (i.a.inst / 64) fun w => { w with tapsCut := satAdd 6 w.tapsCut 1 }
      else d)
    d

/-- The tracer power of each loop for the tick, in 1/16 dBFS: N_v + G_dig - 30 dB, where SURVEY takes the digital gain
that G_reg would need (R188). DESIGN CHOICE (assumption 86): several victims of one stream, N_v and G_dig are those of the
lowest-numbered beam yarn that has both; where none has, as at the first tick after a mode's entry, no tracer is sent. -/
def Dev.setTracers (d : Dev) (c : Ctx) : Dev :=
  let formed := d.formedNow c
  let gain (b : Nat) : Option Int := if c.mode = .survey then
      (d.segOfByid b).bind fun s => (d.kPath d.reef.plan c.mode b).map fun k => floor16 (s.gReg * dB16 - k)
    else d.gainCode c b
  let power (key : Nat) : Option (Nat × Int) :=
    ((formed.filter fun b => streamKey b == key).filterMap fun b =>
      ((d.bel.last.find? fun f => f.byid == b).bind (·.nv)).bind fun n => (gain b).map fun g => (key, n + g - 480)).head?
  { d with can := { d.can with power := (formed.map streamKey).dedup.filterMap power } }

/-- The lag at which the oscillation detector correlates each loop: that of the largest tap of h - w (R210). -/
def Dev.setOscLags (d : Dev) : Dev :=
  let loops := d.can.loops.map fun l =>
    let rho := d.victimRho l.byid
    let i := d.can.inst l.byid
    let w := (List.range (lagCount rho i)).map fun m => match i with
      | some i => i.at (d.rowFor i i.coefs 1) m
      | none => Cx.zero
    { l with oscLag := largestTap (subList l.own w) }
  { d with can := { d.can with loops := loops } }

/-! ## The Close (R189 to R202) -/

/-- The count that the draft gives an instance. -/
def Dev.draftTaps (d : Dev) (i : Inst) : Option Nat :=
  (d.reef.draft.bind fun r => r.taps.find? fun t => t.1 == i.a.inst).map (·.2)

/-- Whether the draft lowers the active taps of an instance below those in use. -/
def Dev.draftCuts (d : Dev) (i : Inst) : Bool := (d.draftTaps i).any fun n => decide (n < i.active)

/-- The converter tiles that the draft removes from a victim's vectors: its combining strands' and the aggressor side's,
where it leaves the combining some (R202). -/
def Dev.removedTiles (d : Dev) (m : Mode) (byid : Nat) : List Nat × List Nat :=
  match d.reef.draft with
  | none => ([], [])
  | some r =>
    let gone (old new : Vec) : List Nat := (vecTiles old).filter fun t => !decide (t ∈ vecTiles new)
    let rx := d.rxVecOf r m byid
    if rx.isEmpty then ([], [])
    else (gone (d.rxVecOf d.reef.plan m byid) rx, gone (d.txVecOf d.reef.plan m byid) (d.txVecOf r m byid))

/-- Half a decibel and 6 dB in 1/16 dB. -/
def halfDb : Int := 8
def sixDb : Int := 96

/-- What a Close has of a victim: its segment, its loop and instance with this tick's correlations, k_path, and the two
figures of R192 and R198: the coupling that this tick alone leaves, and whether its reference carries nothing. -/
structure LoopView where
  s : Seg
  l : Loop
  i : Option Inst
  est : List TileEst
  k : Option Int
  own : Option Rat
  silent : Bool
  deriving DecidableEq, Repr, Inhabited

/-- Whether an instance accumulates at a Close: in ticks of loop activity (R194), a slot's never (R207), and none while a
network indication holds its own coefficients aside (R208). -/
def Inst.accumulates (i : Inst) : Bool := i.a.vkind != 3 && i.aside.isNone && decide (0 < i.a.taps)

/-- The loop and instance of a victim with the samples since the last Close: the tracer window takes them in ticks of loop
activity, and so do the accumulators (R189, R194, R196). B is set where it is still to be set (R183). -/
def Dev.loopView (d : Dev) (c : Ctx) (s : Seg) (byid : Nat) : LoopView :=
  let tape := tapeOf d.tapes (.stage5 byid)
  let l := (d.can.loop byid).getD (Loop.start byid)
  let i := d.can.inst byid
  let active := d.loopActive c byid
  let ks := s.activeIndices c byid (tape.since l.mark)
  let l : Loop := if active then
      { l with
        mark := tape.next
        win := min (l.win + 1) d.use.isoTicks
        hist := (d.estimate c s byid i ks :: l.hist).take d.use.isoTicks }
    else { l with mark := tape.next }
  let l : Loop := { l with bulk := if 0 < energy l.own then largestLag s.yrate l.own else l.bulk }
  let i := i.map fun i => if !i.bulkSet && decide (0 < energy l.own) then { i with bulk := l.bulk, bulkSet := true } else i
  let rx := Vec.onYarns (d.rxVecOf d.reef.plan c.mode byid) (d.yarnIndexOf byid)
  let fresh (i : Inst) : List Nat := s.activeIndices c byid (tape.since i.mark)
  let tick := i.bind fun i => if active && i.accumulates then some (d.correlate s i rx (fresh i)) else none
  let own := i.bind fun i => (tick.filter fun x => decide (0 < diagonal x.1)).map fun x =>
    energy (subList (leastSquares x.1 (tileSum x.2 fun _ => true) ((windowTaps i.a).map fun _ => true)) i.coefs.flatten)
  let i := i.map fun i =>
    let i : Inst := { i with mark := tape.next }
    match tick with
    | some x => i.accumulate x
    | none => i
  let ref := tapeOf d.tapes (.ref (streamKey byid))
  { s := s
    l := l
    i := i
    est := l.window
    k := d.kPath d.reef.plan c.modes.belayMode byid
    own := own
    silent := decide (c.mode = .survey) || ks.all fun k => decide (ref.value (k : Int) = Cx.zero) }

/-- The margin u of an estimate over some ticks, which falls as the window grows (R193; assumption 102). -/
def margin (eff : Bool) (byid ticks : Nat) : Nat :=
  Config.freeMargin eff byid 1024 + ((indices ticks 1024).map (Config.freeMargin eff byid)).sum

/-- An isolation of a view in 1/16 dB for some coefficients, against the estimates of the tiles that a condition keeps.
Where k_path is undefined it is taken as 0: only its comparisons count then. -/
def Dev.viewIso (d : Dev) (v : LoopView) (eff : Bool) (keep : Nat → Bool) (w : Coefs) : Int :=
  (isolation d.free (some (v.k.getD 0)) (d.couplingPower v.s.yrate v.est keep v.i w)
    (margin eff v.l.byid v.l.win)).getD 0

/-- The solution of an instance for the next tick, before and after the leakage of removed aggressor tiles is taken out
(R195, R198, R201, R202). -/
def Dev.nextCoefs (d : Dev) (v : LoopView) (i : Inst) (gone : List Nat × List Nat) (ratio : Rat) : Coefs × Coefs :=
  let n := min ((d.draftTaps i).getD i.active) i.active
  let all (_ : Nat) : Bool := true
  let w := if v.silent && gone.1.isEmpty then d.freezeRows i (i.restricted v.est n)
    else d.solveFor i v.est n (fun t => !decide (t ∈ gone.1)) ratio
  if gone.2.isEmpty then (w, w)
  else
    let base := if d.viewIso v true all i.coefs - halfDb ≤ d.viewIso v true all w then w else i.coefs
    (base, i.withoutTiles v.est base n fun t => decide (t ∈ gone.2))

/-- The figures of a loop at the Close of a tick of activity (R192): the loop after its test, the isolation to report, and
whether the coupling changed. -/
def Loop.judge (l : Loop) (eff : Int) (own : Option Int) : Loop × Int × Bool :=
  let far := own.any fun o => decide (o ≤ eff - sixDb)
  let coup := if far then l.coup + 1 else 0
  let low := min eff (own.getD eff)
  if 2 ≤ coup then ({ l with win := 0, hist := [], coup := 0, coupHold := 16, thin := none, thinLeft := 0 }, low, true)
  else ({ l with coup := coup, coupHold := l.coupHold - 1 }, if 1 < l.coupHold then low else eff, false)

/-- How many strands a victim's combining keeps, as n / n' (R152, R202). -/
def Dev.combineRatio (d : Dev) (m : Mode) (byid : Nat) : Rat :=
  match d.reef.draft with
  | none => 1
  | some r => ((d.rxVecOf d.reef.plan m byid).length : Rat) / (max 1 (d.rxVecOf r m byid).length : Nat)

/-- What the Close of a victim decides: the solution that the next Plan window applies, where it is taken, its isolation,
and the isolation that Belay uses for removed tiles (R197, R201, R202). -/
structure LoopPlan where
  w : Option Coefs
  eff : Int
  tileIso : Option Int
  rejected : Bool
  deriving DecidableEq, Repr, Inhabited

/-- A solution is taken where the draft forces it, and in a tick of loop activity, or one in which the loop is active and
relays nothing (R198), where its isolation is no more than 0.5 dB below that of the coefficients in use. Removed
transmitting tiles earn nothing: the isolation is that of the coefficients before they are taken out (R202). -/
def Dev.planLoop (d : Dev) (c : Ctx) (v : LoopView) (active : Bool) : LoopPlan :=
  let all (_ : Nat) : Bool := true
  match v.i with
  | none => { w := none, eff := d.viewIso v true all [], tileIso := none, rejected := false }
  | some i =>
    let use_ := d.viewIso v true all i.coefs
    if i.a.vkind = 3 ∨ i.aside.isSome ∨ i.active = 0 then { w := none, eff := use_, tileIso := none, rejected := false }
    else
      let gone := d.removedTiles c.mode v.l.byid
      let ratio := if gone.1.isEmpty then 1 else d.combineRatio c.mode v.l.byid
      let (base, w) := d.nextCoefs v i gone ratio
      let new := d.viewIso v true all base
      let open_ := v.silent && v.s.loopTick c (byidDir v.l.byid) && !d.gatedFor c v.s (byidDir v.l.byid)
      let cut := d.draftCuts i
      let tiles := !gone.1.isEmpty || !gone.2.isEmpty
      if cut || tiles then
        { w := some w, eff := if cut then min new use_ else new, tileIso := if tiles then some new else none,
          rejected := false }
      else if !active && !open_ then { w := none, eff := use_, tileIso := none, rejected := false }
      else if use_ - halfDb ≤ new then { w := some w, eff := new, tileIso := none, rejected := false }
      else { w := none, eff := use_, tileIso := none, rejected := true }

/-- One victim's Close (R189 to R202). -/
def Dev.closeLoop (d : Dev) (c : Ctx) (byid : Nat) : Dev :=
  match d.segOfByid byid with
  | none => d
  | some s =>
    let v := d.loopView c s byid
    let active := d.loopActive c byid
    let p := d.planLoop c v active
    let own : Option Int := v.own.bind fun x => (ratDb x).map fun x => floor16 (v.k.getD 0 - x)
    let (l, eff, chg) : Loop × Int × Bool := if active then v.l.judge p.eff own
      else (v.l, if 0 < v.l.coupHold then min p.eff (v.l.iEff.getD p.eff) else p.eff, false)
    let say (x : Int) : Option Int := v.k.map fun _ => x
    let phys := say (d.viewIso v false (fun _ => true) [])
    let l : Loop := { l with
      iPhys := phys
      lastPhys := if l.known then phys.or l.lastPhys else l.lastPhys
      iEff := say eff
      tileIso := (p.tileIso).bind say
      preds := match v.i with
        | some i => if v.k.isSome then
            (drafts i.a.taps).map fun n => d.viewIso v true (fun _ => true) (i.restricted v.est n)
          else []
        | none => [] }
    let insts := d.can.insts.map fun j => match v.i with
      | some i => if victim j.a == byid then { i with next := p.w } else j
      | none => j
    let d : Dev := { d with can := { d.can with
      insts := insts
      loops := d.can.loops.filter (fun m => m.byid != byid) ++ [l] } }
    let d := if p.rejected then
        d.onHwsA (byidOwner c.hawsers byid) fun w => { w with solveRej := satAdd 6 w.solveRej 1 }
      else d
    if chg then d.onHwsA (byidOwner c.hawsers byid) fun w => { w with coupChg := satAdd 6 w.coupChg 1 }
    else d

/-- The Close of every formed victim, and of those whose uplink is gated: their isolation follows the coefficients. -/
def Dev.closeLoops (d : Dev) (c : Ctx) : Dev :=
  let d : Dev := { d with can := { d.can with prevLoops := d.can.loops }, free := d.free + 1 }
  (d.ungated.formedYarns c d.reef.plan c.mode).foldl (fun d b => d.closeLoop c b) d

/-! ## Codebook learning (R203 to R206) -/

/-- The largest LTAPS of a band group: what R181 allows one reference at the rates of its uplink and its downlink, both of
whose coefficients are stored (R203, R204). -/
def Dev.learnBudget (d : Dev) (bg : Nat) : Nat :=
  let rho (dir : Nat) : Nat := ((d.seg bg dir).map (·.yrate)).getD 0
  min (tapBudget (rho 0)) (tapBudget (rho 1))

/-- ENTRY.LEARN (R203). DESIGN CHOICE (assumption 88): one that is accepted while the device relearns an entry of its own
discards that relearning and its ticks. -/
def cmdEntryLearn (h : CmdHdr) (a : LearnArgs) (s : State) : State :=
  s.onDev fun c d =>
    guarded 0x0306 h
      [(decide (7 < a.bg) || a.n == 0 || decide (4096 < a.e + a.n) || outside a.learnTicks 16 1024 ||
          outside a.ltaps 1 256 || decide (d.learnBudget a.bg < a.ltaps), stBadArg),
        (!(c.mode == .survey || isRelay c.mode), stDenied), (d.can.learn.any (·.host), stBusy)]
      (fun d =>
        let l : LearnSt := { host := true, hdr := h, a := a, at_ := a.e, done := 0, ticks := 0, ests := [] }
        { d with can := { d.can with learn := some l, learnTicks := a.learnTicks } }) d

def execEntryLearn (h : CmdHdr) (a : LearnArgs) (s : State) : Host.Outcome State Fault Refusal :=
  .next (cmdEntryLearn h a s.fetched)

/-- The entry that a learning is at has weights on strands that run; without one it is passed over. -/
def Dev.learnable (d : Dev) (c : Ctx) (bg e : Nat) : Bool :=
  !(d.live d.reef.plan c.mode 2 (d.beams.entryVec bg e)).isEmpty

/-- Whether the learning work is shed (step 1 of Table REF-5). -/
def RPlan.learnShed (r : RPlan) : Bool := r.shed.any fun s => s.step == 1 && s.kind == 1

/-- The tick counts toward the learning of a band group (R204, R560): the uplink loop is active and its
tracer goes out on the donor side. -/
def Dev.learnTick (d : Dev) (c : Ctx) (bg : Nat) : Bool :=
  !d.reef.plan.learnShed && match d.seg bg 1 with
    | none => false
    | some s => s.loopTick c 1 && !d.gated c.mode s c.time.sfn c.time.tif && d.tracerOn c (mkByid 1 bg 0 0)

/-- The recorded entries that relearning passes through, ascending (R205). -/
def Beams.recorded (b : Beams) : List (Nat × Nat) :=
  sortBy (fun p q => decide (4096 * p.1 + p.2 ≤ 4096 * q.1 + q.2))
    ((b.code.filter fun x => x.iso.isSome).map fun x => (x.bg, x.e))

/-- The next entry to relearn after one. -/
def Beams.nextRecorded (b : Beams) (after : Option (Nat × Nat)) : Option (Nat × Nat) :=
  match after with
  | none => b.recorded.head?
  | some p => match b.recorded.find? fun q => decide (4096 * p.1 + p.2 < 4096 * q.1 + q.2) with
    | some q => some q
    | none => b.recorded.head?

/-- A relearning of one entry, with its record's LTAPS and the LEARN_TICKS of the last ENTRY.LEARN
(assumption 27). -/
def Dev.relearn (d : Dev) (p : Nat × Nat) : LearnSt :=
  let taps := ((d.beams.entry p.1 p.2).bind (·.iso)).elim 1 (·.ltaps)
  { host := false, hdr := default,
    a := { bg := p.1, e := p.2, n := 1, learnTicks := d.can.learnTicks, ltaps := taps },
    at_ := p.2, done := 0, ticks := 0, ests := [] }

/-- Pass over entries that have no weights to learn with. DESIGN CHOICE (assumption 87): such an entry counts as not
learned, and its record stays. -/
def Dev.skipEntries (c : Ctx) (d : Dev) : Nat → LearnSt → LearnSt
  | 0, l => l
  | n + 1, l =>
    if l.at_ < l.a.e + l.a.n ∧ !d.learnable c l.a.bg l.at_ then
      Dev.skipEntries c d n { l with at_ := l.at_ + 1, ticks := 0, ests := [] }
    else l

/-- What one tick adds to the learning of an entry at a position and direction (R204): uplink, the entry's own combining
of the yarns against the donor-side tracers; downlink, the donor beam yarn after stage 5 against the tracers with
lrn = 1 that go out on the entry's TX vector. Nothing from before the tick enters, when another vector may have gone
out (R206). -/
def Dev.learnEst (d : Dev) (c : Ctx) (s : Seg) (l : LearnSt) (dir pos : Nat) : LearnEst :=
  let bg := l.a.bg
  let key := mkByid dir bg 0 pos
  let rx := Vec.onYarns (d.learnVec c bg) (d.yarnIndexOf key)
  let tape := if dir = 1 then tapeOf d.tapes (.yarn ((rx.headD (0, Cx.zero)).1)) else tapeOf d.tapes (.stage5 key)
  let e := (l.ests.find? fun e => e.pos == pos && e.dir == dir).getD
    { pos := pos, dir := dir, mark := firstSample s.yrate c.time.t0, tiles := [] }
  let v : List (Nat × Cx) := (s.activeIndices c key (tape.since e.mark)).map fun k =>
    (k, if dir = 1 then (combine d.tapes rx k).z else tape.value (k : Int))
  let tiles := if dir = 1 then vecTiles (d.tracerStrands c key) else vecTiles (d.learnVec c bg)
  let est := tiles.map fun t =>
    let tau := tapeOf d.tapes (.tracer (1 - dir) key t)
    tileEst 1 t (lagCount s.yrate none) v fun k => tau.value k
  { e with mark := tape.next, tiles := addEsts e.tiles est }

/-- A learning after a tick that counts for it. -/
def Dev.learnMore (d : Dev) (c : Ctx) (l : LearnSt) : LearnSt :=
  let ests := [0, 1].flatMap fun dir => match d.seg l.a.bg dir with
    | none => []
    | some s => (List.range s.ycount).map fun pos => d.learnEst c s l dir pos
  { l with ticks := l.ticks + 1, ests := ests }

/-- The learning's part of a Close. -/
def Dev.closeLearn (d : Dev) (c : Ctx) : Dev :=
  match d.can.learn with
  | some l =>
    let l := Dev.skipEntries c d l.a.n l
    let l : LearnSt := if l.host ∨ l.at_ < l.a.e + l.a.n then l
      else ((d.beams.nextRecorded (some (l.a.bg, l.a.e))).map fun p => d.relearn p).getD l
    let l : LearnSt := if l.at_ < l.a.e + l.a.n ∧ d.learnTick c l.a.bg then d.learnMore c l else l
    { d with can := { d.can with learn := some l } }
  | none =>
    if isRelay c.mode then
      { d with can := { d.can with learn := (d.beams.nextRecorded none).map fun p => d.relearn p } }
    else d

/-- What the learning of an entry found for a direction: per position I_phys, I_eff with the stored coefficients, and
those coefficients (R190, R204). -/
def Dev.learned (d : Dev) (c : Ctx) (l : LearnSt) (dir : Nat) : List (Option Int × Option Int × EntryTaps) :=
  let bg := l.a.bg
  let entry := d.beams.entryVec bg l.at_
  match d.seg bg dir with
  | none => []
  | some s => (l.ests.filter fun e => e.dir == dir).map fun e =>
      let h := couplingTaps e.tiles 1 fun _ => true
      let t := storeTaps e.pos l.a.ltaps h
      let set := d.bel.set bg dir
      let r := d.reef.plan
      let k := (if dir = 1 then
          d.vecParts set (s.centre2 e.pos) (d.live r c.mode 2 entry) (d.live r c.mode 1 (d.donorTx bg))
        else d.vecParts set (s.centre2 e.pos) (d.live r c.mode 1 (d.donorRx bg))
          (Vec.conj (d.live r c.mode 2 entry))).map pathOf
      let left := subList h (List.replicate t.lag Cx.zero ++ t.w)
      let byid := mkByid dir bg 63 e.pos
      (isolation d.free k (energy h) (margin false byid l.ticks),
        isolation d.free k (energy left) (margin true byid l.ticks), t)

/-- The lowest isolation of a list; without any it has no value. -/
def lowestIso (free : Nat) (l : List (Option Int)) : Int :=
  match l.filterMap id with
  | [] => Config.freeLevel free
  | x :: xs => xs.foldl min x

/-- The isolation record that a finished learning writes (Table CAN-5). -/
def Dev.entryRecord (d : Dev) (c : Ctx) (l : LearnSt) : EntryRec :=
  let ul := d.learned c l 1
  let dl := d.learned c l 0
  { ul := ul.map (·.2.2)
    dl := dl.map (·.2.2)
    valid := true
    ltaps := l.a.ltaps
    ulPhys := lowestIso d.free (ul.map (·.1))
    ulEff := lowestIso d.free (ul.map (·.2.1))
    dlPhys := lowestIso d.free (dl.map (·.1))
    dlEff := lowestIso d.free (dl.map (·.2.1))
    hfc := c.time.hfc
    tih := c.tih
    tick := c.n }

/-- An entry's learning completes after LEARN_TICKS, and its isolation record is written (R204). The samples up to then
pass the relay path first. -/
def execEntryLearned (x : Samples) (s : State) : Host.Outcome State Fault Refusal :=
  let s := s.feed x
  match s.dev.can.learn with
  | none => .next s
  | some l =>
    if l.ticks < l.a.learnTicks ∨ l.a.e + l.a.n ≤ l.at_ then .next s
    else .next (s.onDev fun c d =>
      let r := d.entryRecord c l
      let code := d.beams.code.map fun x =>
        if x.bg == l.a.bg && x.e == l.at_ then { x with iso := some r } else x
      let d : Dev := { d with beams := { d.beams with code := code }, free := d.free + 1 }
      let next : Option LearnSt := if l.host then
          some { l with at_ := l.at_ + 1, done := l.done + 1, ticks := 0, ests := [] }
        else (d.beams.nextRecorded (some (l.a.bg, l.at_))).map fun p => d.relearn p
      { d with can := { d.can with learn := next } })

/-- ENTRY.LEARN ends and its completion is posted (R203). -/
def execEntryLearnDone (s : State) : Host.Outcome State Fault Refusal :=
  match s.dev.can.learn with
  | none => .next s
  | some l =>
    if !l.host ∨ l.at_ < l.a.e + l.a.n then .next s
    else .next (s.onDev fun _ d =>
      ({ d with can := { d.can with learn := none } }).complete 0x0306 l.hdr stOk 0 none (leBytes 2 l.done))

/-- ENTRY_AGE in minutes as it acts (Table CAN-6). -/
def Setup.entryAge (u : Setup) : Nat := min (u.canCfg.field 16 11) 1440

/-- An entry isolation record older than ENTRY_AGE loses VALID (R205). -/
def execEntryAged (bg e : Nat) (s : State) : Host.Outcome State Fault Refusal :=
  .next (s.onDev fun c d =>
    let age := d.use.entryAge
    let code := d.beams.code.map fun x =>
      if x.bg == bg && x.e == e then
        { x with iso := x.iso.map fun r =>
            if age ≠ 0 ∧ age * 120000 < sub32 c.n r.tick then { r with valid := false } else r }
      else x
    { d with beams := { d.beams with code := code } })

/-- The learning of an entry is abandoned and starts again (R206). -/
def Dev.abandonLearn (d : Dev) (sel : Nat → Nat → Bool) : Dev :=
  match d.can.learn with
  | none => d
  | some l =>
    if sel l.a.bg l.at_ then { d with can := { d.can with learn := some { l with ticks := 0, ests := [] } } } else d

/-- A plan commit that changes a group's segments, arrangements or the sides clears VALID (R205). -/
def Dev.clearEntries (d : Dev) (groups : List Nat) : Dev :=
  let code := d.beams.code.map fun x =>
    if x.bg ∈ groups then { x with iso := x.iso.map fun r => { r with valid := false } } else x
  ({ d with beams := { d.beams with code := code } }).abandonLearn fun bg _ => decide (bg ∈ groups)

/-- The lowest recorded isolation that R207 uses over a group's valid entries, in 1/16 dB; `taps` tells how many taps an
instance runs with. -/
def Dev.entryIsolation (d : Dev) (taps : Inst → Nat) (bg : Nat) : Option Int :=
  let g := d.beams.group bg
  let rs := d.beams.code.filterMap fun x =>
    if x.bg = bg then x.iso.bind fun r => if r.valid then some r else none else none
  let bound (ltaps : Nat) : Bool := match d.seg bg 1 with
    | none => false
    | some s => (List.range s.ycount).all fun pos =>
        ((List.range g.sbeams).drop g.fixed).all fun b => d.can.insts.any fun i =>
          i.a.vkind == 3 && i.a.bg == bg && i.a.beam == b && i.a.pos == pos && decide (ltaps ≤ taps i)
  let isos := rs.map fun r => if bound r.ltaps then r.ulEff else r.ulPhys
  isos.foldl (fun m i => match m with
    | none => some i
    | some k => some (min k i)) none

/-! ## TRC.SCAN (R214) -/

/-- TRC.SCAN (R214). With NIDS 0 the command takes no buffer. -/
def cmdTrcScan (h : CmdHdr) (scanAll nids : Nat) (b : InBuf) (s : State) : State :=
  s.onDev fun c d =>
    let ids := (List.range nids).map fun i => fieldAt (b.data.take b.len) (2 * i) 2
    let buf := if nids = 0 then [] else inChecks b (2 * nids)
    guarded 0x0307 h
      ((decide (1 < scanAll) || decide (32 < nids), stBadArg) :: buf ++
        [(ids.any fun i => decide (4095 < i), stBadArg), (!modeAccepts c.mode 0x0307, stDenied)])
      (fun d => ({ d with can := { d.can with
          watch := ids, scanAll := scanAll == 1, scanNext := 0 } }).ok 0x0307 h) d

def execTrcScan (h : CmdHdr) (scanAll nids : Nat) (b : InBuf) (s : State) :
    Host.Outcome State Fault Refusal :=
  .next (cmdTrcScan h scanAll nids b s.fetched)

/-! ## The fast oscillation detector (R209 to R213) -/

/-- The loop mute of a trip, with its counts (R212, R213). -/
def Dev.oscTrip (d : Dev) (c : Ctx) (byid sub : Nat) (loopGain : Int) (critA : Bool) : Dev :=
  let h := byidOwner c.hawsers byid
  let d := d.onHwsA h fun w =>
    { w with
      tripA := if critA then satAdd 8 w.tripA 1 else w.tripA
      tripB := if critA then w.tripB else satAdd 8 w.tripB 1
      lastBg := byidBg byid
      lastDir := byidDir byid
      lastPos := byidPos byid }
  let t : Trigger :=
    { trig := 1, level := 2, scope := loopScope (byidBg byid) (byidDir byid), unit := h, loopg := loopGain, sub := sub }
  d.impose c t

/-- The loop gain that criterion A estimates over the samples before a grid index (R210): the correlation of the stage 5
output with the reference at the loop's lag, normalised by the reference, in dB, plus G_dig. None where either has no
power or the beam yarn no gain. -/
def Dev.loopGain (d : Dev) (c : Ctx) (rho byid end_ : Nat) : Option Int :=
  let lag := ((d.can.loop byid).map (·.oscLag)).getD 0
  let ks := indices (end_ - max 48 (samplesIn rho 8000)) end_
  let x := ks.map fun k => (tapeOf d.tapes (.stage5 byid)).value (k : Int)
  let r := ks.map fun k => (tapeOf d.tapes (.ref (streamKey byid))).value ((k : Int) - lag)
  let e := energy r
  (ratDb (if e ≤ 0 then 0 else (Cx.dot x (r.map Cx.conj)).sq / (e * e))).bind fun g =>
    (d.gainCode c byid).map fun q => g + q * dB16

/-- The powers of the bins of criterion B over the samples before a grid index (R211). -/
def Dev.oscSpectrum (d : Dev) (rho byid end_ : Nat) : List Rat :=
  let n := max 16 (samplesIn rho 2000)
  let xs := (indices (end_ - n) end_).map fun k => (tapeOf d.tapes (.stage6 byid)).value (k : Int)
  (List.range xs.length).map fun b => (dftBin xs b).sq

/-- Each bin's run of evaluations in which it rose by at least 1.5 dB: by a factor of 10^0.15. -/
def binRises (old new : List Rat) (runs : List Nat) : List Nat :=
  ((List.range new.length).zip new).map fun e =>
    let was := old.getD e.1 0
    if 0 < was ∧ was * dbRat (24 * dB16) ≤ e.2 then runs.getD e.1 0 + 1 else 0

/-- Whether some bin rose in each of 6 evaluations and ends at least 10 dB above the mean of the others. -/
def lineGrows (bins : List Rat) (runs : List Nat) : Bool :=
  ((List.range bins.length).zip bins).any fun e =>
    decide (6 ≤ runs.getD e.1 0) && decide (10 * (bins.sum - e.2) ≤ e.2 * (bins.length - 1))

/-- One evaluation of a relayed beam yarn (R210, R211). -/
def State.evaluateOsc (s : State) (byid sub : Nat) : State :=
  let d := s.dev
  if !relays s.modes.mode ∨ !decide (byid ∈ d.formedNow s.ctx) ∨ d.yarnMuted byid ∨
      byidOwner s.ctx.hawsers byid ∈ d.boot.blkRun then s
  else s.onDev fun c d =>
    let rho := d.rhoOf byid
    let end_ := min (tapeOf d.tapes (.stage5 byid)).next (firstSample rho (c.time.at10 sub))
    let r := (d.osc.find? fun o => o.byid == byid).getD { byid := byid, a := 0, bins := [], rises := [] }
    let gain := d.loopGain c rho byid end_
    let ka := if gain.any fun g => decide (-dB < g) then r.a + 1 else 0
    let bins := d.oscSpectrum rho byid end_
    let runs := binRises r.bins bins r.rises
    let tripA := decide (3 ≤ ka)
    let keep := d.osc.filter fun o => o.byid != byid
    if tripA || lineGrows bins runs then
      ({ d with osc := keep, free := d.free + 1 }).oscTrip c byid sub
        ((gain.map round16).getD (Config.freeLevel d.free)) tripA
    else { d with osc := keep ++ [{ byid := byid, a := ka, bins := bins, rises := runs }] }

def execOscEvaluate (a : OscArgs) (s : State) : Host.Outcome State Fault Refusal :=
  .next ((s.feed a.samples).evaluateOsc a.byid a.sub)

/-! ## Imported streams (R221) -/

/-- The hawsers that import a stream of a module, each once for the stream. -/
def Cancel.importers (k : Cancel) (m key : Nat) : List Nat :=
  ((k.insts.filter fun i => decide (m ∈ importsOf i.a) && streamKey (victim i.a) == key).map fun i => i.a.inst / 64).dedup

/-- An imported stream that a Splice frame carries. -/
def Import.rides (x : Import) (r : SpliceFrame) : Bool := x.modId == r.modId && decide (x.key ∈ r.streams)

/-- A frame that carries imported streams is missing or fails its check: they are lost, and each that was not counts on the
hawsers that import it. -/
def Dev.loseImports (d : Dev) (c : Ctx) (r : SpliceFrame) : Dev :=
  let new := d.can.imports.filter fun x => x.rides r && !x.lost
  let lose (x : Import) : Import := if x.rides r then { x with lost := true, good := 0, bad := true } else x
  let d : Dev := { d with can := { d.can with imports := d.can.imports.map lose } }
  let d := (new.flatMap fun x => d.can.importers x.modId x.key).foldl
    (fun d h => d.onHwsA h fun w => { w with importLoss := satAdd 6 w.importLoss 1 }) d
  if new.isEmpty then d else d.raise c 12 2 r.modId c.time.sub

def execSpliceRefLoss (r : SpliceFrame) (s : State) : Host.Outcome State Fault Refusal :=
  .next (s.onDev fun c d => d.loseImports c r)

/-- A stream after a good frame: restored once 20 consecutive ticks of them have passed (R221). -/
def Import.restore (x : Import) : Import := if x.lost ∧ 20 ≤ x.good then { x with lost := false } else x

/-- After 20 consecutive ticks of good frames a stream is restored. -/
def execSpliceRefRestore (r : SpliceFrame) (s : State) : Host.Outcome State Fault Refusal :=
  .next (s.onDev fun _ d =>
    let imports := d.can.imports.map fun x => if x.rides r then x.restore else x
    { d with can := { d.can with imports := imports } })

end Sys2Proof.Machine
end

