-- ==== Sys2Proof/Machine/Protect.lean ====
section
/-! DEFINITION. Network protection (spec/08_network_protection.md) but for the loading of plans: the device
clock, plan validity and its expiry, MUTE_N, host mutes, donor loss, network indications and the release of
mutes. -/

namespace Sys2Proof.Machine

/-! ## The device clock and plan validity (R265, R266, R274) -/

/-- The run count of a plan in the key store, in ticks. -/
def NvSt.runTicks (v : NvSt) (p : Plan) : Nat :=
  ((v.runCounts.find? fun r => r.slot == p.slot && r.id == p.id && r.seq == p.seq).map (·.ticks)).getD 0

/-- Ticks in one operating hour. -/
def hourTicks : Nat := 7200000

/-- Whether a plan is valid at a clock value (R274). -/
def planValidAt (v : NvSt) (utc : Option Nat) (p : Plan) : Bool :=
  match utc with
  | none => false
  | some t => decide (p.notBefore ≤ t) && decide (t < p.expiry) &&
      (p.maxRun == 0 || decide (v.runTicks p < p.maxRun * hourTicks))

/-- Seconds until a valid plan stops being valid, by EXPIRY or MAX_RUN, whichever comes first (R274). -/
def planSecondsLeft (v : NvSt) (utc : Nat) (p : Plan) : Nat :=
  let byExpiry := p.expiry - utc
  if p.maxRun = 0 then byExpiry else min byExpiry ((p.maxRun * hourTicks - v.runTicks p) / 2000)

/-- The PLAN event of a code (Table HST-11, kind 6). -/
def Dev.planEvent (d : Dev) (c : Ctx) (p : Plan) (code left : Nat) : Dev :=
  d.event c 6 code 0 p.slot p.seq (leBytes 4 p.id ++ zeros 4 ++ leBytes 8 left)

/-- Seven days and 24 hours in seconds. -/
def week : Nat := 604800
def day : Nat := 86400

/-- The device judges the committed plan (R274): the events of 7 days and 24 hours left, each once per
commit, and the event of a plan that is no longer valid. -/
def Dev.judgePlan (d : Dev) (c : Ctx) : Dev :=
  match d.plan.committed with
  | none => { d with plan := { d.plan with valid := false } }
  | some p =>
    let ok := planValidAt c.nv d.clk.utc p
    let left := planSecondsLeft c.nv (d.clk.utc.getD 0) p
    let due24 := ok && decide (left ≤ day) && !d.plan.posted24
    let due7 := ok && decide (left ≤ week) && !decide (left ≤ day) && !d.plan.posted7
    let was := d.plan.valid
    let d := { d with plan := { d.plan with
      valid := ok
      posted7 := d.plan.posted7 || due7 || due24
      posted24 := d.plan.posted24 || due24 } }
    let d := if due24 then d.planEvent c p 2 left else if due7 then d.planEvent c p 1 left else d
    if was && !ok then d.planEvent c p 3 0 else d

/-- TIME.SET (R266): sets the clock at once and raises TIME_FLOOR. -/
def cmdTimeSet (h : CmdHdr) (time : Nat) (s : State) : State :=
  match firstFail
    [(time == 0, stBadArg), (s.modes.mode == .reset || s.modes.mode == .latched, stDenied),
      (decide (time < s.nv.timeFloor), stDenied)] with
  | some st => { s with dev := s.dev.reject 0x0104 h st }
  | none =>
    let clk : ClockSt := { utc := some time, ticks := 0, sinceFloor := 0 }
    { s with
      nv := { s.nv with timeFloor := time }
      dev := ({ s.dev with clk := clk }).ok 0x0104 h }

def execTimeSet (h : CmdHdr) (time : Nat) (s : State) : Host.Outcome State Fault Refusal :=
  .next (cmdTimeSet h time s.fetched)

/-- The device clock advances by one second every 2,000 ticks, and the plan is judged with it (R265). -/
def execClockSecond (s : State) : Host.Outcome State Fault Refusal :=
  match s.dev.clk.utc with
  | none => .next s
  | some t =>
    if s.dev.clk.ticks < 2000 then .next s
    else
      let clk : ClockSt :=
        { utc := some ((t + 1) % 2 ^ 64), ticks := s.dev.clk.ticks - 2000,
          sinceFloor := s.dev.clk.sinceFloor + 1 }
      .next { s with dev := ({ s.dev with clk := clk }).judgePlan s.ctx }

/-- Every 3,600 s TIME_FLOOR is raised to the clock value (R266). -/
def execTimeFloorRaise (s : State) : Host.Outcome State Fault Refusal :=
  match s.dev.clk.utc with
  | none => .next s
  | some t =>
    if s.dev.clk.sinceFloor < 3600 then .next s
    else .next { s with
      nv := { s.nv with timeFloor := max s.nv.timeFloor t }
      dev := { s.dev with clk := { s.dev.clk with sinceFloor := 0 } } }

/-- Whether the state stands in the Plan window of a running grid. -/
def State.inPlan (s : State) : Bool := s.time.running && s.time.window == .plan

/-- The committed plan stops being valid: the device mute of its first tick (trigger 11). -/
def execPlanExpiry (s : State) : Host.Outcome State Fault Refusal :=
  if !s.inPlan ∨ s.dev.plan.committed.isNone ∨ s.dev.plan.valid ∨ s.dev.planExpired ∨
      s.modes.mode = .reset then .next s
  else
    let t : Trigger := { trig := 11, level := 4, scope := 0, unit := 0, loopg := 0, sub := 0 }
    .next (s.onDev fun c d => d.impose c t).settleMutes

/-! ## Host mutes (R282) -/

/-- The scope of a host mute, as Table PRT-7 writes it; none where a field is out of range. Bit 15 of a BYID
is reserved. -/
def muteScope (a : MuteArgs) (m : Member) : Option Nat :=
  if a.level = 1 then
    (if byidBeam a.id < Config.serviceBeams m then some (a.id % 32768) else none)
  else if a.level = 2 then (if a.bg < 8 ∧ a.dir < 2 then some (loopScope a.bg a.dir) else none)
  else if a.level = 3 then (if a.id < Config.strands m then some a.id else none)
  else if a.level = 4 ∨ a.level = 5 then some 0
  else none

/-- MUTE.SET (R282). -/
def cmdMuteSet (h : CmdHdr) (a : MuteArgs) (s : State) : State :=
  s.onDev fun c d =>
    guarded 0x0202 h
      [((muteScope a c.ident.member).isNone, stBadArg), (!modeAccepts c.mode 0x0202, stDenied)]
      (fun d => d.planned c 0x0202 h (.hostMute a.level ((muteScope a c.ident.member).getD 0) true)) d

def execMuteSet (h : CmdHdr) (a : MuteArgs) (s : State) : Host.Outcome State Fault Refusal :=
  .next (cmdMuteSet h a s.fetched)

/-- MUTE.CLR (R282). -/
def cmdMuteClr (h : CmdHdr) (a : MuteArgs) (s : State) : State :=
  s.onDev fun c d =>
    guarded 0x0203 h
      [((muteScope a c.ident.member).isNone, stBadArg),
        (!modeAccepts c.mode 0x0203 || a.level == 5, stDenied)]
      (fun d => d.planned c 0x0203 h (.hostMute a.level ((muteScope a c.ident.member).getD 0) false)) d

def execMuteClr (h : CmdHdr) (a : MuteArgs) (s : State) : Host.Outcome State Fault Refusal :=
  .next (cmdMuteClr h a s.fetched)

/-! ## MUTE_N (R281, R550) -/

/-- The device mute of MUTE_N at an instant; a further falling edge sends KILL again. -/
def Dev.muteN (d : Dev) (c : Ctx) (sub : Nat) : Dev :=
  let held := d.holds 14 4 0
  let t : Trigger := { trig := 14, level := 4, scope := 0, unit := 0, loopg := 0, sub := sub }
  let d := d.impose c t
  if held then d.kill c else d

/-- MUTE_N registers low (R281). In RESET only the pin's level is taken; it mutes at release (R550). -/
def execMuteNFall (sub : Nat) (s : State) : Host.Outcome State Fault Refusal :=
  let prt : Protect := { s.dev.prt with muteNLow := true, muteNHigh := 0, muteNClean := false }
  let d : Dev := { s.dev with prt := prt }
  .next { s with dev := if s.modes.mode = .reset then d else d.muteN s.ctx sub }

/-- MUTE_N rises: whole high ticks count from the next T0 (R277). -/
def execMuteNRise (s : State) : Host.Outcome State Fault Refusal :=
  let prt : Protect := { s.dev.prt with muteNLow := false, muteNHigh := 0, muteNClean := false }
  .next { s with dev := { s.dev with prt := prt } }

/-! ## Release (R278, R283) -/

/-- The Plan window that releases the last level 4 mute returns MUTED to its return mode (R283). -/
def State.leaveMuted (s : State) : State :=
  match s.modes.mode, s.modes.ret with
  | .muted, some r =>
    if s.dev.level4 then s
    else
      let m : ModeSt := { s.modes with mode := r, ret := none }
      { s with modes := m, dev := (s.dev.modeEvent s.ctx .muted r 0 1 0).restartYarns fun _ => true }
  | _, _ => s

/-- Mutes whose release rule is met release at this Plan window (R277, R278). -/
def execMuteRelease (s : State) : Host.Outcome State Fault Refusal :=
  if !s.inPlan then .next s
  else .next (s.onDev fun c d => d.releaseMutes c).leaveMuted

/-! ## Donor loss (R280) -/

/-- The modes in which donor loss is evaluated: HANK, the relay modes and MUTED. -/
def donorLossMode (m : Mode) : Bool := relays m || m == .muted

/-- DONOR_HOLD as it acts (Table PRT-9). -/
def Dev.donorHold (d : Dev) : Nat := min (d.use.prtCfg.field 0 8) 200

/-- 40 ticks without Painter sync declare donor loss at T0 of the tick that follows. -/
def execDonorLoss (s : State) : Host.Outcome State Fault Refusal :=
  let d := s.dev
  if !s.inPlan ∨ !donorLossMode s.modes.mode ∨ d.use.ptrCfg.field 0 2 = 2 ∨ d.prt.noSync < 40 ∨
      d.prt.declared.isSome ∨ d.holds 9 4 0 then .next s
  else .next { s with dev := { d with prt := { d.prt with declared := some s.time.n } } }

/-- The hold ends without Painter sync: the device mute of tick d + DONOR_HOLD. With SRC_PRIO 2 there is none. -/
def execDonorHoldExpiry (s : State) : Host.Outcome State Fault Refusal :=
  match s.dev.prt.declared with
  | none => .next s
  | some t0 =>
    if !s.inPlan ∨ !donorLossMode s.modes.mode ∨ s.dev.use.ptrCfg.field 0 2 = 2 ∨ sub32 s.time.n t0 < s.dev.donorHold then .next s
    else
      let t : Trigger := { trig := 9, level := 4, scope := 0, unit := 0, loopg := 0, sub := 0 }
      .next (s.onDev fun c d =>
        ({ d with prt := { d.prt with declared := none, noSync := 0 } }).impose c t).settleMutes

/-! ## Network indications (R286 to R289) -/

/-- Ticks from the accepting tick to the first slot's tick, in -10,240…10,239 (R287). -/
def niDistance (tih sfn scs slot : Nat) : Int :=
  let at_ := 20 * sfn + (if scs = 0 then 2 * slot else slot)
  let diff := (at_ + 20480 - tih % 20480) % 20480
  if diff < 10240 then (diff : Int) else (diff : Int) - 20480

/-- A field of NET.IND out of range (Table PRT-6). -/
def netIndBad (a : NetIndArgs) : Bool :=
  outside a.kind 1 2 || decide (1 < a.scs) || decide (1023 < a.sfn) ||
    decide ((if a.scs = 0 then 9 else 19) < a.slot) || outside a.nslots 1 1024 ||
    (a.kind == 1 && (decide (7 < a.bg) || decide (63 < a.beamK))) || (a.kind == 2 && decide (1 < a.on))

/-- The codebook entry that the NCR map of a band group gives a network beam index (R157). -/
def Beams.mapped (b : Beams) (bg k : Nat) : Option Nat :=
  (b.ncr.find? fun e => e.1 == bg && e.2.1 == k).map (·.2.2)

/-- NET.IND (R286 to R288). -/
def cmdNetInd (h : CmdHdr) (a : NetIndArgs) (s : State) : State :=
  s.onDev fun c d =>
    let dist := niDistance c.tih a.sfn a.scs a.slot
    let first := ((c.n : Int) + two32 + dist).toNat % two32
    let unmapped := a.kind == 1 && (d.beams.mapped a.bg a.beamK).isNone
    match firstFail
      [(netIndBad a, stBadArg), (decide (2048 < dist), stBadArg), (!networkRules c.modes, stDenied),
        (unmapped, 8), (decide (dist ≤ 2), stLate), (decide (256 ≤ d.prt.ni.length), stNoRoom)] with
    | some 8 =>
      ({ d with prt := { d.prt with niBad := satAdd 8 d.prt.niBad 1 } }).reject 0x0204 h stBadArg
    | some 4 =>
      ({ d with prt := { d.prt with niLate := satAdd 8 d.prt.niLate 1 } }).reject 0x0204 h stLate
    | some st => d.reject 0x0204 h st
    | none =>
      let i : NetInd :=
        { kind := a.kind, bg := a.bg, k := a.beamK, on := a.on, first := first,
          len := if a.scs = 0 then 2 * a.nslots else a.nslots, order := d.prt.niNext }
      let prt : Protect := { d.prt with ni := d.prt.ni ++ [i], niNext := d.prt.niNext + 1 }
      ({ d with prt := prt }).okAt 0x0204 h first

def execNetInd (h : CmdHdr) (a : NetIndArgs) (s : State) : Host.Outcome State Fault Refusal :=
  .next (cmdNetInd h a s.fetched)

end Sys2Proof.Machine
end

