-- ==== Sys2Proof/Machine/Belay.lean ====
section
/-! DEFINITION. Belay gain control and Payout (spec/07_belay_gain_control.md): the gain law and its terms, the
output-power limiter with its banks and fades, Payout, lost and frozen feedback, and the three commands. -/

namespace Sys2Proof.Machine

/-! ## The next tick as a Close sees it (R27, R225) -/

/-- The context of the next tick. -/
def Ctx.nextTick (c : Ctx) : Ctx :=
  let tif := (c.time.tif + 1) % 20
  let t : TimeSt := { c.time with
    n := succ32 c.time.n
    tif := tif
    sfn := if tif = 0 then (c.time.sfn + 1) % 1024 else c.time.sfn }
  { c with time := t }

/-! ## The mode of the next tick (R283, R412, R428) -/

/-- The mode that a wake from COIL gives, with its return mode (R428). -/
def Dev.wakeMode (d : Dev) (m : ModeSt) : Mode × Option Mode :=
  match m.prior with
  | none => (.standby, none)
  | some p =>
    if isRelay p ∧ d.qual.surveyOk = false then (.standby, none)
    else if isRelay p ∧ d.level4 = true then (.muted, some p)
    else (p, none)

/-- Whether a wake ends at the Plan window of a tick (R427). -/
def Dev.wakeEnds (d : Dev) (m : ModeSt) (n : Nat) : Bool :=
  m.waking && d.qual.wakeTick.any fun w => sub32 n w == 3

/-- The modes that an accepted MODE.SET or COIL.ENTER gives: in MUTED, HANK and the relay modes become the return mode
(R283). -/
def ModeSt.target (m : ModeSt) (t : Mode) : ModeSt :=
  if m.mode = .muted ∧ relays t then { m with ret := some t } else { m with mode := t, ret := none }

/-- The modes of the next tick, as far as a draft or a Close can tell: an accepted mode command that takes effect then, or
the end of a wake. -/
def Dev.nextModes (d : Dev) (c : Ctx) : ModeSt :=
  if d.wakeEnds c.modes (succ32 c.n) then
    { c.modes with mode := (d.wakeMode c.modes).1, ret := (d.wakeMode c.modes).2 }
  else match d.qual.pend with
    | some p => if tickDue (succ32 c.n) p.tick ∧ p.opcode ≠ 0x0103 then c.modes.target p.target else c.modes
    | none => c.modes

/-- The context of the next tick with the modes that it will have. -/
def Dev.nextCtx (d : Dev) (c : Ctx) : Ctx := { c.nextTick with modes := d.nextModes c }

/-! ## The vectors and the plan of the next tick (R27, R171) -/

/-- The codebook entries that beam indications name for a tick, with a valid record, per band group (R171,
R288). -/
def Dev.netBeamsAt (d : Dev) (c : Ctx) (n : Nat) : List (Nat × Nat) :=
  if c.mode ≠ .relayNetwork then []
  else (List.range 8).filterMap fun bg =>
    ((d.niCovering 1 bg n).bind fun i => d.beams.mapped bg i.k).bind fun e =>
      if (d.beams.entryIso bg e).isSome then some (bg, e) else none

/-- Whether a BEAM.SET is stored in a tick because a beam indication is in force for a band group that it touches: its
own, or for a donor beam any group that binds it (R171, assumption 73). -/
def Dev.beamHeld (d : Dev) (c : Ctx) (n : Nat) (a : BeamSetArgs) : Bool :=
  (d.netBeamsAt c n).any fun e =>
    if a.target = 2 then (d.beams.group e.1).donor == a.index else e.1 == a.bg

/-- Whether a change waits past its tick: a BEAM.SET that R171 stores. -/
def Dev.pendHeld (d : Dev) (c : Ctx) (n : Nat) (p : Pend) : Bool :=
  match p.what with
  | .beam a _ => d.beamHeld c n a
  | _ => false

/-- The vectors, the band plan and the indications that the next Plan window brings, in the modes of the next tick. -/
def Dev.preview (d : Dev) (c : Ctx) : Dev :=
  let c := d.nextCtx c
  let n := c.n
  let now := d.pend.filter fun p => p.due c.time && !d.pendHeld c n p
  let d := now.foldl (fun d p =>
    match p.what with
    | .beam a vs => d.applyBeam a vs
    | _ => d) d
  let plan := match d.plan.pending with
    | some q => if tickDue n q.tick then { d.plan with committed := some q.plan } else d.plan
    | none => d.plan
  let d : Dev := { d with plan := plan }
  { d with beams := { d.beams with netBeam := d.netBeamsAt c n } }

/-- The same under a governor plan, with the default strands that its commit will choose (R158, R230). -/
def Dev.previewWith (d : Dev) (c : Ctx) (r : RPlan) (m : Mode) : Dev :=
  let p := d.preview c
  ({ p with reef := { p.reef with plan := r } } : Dev).chooseDefaults m

/-- The slot ceilings that Belay computes in a mode: one per position of each uplink arrangement of a group
with steering slots (R235). -/
def Dev.ceilings (d : Dev) (m : Mode) : List Nat :=
  if m = .relaySteered ∨ m = .relayNetwork then
    (List.range 8).flatMap fun bg => match d.seg bg 1 with
      | none => []
      | some s =>
        if (d.beams.group bg).fixed < (d.beams.group bg).sbeams then
          (List.range s.ycount).map fun pos => 16384 + mkByid 1 bg 0 pos
        else []
  else []

/-- The beam yarns and ceilings that Belay serves in a mode under a governor plan. -/
def Dev.belayYarns (d : Dev) (c : Ctx) (r : RPlan) (m : Mode) : List Nat :=
  if relays m then
    ((d.ungated.formedYarns c r m).filter fun b => !d.isSlot b) ++ d.ceilings m
  else []

/-! ## System gain (R229 to R231) -/

/-- The gain range for a k_path (R231). -/
def gLo (k : Int) : Int := max (30 * dB) (k - 40 * dB)
def gHi (k : Int) : Int := min (115 * dB) (k + 60 * dB)

/-! ## Settings as they act (Table BEL-7, Table BEL-8) -/

def Setup.margin (u : Setup) : Int := (max 48 (u.belCfg.field 0 9) : Nat) * dB16
def Setup.hankCap (u : Setup) : Int := (min 1840 (max 480 (u.belCfg.field 10 11)) : Nat) * dB16
def Setup.bsNf (u : Setup) : Int := (u.belCfg.field 21 5 : Nat) * dB
def Setup.strandLim (u : Setup) : Int := -((max 24 (u.belCfg2.field 0 8) : Nat) * (4 * dB16))
def Setup.plFloor (u : Setup) : Int := (u.belCfg2.field 8 8 : Nat) * dB

/-- The key of a beam's target: its identifier at position 0; a ceiling's carries bit 14. -/
def targetKey (byid : Nat) : Nat := byid - byidPos byid

/-- The host target T of a beam yarn (R246). -/
def Belay.target (b : Belay) (byid : Nat) : Int :=
  (((b.targets.find? fun e => e.1 == targetKey byid).map (·.2)).getD 480 : Nat) * dB16

/-! ## Levels of the transmitted groups (R238, R346) -/

/-- The last figures delivered for a beam yarn (R226, R240). -/
def Belay.lastFig (b : Belay) (byid : Nat) : Option YarnFig := b.last.find? fun f => f.byid == byid

/-- The gained level of each relayed beam yarn in this tick, with its identifier. -/
def Dev.gainedLevels (d : Dev) (c : Ctx) (formed : List Nat) : List (Nat × Int) :=
  formed.filterMap fun b =>
    (d.gainCode c b).bind fun g => (d.bel.lastFig b).map fun f => (b, (f.l5 + g) * dB16)

/-- The transmitted streams of a tick: one per direction, band group and position, with its level as a
linear ratio. The uplink adds its beam yarns coherently. -/
def streams (ls : List (Nat × Int)) : List (Nat × Nat) :=
  let key (b : Nat) : Nat := mkByid (byidDir b) (byidBg b) 0 (byidPos b)
  ((ls.map fun e => key e.1).dedup).filterMap fun k =>
    let mine := (ls.filter fun e => key e.1 == k).map (·.2)
    let sum := if byidDir k = 1 then coherentSum mine else powerSum mine
    sum.map fun x => (k, dbLinear x)

/-- P_out and L_max of a band group and direction, from the streams (R346); none where it transmits
nothing. A strand that a mute silences transmits none (Table PRT-4). -/
def Dev.groupLevels (d : Dev) (c : Ctx) (ss : List (Nat × Nat)) (bg dir : Nat) : Option (Int × Int) :=
  let r := d.reef.plan
  let set := d.bel.set bg dir
  let forms := ss.map fun e => (e, (d.txVecOf r c.mode e.1).filter fun w => !d.strandMuted w.1)
  let mine := forms.filter fun f => byidBg f.1.1 == bg && byidDir f.1.1 == dir
  let on (l : List ((Nat × Nat) × Vec)) (g : Nat) : Nat :=
    (l.map fun f => f.1.2 * weightSq (Vec.at f.2 g) / 2 ^ 28).sum
  let strands := (List.range 128).filter fun g => mine.any fun f => f.2.any fun e => e.1 == g
  let power := mine.flatMap fun f => match d.segOfByid f.1.1 with
    | none => []
    | some s =>
      let c2 := s.centre2 (byidPos f.1.1)
      f.2.map fun e => match d.feGain e.1 2 c2 set.pag with
        | some fe => f.1.2 * weightSq e.2 / 2 ^ 28 * dbLinear (fe + d.zoneAt e.1 c2 - dB) / 2 ^ 96
        | none => 0
  match linearDb power, linearDb (strands.map fun g => on forms g) with
  | some p, some _ =>
    let tops := strands.filterMap fun g => linearDb [on forms g]
    some (p, tops.foldl max (tops.headD 0))
  | _, _ => none

/-- The excess x of a band group and direction (R238). A group that transmits nothing has the logarithm of
0: x saturates at the lower limit of its reported word (assumption 29). -/
def excess (u : Setup) (set : GainSet) (lv : Option (Int × Int)) : Int :=
  let least : Int := -32768 * dB16
  match lv with
  | none => least
  | some (p, l) => clampInt (max (p - set.pmax * dB16) (l - u.strandLim)) least (32767 * dB16)

/-! ## Path loss and the noise term (R236, R237, R284) -/

/-- The reference edges of an uplink segment in kHz: the FDD uplink of a group without an FDD downlink has none (R284). -/
def Dev.refEdges (d : Dev) (s : Seg) : Option (Nat × Nat) :=
  if s.duplex = 1 then some (s.fLo, s.fHi) else (d.seg s.bg 0).map fun t => (t.fLo, t.fHi)

/-- The donor figures of a Close become the path losses of their band groups (R284). Where SS_EPRE is 0x8000 or no
reference cell is received, PL_d is not measured from there on. -/
def Dev.takeDonors (d : Dev) (c : Ctx) (fs : List DonorFig) : Dev :=
  fs.foldl (fun d f =>
    match d.plan.committed.bind fun p => p.segs[f.seg]? with
    | none => d
    | some s =>
      let n := ((d.live d.reef.plan c.mode 1 (d.donorTx s.bg)).filter fun e => e.2 != 0).length
      if !s.has 1 ∨ f.beam ≠ (d.beams.group s.bg).donor ∨ n = 0 then d
      else
        let keep := d.bel.pathLoss.filter fun e => e.1 != s.bg
        if s.ssEpre = 0x8000 ∨ (d.refEdges s).isNone ∨ f.occ = 0 then { d with bel := { d.bel with pathLoss := keep } }
        else
          let pl := toSigned 16 s.ssEpre * (4 * dB16) - f.epreHi * dB16 - countDb n
          { d with bel := { d.bel with pathLoss := keep ++ [(s.bg, pl, f.tick)] } }) d

/-- PL_d of a band group, or PL_FLOOR while it is not measured (R236). -/
def Dev.pathLossOf (d : Dev) (c : Ctx) (bg : Nat) : Int :=
  match d.bel.pathLoss.find? fun e => e.1 == bg with
  | some (_, pl, n) => if sub32 c.n n ≤ 2048 then pl else d.use.plFloor
  | none => d.use.plFloor

/-- N_in of a beam yarn in the dB unit (R346). -/
def Dev.noiseIn (d : Dev) (c : Ctx) (byid : Nat) : Option Int :=
  match d.segOfByid byid, d.kRx d.reef.plan c.modes.belayMode byid, d.bel.lastFig byid with
  | some s, some k, some f =>
    f.nIn.map fun x => x * dB16 + 2 * dB - k - countDb (rateHz s.yrate / 10 * passEdge20 s.yresp)
  | _, _, _ => none

/-- g_noise (R237). -/
def noiseTerm (nf : Int) (nrise k : Nat) (pl nIn : Int) : Int :=
  let rise : Int := (dbLinear (nrise * dB16) : Int) - 2 ^ 96
  nf - 174 * dB + ratioDb rise.toNat (2 ^ 96) - countDb k + pl - nIn

/-! ## The terms of one Close (R227 to R239) -/

/-- What a Close computes for a beam yarn before its limiter and Payout. -/
structure Terms where
  k : Int
  lo : Int
  hi : Int
  loop : Int
  loopLim : Nat
  reg : Int
  noise : Option Int
  draft : Option Int
  x : Int
  iso : Option Int
  m : Int
  deriving DecidableEq, Repr, Inhabited

/-- What every beam yarn of a Close shares: the drafted governor plan, the mode of the next tick whose beam yarns Belay
serves, the state of this tick, the state at the next Plan window, the beam yarns formed there, the number of steering slots
of each band group there, and P_out and the excess of each band group and direction. -/
structure CloseView where
  r : RPlan
  m : Mode
  now : Dev
  pv : Dev
  formed : List Nat
  slots : List Nat
  pouts : List (Option Int)
  xs : List Int
  deriving DecidableEq, Repr, Inhabited

/-- Uplink beam yarns of a group at a position in the drafted plan: K (R237). A steering slot counts whether or not its
switch has come (R168); a tick with a network indication in force has none (R319). -/
def CloseView.count (w : CloseView) (byid : Nat) : Nat :=
  let bg := byidBg byid
  let named := w.formed.filter fun b =>
    byidDir b == 1 && byidBg b == bg && byidPos b == byidPos byid &&
      decide (byidBeam b < (w.pv.beams.group bg).fixed)
  max 1 (named.length + w.slots.getD bg 0)

/-- The isolation of an entry's record for a direction (R208). -/
def EntryRec.eff (e : EntryRec) (dir : Nat) : Int := (if dir = 0 then e.dlEff else e.ulEff) * dB16

/-- The isolation Leadline delivers for a beam yarn in a mode, while it is known (R193, Table BEL-1). -/
def Loop.isoIn (l : Loop) (m : Mode) : Option Int :=
  if l.known then ((if m = .hank then l.iPhys else l.iEff)).map (· * dB16) else none

/-- I_thin under a draft (R174): the loop with the reduced isolation and the ticks of activity after which the window of
`win` holds only thinned ones, and whether the draft removes combining strands now. Strands that return leave no such
ticks: the reduced isolation then ends with the first fresh integration. -/
def Loop.thinStep (l : Loop) (iso : Option Int) (n n' win : Nat) (fresh active : Bool) : Loop × Bool :=
  let l : Loop := if l.thinLeft = 0 then (if fresh then { l with thin := none } else l)
    else if active then
      { l with thinLeft := l.thinLeft - 1, thin := if l.thinLeft = 1 then none else l.thin }
    else l
  if n' < n ∧ n' ≠ 0 then
    match iso with
    | none => (l, false)
    | some i =>
      let base := match l.thin with
        | some t => min t i
        | none => i
      ({ l with thin := some (base - ceil16 (countDb n - countDb n') * dB16), thinLeft := win }, true)
  else if n < n' then ({ l with thinLeft := 0 }, false)
  else (l, false)

/-- The instance that a draft cuts, with its prediction for the drafted count (R201), in the dB unit. -/
def Dev.draftPred (d : Dev) (byid : Nat) : Option Int :=
  match d.can.inst byid, d.can.loop byid with
  | some i, some l =>
    (d.reef.draft.bind fun r => r.taps.find? fun t => t.1 == i.a.inst).bind fun t =>
      if t.2 < i.active then
        let at_ := (List.range 5).find? fun k => decide ((if k = 4 then 0 else i.a.taps / 2 ^ k) ≤ t.2)
        (at_.bind fun k => l.preds[k]?).map (· * dB16)
      else none
  | _, _ => none

/-- Whether a CANC.SET that takes effect in a tick binds a victim, which restarts its loop (R200), and whether one takes
its instance away. -/
def Dev.cancBinds (d : Dev) (n byid : Nat) : Bool :=
  d.pend.any fun p => match p.what with
    | .canc a _ => tickDue n p.tick && a.vkind != 0 && victim a == byid && !d.can.insts.any fun i => i.a == a
    | _ => false

def Dev.cancFrees (d : Dev) (n byid : Nat) : Bool :=
  d.pend.any fun p => match p.what with
    | .canc a _ => tickDue n p.tick && d.can.insts.any fun i => i.a.inst == a.inst && i.a != a && victim i.a == byid
    | _ => false

/-- The isolation that Leadline delivers for a beam yarn, for the coefficients of the next Plan window (R191, R233).
DEDUCED (assumption 112): a restart at that Plan window leaves the isolation unknown (R193, R200), and a binding that ends
there leaves the physical isolation at most. -/
def Dev.givenIso (d : Dev) (w : CloseView) (n : Nat) (l : Loop) : Option Int :=
  if w.now.loopRestarts w.pv l.byid || d.cancBinds n l.byid then none
  else if d.cancFrees n l.byid then
    (l.isoIn w.m).bind fun x => l.iPhys.map fun p => min x (p * dB16)
  else l.isoIn w.m

/-- The isolation that Belay uses for a beam yarn and whether the draft reduces it, with the loop as R174
leaves it (R233). Only the draft thins: a vector that a BEAM.SET changes restarts its loop (R200). DESIGN CHOICE (assumption
113): while a network beam indication is in force the entry's figure stands alone, whatever a draft removes besides. -/
def Dev.usedIso (d : Dev) (c : Ctx) (w : CloseView) (byid : Nat) (fresh : Bool) :
    Option Int × Bool × Option Loop :=
  if byidSlot byid = 1 then
    ((d.entryIsolation (fun i => (d.draftTaps i).getD i.active) (byidBg byid)).map (· * dB16), false, none)
  else
    let entry := (w.pv.beams.network (byidBg byid)).bind fun e => d.beams.entryIso (byidBg byid) e
    match d.can.loop byid with
    | none => (entry.map (·.eff (byidDir byid)), entry.isSome, none)
    | some l =>
      let given := d.givenIso w (succ32 c.n) l
      let n := (d.rxVecOf d.reef.plan c.modes.belayMode byid).length
      let n' := (d.rxVecOf w.r w.m byid).length
      let (l, thins) := l.thinStep given n n' d.use.isoTicks fresh (d.loopActive c byid)
      match entry with
      | some e => (some (e.eff (byidDir byid)), true, some l)
      | none =>
        let tiles := l.tileIso.map (· * dB16)
        let pred := d.draftPred byid
        let lower := [l.thin, tiles, pred].filterMap id
        (given.map fun i => lower.foldl min i, thins || tiles.isSome || pred.isSome, some l)

/-- The terms of a beam yarn at a Close; none where k_path is undefined (R227 to R237). DESIGN CHOICE (assumption 114):
while N_in of an uplink beam yarn has never been measured, its g_noise is left out. -/
def Dev.termsOf (d : Dev) (c : Ctx) (w : CloseView) (byid : Nat) (iso : Option Int) (cut : Bool) :
    Option Terms :=
  let m := w.m
  match w.pv.kPath w.r m byid, w.pv.segOfByid (carrier byid) with
  | some k, some s =>
    let margin := d.use.margin
    let hankMargin := max margin (12 * dB)
    let (loop, lim) : Int × Nat := match iso with
      | none => (gLo k, 9)
      | some i =>
        if m = .hank then
          (if d.use.hankCap < i - hankMargin then (d.use.hankCap, 6) else (i - hankMargin, 1))
        else (i - margin, 1)
    let up := (w.formed.filter fun b => byidDir b == 1 && byidBg b == byidBg byid).filterMap (w.now.noiseIn c)
    let nIn := if byidSlot byid = 1 then
        (if up.isEmpty then none else some (up.foldl max (up.headD 0)))
      else w.now.noiseIn c byid
    let noise := if byidDir byid = 0 then none
      else nIn.map fun ni => noiseTerm d.use.bsNf s.nrise (w.count byid) (d.pathLossOf c (byidBg byid)) ni
    some
      { k := k, lo := gLo k, hi := gHi k, loop := loop, loopLim := lim, reg := s.gReg * dB16, noise := noise,
        draft := if cut then iso.map (· - margin) else none,
        x := w.xs.getD (setIdx (byidBg byid) (byidDir byid)) 0, iso := iso, m := margin }
  | _, _ => none

/-! ## Gain-schedule banks (R240 to R243) -/

/-- A band after a figure, with 1 dB of hysteresis: it is entered at its threshold and left once the figure has fallen
1 dB below it. -/
def bandStep (cur : Nat) (x : Int) (thresholds : List Int) : Nat :=
  let up := (thresholds.filter fun t => decide (t ≤ x)).length
  let stay := (thresholds.filter fun t => decide (t - dB < x)).length
  max up (min cur stay)

/-- The region's bank and the two bands (R240, Table BEL-2). -/
def Sched.region (s : Sched) (m : Option Int) (l5 : Option Int) : Sched × Nat :=
  let iso := match m with
    | none => 0
    | some x => bandStep s.isoBand x [3 * dB, 9 * dB, 18 * dB]
  let load := match l5 with
    | none => 0
    | some l => bandStep s.loadBand (l * dB16) [-30 * dB]
  ({ s with isoBand := iso, loadBand := load }, 2 * iso + load)

/-- A coefficient on its way from a start to a target, rounded to the nearest code, half-way up. -/
def fadeCode (k0 k1 j n : Nat) : Nat :=
  (floorDiv (2 * ((k0 : Int) * n + ((k1 : Int) - k0) * j) + n) (2 * n)).toNat

/-- One fade step toward the region's bank; the second part says whether a fade began or was retargeted
(R241, R242). -/
def Sched.fade (s : Sched) (kp ki : List Nat) (bank xfade : Nat) : Sched × Bool :=
  let changed := decide ((kp.getD s.target 0, ki.getD s.target 0) ≠ (s.kpT, s.kiT))
  let begun := bank != s.target || changed
  if !begun && !s.fading then (s, false)
  else
    let s : Sched := if begun then
        { s with kp0 := s.kp, ki0 := s.ki, target := bank, kpT := kp.getD bank 0, kiT := ki.getD bank 0,
                 j := 0, fading := true }
      else s
    let j := s.j + 1
    if xfade ≤ j then
      ({ s with kp := s.kpT, ki := s.kiT, bank := s.target, j := 0, fading := false }, begun)
    else
      ({ s with j := j, kp := fadeCode s.kp0 s.kpT j xfade, ki := fadeCode s.ki0 s.kiT j xfade }, begun)

/-! ## The limiter (R239, R244, R245) -/

/-- One integration with the coefficients in force before the fade step. -/
def integrate (i x g lo hi : Int) (ki : Nat) : Int :=
  max (min (i - floorDiv (ki * x) 65536) (min (g + 4 * dB) hi)) lo

/-- The rescaling of a coefficient change. -/
def rescale (i x g lo hi : Int) (kpOld kpNew : Nat) : Int :=
  if lo < i then max (min (i + floorDiv (((kpNew : Int) - kpOld) * x) 4096) (min (g + 4 * dB) hi)) lo else lo

/-- g_power. -/
def gPower (i x lo hi : Int) (kp : Nat) : Int := clampInt (i - floorDiv (kp * x) 4096) lo hi

/-! ## Payout (R246 to R250) -/

/-- One Payout step toward a target, with the limits in units of 1/1,000 dB (R247). The braking distance is
compared exactly. -/
def BelYarn.payout (y : BelYarn) (t : Int) (vlim alim jlim : Nat) : BelYarn :=
  let d := t - y.p
  let up := decide (0 < d)
  let y : BelYarn := if d ≠ 0 ∧ y.dirUp = some (!up) then { y with v := 0, a := 0 } else y
  if vlim = 0 ∨ d = 0 then { y with v := 0, a := 0 }
  else
    let vl : Int := vlim * mdB
    let al : Int := alim * mdB
    let jl : Int := jlim * mdB
    let r : Int := d.natAbs
    let brakes := decide (2 * r * al * jl ≤ y.v * y.v * jl + y.v * al * al)
    let cmd := if brakes then -al else if y.v < vl then al else 0
    let a := y.a + clampInt (cmd - y.a) (-jl) jl
    let v := clampInt (y.v + a) 0 vl
    let step := min v r
    let y : BelYarn := { y with
      p := y.p + (if up then step else -step)
      dirUp := if step = 0 then y.dirUp else some up }
    if r ≤ v then { y with v := 0, a := 0 } else { y with v := v, a := a }

/-! ## Feedback (R251, R252, R254) -/

/-- A bit-identical figure after an update: its run, its last value and the value at which it froze. An update that
equals that value leaves it frozen, at whatever level (R252, R254). -/
def sameStep (run : Nat) (last frozen x : Option Int) (loud : Bool) : Nat × Option Int × Option Int :=
  if x.isNone then (0, none, none)
  else if x = frozen then (run, x, frozen)
  else
    let n := if !loud then 0 else if x = last then run + 1 else 1
    (n, x, if 64 ≤ n then x else frozen)

/-- Whether the last update of a figure equals the value at which it froze. -/
def stillFrozen (frozen last : Option Int) : Bool := frozen.isSome && decide (last = frozen)

/-- The figures of a tick that delivers an update, compared with those before it (R252). -/
def Feedback.take (b : Feedback) (l5 pout : Option Int) (loud : Bool) : Feedback :=
  let s5 := sameStep b.same5 b.last5 b.frozen5 l5 loud
  let sp := sameStep b.samePout b.lastPout b.frozenPout pout loud
  { b with
    same5 := s5.1
    last5 := s5.2.1
    frozen5 := s5.2.2
    samePout := sp.1
    lastPout := sp.2.1
    frozenPout := sp.2.2 }

/-- The feedback is fresh in tick n; where it was lost, it has returned. -/
def Feedback.fresh (b : Feedback) (back : Option Nat) : Feedback :=
  { b with st := .fresh, back := back, good := 0, hold := 0, frozen5 := none, frozenPout := none, decayDue := false,
           unfed := false }

/-- The feedback after a Close: `kind` as Table LDL-6 delivers it (0 fresh, 1 carried, 2 none). The second
part says whether freeze-hold was entered. A beam yarn that starts stays in Missed until its first update (R255). DESIGN
CHOICE (assumption 115): HOLD goes on counting in Decay. -/
def Feedback.step (b : Feedback) (kind : Nat) (l5 pout : Option Int) (loud : Bool) (n : Nat) :
    Feedback × Bool :=
  let b : Feedback := if kind = 0 then b.take l5 pout loud else b
  let frozen := stillFrozen b.frozen5 b.last5 || stillFrozen b.frozenPout b.lastPout
  let fine := decide (kind < 2) && !frozen
  let again := b.back.any fun k => decide (sub32 n k ≤ 64)
  let enter : Feedback × Bool :=
    ({ b with st := .hold, hold := 0, good := 0, decayDue := again }, !again)
  let stay : Feedback := { b with good := if fine then b.good + 1 else 0, hold := b.hold + 1 }
  match b.st with
  | .fresh => if fine then (b, false) else if kind = 2 then ({ b with st := .missed, hold := 0, good := 0 }, false)
      else enter
  | .missed => if fine then (b.fresh b.back, false) else if b.unfed then (b, false) else enter
  | .hold =>
    if fine && decide (1 ≤ b.good) then (b.fresh (some n), false)
    else ({ stay with decayDue := !fine && decide (20 ≤ stay.hold) }, false)
  | .decay => if fine && decide (1 ≤ b.good) then (b.fresh (some n), false) else (stay, false)

/-! ## Start (R255) -/

/-- The initial state of a beam yarn with a k_path (R255). -/
def initYarn (byid : Nat) (k : Int) (l5 : Option Int) (kp ki : List Nat) : BelYarn :=
  let load := if l5.any fun l => decide (-30 * dB ≤ l * dB16) then 1 else 0
  let sch : Sched :=
    { kp := kp.getD load 0, ki := ki.getD load 0, bank := load, kp0 := 0, ki0 := 0, kpT := kp.getD load 0,
      kiT := ki.getD load 0, target := load, j := 0, fading := false, isoBand := 0, loadBand := load }
  let fb : Feedback :=
    { st := .missed, hold := 0, good := 0, back := none, same5 := 0, samePout := 0, last5 := none,
      lastPout := none, frozen5 := none, frozenPout := none, decayDue := false, unfed := true }
  { byid := byid, init := false, p := gLo k, v := 0, a := 0, dirUp := none,
    integ := min (gLo k + 4 * dB) (gHi k), sch := sch, fb := fb, hasGain := false, code := 0, kpath := k,
    appl := 0, nextGain := false, nextCode := 0, nextKpath := k, outR := false, low := false, fall := none, limit := 7,
    iso := none, x := 0, need := 0, rec_ := [] }

/-- A beam yarn that asks for its initial state takes it, with the k_path of a governor plan. A beam yarn
without a k_path starts from a k_path of 0 dB and stands under R231. -/
def Dev.initIf (d : Dev) (r : RPlan) (m : Mode) (y : BelYarn) : BelYarn :=
  if y.init then
    initYarn y.byid ((d.kPath r m y.byid).getD 0) ((d.bel.lastFig (carrier y.byid)).map (·.l5)) d.bel.kp d.bel.ki
  else y

/-! ## The Close of one beam yarn (R256) -/

/-- The digital gain code of a gain, rounded down to 1/16 dB, and whether it was clamped (R230, R244). -/
def quantise (g k : Int) : Int × Bool :=
  let q := floor16 (g - k)
  (clampInt q (-640) 960, decide (q < -640) || decide (960 < q))

/-- The no-gain conditions that hold, as trigger codes of Table PRT-5 in the order of Table BEL-1 (R232,
R251). -/
def Terms.causes (t : Terms) (fresh : Bool) (power : Int) : List Nat :=
  let loop := if fresh then t.iso.isSome && decide (t.loop < t.lo) else t.draft.any fun g => decide (g < t.lo)
  (if loop then [2] else []) ++ (if t.reg < t.lo then [5] else []) ++
    (if fresh && t.noise.any (fun g => decide (g < t.lo)) then [3] else []) ++
    (if fresh && decide (power ≤ t.lo) && decide (0 < t.x) then [4] else [])

/-- The LIMIT code of a no-gain trigger (R232, Table BEL-6). -/
def causeLimit (trig : Nat) : Nat := if trig = 2 then 1 else if trig = 5 then 2 else trig

/-- The term that sets the gain: the first of the least, with its LIMIT code (R227, R228). -/
def leastTerm : List (Nat × Int) → Nat × Int
  | [] => (0, 0)
  | [t] => t
  | t :: ts =>
    let u := leastTerm ts
    if u.2 < t.2 then u else t

/-- A trigger of Belay that waits for the Plan window (Table PRT-5). -/
def belayTrigger (trig byid : Nat) : PendTrig :=
  if trig = 2 then { trig := 2, level := 2, scope := loopScope (byidBg byid) (byidDir byid) }
  else { trig := trig, level := 1, scope := byid }

/-- A beam yarn after its Close, and what the Close found. -/
structure CloseOut where
  y : BelYarn
  note : CloseNote
  deriving DecidableEq, Repr, Inhabited

/-- The limits of the words in which k_path, the isolation, the excess, the integrator and the set-point are reported, in
the dB unit; an intermediate that reaches one sets SAT_ARITH (R244; assumption 29). -/
def atWordLimit (x : Int) : Bool := decide (x ≤ -32768 * dB16) || decide (32767 * dB16 ≤ x)

/-- Whether an intermediate of a Close reaches the limit of its word. -/
def Terms.saturates (t : Terms) (y : BelYarn) : Bool :=
  ([t.k, t.x, y.integ, y.p] ++ t.iso.toList).any atWordLimit

/-- The limiter and its schedule at a Close with fresh feedback (R239 to R245). -/
def Dev.stepLimiter (d : Dev) (y : BelYarn) (t : Terms) : BelYarn × Bool × Bool :=
  let g := if y.hasGain then y.appl else t.lo
  let l5 := (d.bel.lastFig (carrier y.byid)).map (·.l5)
  let (s, bank) := y.sch.region (t.iso.map fun i => i - g - t.m) l5
  let (s', begun) := s.fade d.bel.kp d.bel.ki bank d.bel.xfade
  let i := integrate y.integ t.x g t.lo t.hi y.sch.ki
  let changed := decide ((s'.kp, s'.ki) ≠ (s.kp, s.ki))
  let i' := if changed then rescale i t.x g t.lo t.hi s.kp s'.kp else i
  ({ y with sch := s', integ := i' }, begun, decide (i' ≤ t.lo))

/-- The safe gain of a beam yarn in Decay, from the last known physical isolation (R253). -/
def Dev.safeGain (d : Dev) (byid : Nat) (lo : Int) : Int :=
  match (d.can.loop (carrier byid)).bind (·.lastPhys) with
  | some i => i * dB16 - 15 * dB
  | none => lo

/-- The value of Decay from which the next step falls: the last one where the applied gain is it rounded down, else the
applied gain. -/
def BelYarn.falling (y : BelYarn) : Int :=
  match y.fall with
  | some g => if y.appl ≤ g ∧ g < y.appl + dB16 then g else y.appl
  | none => y.appl

/-- One step of Decay (R253). -/
def Dev.decayStep (d : Dev) (y : BelYarn) (lo : Int) : Int :=
  let set := d.bel.set (byidBg y.byid) (byidDir y.byid)
  let safe := d.safeGain y.byid lo
  let step := if set.vlim = 0 then dB / 2 else set.vlim * mdB
  if y.falling ≤ safe then y.falling else max safe (y.falling - step)

/-- The gain of the Close: the term that sets it and its value; none is no gain (R227, R228, R232, R251, R253). -/
def Dev.gainOf (d : Dev) (y : BelYarn) (t : Terms) (fresh low : Bool) (power : Int) (causes : List Nat) :
    Nat × Option Int :=
  match causes with
  | k :: _ => (causeLimit k, none)
  | [] =>
    if low ∨ t.hi < t.lo ∨ (byidSlot y.byid = 1 ∧ t.iso = none) then (10, none)
    else if fresh then
      let b := leastTerm ([(0, y.p), (t.loopLim, t.loop), (2, t.reg)] ++
        (t.noise.map fun g => (3, g)).toList ++ [(4, power), (5, t.hi)])
      (b.1, some b.2)
    else
      let (lim, hold) : Nat × Int := if y.fb.st = .decay then (8, d.decayStep y t.lo) else (7, y.appl)
      if y.hasGain then
        let b := leastTerm ((lim, hold) :: (t.draft.map fun g => (1, g)).toList ++ [(2, t.reg), (5, t.hi)])
        (b.1, some b.2)
      else (lim, none)

/-- Whether a Close meets the release rule of a mute of triggers 2 to 5; none where it has no figure of the condition. -/
def Terms.releases (t : Terms) (trig : Nat) : Option Bool :=
  if trig = 2 then some (t.iso.isSome && decide (t.lo + dB ≤ t.loop))
  else if trig = 3 then t.noise.map fun g => decide (t.lo + dB ≤ g)
  else if trig = 4 then some (decide (t.x ≤ -3 * dB))
  else some (decide (t.lo ≤ t.reg))

/-- Which release rules of triggers 2 to 5 a Close meets. Those of figures that Leadline delivers need fresh ones; a slot
ceiling is no beam yarn and meets none. -/
def Terms.meets (t : Terms) (byid : Nat) (fresh : Bool) : List (Nat × Bool) :=
  if byidSlot byid = 1 then []
  else [2, 3, 4, 5].filterMap fun k => (t.releases k).map fun ok => (k, (fresh || k == 5) && ok)

/-- Where Payout stands as the feedback returns: at the applied gain, at rest; with no gain to hold, at g_lo (R251, R254).
A set-point below g_lo runs on (R232). -/
def BelYarn.resume (y : BelYarn) (was : FbState) (lo : Int) : BelYarn :=
  if y.hasGain then
    if was = .hold ∨ was = .decay then { y with p := max y.appl (min y.p lo), v := 0, a := 0 } else y
  else if y.low then { y with v := 0, a := 0 }
  else { y with p := lo, v := 0, a := 0 }

/-- The Close of one beam yarn whose k_path is defined, after its feedback step. DESIGN CHOICE (assumption 116): a slot
ceiling without a valid entry keeps its Payout state, whose p runs on toward the target. -/
def Dev.closeWith (d : Dev) (y : BelYarn) (t : Terms) (was : FbState) (froze : Bool) : CloseOut :=
  let fresh := y.fb.st == .fresh
  let outR := decide (t.hi < t.lo)
  let set := d.bel.set (byidBg y.byid) (byidDir y.byid)
  let note : CloseNote :=
    { byid := y.byid, causes := [], range := false, raises := false, froze := froze, faded := false, satInt := false,
      satOut := false, satArith := t.saturates y, meets := t.meets y.byid fresh }
  let restart : BelYarn :=
    { initYarn y.byid t.k ((d.bel.lastFig (carrier y.byid)).map (·.l5)) d.bel.kp d.bel.ki with
      rec_ := y.rec_, hasGain := y.hasGain, code := y.code, kpath := y.kpath, appl := y.appl }
  if y.outR && !outR then { y := restart, note := note }
  else
    let (y, begun, satInt) := if fresh then d.stepLimiter y t else (y, false, false)
    let note : CloseNote := { note with faded := begun, satInt := satInt, satArith := t.saturates y }
    let power := gPower y.integ t.x t.lo t.hi y.sch.kp
    let y : BelYarn := if fresh then
        ((if was = .fresh then y else y.resume was t.lo).payout (d.bel.target y.byid) set.vlim set.alim set.jlim)
      else y
    let causes := t.causes fresh power
    let low := fresh && !outR && decide (y.p < t.lo)
    let returns := y.low && fresh && !outR && !low && causes.isEmpty
    if returns then { y := restart, note := note }
    else
      let (lim, g) := d.gainOf y t fresh low power causes
      let need := ([t.reg, t.hi] ++ t.noise.toList).foldl min (d.bel.target y.byid)
      let y' : BelYarn := { y with
        nextGain := g.isSome
        nextKpath := t.k
        outR := outR
        low := low || (y.low && !fresh)
        fall := if y.fb.st = .decay && lim == 8 then g else none
        limit := lim
        iso := t.iso
        x := t.x
        need := need }
      let note : CloseNote := { note with
        causes := causes
        range := g.isNone && (outR || low)
        raises := (outR && !y.outR) || (low && !y.low)
        satArith := t.saturates y }
      match g with
      | none => { y := y', note := note }
      | some v =>
        let (q, clamped) := quantise v t.k
        let appl := q * dB16 + t.k
        let seed := if appl < t.lo ∧ t.lo < appl + dB16 then t.lo else appl
        let reseeds := lim != 0 && decide (seed < y.p)
        let y' : BelYarn := { y' with
          nextCode := q
          p := if reseeds then seed else y'.p
          v := if reseeds then 0 else y'.v
          a := if reseeds then 0 else y'.a }
        { y := y', note := { note with satOut := clamped } }

/-- The Close of a beam yarn without a k_path (R231). -/
def closeWithout (y : BelYarn) (froze : Bool) : CloseOut :=
  { y := { y with nextGain := false, outR := true, limit := 10 }
    note :=
      { byid := y.byid, causes := [], range := true, raises := !y.outR, froze := froze, faded := false, satInt := false,
        satOut := false, satArith := false, meets := [] } }

/-! ## What a Close found counts once its deadline has passed (R41, Table TCK-2) -/

/-- Count, report and trigger what a Close found of a beam yarn (R232, R244, R253, R261, R262). A slot ceiling is no beam
yarn: it counts no Close without a gain, triggers and raises nothing. DESIGN CHOICE (assumption 117): POWER of HWS_BEL_UNMET
counts once at a Close at which g_reg and g_power both fail. -/
def Dev.countClose (d : Dev) (c : Ctx) (sub : Nat) (o : CloseNote) : Dev :=
  let h := byidOwner c.hawsers (carrier o.byid)
  let slot := byidSlot o.byid == 1
  let count (b : Bool) : Nat := bitNat (!slot && b)
  let has (l : List Nat) : Bool := o.causes.any fun k => decide (k ∈ l)
  let d := d.onHwsB h fun w => { w with
    satInt := w.satInt || o.satInt
    satOut := w.satOut || o.satOut
    satArith := w.satArith || o.satArith
    freezeCnt := satAdd 8 w.freezeCnt (bitNat o.froze)
    fadeCnt := satAdd 8 w.fadeCnt (bitNat o.faded)
    umLoop := satAdd 8 w.umLoop (count (has [2]))
    umNoise := satAdd 8 w.umNoise (count (has [3]))
    umPower := satAdd 8 w.umPower (count (has [4, 5]))
    umRange := satAdd 8 w.umRange (count o.range) }
  if slot then d
  else
    let due := o.causes.map fun k => belayTrigger k o.byid
    let d : Dev := { d with prt := { d.prt with due := d.prt.due ++ due } }
    if o.raises then d.raise c 15 2 h sub else d

/-- The mute's run of Closes that meet its rule. A Close that has no figure of the condition for its beam yarns leaves it
(R277). -/
def Mute.closeStep (m : Mute) (os : List CloseNote) : Mute :=
  if 2 ≤ m.trig ∧ m.trig ≤ 5 then
    let mine := (os.filter fun o => byidSlot o.byid == 0 && m.covers o.byid).filterMap fun o =>
      (o.meets.find? fun e => e.1 == m.trig).map (·.2)
    if mine.isEmpty then m else { m with good := if mine.all id then m.good + 1 else 0 }
  else m

/-- What the Close of the tick that ends found takes effect (Table TCK-2). -/
def Dev.takeClose (d : Dev) (c : Ctx) (sub : Nat) : Dev :=
  let os := d.bel.closed
  let d := os.foldl (fun d o => d.countClose c sub o) { d with bel := { d.bel with closed := [] } }
  { d with prt := { d.prt with mutes := d.prt.mutes.map fun m => m.closeStep os } }

/-! ## The settings of GAIN.SET (R246, R248, R257) -/

/-- The target keys that a GAIN.SET names. -/
def gainKeys (a : GainArgs) : List Nat :=
  if a.dir = 0 then [mkByid 0 a.bg 0 0]
  else
    let ceil := 16384 + mkByid 1 a.bg 0 0
    if a.beam = 0xFF then ((List.range 64).map fun b => mkByid 1 a.bg b 0) ++ [ceil]
    else if a.beam = 0xFE then [ceil]
    else [mkByid 1 a.bg a.beam 0]

/-- What a GAIN.SET changes (R246, R248, R257). -/
def Dev.applyGain (d : Dev) (a : GainArgs) : Dev :=
  let sel (i : Nat) : Bool := maskBit a.mask i
  let keys := gainKeys a
  let b := d.bel
  let targets := if sel 0 then
      (b.targets.filter fun e => !decide (e.1 ∈ keys)) ++ keys.map fun k => (k, a.target)
    else b.targets
  let sets := b.sets.modify (setIdx a.bg a.dir) fun g => { g with
    pmax := if sel 1 then a.pmax else g.pmax
    vlim := if sel 2 then a.vlim else g.vlim
    alim := if sel 2 then a.alim else g.alim
    jlim := if sel 2 then a.jlim else g.jlim
    lna := if sel 4 then a.lnaSt else g.lna
    pag := if sel 4 then a.pagSt else g.pag }
  let b : Belay := { b with targets := targets, sets := sets }
  let ys := if sel 3 then
      b.yarns.map fun y =>
        if targetKey y.byid ∈ keys ∧ b.target y.byid < y.p then { y with p := b.target y.byid, v := 0, a := 0 }
        else y
    else b.yarns
  { d with bel := { b with yarns := ys } }

/-! ## The Close of Belay (R256) -/

/-- Take up the figures that Leadline delivers: fresh ones stand as the last delivered, which a carried one repeats
(R341). -/
def Dev.takeFigures (d : Dev) (fs : List YarnFig) : Dev :=
  let new := fs.filter fun f => decide (f.kind = 0)
  let keep := d.bel.last.filter fun f => new.all fun g => g.byid != f.byid
  { d with bel := { d.bel with last := keep ++ new } }

/-- P_out and L_max of each band group and direction in this tick. A gated uplink carries those delivered before it (R341,
R368). -/
def Dev.levels (d : Dev) (c : Ctx) : List (Option (Int × Int)) :=
  let ss := streams (d.gainedLevels c (d.formedNow c))
  (List.range 16).map fun i =>
    if (d.seg (i / 2) (i % 2)).any fun s => d.gatedFor c s (i % 2) then d.bel.levels.getD i none
    else d.groupLevels c ss (i / 2) (i % 2)

/-- Put a loop back in its place. -/
def Dev.putLoop (d : Dev) (l : Option Loop) : Dev :=
  match l with
  | none => d
  | some l => { d with can := { d.can with loops := d.can.loops.map fun k => if k.byid == l.byid then l else k } }

/-- Note what a Close found of a beam yarn. -/
def Dev.noteClose (d : Dev) (o : CloseNote) : Dev := { d with bel := { d.bel with closed := d.bel.closed ++ [o] } }

/-- One beam yarn at the Close of a mode that relays. -/
def Dev.closeYarn (d : Dev) (c : Ctx) (w : CloseView) (fs : List YarnFig) (y : BelYarn) : Dev :=
  let y := d.initIf d.reef.plan c.mode y
  let f := fs.find? fun f => f.byid == carrier y.byid
  let kind := (f.map (·.kind)).getD 2
  let loud := f.any fun f => f.nv.any fun v => decide (v + 48 ≤ f.l5)
  let was := y.fb.st
  let pout := (w.pouts.getD (setIdx (byidBg y.byid) (byidDir y.byid)) none).map round16
  let (fb, froze) := y.fb.step kind (f.map (·.l5)) pout loud c.n
  let y : BelYarn := { y with fb := fb }
  let (iso, cut, l) := d.usedIso c w y.byid (fb.st == .fresh)
  let d := d.putLoop l
  let o := match d.termsOf c w y.byid iso cut with
    | none => closeWithout y froze
    | some t => d.closeWith y t was froze
  let ys := d.bel.yarns.map fun z => if z.byid == o.y.byid then o.y else z
  ({ d with bel := { d.bel with yarns := ys } }).noteClose o.note

/-- A beam yarn that the draft does not form gets no gain. -/
def Dev.idleYarns (d : Dev) (served : List Nat) : Dev :=
  { d with bel := { d.bel with yarns := d.bel.yarns.map fun y =>
      if y.byid ∈ served then y else { y with nextGain := false } } }

/-- One beam yarn at a Close in MUTED: its terms alone, which its record shows and the release rules read (R226). -/
def Dev.mutedYarn (d : Dev) (c : Ctx) (w : CloseView) (fs : List YarnFig) (byid : Nat) : Dev :=
  let (iso, cut, l) := d.usedIso c w byid (fs.any fun f => f.byid == carrier byid && f.kind == 0)
  let d := d.putLoop l
  match d.termsOf c w byid iso cut with
  | none => d
  | some t =>
    let ys := d.bel.yarns.map fun y => if y.byid = byid then { y with nextKpath := t.k, iso := t.iso, x := t.x } else y
    ({ d with bel := { d.bel with yarns := ys } }).noteClose
      { byid := byid, causes := [], range := false, raises := false, froze := false, faded := false, satInt := false,
        satOut := false, satArith := false, meets := t.meets byid true }

/-- The GAIN.SETs that take effect at a Plan window are taken up. -/
def Dev.drainGains (d : Dev) (tick : Nat) : Dev :=
  let hit (p : Pend) : Bool := match p.what with
    | .gain _ => tickDue tick p.tick
    | _ => false
  let now := d.pend.filter hit
  now.foldl
    (fun d p => match p.what with
      | .gain a => d.applyGain a
      | _ => d)
    { d with pend := d.pend.filter fun p => !hit p }

/-- What the Close of this tick computes against (R225): `now` the state with this tick's figures, `d` the same with
the GAIN.SETs of the next Plan window. -/
def Dev.closeView (d now : Dev) (c : Ctx) : CloseView :=
  let next := d.nextCtx c
  let m := next.modes.belayMode
  let lv := now.levels c
  let r := d.reef.draft.getD d.reef.plan
  let pv := d.previewWith c r m
  { r := r, m := m, now := now, pv := pv, formed := pv.formedYarns next r m,
    slots := (List.range pv.beams.groups.length).map fun bg =>
      if (pv.beams.network bg).isNone then (pv.planSlots r m bg).length else 0,
    pouts := lv.map fun o => o.map (·.1), xs := (lv.zip d.bel.sets).map fun e => excess d.use e.2 e.1 }

/-- The Close of the beam yarns that a condition selects, in the mode in force (R225, R226, R256). -/
def Dev.closeServed (d : Dev) (c : Ctx) (w : CloseView) (fs : List YarnFig) (sel : Nat → Bool) : Dev :=
  let served := w.pv.belayYarns (d.nextCtx c) w.r w.m
  if c.mode = .muted then (served.filter sel).foldl (fun d b => d.mutedYarn c w fs b) d
  else (d.bel.yarns.filter fun y => decide (y.byid ∈ served) && sel y.byid).foldl
    (fun d y => d.closeYarn c w fs y) (d.idleYarns served)

/-- BELAY_COMPUTE: the gains of the next tick (R225, R226, R256), with the GAIN.SETs of the next Plan window
(R257). An overrun goes back to the beam yarns, with those settings, and the figures that it keeps (Table TCK-2). -/
def Dev.closeBelay (d : Dev) (c : Ctx) (fs : List YarnFig) (donors : List DonorFig) : Dev :=
  let now := (({ d with bel := { d.bel with prevLast := d.bel.last, closed := [] } } : Dev).takeFigures fs).takeDonors c
    donors
  let d := now.drainGains (succ32 c.n)
  let d : Dev := { d with bel := { d.bel with prev := d.bel.yarns } }
  if !relays c.modes.belayMode then d
  else
    let w := d.closeView now c
    { d with bel := { d.bel with levels := now.levels c } }.closeServed c w fs fun _ => true

/-! ## The Plan window (R29, R226, R259) -/

/-- The record of Table BEL-6. -/
def BelYarn.record (y : BelYarn) (target : Int) : Bytes :=
  let s (x : Int) : Nat := ofSigned 16 (satSigned 16 (floor16 x))
  let fbId : Nat := match y.fb.st with
    | .fresh => 0 | .missed => 1 | .hold => 2 | .decay => 3
  leBytes 2 y.byid ++ leBytes 1 y.limit ++ leBytes 1 (fbId + 4 * y.sch.bank + 32 * bitNat y.sch.fading) ++
    leBytes 2 (if y.hasGain then s y.appl else 0) ++
    leBytes 2 (if y.hasGain then ofSigned 16 y.code else 0) ++ leBytes 2 (s y.p) ++ leBytes 2 (s target) ++
    leBytes 2 (match y.iso with
      | some i => s i
      | none => 0xFFFF) ++
    leBytes 2 (s y.integ) ++ leBytes 2 (s y.kpath) ++ leBytes 2 (s y.x) ++ leBytes 1 y.sch.j ++
    leBytes 1 (min y.fb.hold 255) ++ zeros 10

/-- Write a beam yarn's record of the Plan window. -/
def Dev.noteYarn (d : Dev) (y : BelYarn) : BelYarn := { y with rec_ := y.record (d.bel.target y.byid) }

/-- The gains of the Close are applied; a mute holds the gain back (R29, R132). -/
def Dev.applyBelay (d : Dev) : Dev :=
  let ys := d.bel.yarns.map fun y =>
    let muted := d.yarnMuted (carrier y.byid)
    let on := y.nextGain && !muted
    d.noteYarn
      { y with
        hasGain := on
        code := if on then y.nextCode else 0
        kpath := y.nextKpath
        appl := if on then y.nextCode * dB16 + y.nextKpath else 0
        nextGain := false
        limit := if muted then 11 else y.limit }
  { d with bel := { d.bel with yarns := ys } }

/-- What MUTED keeps of a beam yarn: no Payout, limiter-integrator, fade or feedback state (R226). -/
def BelYarn.bare (y : BelYarn) : BelYarn :=
  let none_ := initYarn y.byid 0 none [] []
  { none_ with p := 0, integ := 0, kpath := y.kpath, nextKpath := y.nextKpath, limit := 11, iso := y.iso, x := y.x }

/-- The beam yarns that a Plan window starts, keeps and stops: `fresh` says whether every beam yarn starts
anew, `keeps` which segments run on (R226, R273, R410). A beam yarn that starts has had no figure delivered since
it started (R240, R255). -/
def Dev.startYarns (d : Dev) (c : Ctx) (m : Mode) (fresh : Bool) (keeps : Nat → Bool) : Dev :=
  let served := d.belayYarns c d.reef.plan m
  let runsOn (b : Nat) : Bool := !fresh && keeps b && d.bel.yarns.any fun y => y.byid == b
  let ys := served.map fun b =>
    match d.bel.yarns.find? fun y => y.byid == b with
    | some y => if runsOn b then y else { (default : BelYarn) with byid := b, init := true }
    | none => { (default : BelYarn) with byid := b, init := true }
  let formed := d.ungated.formedYarns c d.reef.plan m
  let last := d.bel.last.filter fun f => decide (f.byid ∈ formed) && (!decide (f.byid ∈ served) || runsOn f.byid)
  { d with bel := { d.bel with yarns := if c.mode = .muted then ys.map BelYarn.bare else ys, last := last } }

/-- Beam yarns that ask for it take their initial state (R255). -/
def Dev.initFlagged (d : Dev) (m : Mode) : Dev :=
  let ys := d.bel.yarns.map fun y => if y.init then d.noteYarn (d.initIf d.reef.plan m y) else y
  { d with bel := { d.bel with yarns := ys } }

/-- The record of a formed steering-slot beam yarn: its ceiling's state with the gain that the slot took (R169, R235).
DESIGN CHOICE (assumption 118). -/
def Dev.slotRecord (d : Dev) (c : Ctx) (byid : Nat) : Option Bytes :=
  (d.bel.yarns.find? fun y => y.byid == 16384 + mkByid 1 (byidBg byid) 0 (byidPos byid)).map fun y =>
    let k := (d.kPath d.reef.plan c.mode byid).getD 0
    let y' : BelYarn := { y with byid := byid, kpath := k }
    match d.gainCode c byid with
    | some q => { y' with hasGain := true, code := q, appl := q * dB16 + k }.record (d.bel.target y.byid)
    | none => { y' with hasGain := false }.record (d.bel.target y.byid)

/-- The record of a beam yarn for which Belay keeps no state: BYID and its target T; the rest is open. -/
def Dev.openRecord (d : Dev) (byid : Nat) : Bytes :=
  let open_ := leBytes 32 (Config.freeBelRecord byid).toNat
  leBytes 2 byid ++ (open_.drop 2).take 8 ++
    leBytes 2 (ofSigned 16 (satSigned 16 (floor16 (d.bel.target byid)))) ++ open_.drop 12

/-- At a Plan window: the records of the formed beam yarns for which Belay keeps no state of their own (R226, R259). -/
def Dev.noteOthers (d : Dev) (c : Ctx) : Dev :=
  let formed := (d.ungated.formedYarns c d.reef.plan c.mode).filter fun b => !d.bel.yarns.any fun y => y.byid == b
  let others := formed.map fun b => (b, (if d.isSlot b then d.slotRecord c b else none).getD (d.openRecord b))
  { d with bel := { d.bel with others := others } }

/-! ## A Close that misses its deadline (Table TCK-2) -/

/-- Whether hawser h computes a beam yarn or ceiling (R225). -/
def belayOn (c : Ctx) (h byid : Nat) : Bool := byidOwner c.hawsers (carrier byid) == h

/-- A beam yarn that keeps the system gain of this tick: its code less what the front-end states that commit change of
its k_path, rounded down to 1/16 dB and within the codes of R135; below -640 it gets no gain. -/
def BelYarn.keepGain (y : BelYarn) (k : Option Int) : BelYarn :=
  let k := k.getD y.kpath
  let q := floor16 (y.code * dB16 - (k - y.kpath))
  { y with nextGain := y.hasGain && decide (-640 ≤ q), nextCode := min q 960, nextKpath := k }

/-- Whether that code is clamped (R244). -/
def BelYarn.keepClamps (y : BelYarn) (k : Option Int) : Bool :=
  y.hasGain && decide (960 < floor16 (y.code * dB16 - (k.getD y.kpath - y.kpath)))

/-- A loop as the overrun of Belay's computation leaves it: no thinning of its draft stands, while that of earlier ones
runs on (R174). -/
def Dev.unthin (d : Dev) (c : Ctx) (l : Loop) : Loop :=
  match d.can.prevLoops.find? fun p => p.byid == l.byid with
  | none => l
  | some p =>
    if l.win = 0 then { l with thin := none, thinLeft := 0 }
    else (({ l with thin := p.thin, thinLeft := p.thinLeft } : Loop).thinStep none 1 1 0 false (d.loopActive c l.byid)).1

/-- Belay's computation overruns on hawser h: its beam yarns are as the Close found them and keep their gains, and what the
Close found of them counts nowhere (Table TCK-2). k_path changes with the front-end states alone, this tick's weights and
strands. -/
def Dev.belayOverrun (d : Dev) (c : Ctx) (h : Nat) : Dev :=
  let k (p : BelYarn) : Option Int := d.kPath d.reef.plan c.modes.belayMode p.byid
  let ys := d.bel.yarns.map fun y =>
    if !belayOn c h y.byid then y
    else match d.bel.prev.find? fun p => p.byid == y.byid with
      | none => { y with nextGain := false }
      | some p => p.keepGain (k p)
  let clamps := d.bel.prev.any fun p => belayOn c h p.byid && p.keepClamps (k p)
  let loops := d.can.loops.map fun l => if belayOn c h l.byid then d.unthin c l else l
  let d : Dev := { d with
    bel := { d.bel with yarns := ys, closed := d.bel.closed.filter fun o => !belayOn c h o.byid }
    can := { d.can with loops := loops } }
  d.onHwsB h fun w => { w with satOut := w.satOut || clamps }

/-- Leadline's close overruns on hawser h: none of its figures of this tick is delivered, the solutions that rest on them
are not applied, and Belay's Close of its beam yarns is one without a Leadline update (R191, Table TCK-2). -/
def Dev.leadlineOverrun (d : Dev) (c : Ctx) (h : Nat) : Dev :=
  let put {α : Type} (key : α → Nat) (old new : List α) : List α :=
    (new.filter fun x => !belayOn c h (key x)) ++ old.filter fun x => belayOn c h (key x)
  let insts := d.can.insts.map fun i => if i.a.inst / 64 = h then { i with next := none } else i
  let d : Dev := { d with
    bel := { d.bel with
      yarns := put (·.byid) d.bel.prev d.bel.yarns
      last := put (·.byid) d.bel.prevLast d.bel.last
      closed := d.bel.closed.filter fun o => !belayOn c h o.byid }
    can := { d.can with loops := put (·.byid) d.can.prevLoops d.can.loops, insts := insts } }
  if !relays c.modes.belayMode then d
  else d.closeServed c (d.closeView d c) [] (belayOn c h)

/-! ## FEEDBACK_DECAY (R253) -/

/-- 20 ticks of freeze-hold start Decay: its first step lowers the gain of this Close, and the source of the
owner is raised. -/
def execFeedbackDecay (byid : Nat) (s : State) : Host.Outcome State Fault Refusal :=
  match s.dev.bel.yarns.find? fun y => y.byid == byid with
  | none => .next s
  | some y =>
    if y.fb.st ≠ .hold ∨ !y.fb.decayDue then .next s
    else .next (s.onDev fun c d =>
      let g := d.decayStep y (gLo y.nextKpath)
      let (code, clamped) := quantise g y.nextKpath
      let q := min y.nextCode code
      let p := min y.p (q * dB16 + y.nextKpath)
      let fb : Feedback := { y.fb with st := .decay, decayDue := false }
      let y' : BelYarn := { y with
        fb := fb
        nextCode := if y.nextGain then q else y.nextCode
        p := if y.nextGain then p else y.p
        v := if y.nextGain && decide (p < y.p) then 0 else y.v
        a := if y.nextGain && decide (p < y.p) then 0 else y.a
        fall := if y.nextGain && decide (code ≤ y.nextCode) then some g else none
        limit := if y.limit = 7 ∨ (y.nextGain ∧ code < y.nextCode) then 8 else y.limit }
      let d : Dev := { d with bel := { d.bel with
        yarns := d.bel.yarns.map fun z => if z.byid == byid then y' else z } }
      let h := byidOwner c.hawsers (carrier byid)
      let d := d.onHwsB h fun w => { w with
        decayCnt := satAdd 8 w.decayCnt 1
        satOut := w.satOut || (y.nextGain && clamped) }
      if byidSlot byid = 1 then d else d.raise c 16 2 h c.time.sub)

/-! ## Commands (R257 to R259) -/

/-- A checked field of GAIN.SET lies out of range (R257). -/
def gainBad (m : Member) (a : GainArgs) : Bool :=
  let sel (i : Nat) : Bool := maskBit a.mask i
  decide (7 < a.bg) || decide (1 < a.dir) ||
    (a.dir == 1 && decide (Config.serviceBeams m ≤ a.beam) && a.beam != 0xFE && a.beam != 0xFF) ||
    (sel 0 && outside a.target 480 1840) || (sel 1 && decide (960 < a.pmax)) ||
    (sel 2 && (decide (4000 < a.vlim) || outside a.alim 1 1000 || outside a.jlim 1 1000)) ||
    (sel 4 && (decide (3 < a.lnaSt) || decide (3 < a.pagSt)))

/-- GAIN.SET (R257). Reserved bits of MASK are ignored (R11). -/
def cmdGainSet (h : CmdHdr) (a : GainArgs) (s : State) : State :=
  s.onDev fun c d =>
    if a.mask % 32 = 0 then
      guarded 0x0401 h [(!modeAccepts c.mode 0x0401, stDenied)] (fun d => d.ok 0x0401 h) d
    else
      guarded 0x0401 h [(gainBad c.ident.member a, stBadArg), (!modeAccepts c.mode 0x0401, stDenied)]
        (fun d => d.planned c 0x0401 h (.gain a)) d

def execGainSet (h : CmdHdr) (a : GainArgs) (s : State) : Host.Outcome State Fault Refusal :=
  .next (cmdGainSet h a s.fetched)

/-- BEL.BANK (R258). -/
def cmdBelBank (h : CmdHdr) (xfade : Nat) (kp ki : List Nat) (s : State) : State :=
  s.onDev fun c d =>
    let bad := outside xfade 1 64 ||
      (List.range 8).any fun i => kp.getD i 0 % 65536 == 0 && ki.getD i 0 % 65536 == 0
    guarded 0x0402 h [(bad, stBadArg), (!modeAccepts c.mode 0x0402, stDenied)]
      (fun d => d.planned c 0x0402 h (.bank xfade kp ki)) d

def execBelBank (h : CmdHdr) (xfade : Nat) (kp ki : List Nat) (s : State) : Host.Outcome State Fault Refusal :=
  .next (cmdBelBank h xfade kp ki s.fetched)

/-- What a BEL.BANK changes at its Plan window. -/
def Dev.applyBank (d : Dev) (xfade : Nat) (kp ki : List Nat) : Dev :=
  { d with bel := { d.bel with
      xfade := xfade
      kp := (List.range 8).map fun i => kp.getD i 0
      ki := (List.range 8).map fun i => ki.getD i 0 } }

/-- The records of a range of identifiers, in rising order. -/
def Dev.belRecords (d : Dev) (m : Mode) (first count : Nat) : List Bytes :=
  let d := d.initFlagged m
  let rs := (d.bel.yarns.map fun y => (y.byid, y.rec_)) ++ d.bel.others
  (sortBy (fun y z => decide (y.1 ≤ z.1)) (rs.filter fun e => decide (first ≤ e.1) && decide (e.1 < first + count))).map
    (·.2)

/-- BEL.READ (R259). Bit 15 of the first identifier is reserved (R11). -/
def cmdBelRead (h : CmdHdr) (first count : Nat) (o : OutBuf) (s : State) : State :=
  s.onDev fun c d =>
    let rs := d.belRecords c.mode (first % 32768) count
    guarded 0x0403 h
      (outChecks o ++ [(outside count 1 256, stBadArg), (!modeAccepts c.mode 0x0403, stDenied),
        (decide (o.len < 32 * rs.length), stNoRoom)])
      (fun d => d.startOutput 0x0403 h o.addr rs.flatten (leBytes 2 rs.length)) d

def execBelRead (h : CmdHdr) (first count : Nat) (o : OutBuf) (s : State) : Host.Outcome State Fault Refusal :=
  .next (cmdBelRead h first count o s.fetched)

end Sys2Proof.Machine
end

