-- ==== Sys2Proof/Machine/Spectral.lean ====
section
/-! DEFINITION. Bursts and their signatures on samples (R300 to R302): the position's power, onset and end, the projection
onto the basis, its covariance and that covariance's leading eigenvectors. -/

namespace Sys2Proof.Machine

/-! ## Leading eigenvectors of a Hermitian matrix

The manual names eigenvectors and no method. DESIGN CHOICE (assumption 89): repeated squaring of the matrix, which leaves
the projector on the leading eigenvector, with 40 fraction bits. -/

/-- A rational rounded to 40 fraction bits. -/
def fix40 (r : Rat) : Rat := (nearest (r * (2 ^ 40 : Nat)) : Rat) / (2 ^ 40 : Nat)
def Cx.fix (a : Cx) : Cx := { re := fix40 a.re, im := fix40 a.im }

/-- The product of a matrix and a vector, and of a Hermitian matrix with itself. -/
def applyRows (m : List (List Cx)) (x : List Cx) : List Cx := m.map fun r => Cx.dot r x
def squareRows (m : List (List Cx)) : List (List Cx) := m.map fun r => m.map fun q => Cx.dot r (q.map Cx.conj)

/-- The trace of a Hermitian matrix. -/
def traceRows (m : List (List Cx)) : Rat := ((List.range m.length).map fun i => ((m.getD i []).getD i Cx.zero).re).sum

/-- A matrix with trace 1. -/
def unitTrace (m : List (List Cx)) : List (List Cx) :=
  let t := traceRows m
  if t ≤ 0 then m else m.map fun r => r.map fun z => (z.scale (1 / t)).fix

/-- The matrix to the power 2^n, at trace 1. -/
def powerRows : Nat → List (List Cx) → List (List Cx)
  | 0, m => unitTrace m
  | n + 1, m => powerRows n (unitTrace (squareRows (unitTrace m)))

/-- The leading eigenvector, the column of largest diagonal of the projector on it, with its eigenvalue. -/
def leading (m : List (List Cx)) : Rat × List Cx :=
  let p := powerRows 12 m
  let diag (i : Nat) : Rat := ((p.getD i []).getD i Cx.zero).re
  let i := (List.range p.length).foldl (fun best i => if diag best < diag i then i else best) 0
  let e := (p.getD i []).map Cx.conj
  let n := energy e
  (if n ≤ 0 then 0 else (Cx.dot (e.map Cx.conj) (applyRows m e)).re / n, e)

/-- A matrix less the part of one eigenvector. -/
def deflate (m : List (List Cx)) (x : Rat × List Cx) : List (List Cx) :=
  let n := energy x.2
  if n ≤ 0 then m
  else List.zipWith
    (fun row a => List.zipWith (fun z b => Cx.sub z ((Cx.mul a b.conj).scale (x.1 / n))) row x.2) m x.2

/-- The first n eigenvalues, falling, with their eigenvectors. -/
def eigens : Nat → List (List Cx) → List (Rat × List Cx)
  | 0, _ => []
  | n + 1, m => leading m :: eigens n (deflate m (leading m))

/-! ## The power of a position (R300) -/

/-- The RX yarns of the service strands that count toward n, at a position of a band group's uplink (R152). -/
def Dev.serviceYarns (d : Dev) (c : Ctx) (bg pos : Nat) : List (Nat × Nat) :=
  let y := d.yarnIndexOf (mkByid 1 bg 0 pos)
  ((List.range 128).filter fun g => d.side g == 2 && d.strandCounts d.reef.plan c.mode g).map fun g => (g, 16 * g + y)

/-- The mean of |x_g|^2 over a list of yarns and the samples from a to b; none where samples are missing, or one lies
outside the uplink symbols. -/
def Dev.meanPower (d : Dev) (c : Ctx) (s : Seg) (ids : List Nat) (a b : Nat) : Option Rat :=
  let ks := indices a b
  let tapes := ids.map fun id => tapeOf d.tapes (.yarn id)
  if ids.isEmpty || ks.isEmpty || (ks.any fun k => !s.symbolAt c 1 true (sampleAt s.yrate k)) ||
      (tapes.any fun t => ks.any fun k => (t.at k).isNone) then none
  else some ((tapes.map fun t => (ks.map fun k => (t.value (k : Int)).sq).sum).sum / (ids.length * ks.length : Nat))

/-- P of a position over the 1 us window that starts at a time (R300). -/
def Dev.burstPower (d : Dev) (c : Ctx) (s : Seg) (bg pos : Nat) (u : Int) : Option Rat :=
  d.meanPower c s ((d.serviceYarns c bg pos).map (·.2)) (firstSample s.yrate u) (firstSample s.yrate (u + usUnits))

/-- ONSET_THR in 1/16 dB (Table EPB-13). -/
def Setup.onsetThr (u : Setup) : Int := 16 * (max 3 (u.epbCfg3.field 0 5) : Nat)

/-- N_s of a position, in 1/16 dBFS, once Leadline has delivered one. -/
def Leadline.noiseAt (l : Leadline) (bg pos : Nat) : Option Int :=
  (l.noise.find? fun e => e.1 == bg && e.2.1 == pos).map (·.2.2)

/-- Whether P at a time reaches N_s plus a threshold in 1/16 dB; none where either is missing. -/
def Dev.reaches (d : Dev) (c : Ctx) (s : Seg) (bg pos : Nat) (thr : Int) (u : Int) : Option Bool :=
  (d.ldl.noiseAt bg pos).bind fun n => (d.burstPower c s bg pos u).map fun p =>
    decide (dbRat ((n + thr) * dB16) * fullScale ≤ p)

/-- Whether a burst opens at a time: it is the start of the first window that meets the condition (R300). -/
def Dev.onsetAt (d : Dev) (c : Ctx) (s : Seg) (bg pos : Nat) (u : Int) : Bool :=
  let thr := d.use.onsetThr
  d.reaches c s bg pos thr u == some true && d.reaches c s bg pos thr (u - sampleUnits s.yrate) != some true

/-- Whether a burst ends at a time: P stays below the threshold less 3 dB for 4 us from there, or the uplink symbols end
there (R300). -/
def Dev.burstEndsAt (d : Dev) (c : Ctx) (s : Seg) (bg pos : Nat) (u : Int) : Bool :=
  let low (v : Int) : Bool := d.reaches c s bg pos (d.use.onsetThr - 48) v == some false
  let k := firstSample s.yrate u
  (low u && (indices k (firstSample s.yrate (u + 4 * usUnits))).all fun k => low (sampleAt s.yrate k)) ||
    (!s.symbolAt c 1 true (sampleAt s.yrate k) && s.symbolAt c 1 true (sampleAt s.yrate (k - 1)))

/-! ## The signature (R302) -/

/-- z of one sample: its projection onto the basis, over the strands that count. -/
def projection (ts : List Tape) (ids : List (Nat × Nat)) (basis : List Vec) (k : Nat) : List Cx :=
  let xs := ids.map fun e => (e.1, (tapeOf ts (.yarn e.2)).value (k : Int))
  basis.map fun b =>
    (Cx.sum (xs.map fun e => Cx.mul (Cx.ofWeight (Vec.at b e.1)).conj e.2)).scale (1 / (ids.length : Rat))

/-- The covariance of the projections. -/
def covariance (zs : List (List Cx)) : List (List Cx) :=
  zs.foldl (fun r z => addRows r (z.map fun a => z.map fun b => Cx.mul a b.conj)) []

/-- The noise eigenvalue: the mean of the 24 smallest eigenvalues of the covariance that noise of power N_s on each strand
leaves in the basis over a number of samples (R302). Fewer than nine strands leave none but zeros among them. -/
def Dev.noiseEigen (d : Dev) (bg pos : Nat) (ids : List (Nat × Nat)) (basis : List Vec) (samples : Nat) : Rat :=
  match d.ldl.noiseAt bg pos with
  | none => 0
  | some n =>
    if ids.length ≤ 8 then 0
    else
      let gram := covariance (ids.map fun e => basis.map fun b =>
        ((Cx.ofWeight (Vec.at b e.1)).conj).scale (1 / (ids.length : Rat)))
      let rest := (traceRows gram - ((eigens 8 gram).map (·.1)).sum) / 24
      rest * samples * (dbRat (n * dB16) * fullScale)

/-- A vector in whole components, 20 fraction bits of its largest. -/
def wholeVec (e : List Cx) : List (Int × Int) :=
  let top := (e.map fun z => max (max z.re (-z.re)) (max z.im (-z.im))).foldl max 0
  e.map fun z => if top ≤ 0 then (0, 0) else (nearest (z.re / top * (2 ^ 20 : Nat)), nearest (z.im / top * (2 ^ 20 : Nat)))

/-- A ratio of eigenvalues in 1/16 dB; without one it has no value. DESIGN CHOICE (assumption 124): R302 and R303 compare
ratios and name no rounding; here they are rounded to the nearest 1/16 dB first. -/
def ratio16 (free : Nat) (a b : Rat) : Int :=
  if b ≤ 0 then Config.freeLevel free
  else match ratDb (a / b) with
    | some x => round16 x
    | none => Config.freeLevel free

end Sys2Proof.Machine
end

