-- ==== Sys2Proof/Machine/Book.lean ====
section
/-! DEFINITION. The Endpoint Book and uplink steering (spec/09_endpoint_book.md): bursts, signatures,
matching, learning, ageing, backup and restore, and the neighbour table. -/

namespace Sys2Proof.Machine

/-! ## Settings as they act (Table EPB-13) -/

def Setup.enrolN (u : Setup) : Nat := max 1 (u.epbCfg.field 0 4)
def Setup.enrolWin (u : Setup) : Nat := max 1 (u.epbCfg.field 4 8) * 7200000
def Setup.enrolGap (u : Setup) : Nat := u.epbCfg.field 12 4
def Setup.ageDays (u : Setup) : Nat := min 3650 (u.epbCfg.field 16 12)
def Setup.matchThr (u : Setup) : Nat := max 128 (u.epbCfg2.field 0 8)
def Setup.learnThr (u : Setup) : Nat := max u.matchThr (u.epbCfg2.field 8 8)
def Setup.ambig (u : Setup) : Nat := u.epbCfg2.field 16 8
def Setup.collThr (u : Setup) : Nat := max 1 (u.epbCfg2.field 24 4)
def Setup.driftSh (u : Setup) : Nat := max 1 (u.epbCfg2.field 28 4)
def Setup.sigSnrMin (u : Setup) : Nat := u.epbCfg3.field 5 5
def Setup.reportSight (u : Setup) : Bool := u.epbCfg3.bit 10
def Setup.offsetDef (u : Setup) : Int := clampInt (toSigned 16 (u.epbCfg3.field 16 16)) (-320) 320

/-- Book IDs, and the entries of one bucket (R305, R320). -/
def bookIds : Nat := 262144
def bucketSize : Nat := 64

/-- The modes in which the book detects, matches and learns (Table EPB-1). -/
def bookRuns : Mode → Bool
  | .survey | .relayOpen | .relaySteered | .relayNetwork => true
  | _ => false

/-- The modes that read or load the book: every mode but RESET, BOOT, COIL and LATCHED (R325, R332). -/
def bookReads : Mode → Bool
  | .reset | .boot | .coil | .latched => false
  | _ => true

/-- Whether endpoint learning is shed (step 2 of Table REF-5, R318). -/
def RPlan.bookShed (r : RPlan) : Bool := r.shed.any fun s => s.step == 2

/-! ## Signatures (R304, R305) -/

/-- A complex number of integers. -/
abbrev Cpx := Int × Int

def cMul (a b : Cpx) : Cpx := (a.1 * b.1 - a.2 * b.2, a.1 * b.2 + a.2 * b.1)
def cConj (a : Cpx) : Cpx := (a.1, -a.2)
def cAdd (a b : Cpx) : Cpx := (a.1 + b.1, a.2 + b.2)
def cSq (a : Cpx) : Nat := (a.1 * a.1 + a.2 * a.2).toNat

/-- The inner product: the sum of conj(a_j) x b_j. -/
def inner (a b : List Cpx) : Cpx := (a.zip b).foldl (fun s e => cAdd s (cMul (cConj e.1) e.2)) (0, 0)

/-- The squared norm. -/
def norm2 (a : List Cpx) : Nat := (a.map cSq).sum

/-- The octant of a coefficient's angle; the boundary falls in the higher one. The angle of 0 is open. -/
def octant (z : Cpx) : Nat :=
  let x := z.1
  let y := z.2
  if x = 0 ∧ y = 0 then Config.freeOctant % 8
  else if 0 < x ∧ 0 ≤ y then (if y < x then 0 else 1)
  else if x ≤ 0 ∧ 0 < y then (if -x < y then 2 else 3)
  else if x < 0 ∧ y ≤ 0 then (if -y < -x then 4 else 5)
  else if x < -y then 6 else 7

/-- The bucket key of a signature (R304). -/
def keyOf (s : List Cpx) : Nat :=
  octant (s.getD 1 (0, 0)) + 8 * octant (s.getD 2 (0, 0)) + 64 * octant (s.getD 3 (0, 0)) +
    512 * octant (s.getD 4 (0, 0))

/-- The largest magnitude of any I or Q. -/
def peakOf (s : List Cpx) : Nat := s.foldl (fun m z => max m (max z.1.natAbs z.2.natAbs)) 0

/-- The coefficient of largest magnitude, the first of equal ones. -/
def largestOf (s : List Cpx) : Cpx := s.foldl (fun m z => if cSq m < cSq z then z else m) (0, 0)

/-- The nearest integer to a / b, half-way away from zero. -/
def roundDiv (a : Int) (b : Nat) : Int :=
  if 0 ≤ a then floorDiv (2 * a + b) (2 * b) else -(floorDiv (-2 * a + b) (2 * b))

/-- A vector quantised as a signature (R304): s_0 real and non-negative, the largest I or Q at 127. The
rounding is DESIGN CHOICE (assumption 30). -/
def quantiseSig (a : List Cpx) : List Cpx :=
  let pivot := if a.headD (0, 0) = (0, 0) then largestOf a else a.headD (0, 0)
  let z := a.map fun x => cMul x (cConj pivot)
  let m := peakOf z
  if m = 0 then a else z.map fun x => (roundDiv (127 * x.1) m, roundDiv (127 * x.2) m)

/-- floor(255 rho) of a single source (R305). -/
def scoreOf (c s : List Cpx) : Nat :=
  let d := norm2 c * norm2 s
  if d = 0 then 0 else isqrt (65025 * cSq (inner c s) / d)

/-- floor(255 rho) against the subspace spanned by two vectors (R303, R305). -/
def scoreSpan (c e1 e2 : List Cpx) : Nat :=
  let n1 := norm2 e1
  let a := inner e1 e2
  let f := (e1.zip e2).map fun e =>
    let p := cMul e.1 a
    ((n1 : Int) * e.2.1 - p.1, (n1 : Int) * e.2.2 - p.2)
  let n2 := norm2 f
  let nc := norm2 c
  if nc = 0 ∨ n1 = 0 then 0
  else if n2 = 0 then scoreOf c e1
  else min 255 (isqrt (65025 * (cSq (inner e1 c) * n2 + cSq (inner f c) * n1) / (n1 * n2 * nc)))

/-! ## Records and reports (R309, R322, R329) -/

/-- Find a record. -/
def Book.rec? (b : Book) (eid : Nat) : Option Rec := b.recs.find? fun r => r.eid == eid

/-- Replace a record; every change sets DIRTY and, while the record is cached, asks for a write-back (R320,
R325). -/
def Dev.putRec (d : Dev) (r : Rec) : Dev :=
  let r : Rec := { r with flags := setBit r.flags 3 1 }
  { d with book := { d.book with
      recs := d.book.recs.map fun x => if x.eid == r.eid then r else x
      cache := d.book.cache.map fun e => if e.1 = r.eid then (e.1, true) else e } }

/-- Free the records that a condition selects. -/
def Dev.freeRecs (d : Dev) (sel : Rec → Bool) : Dev :=
  let recs := d.book.recs.filter fun r => !sel r
  { d with book := { d.book with
      recs := recs
      cache := d.book.cache.filter fun e => recs.any fun r => r.eid == e.1 } }

/-- Elapsed ticks from a record time to now (R322). -/
def Dev.elapsedFrom (d : Dev) (c : Ctx) (bhf tih : Nat) : Nat :=
  (((d.book.bhf : Int) - bhf) * 20480 + ((c.tih : Int) - tih)).toNat

/-- The records of a hawser's directory bucket (R305). -/
def Book.bucket (b : Book) (hawsers bg key : Nat) : List Rec :=
  b.recs.filter fun r => r.bg % hawsers == bg % hawsers && r.key == key

/-- The lowest free endpoint ID. -/
def Book.freeEid (b : Book) : Option Nat :=
  let used := sortBy (fun x y => decide (x ≤ y)) (b.recs.map (·.eid))
  let e := used.foldl (fun k x => if x = k then k + 1 else k) 0
  if e < bookIds then some e else none

/-- An endpoint ring record (Table EPB-9). -/
def reportBytes (kind flags loc eid bhf tih key widx rho aux sightings : Nat) : Bytes :=
  leBytes 1 kind ++ leBytes 1 flags ++ leBytes 2 loc ++ leBytes 4 eid ++ leBytes 4 bhf ++ leBytes 2 tih ++
    leBytes 2 key ++ leBytes 2 widx ++ leBytes 1 rho ++ zeros 1 ++ leBytes 4 aux ++ leBytes 4 sightings ++
    zeros 4

/-- Report a record (Table EPB-10). -/
def Dev.report (d : Dev) (c : Ctx) (kind : Nat) (r : Rec) (steered : Bool) (rho aux : Nat) : Dev :=
  d.record c 3
    (reportBytes kind (2 * (r.flags % 2) + 4 * bitNat steered) (r.pos + 16 * r.bg) r.eid d.book.bhf c.tih r.key
      r.widx rho aux r.sightings) (succ32 c.n)

/-- Report a change that concerns no endpoint. -/
def Dev.reportNone (d : Dev) (c : Ctx) (kind aux : Nat) : Dev :=
  d.record c 3 (reportBytes kind 1 0 0 d.book.bhf c.tih 0 0 0 aux 0) (succ32 c.n)

/-! ## WIDX derivation (R315) -/

/-- The basis of a band group. -/
def Book.basis (b : Book) (bg : Nat) : Option (Nat × List Vec) :=
  (b.bases.find? fun x => x.1 == bg).map fun x => x.2

/-- A signature in the strand domain, on the service strands of the committed plan. -/
def Dev.expand (d : Dev) (basis : List Vec) (s : List Cpx) : List Cpx :=
  (List.range 128).map fun g =>
    if d.side g ≠ 2 then (0, 0)
    else (s.zip basis).foldl (fun a e =>
      let w := Vec.at e.2 g
      cAdd a (cMul e.1 (weightI w, weightQ w))) (0, 0)

/-- An entry's fit to an expanded signature, as numerator and denominator; weights of 0 fit nothing. -/
def entryFit (w : Vec) (v : List Cpx) : Nat × Nat :=
  (cSq (w.foldl (fun a e => cAdd a (cMul (cConj (weightI e.2, weightQ e.2)) (v.getD e.1 (0, 0)))) (0, 0)),
    max 1 (w.map fun e => weightSq e.2).sum)

/-- The best VALID entry of a group for a signature, on the service strands of the committed plan (R151); 0xFFFF where
there is none. -/
def Dev.deriveWidx (d : Dev) (bg : Nat) (s : List Cpx) : Nat :=
  match d.book.basis bg with
  | none => 0xFFFF
  | some (_, basis) =>
    let v := d.expand basis s
    let es := sortBy (fun x y => decide (x.e ≤ y.e))
      (d.beams.code.filter fun x => x.bg == bg && x.iso.any (·.valid))
    let best := es.foldl (fun best x =>
      let f := entryFit (x.rx.filter fun w => d.side w.1 == 2) v
      match best with
      | none => some (x.e, f)
      | some (_, g) => if g.1 * f.2 < f.1 * g.2 then some (x.e, f) else best) (none : Option (Nat × Nat × Nat))
    (best.map (·.1)).getD 0xFFFF

/-- Whether WIDX names a VALID entry. -/
def Dev.widxValid (d : Dev) (r : Rec) : Bool := r.widx != 0xFFFF && (d.beams.entryIso r.bg r.widx).isSome

/-- WIDX derived for a record, unless the host set it or learning is shed. -/
def Dev.derive (d : Dev) (r : Rec) : Rec :=
  if maskBit r.flags 2 ∨ d.reef.plan.bookShed then r else { r with widx := d.deriveWidx r.bg r.sig }

/-! ## Bursts (R300, R301) -/

/-- Whether uplink bursts can occur on a position now: mode, segment, an uplink symbol, no gating (R297,
R368). -/
def Dev.burstsOn (d : Dev) (c : Ctx) (bg pos : Nat) : Bool :=
  bookRuns c.mode && match d.seg bg 1 with
    | none => false
    | some s => decide (pos < s.ycount) && s.loopTick c 1 &&
        !d.gated c.mode s c.time.sfn c.time.tif

/-- The matcher of a band group (R305). -/
def Ctx.matcher (c : Ctx) (bg : Nat) : Nat := bg % c.hawsers

/-- The open burst of a position (R301). -/
def Book.burst (b : Book) (bg pos : Nat) : Option Burst :=
  b.bursts.find? fun x => x.bg == bg && x.pos == pos && x.isOpen

/-- The burst of a position whose match runs: the oldest that has no outcome, open or closed (R307, R308). -/
def Book.inMatch (b : Book) (bg pos : Nat) : Option Burst :=
  b.bursts.find? fun x => x.bg == bg && x.pos == pos && !x.done

/-- Whether two are one burst: one position and one onset. -/
def Burst.same (x y : Burst) : Bool := x.bg == y.bg && x.pos == y.pos && x.onTick == y.onTick && x.on10 == y.on10

/-- Replace a burst. -/
def Book.putBurst (b : Book) (x : Burst) : Book := { b with bursts := b.bursts.map fun y => if y.same x then x else y }

/-- Drop a burst. -/
def Book.dropBurst (b : Book) (x : Burst) : Book := { b with bursts := b.bursts.filter fun y => !y.same x }

/-- An offset in 10 ns of this tick, or of the one before, as an instant. -/
def Ctx.agoAt (c : Ctx) (back sub : Nat) : Int := c.time.at10 sub - 500 * usUnits * back

/-- Whether a burst opens at an offset in 10 ns, and whether one ends there (R300). -/
def Dev.onsetSub (d : Dev) (c : Ctx) (bg pos back sub : Nat) : Bool :=
  (d.seg bg 1).any fun s => d.onsetAt c s bg pos (c.agoAt back sub)
def Dev.burstEndSub (d : Dev) (c : Ctx) (bg pos back sub : Nat) : Bool :=
  (d.seg bg 1).any fun s => d.burstEndsAt c s bg pos (c.agoAt back sub)

/-- Whether bursts could occur on a position in the tick before (R297, R368). -/
def Dev.burstsWere (d : Dev) (c : Ctx) (bg pos : Nat) : Bool :=
  let old := tickBefore (c.time.sfn, c.time.tif)
  bookRuns c.mode && (d.seg bg 1).any fun s => decide (pos < s.ycount) && !d.gated c.mode s old.1 old.2

/-- The tick of an onset: this one, 0, or, for an onset whose window of 1 us goes past the last T0, the one before, 1. -/
def Dev.onsetTick (d : Dev) (c : Ctx) (bg pos sub : Nat) : Option Nat :=
  if d.burstsOn c bg pos && d.onsetSub c bg pos 0 sub then some 0
  else if decide (49900 < sub) && d.burstsWere c bg pos && d.onsetSub c bg pos 1 sub then some 1
  else none

/-- The tick of a burst's end in the same way: its 4 us may go past the last T0. -/
def Dev.endTickOf (d : Dev) (c : Ctx) (bg pos sub : Nat) : Option Nat :=
  if d.burstEndSub c bg pos 0 sub then some 0
  else if decide (49600 < sub) && d.burstEndSub c bg pos 1 sub then some 1
  else none

/-- The number of this tick or of the one before. -/
def Ctx.tickAgo (c : Ctx) (back : Nat) : Nat := (c.n + two32 - back) % two32

/-- A burst that opens at an offset of a tick. -/
def Ctx.newBurst (c : Ctx) (bhf bg pos back sub : Nat) : Burst :=
  { bg := bg, pos := pos, onTick := c.tickAgo back, on10 := sub,
    onBhf := if c.tih < back then (bhf + two32 - 1) % two32 else bhf,
    onTih := (c.tih + 20480 - back) % 20480, isOpen := true, done := false, sig := none }

/-- A burst opens (R300). A position carries at most one open burst (R301); the match of one that has closed goes on. -/
def State.openBurst (s : State) (bg pos sub : Nat) : State :=
  if (s.dev.book.burst bg pos).isSome ∨ s.ctx.matcher bg ∈ s.dev.boot.blkRun ∨ s.dev.matcherOut (s.ctx.matcher bg) then s
  else match s.dev.onsetTick s.ctx bg pos sub with
    | none => s
    | some back => s.onDev fun c d =>
      { d with book := { d.book with bursts := d.book.bursts ++ [c.newBurst d.book.bhf bg pos back sub] } }

def execBurstOnset (bg pos : Nat) (at_ : SampledAt) (s : State) : Host.Outcome State Fault Refusal :=
  .next ((s.feed at_.samples).openBurst bg pos at_.sub)

/-- The slots of a position's burst: a pending switch is cancelled, the others wait for their release (R170). -/
def Dev.closeSlots (d : Dev) (c : Ctx) (bg pos sub : Nat) : Dev :=
  let mine := d.beams.slots.filter fun s => s.bg == bg && s.pos == pos
  mine.foldl
    (fun d s =>
      if s.on then { d with beams := d.beams.onSlot s.bg s.idx fun x => { x with closed := true, shut := sub } }
      else d.releaseSlot c s)
    d

/-- A burst closes. One that lasted less than 16 us yields nothing (R301), nor does one of a band group without a basis
(R298). Its span stays for the gates of this tick and the next (R340). -/
def State.closeBurst (s : State) (bg pos sub : Nat) : State :=
  match s.dev.book.burst bg pos, s.dev.endTickOf s.ctx bg pos sub with
  | some x, some back => s.onDev fun c d =>
      let n := c.tickAgo back
      let short := decide (elapsed10 x.onTick x.on10 n sub < 1600)
      let book := if short || x.done || (d.book.basis bg).isNone then d.book.dropBurst x
        else d.book.putBurst { x with isOpen := false }
      let span : BurstSpan :=
        { bg := bg, pos := pos, onTick := x.onTick, on10 := x.on10, endTick := n, end10 := sub }
      let d := ({ d with book := { book with spans := book.spans ++ [span] } }).closeSlots c bg pos
        (if back = 0 then sub else 0)
      if short then d.onHwsB (c.matcher bg) fun w => { w with short := satAdd 8 w.short 1 } else d
  | _, _ => s

def execBurstClose (bg pos : Nat) (at_ : SampledAt) (s : State) : Host.Outcome State Fault Refusal :=
  .next ((s.feed at_.samples).closeBurst bg pos at_.sub)

/-- The burst power at the system input: the mean of |x_g|^2 over the signature window, each strand's referred to its
port through its front end (DESIGN CHOICE, assumption 90). -/
def Dev.inputPower (d : Dev) (c : Ctx) (s : Seg) (pos : Nat) (ids : List (Nat × Nat)) (a b : Nat) : Int :=
  let set := d.bel.set s.bg 1
  let parts := ids.map fun e => (d.feGain e.1 1 (s.centre2 pos) set.lna).bind fun f =>
    (d.meanPower c s [e.2] a b).map fun p => p * dbRat (-f)
  if parts.any (·.isNone) then Config.freeLevel d.free
  else match powerLevel ((parts.map fun p => p.getD 0).sum / (ids.length : Rat)) with
    | some x => round16 (x + 2 * dB)
    | none => Config.freeLevel d.free

/-- The signature of a burst (R302 to R304): none until its window of 16 us has passed the RX forms. -/
def Dev.signature (d : Dev) (c : Ctx) (x : Burst) : Option BurstSig :=
  (d.seg x.bg 1).bind fun s => (d.book.basis x.bg).bind fun basis =>
    let ids := d.serviceYarns c x.bg x.pos
    let u := c.time.at10 0 + 10 * nsUnits * -(elapsed10 x.onTick x.on10 c.n 0)
    let a := firstSample s.yrate u
    let b := firstSample s.yrate (u + 16 * usUnits)
    if ids.isEmpty || (ids.any fun e => (tapeOf d.tapes (.yarn e.2)).next < b) then none
    else
      let r := covariance ((indices a b).map (projection d.tapes ids basis.2))
      let top := eigens 8 r
      let value (i : Nat) : Rat := (top.getD i (0, [])).1
      let vec (i : Nat) : List Cpx := quantiseSig (wholeVec (top.getD i (0, [])).2)
      let noise := d.noiseEigen x.bg x.pos ids basis.2 (b - a)
      some
        { sig := vec 0, sig2 := vec 1, quality := ratio16 d.free (value 0) noise,
          lambda2 := ratio16 d.free (value 1) noise, spread := ratio16 d.free (value 0) (value 1)
          power := d.inputPower c s x.pos ids a b }

/-- The signature of a burst is ready (R302). A band group without a basis has none (R298). -/
def State.signBurst (s : State) (bg pos : Nat) : State :=
  match s.dev.book.bursts.find? fun x => x.bg == bg && x.pos == pos && !x.done && x.sig.isNone with
  | none => s
  | some x =>
    if !s.time.running then s
    else match s.dev.signature s.ctx x with
      | none => s
      | some f => s.onDev fun _ d => { d with book := d.book.putBurst { x with sig := some f }, free := d.free + 1 }

def execSignatureReady (w : BurstWindow) (s : State) : Host.Outcome State Fault Refusal :=
  .next ((s.feed w.samples).signBurst w.bg w.pos)

/-! ## Matching (R303, R305, R308 to R317) -/

/-- Whether a burst's second source makes it a collision (R303). -/
def sigCollides (f : BurstSig) (u : Setup) : Bool :=
  decide (16 * (u.sigSnrMin : Int) ≤ f.lambda2) && decide (f.spread ≤ 16 * (u.collThr : Int))

/-- A record with its score. -/
abbrev Hit := Rec × Nat

/-- Whether a record stands in its hawser's cache. -/
def Book.cached (b : Book) (eid : Nat) : Bool := b.cache.any fun k => k.1 = eid

/-- The candidates of a key, scored (R305). A record that must come from DRAM and whose read is uncorrectable, here one of
a list, is none (R452). -/
def Dev.candidates (d : Dev) (c : Ctx) (bg key : Nat) (lost : List Nat) (score : List Cpx → Nat) : List Hit :=
  ((d.book.bucket c.hawsers bg key).filter fun r =>
    r.bg == bg && (d.book.cached r.eid || !decide (r.eid ∈ lost))).map fun r => (r, score r.sig)

/-- The two best of a list of candidates, the lower endpoint ID first among equals. -/
def bestTwo (l : List Hit) : Option Hit × Option Hit :=
  l.foldl
    (fun b x => match b with
      | (none, _) => (some x, none)
      | (some y, z) =>
        if y.2 < x.2 then (some x, some y)
        else if z.any fun w => decide (x.2 ≤ w.2) then (some y, z) else (some y, some x))
    (none, none)

/-- What a lookup decides (R305): a match, ambiguity of two records, or nothing. -/
inductive Verdict where
  | hit (r : Rec) (code : Nat)
  | unclear (a b : Rec)
  | miss
  deriving DecidableEq, Repr, Inhabited

def verdict (u : Setup) (l : List Hit) : Verdict :=
  match bestTwo l with
  | (none, _) => .miss
  | (some a, b) =>
    if a.2 < u.matchThr then .miss
    else match b with
      | none => .hit a.1 a.2
      | some b => if b.2 + u.ambig < a.2 then .hit a.1 a.2 else .unclear a.1 b.1

/-- One component of a drift update, u to 16 fractional bits, rounded toward zero (R313). -/
def driftStep (acc x : Int) (num den sh : Nat) : Int :=
  let mag : Int := isqrt (x.natAbs * x.natAbs * num * 2 ^ 32 / den)
  let u := if x < 0 then -mag else mag
  satSigned 16 (acc + Int.tdiv (u - acc * 2 ^ 16) (2 ^ (16 + sh)))

/-- The running signature after a sighting (R313). -/
def driftAcc (acc s : List Cpx) (sh : Nat) : List Cpx :=
  let i := inner acc s
  let den := cSq i * norm2 s
  if den = 0 then acc
  else
    let num := norm2 acc
    (acc.zip s).map fun e =>
      let x := cMul e.2 (cConj i)
      (driftStep e.1.1 x.1 num den sh, driftStep e.1.2 x.2 num den sh)

/-- Whether a waiting change is the move of a record. -/
def BookPend.moves (p : BookPend) (eid : Nat) : Bool :=
  match p with
  | .move e _ => e == eid
  | _ => false

/-- A sighting of a record (R311 to R313): the record after it, all that waits for the Plan window then (a newer signature
takes the place of a waiting one), and whether its WIDX was derived again. -/
def Dev.sight (d : Dev) (c : Ctx) (x : Burst) (f : BurstSig) (coll : Bool) (r : Rec) (code : Nat) :
    Rec × List BookPend × Bool :=
  let u := d.use
  let learn := !d.reef.plan.bookShed
  let seg := ((d.plan.committed.bind fun p => p.segIndex r.bg 1).getD 0) % 64
  let r : Rec := { r with
    seg := seg
    pos := x.pos
    lastTih := x.onTih
    lastBhf := x.onBhf
    sightings := satAdd 32 r.sightings 1
    lastRho := code
    lowRho := if code < u.learnThr then min 3 (r.lowRho + 1) else 0
    lastPwr := f.power
    coll := if coll then satAdd 8 r.coll 1 else r.coll }
  let steady := r.state == 1 && decide (u.learnThr ≤ code) && !coll && decide (r.consBhf + u.enrolGap ≤ x.onBhf)
  let r : Rec := if steady then { r with consist := min 15 (r.consist + 1), consBhf := x.onBhf } else r
  let enrols := steady && decide (u.enrolN ≤ r.consist) &&
    decide (d.elapsedFrom c r.firstBhf r.firstTih ≤ u.enrolWin)
  let drifts := learn && !coll && decide (16 * (u.sigSnrMin : Int) ≤ f.quality)
  let acc := if drifts then driftAcc r.acc f.sig u.driftSh else r.acc
  let sig := if drifts then quantiseSig acc else r.sig
  let moves := drifts && decide (keyOf sig ≠ r.key)
  let r : Rec := { r with acc := acc, sig := if moves then r.sig else sig }
  let relearns := r.lowRho == 3 && learn && !maskBit r.flags 2
  let r : Rec := if relearns then { d.derive r with relearn := satAdd 16 r.relearn 1, lowRho := 0 } else r
  let r : Rec := if (r.state == 2 || r.widx != 0xFFFF) && !d.widxValid r then d.derive r else r
  let kept := d.book.pend.filter fun p => !(drifts && p.moves r.eid)
  (r, kept ++ (if enrols then [.enrol r.eid] else []) ++ (if moves then [.move r.eid sig] else []), relearns)

/-- Whether steering is allowed for a band group in this tick (R316, R319). -/
def Dev.steers (d : Dev) (c : Ctx) (bg : Nat) : Bool :=
  c.mode == .relaySteered ||
    (c.mode == .relayNetwork && (d.beams.network bg).isNone && !d.netOff c.n)

/-- The free steering slots of a band group, lowest first. -/
def Dev.freeSlots (d : Dev) (bg : Nat) : List Nat :=
  let g := d.beams.group bg
  ((List.range g.sbeams).drop g.fixed).filter fun b =>
    (d.beams.slot bg b).isNone && !d.reef.plan.beamShed bg b

/-- Of two claims of one cycle, the one of earlier onset goes first, and of equal onsets the lower endpoint ID
(R167). -/
def Slot.claimsBefore (a b : Slot) : Bool :=
  let t := elapsed10 a.onTick a.on10 b.onTick b.on10
  decide (0 < t) || (t == 0 && decide (a.eid ≤ b.eid))

/-- Give slot numbers in rising order to claims in their order; claims beyond the numbers get none. -/
def numberSlots (idx : List Nat) (claims : List Slot) : List Slot :=
  (idx.zip claims).map fun e => { e.2 with idx := e.1 }

/-- A matched endpoint claims the lowest free slot of its band group, among the claims of its cycle in the order of R167.
The second part says that it is steered. -/
def Dev.claim (d : Dev) (c : Ctx) (x : Burst) (r : Rec) (sub : Nat) : Dev × Bool :=
  let ok := r.state == 2 && !maskBit r.flags 1 && d.widxValid r && d.steers c r.bg && x.isOpen
  if !ok then (d, false)
  else if d.beams.slots.any fun s => s.eid == r.eid then (d, true)
  else
    let at_ := laterUs c.n sub 4
    let s : Slot :=
      { bg := r.bg, idx := 0, eid := r.eid, pos := x.pos, entry := r.widx, offset := r.offset, on := false,
        closed := false, shut := 0, t0 := at_.1, at10 := at_.2, gains := [], vec := [], onTick := x.onTick,
        on10 := x.on10 }
    let rivals := d.beams.slots.filter fun y => y.bg == r.bg && !y.on && y.t0 == at_.1 && y.at10 == at_.2
    let numbers := sortBy (fun (a b : Nat) => decide (a ≤ b)) (rivals.map (·.idx) ++ (d.freeSlots r.bg).take 1)
    let given := numberSlots numbers (sortBy Slot.claimsBefore (rivals ++ [s]))
    let slots := (d.beams.slots.filter fun y => !decide (y ∈ rivals)) ++ given
    let d : Dev := { d with beams := { d.beams with slots := slots } }
    let d := if given.length ≤ rivals.length then
        d.onHwsA (c.matcher r.bg) fun w => { w with noSlot := satAdd 8 w.noSlot 1 }
      else d
    (d, given.any fun y => y.eid == r.eid)

/-- A record is used: it stands in the cache of its hawser, which replaces the record of oldest last sighting
(R320). -/
def Dev.cacheRec (d : Dev) (c : Ctx) (r : Rec) (changed : Bool) : Dev :=
  let h := c.matcher r.bg
  let was := (d.book.cache.find? fun e => e.1 = r.eid).any (·.2)
  let rest := d.book.cache.filter fun e => e.1 ≠ r.eid
  let mine := rest.filterMap fun e => (d.book.rec? e.1).bind fun q => if c.matcher q.bg = h then some q else none
  let oldest := mine.foldl (fun (o : Option Rec) q => match o with
    | none => some q
    | some p => if q.lastBhf * 20480 + q.lastTih < p.lastBhf * 20480 + p.lastTih then some q else some p) none
  let rest := if Config.hotRecords ≤ mine.length then
      match oldest with
      | some o => rest.filter fun e => e.1 ≠ o.eid
      | none => rest
    else rest
  { d with book := { d.book with cache := rest ++ [(r.eid, was || changed)] } }

/-- Apply a matched record: sighting, slot, reports (Table EPB-3). -/
def Dev.applyHit (d : Dev) (c : Ctx) (x : Burst) (f : BurstSig) (sub : Nat) (coll : Bool)
    (r : Rec) (code : Nat) : Dev :=
  let (r', pend, relearned) := d.sight c x f coll r code
  let d := (d.cacheRec c r' true).putRec r'
  let d : Dev := { d with book := { d.book with
    pend := pend
    aged := d.book.aged.filter (· ≠ r.eid) } }
  let (d, steered) := d.claim c x r' sub
  let d := if d.use.reportSight then d.report c 3 r' steered code (ofSigned 32 f.power) else d
  if relearned then d.report c 5 r' steered code r'.relearn else d

/-- A creation refused for want of room (R317). -/
def Dev.refuseRec (d : Dev) (c : Ctx) (bg : Nat) : Dev :=
  let d := d.onHwsB (c.matcher bg) fun w => { w with noRoom := satAdd 8 w.noRoom 1 }
  { d with book := { d.book with refused := d.book.refused + 1 } }

/-- An unmatched burst creates a provisional record (R310). -/
def Dev.createRec (d : Dev) (c : Ctx) (x : Burst) (f : BurstSig) : Dev :=
  if d.reef.plan.bookShed ∨ f.quality < 16 * (d.use.sigSnrMin : Int) then d
  else
    let key := keyOf f.sig
    match d.book.freeEid with
    | none => d.refuseRec c x.bg
    | some eid =>
      if bucketSize ≤ (d.book.bucket c.hawsers x.bg key).length then d.refuseRec c x.bg
      else
        let r : Rec :=
          { eid := eid, state := 1, flags := 8, key := key, bg := x.bg,
            seg := ((d.plan.committed.bind fun p => p.segIndex x.bg 1).getD 0) % 64, pos := x.pos, consist := 1,
            widx := 0xFFFF, offset := d.use.offsetDef, firstBhf := x.onBhf, firstTih := x.onTih,
            lastTih := x.onTih, lastBhf := x.onBhf, sightings := 1, consBhf := x.onBhf, lastRho := 0,
            lowRho := 0, lastPwr := f.power, relearn := 0, coll := 0, sig := f.sig,
            acc := f.sig.map fun z => (256 * z.1, 256 * z.2) }
        let d : Dev := { d with book := { d.book with
          recs := d.book.recs ++ [r]
          pend := if d.use.enrolN ≤ 1 then d.book.pend ++ [.enrol eid] else d.book.pend } }
        (d.cacheRec c r true).report c 1 r false 0 0

/-- Candidates that the cache does not hold are read from DRAM (R306, MISS). -/
def Dev.countMiss (d : Dev) (c : Ctx) (bg : Nat) (l : List Hit) : Dev :=
  let n := l.countP fun e => !d.book.cached e.1.eid
  d.onHwsB (c.matcher bg) fun w => { w with miss := satAdd 16 w.miss n }

/-- The outcome of a collision: up to two records, the lower endpoint ID first (R303). DESIGN CHOICE (assumption 125): the
spec does not say how the test of R305 finds two records; here each of the two keys has a best test of its own, and where
they are equal there is one test and at most one match. -/
def Dev.applyCollision (d : Dev) (c : Ctx) (x : Burst) (f : BurstSig) (sub : Nat) (lost : List Nat) : Dev :=
  let score (s : List Cpx) : Nat := scoreSpan s f.sig f.sig2
  let l1 := d.candidates c x.bg (keyOf f.sig) lost score
  let l2 := if keyOf f.sig2 = keyOf f.sig then [] else d.candidates c x.bg (keyOf f.sig2) lost score
  let hits := [verdict d.use l1, verdict d.use l2].filterMap fun v => match v with
    | .hit r code => some (r, code)
    | _ => none
  let hits := sortBy (fun a b => decide (a.1.eid ≤ b.1.eid)) hits
  let d := d.countMiss c x.bg (l1 ++ l2)
  let d := d.onHwsB (c.matcher x.bg) fun w => { w with collide := satAdd 8 w.collide 1 }
  hits.foldl (fun d e => d.applyHit c x f sub true e.1 e.2) d

/-- The outcome of a single source (R305, R308). -/
def Dev.applySingle (d : Dev) (c : Ctx) (x : Burst) (f : BurstSig) (sub : Nat) (lost : List Nat) : Dev :=
  let l := d.candidates c x.bg (keyOf f.sig) lost fun s => scoreOf s f.sig
  let h := c.matcher x.bg
  let d := d.countMiss c x.bg l
  match verdict d.use l with
  | .hit r code =>
    (d.onHwsB h fun w => { w with matched := satAdd 16 w.matched 1 }).applyHit c x f sub false r code
  | .unclear a b =>
    let d := d.onHwsB h fun w => { w with ambig := satAdd 8 w.ambig 1 }
    if !d.reef.plan.bookShed && decide (d.use.matchThr ≤ scoreOf a.sig b.sig) then
      { d with book := { d.book with pend := d.book.pend ++ [.merge a.eid b.eid] } }
    else d
  | .miss =>
    (d.onHwsB h fun w => { w with unmatch := satAdd 16 w.unmatch 1 }).createRec c x f

/-- A match has ended: an open burst stays open, a closed one is gone. -/
def Book.endMatch (b : Book) (x : Burst) : Book :=
  if x.isOpen then b.putBurst { x with done := true } else b.dropBurst x

/-- Scoring completes and the burst's outcome is applied (R308). -/
def execMatchComplete (bg pos : Nat) (sub : Nat) (lost : List Nat) (s : State) : Host.Outcome State Fault Refusal :=
  match s.dev.book.inMatch bg pos with
  | none => .next s
  | some x => match x.sig with
    | none => .next s
    | some f =>
      if 5000 < elapsed10 x.onTick x.on10 s.time.n sub ∨ !bookRuns s.modes.mode ∨ s.dev.matcherOut (s.ctx.matcher bg) then .next s
      else .next (s.onDev fun c d =>
        let d : Dev := { d with book := d.book.endMatch x }
        if sigCollides f d.use then d.applyCollision c x f sub lost else d.applySingle c x f sub lost)

/-- A match that has not completed 50 us after the onset is abandoned (R307). A band group without a basis has
none (R298). -/
def execMatchLate (bg pos : Nat) (s : State) : Host.Outcome State Fault Refusal :=
  match s.dev.book.inMatch bg pos with
  | none => .next s
  | some x =>
    if (s.dev.book.basis bg).isNone then .next s
    else .next (s.onDev fun c d =>
      ({ d with book := d.book.endMatch x }).onHwsB (c.matcher bg) fun w =>
        { w with late := satAdd 8 w.late 1 })

/-- A changed cached record is written back to DRAM (R320). -/
def execEndpointWriteback (eid : Nat) (s : State) : Host.Outcome State Fault Refusal :=
  .next (s.onDev fun _ d =>
    { d with book := { d.book with cache := d.book.cache.map fun e => if e.1 = eid then (e.1, false) else e } })

/-! ## The scan of a Close (R312) -/

/-- A provisional record whose window has passed without enrolment, or an aged enrolled one. -/
def Dev.scanFrees (d : Dev) (c : Ctx) (r : Rec) : Bool :=
  !maskBit r.flags 0 &&
    if r.state = 2 then
      decide (d.use.ageDays ≠ 0) &&
        decide (d.use.ageDays * 172800000 ≤ d.elapsedFrom c r.lastBhf r.lastTih)
    else decide (d.use.enrolWin < d.elapsedFrom c r.firstBhf r.firstTih)

/-- BOOK_SCAN: the next 64 records are examined; those due leave as the Close ends, unless they are sighted
in it. The band groups of a hawser whose HB2 is under test are passed over (R447). -/
def Dev.scanBook (d : Dev) (c : Ctx) : Dev :=
  let lo := d.book.scan
  let due := d.book.recs.filter fun r => decide (lo ≤ r.eid) && decide (r.eid < lo + 64) &&
    !d.matcherOut (c.matcher r.bg) && d.scanFrees c r
  { d with book := { d.book with scan := (lo + 64) % bookIds, aged := due.map (·.eid) } }

/-- The records that the scan found leave, each with its report. -/
def Dev.freeAged (d : Dev) (c : Ctx) : Dev :=
  let out := d.book.recs.filter fun r => decide (r.eid ∈ d.book.aged)
  let d := out.foldl (fun d r => d.report c (if r.state = 2 then 6 else 7) r false 0 0) d
  let d := d.freeRecs fun r => decide (r.eid ∈ out.map (·.eid))
  { d with book := { d.book with aged := [] } }

/-! ## What the Plan window applies (R311, R313, R314, R317, R326, R327) -/

/-- The keys that differ from a key in exactly one of the four octants, by one step. -/
def nearKeys (key : Nat) : List Nat :=
  (List.range 4).flatMap fun i =>
    let f := key / 8 ^ i % 8
    [(f + 1) % 8, (f + 7) % 8].map fun g => key - f * 8 ^ i + g * 8 ^ i

/-- A provisional record enrols; its merge check is learning work. -/
def Dev.enrol (d : Dev) (c : Ctx) (eid : Nat) : Dev :=
  match d.book.rec? eid with
  | none => d
  | some r =>
    if r.state ≠ 1 then d
    else
      let r := d.derive { r with state := 2 }
      let d := (d.putRec r).report c 2 r false r.lastRho 0
      if d.reef.plan.bookShed then d
      else
        let near := d.book.recs.filter fun q =>
          q.bg == r.bg && q.state == 2 && q.eid != eid && decide (q.key ∈ nearKeys r.key)
        let twins := near.filter fun q => decide (d.use.matchThr ≤ scoreOf q.sig r.sig)
        { d with book := { d.book with pend := d.book.pend ++ twins.map fun q => .merge eid q.eid } }

/-- A drifted signature moves its record to the new bucket, or keeps the old one where that is full. -/
def Dev.moveRec (d : Dev) (c : Ctx) (eid : Nat) (sig : List Cpx) : Dev :=
  match d.book.rec? eid with
  | none => d
  | some r =>
    let key := keyOf sig
    if key = r.key then d.putRec { r with sig := sig }
    else if bucketSize ≤ (d.book.bucket c.hawsers r.bg key).length then
      d.onHwsB (c.matcher r.bg) fun w => { w with noRoom := satAdd 8 w.noRoom 1 }
    else
      let r' : Rec := { r with sig := sig, key := key }
      (d.putRec r').report c 4 r' false r.lastRho r.key

/-- Whether a record was first sighted before another; the lower ID on equal times. -/
def Rec.before (a b : Rec) : Bool :=
  let t (r : Rec) : Nat := r.firstBhf * 20480 + r.firstTih
  decide (t a < t b) || (t a == t b && decide (a.eid < b.eid))

/-- Two records merge into the one sighted first (R314). -/
def Dev.mergeRecs (d : Dev) (c : Ctx) (x y : Nat) : Dev :=
  match d.book.rec? x, d.book.rec? y with
  | some a, some b =>
    if x = y ∨ a.bg ≠ b.bg then d
    else
      let (keep, gone) := if a.before b then (a, b) else (b, a)
      let last (r : Rec) : Nat := r.lastBhf * 20480 + r.lastTih
      let newer := if last keep < last gone then gone else keep
      let r : Rec := { keep with
        sig := newer.sig
        acc := newer.acc
        key := newer.key
        sightings := satAdd 32 keep.sightings gone.sightings }
      let d := (d.freeRecs fun q => q.eid == gone.eid).putRec r
      d.report c 4 r false 0 (keep.key + 16384 * gone.eid)
  | _, _ => d

/-- The matcher's changes: merges first, then moves, then enrolments (Table EPB-8). Merges found by an
enrolment wait for the next Plan window. -/
def Dev.settleBook (d : Dev) (c : Ctx) : Dev :=
  let ps := d.book.pend
  let d : Dev := { d with book := { d.book with pend := [] } }
  let d := ps.foldl (fun d p => match p with
    | .merge a b => d.mergeRecs c a b
    | _ => d) d
  let d := ps.foldl (fun d p => match p with
    | .move e s => d.moveRec c e s
    | _ => d) d
  ps.foldl (fun d p => match p with
    | .enrol e => d.enrol c e
    | _ => d) d

/-- The one FULL report of a tick with refusals (R317). -/
def Dev.reportFull (d : Dev) (c : Ctx) : Dev :=
  if d.book.refused = 0 then d
  else
    let d := d.reportNone c 9 d.book.refused
    { d with book := { d.book with refused := 0 } }

/-- Bursts end where the book no longer runs; a match in flight goes with them. -/
def Dev.settleBursts (d : Dev) (n : Nat) (m : Mode) : Dev :=
  let d : Dev := { d with book := { d.book with spans := d.book.spans.filter fun x => decide (sub32 n x.endTick ≤ 1) } }
  if bookRuns m then d else { d with book := { d.book with bursts := [] } }

/-- What a BOOK.SET changes (R327). -/
def Dev.applyBookSet (d : Dev) (a : BookSetArgs) : Dev :=
  match d.book.rec? a.eid with
  | none => d
  | some r =>
    let f := if maskBit a.mask 0 then r.flags / 4 * 4 + a.flags % 4 else r.flags
    let f := if maskBit a.mask 1 then setBit f 2 (if a.widx = 0xFFFF then 0 else 1) else f
    d.putRec { r with
      flags := f
      widx := if maskBit a.mask 1 then a.widx else r.widx
      offset := if maskBit a.mask 2 then a.offset else r.offset }

/-- What a BOOK.DEL frees (R326). -/
def Dev.applyBookDel (d : Dev) (c : Ctx) (first count mask : Nat) : Dev :=
  let sel (r : Rec) : Bool :=
    decide (first ≤ r.eid) && decide (r.eid < first + count) && maskBit mask (r.state - 1)
  let n := d.book.recs.countP sel
  (d.freeRecs sel).reportNone c 8 n

/-! ## Commands on records (R298, R326, R327) -/

/-- BOOK.BASIS (R298). -/
def cmdBookBasis (h : CmdHdr) (bg basisId : Nat) (b : InBuf) (s : State) : State :=
  s.onDev fun c d =>
    let vs := (List.range 32).map fun i => vecOf (b.data.take b.len) (512 * i)
    guarded 0x0501 h
      ((decide (7 < bg), stBadArg) :: inChecks b 16384 ++
        [((vs.any fun v => vecBad d.plan.loaded 2 v) || basisId == 0, stBadArg),
          (!modeAccepts c.mode 0x0501 || (d.book.recs.any fun r => r.bg == bg), stDenied),
          (d.book.load.isSome, stBusy)])
      (fun d => d.planned c 0x0501 h (.basis bg basisId vs)) d

def execBookBasis (h : CmdHdr) (bg basisId : Nat) (b : InBuf) (s : State) : Host.Outcome State Fault Refusal :=
  .next (cmdBookBasis h bg basisId b s.fetched)

/-- BOOK.SET (R327). -/
def cmdBookSet (h : CmdHdr) (a : BookSetArgs) (s : State) : State :=
  s.onDev fun c d =>
    if a.mask % 8 = 0 then guarded 0x0504 h [(!modeAccepts c.mode 0x0504, stDenied)] (fun d => d.ok 0x0504 h) d
    else
      let bad := (d.book.rec? a.eid).isNone ||
        (maskBit a.mask 1 && decide (4095 < a.widx) && a.widx != 0xFFFF) ||
        (maskBit a.mask 2 && (decide (a.offset < -320) || decide (320 < a.offset)))
      guarded 0x0504 h [(bad, stBadArg), (!modeAccepts c.mode 0x0504, stDenied)]
        (fun d => d.planned c 0x0504 h (.bookSet a)) d

def execBookSet (h : CmdHdr) (a : BookSetArgs) (s : State) : Host.Outcome State Fault Refusal :=
  .next (cmdBookSet h a s.fetched)

/-- BOOK.DEL (R326). -/
def cmdBookDel (h : CmdHdr) (first count mask : Nat) (s : State) : State :=
  s.onDev fun c d =>
    guarded 0x0505 h
      [(count == 0 || mask % 4 == 0 || decide (bookIds < first + count), stBadArg),
        (!modeAccepts c.mode 0x0505, stDenied)]
      (fun d => d.planned c 0x0505 h (.bookDel first count (mask % 4))) d

def execBookDel (h : CmdHdr) (first count mask : Nat) (s : State) : Host.Outcome State Fault Refusal :=
  .next (cmdBookDel h first count mask s.fetched)

/-! ## The book image (R323 to R325) -/

/-- The 256 bytes of a record (Table EPB-4). -/
def Rec.bytes (r : Rec) : Bytes :=
  leBytes 4 r.eid ++ leBytes 1 r.state ++ leBytes 1 r.flags ++ leBytes 2 r.key ++ leBytes 1 r.bg ++
    leBytes 1 r.seg ++ leBytes 1 r.pos ++ leBytes 1 r.consist ++ leBytes 2 r.widx ++
    leBytes 2 (ofSigned 16 r.offset) ++ leBytes 4 r.firstBhf ++ leBytes 2 r.firstTih ++ leBytes 2 r.lastTih ++
    leBytes 4 r.lastBhf ++ leBytes 4 r.sightings ++ leBytes 4 r.consBhf ++ leBytes 1 r.lastRho ++
    leBytes 1 r.lowRho ++ leBytes 2 (ofSigned 16 r.lastPwr) ++ leBytes 2 r.relearn ++ leBytes 1 r.coll ++
    zeros 21 ++
    (List.range 32).flatMap (fun j =>
      let z := r.sig.getD j (0, 0)
      leBytes 1 (ofSigned 8 z.1) ++ leBytes 1 (ofSigned 8 z.2)) ++
    (List.range 32).flatMap (fun j =>
      let z := r.acc.getD j (0, 0)
      leBytes 2 (ofSigned 16 z.1) ++ leBytes 2 (ofSigned 16 z.2))

/-- The record that 256 bytes spell. -/
def recOfBytes (b : Bytes) : Rec where
  eid := fieldAt b 0 4
  state := byteAt b 4
  flags := byteAt b 5
  key := fieldAt b 6 2
  bg := byteAt b 8
  seg := byteAt b 9
  pos := byteAt b 10
  consist := byteAt b 11
  widx := fieldAt b 12 2
  offset := toSigned 16 (fieldAt b 14 2)
  firstBhf := fieldAt b 16 4
  firstTih := fieldAt b 20 2
  lastTih := fieldAt b 22 2
  lastBhf := fieldAt b 24 4
  sightings := fieldAt b 28 4
  consBhf := fieldAt b 32 4
  lastRho := byteAt b 36
  lowRho := byteAt b 37
  lastPwr := toSigned 16 (fieldAt b 38 2)
  relearn := fieldAt b 40 2
  coll := byteAt b 42
  sig := (List.range 32).map fun j => (toSigned 8 (byteAt b (64 + 2 * j)), toSigned 8 (byteAt b (65 + 2 * j)))
  acc := (List.range 32).map fun j =>
    (toSigned 16 (fieldAt b (128 + 4 * j) 2), toSigned 16 (fieldAt b (130 + 4 * j) 2))

/-- A record of an image fails check 5 of Table EPB-7 by itself. -/
def recBad (b : Bytes) : Bool :=
  let r := recOfBytes b
  decide (bookIds ≤ r.eid) || outside r.state 1 2 || decide (15 < r.flags) || decide (4095 < r.key) ||
    decide (7 < r.bg) || decide (63 < r.seg) || decide (15 < r.pos) || decide (15 < r.consist) ||
    (decide (4095 < r.widx) && r.widx != 0xFFFF) || decide (r.offset < -320) || decide (320 < r.offset) ||
    decide (20479 < r.firstTih) || decide (20479 < r.lastTih) || decide (3 < r.lowRho) || !zeroRange b 43 21 ||
    r.key != keyOf r.sig

/-- Cut bytes into records of 256. -/
def recChunks (b : Bytes) (n : Nat) : List Bytes := (List.range n).map fun i => (b.drop (64 + 256 * i)).take 256

/-- The first record that fails check 5, by itself or for an EID named before. -/
def badRecord : Nat → List Nat → List Bytes → Option Nat
  | _, _, [] => none
  | i, seen, b :: bs =>
    if recBad b || decide (fieldAt b 0 4 ∈ seen) then some i else badRecord (i + 1) (fieldAt b 0 4 :: seen) bs

/-- The first record that overfills its bucket (check 7). -/
def overfull (hawsers : Nat) : List (Nat × Nat) → List (Nat × Rec) → Option Nat
  | _, [] => none
  | seen, (i, r) :: rs =>
    let key := (r.bg % hawsers, r.key)
    if bucketSize ≤ seen.countP (· == key) then some i else overfull hawsers (key :: seen) rs

/-- The basis that will be in force for a group: the one in force, as changed by those accepted and not yet
applied (check 6). -/
def Dev.basisIdOf (d : Dev) (bg : Nat) : Nat :=
  d.pend.foldl (fun id p => match p.what with
    | .basis g i _ => if g = bg then i else id
    | _ => id) (((d.book.basis bg).map (·.1)).getD 0)

/-- What the checks of Table EPB-7 say of an image. -/
structure ImageCheck where
  status : Nat
  failRec : Nat
  recs : List Rec
  skipped : Nat
  deriving DecidableEq, Repr, Inhabited

/-- Checks 4 to 7 of BOOK.LOAD. A failing CRC names record 0. -/
def Dev.checkImage (d : Dev) (c : Ctx) (b : Bytes) : ImageCheck :=
  let n := fieldAt b 8 4
  let fail (st i : Nat) : ImageCheck := { status := st, failRec := i, recs := [], skipped := 0 }
  if fieldAt b 0 4 ≠ 0x4B425045 ∨ fieldAt b 4 2 ≠ 1 ∨ n = 0 ∨ bookIds < n ∨ b.length ≠ 64 + 256 * n then
    fail stBadArg 0
  else if crc32 (b.drop 64) ≠ fieldAt b 12 4 ∨ !zeroRange b 6 2 ∨ !zeroRange b 22 2 then fail stBadArg 0
  else
    let chunks := recChunks b n
    match badRecord 0 [] chunks with
    | some i => fail stBadArg i
    | none =>
      let all := (List.range n).zip (chunks.map recOfBytes)
      let keep := all.filter fun e =>
        let id := fieldAt b (32 + 4 * e.2.bg) 4
        id != 0 && id == d.basisIdOf e.2.bg
      match overfull c.hawsers [] keep with
      | some i => fail stNoRoom i
      | none => { status := stOk, failRec := 0, recs := keep.map (·.2), skipped := n - keep.length }

/-- The modes that accept BOOK.LOAD (check 1). -/
def bookLoads : Mode → Bool
  | .survey | .standby | .relayOpen | .relaySteered | .relayNetwork | .muted => true
  | _ => false

/-- BOOK.LOAD (R324); its buffer is checked with the image, in the order of Table EPB-7 (R507). -/
def cmdBookLoad (h : CmdHdr) (b : InBuf) (s : State) : State :=
  s.onDev fun c d =>
    let img := b.data.take b.len
    match firstFail ([(!bookLoads c.mode, stDenied), (d.book.load.isSome, stBusy),
        (d.book.recs.any fun r => r.state == 2, stDenied)] ++ inChecks b 64) with
    | some st => d.reject 0x0502 h st
    | none =>
      let k := d.checkImage c img
      if k.status ≠ stOk then d.complete 0x0502 h k.status 0 none (zeros 8 ++ leBytes 4 k.failRec)
      else
        let l : BookLoadSt :=
          { hdr := h, recs := k.recs, skipped := k.skipped, exportBhf := fieldAt img 16 4,
            exportUtc := fieldAt img 24 8, deadline := (c.n + 400) % two32 }
        { d with book := { d.book with load := some l } }

def execBookLoad (h : CmdHdr) (b : InBuf) (s : State) : Host.Outcome State Fault Refusal :=
  .next (cmdBookLoad h b s.fetched)

/-- An accepted image is installed, and the matches in flight are abandoned (R307, R324). -/
def Dev.commitBook (d : Dev) (c : Ctx) : Dev :=
  match d.book.load with
  | none => d
  | some l =>
      let flying := d.book.bursts.filter fun x => !x.done && (d.book.basis x.bg).isSome
      let d := flying.foldl (fun d x =>
        ({ d with book := d.book.endMatch x }).onHwsB (c.matcher x.bg) fun w =>
          { w with late := satAdd 8 w.late 1 }) d
      let recs := l.recs.map fun r => { r with flags := setBit r.flags 3 0 }
      let ids := recs.map (·.eid)
      let keep := d.book.recs.filter fun r => r.state == 2 && !decide (r.eid ∈ ids)
      let gap := match d.clk.utc with
        | some t => if l.exportUtc = 0 then 0 else t - l.exportUtc
        | none => 0
      let d : Dev := { d with book := { d.book with
        recs := keep ++ recs
        cache := d.book.cache.filter fun e => keep.any fun r => r.eid == e.1
        bhf := (l.exportBhf + gap * 25 / 256) % two32
        pend := []
        load := none } }
      let d := d.reportNone c 10 recs.length
      d.complete 0x0502 l.hdr stOk 0 (some c.n) (leBytes 4 recs.length ++ leBytes 4 l.skipped)

/-- Whether a basis waits for its Plan window: a load is judged against it and commits after it (R324). -/
def Dev.basisWaits (d : Dev) : Bool := d.pend.any fun p => match p.what with
  | .basis _ _ _ => true
  | _ => false

/-- A Plan window within 400 ticks of acceptance commits a BOOK.LOAD. -/
def execBookLoadCommit (s : State) : Host.Outcome State Fault Refusal :=
  .next (if s.inPlan ∧ !s.dev.basisWaits then s.onDev fun c d => d.commitBook c else s)

/-- The last Plan window in which a BOOK.LOAD may commit does so (R324). -/
def Dev.commitLate (d : Dev) (c : Ctx) : Dev :=
  if d.book.load.any fun l => decide (0 ≤ dist32 c.n l.deadline) then d.commitBook c else d

/-- The header of an exported image (Table EPB-6). -/
def Dev.imageHeader (d : Dev) (c : Ctx) (n : Nat) (body : Bytes) : Bytes :=
  leBytes 4 0x4B425045 ++ leBytes 2 1 ++ zeros 2 ++ leBytes 4 n ++ leBytes 4 (crc32 body) ++
    leBytes 4 d.book.bhf ++ leBytes 2 c.tih ++ zeros 2 ++ leBytes 8 (d.clk.utc.getD 0) ++
    (List.range 8).flatMap fun bg => leBytes 4 (((d.book.basis bg).map (·.1)).getD 0)

/-- BOOK.READ (R325). -/
def cmdBookRead (h : CmdHdr) (first count dirtyOnly clean : Nat) (o : OutBuf) (s : State) : State :=
  s.onDev fun c d =>
    match firstFail (outChecks o ++
        [(count == 0 || decide (bookIds < first + count) || decide (1 < dirtyOnly) || decide (1 < clean), stBadArg),
          (!bookReads c.mode, stDenied)]) with
    | some st => d.reject 0x0503 h st
    | none =>
      let mine (r : Rec) : Bool := decide (first ≤ r.eid) && decide (r.eid < first + count) &&
        (dirtyOnly == 0 || maskBit r.flags 3)
      let rs := sortBy (fun a b => decide (a.eid ≤ b.eid)) (d.book.recs.filter mine)
      let len := 64 + 256 * rs.length
      let result (bytes n : Nat) : Bytes := leBytes 4 bytes ++ leBytes 4 n ++ leBytes 4 len
      if o.len < len then d.complete 0x0503 h stNoRoom 0 none (result 0 0)
      else
        let body := rs.flatMap Rec.bytes
        let out := d.imageHeader c rs.length body ++ body
        let d : Dev := if clean = 0 then d else { d with book := { d.book with
          recs := d.book.recs.map fun r => if mine r then { r with flags := setBit r.flags 3 0 } else r } }
        d.startOutput 0x0503 h o.addr out (result len rs.length)

def execBookRead (h : CmdHdr) (first count dirtyOnly clean : Nat) (o : OutBuf) (s : State) :
    Host.Outcome State Fault Refusal :=
  .next (cmdBookRead h first count dirtyOnly clean o s.fetched)

/-! ## Partners (R330 to R332) and tracer epochs (R187, R214, R215) -/

/-- Whether a neighbour is on the watch list. -/
def Cancel.watched (k : Cancel) (t : Nat) : Bool := decide (t ∈ k.watch)

/-- A donor entry (Table EPB-11). -/
def Dev.donorEntry (d : Dev) (x : Cand) : Bytes :=
  leBytes 1 x.idx ++ leBytes 1 x.rat ++ leBytes 2 x.pci ++
    leBytes 1 (bitNat (d.ptr.donor == some (x.rat, x.pci)) + 2 * bitNat (x.missed == 0)) ++ leBytes 1 x.beam ++
    leBytes 2 x.sfnOffs ++ leBytes 4 (ofSigned 32 x.timing) ++ leBytes 2 (ofSigned 16 x.power) ++
    leBytes 2 x.lastTih ++ leBytes 4 x.firstBhf ++ leBytes 4 x.lastBhf ++ zeros 8

/-- A neighbour entry (Table EPB-12). -/
def Dev.nbrEntry (d : Dev) (x : Nbr) : Bytes :=
  leBytes 2 x.tracer ++ leBytes 1 x.tile ++ leBytes 1 (bitNat x.present + 2 * bitNat (d.can.watched x.tracer)) ++
    leBytes 2 x.loc ++ leBytes 1 x.rho ++ zeros 1 ++ leBytes 4 (ofSigned 32 x.lag) ++
    leBytes 2 (ofSigned 16 x.pwr) ++ leBytes 2 x.lastTih ++ leBytes 4 x.firstBhf ++ leBytes 4 x.lastBhf ++
    leBytes 4 x.sight ++ zeros 4

/-- PARTNER.READ (R332). -/
def cmdPartnerRead (h : CmdHdr) (kind : Nat) (o : OutBuf) (s : State) : State :=
  s.onDev fun c d =>
    let out := if kind = 1 then (sortBy (fun a b => decide (a.idx ≤ b.idx)) d.ptr.cands).map d.donorEntry
      else (sortBy (fun a b => decide (a.idx ≤ b.idx)) d.book.nbrs).map d.nbrEntry
    guarded 0x0506 h
      (outChecks o ++ [(outside kind 1 2, stBadArg), (!bookReads c.mode, stDenied),
        (decide (o.len < 32 * out.length), stNoRoom)])
      (fun d => d.startOutput 0x0506 h o.addr out.flatten (leBytes 1 out.length)) d

def execPartnerRead (h : CmdHdr) (kind : Nat) (o : OutBuf) (s : State) : Host.Outcome State Fault Refusal :=
  .next (cmdPartnerRead h kind o s.fetched)

/-- The entry that a new tracer takes: a free one, else that of oldest last sighting among those neither
watched nor present (R331). The second part says whether it replaces. -/
def Dev.nbrSlot (d : Dev) : Option (Nat × Bool) :=
  match (List.range 32).find? fun i => d.book.nbrs.all fun x => x.idx != i with
  | some i => some (i, false)
  | none =>
    let free := d.book.nbrs.filter fun x => !d.can.watched x.tracer && !x.present
    (free.foldl (fun (o : Option Nbr) x => match o with
      | none => some x
      | some p => if x.epoch < p.epoch then some x else some p) none).map fun x => (x.idx, true)

/-- NEIGHBOUR_SIGHTING: one sighting enters the table (R215, R331). -/
def Dev.sightNbr (d : Dev) (c : Ctx) (t : Sighting) : Dev :=
  let loc := t.pos + 16 * t.bg + 128 * t.dir + 256 * bitNat t.guard
  let fill (x : Nbr) : Nbr := { x with
    tracer := t.tracer, tile := t.tile, present := true, loc := loc, rho := t.rho, lag := t.lag, pwr := t.power
    lastTih := c.tih, lastBhf := d.book.bhf, sight := satAdd 32 x.sight 1, epoch := d.can.epochs }
  match d.book.nbrs.find? fun x => x.tracer == t.tracer with
  | some x =>
    let d' : Dev := { d with book := { d.book with
      nbrs := d.book.nbrs.map fun y => if y.idx == x.idx then fill y else y } }
    if x.present then d' else d'.reportNone c 12 (x.idx + 256 * 3)
  | none => match d.nbrSlot with
    | none => { d with book := { d.book with nbrDrop := satAdd 8 d.book.nbrDrop 1 } }
    | some (i, replaces) =>
      let x := fill { (default : Nbr) with idx := i, firstBhf := d.book.bhf }
      let keep := d.book.nbrs.filter fun y => y.idx != i
      ({ d with book := { d.book with nbrs := keep ++ [x] } }).reportNone c 12
        (i + 256 * (if replaces then 4 else 1))

/-- A doubled centre in kHz and a centre in Hz lie within 1 kHz (R215). -/
def sameCentre (c2 : Int) (hz : Nat) : Bool :=
  let off := 500 * c2 - (hz : Int)
  decide (-1000 ≤ off) && decide (off ≤ 1000)

/-- Whether a sighting is one that the device searches for: 15 dB, a watched ID or one of the batch of the
full search, no tracer of a spliced module, on a donor or guard beam yarn of its rate and centre that is formed but for gated
ticks (R214, R215, R366). -/
def Dev.searches (d : Dev) (c : Ctx) (t : Sighting) : Bool :=
  decide (240 ≤ t.snr) && decide (t.tracer < 4096) && decide (t.tile < 16) &&
    (d.can.watched t.tracer ||
      (c.mode == .survey && d.can.scanAll && decide ((t.tracer + 4096 - d.can.scanNext) % 4096 < 32))) &&
    (d.splice.peers.all fun p => p.tracer != t.tracer) &&
    (t.guard == (t.dir == 1)) &&
    (let byid := mkByid t.dir t.bg 0 t.pos
     decide (byid ∈ d.ungated.formedNow c) && (d.segOfByid byid).any fun s =>
       s.yrate == t.rho && sameCentre (s.centre2 t.pos) t.centreHz)

/-- Neighbours that were not sighted within the last 1,875 epochs are absent. -/
def Dev.ageNbrs (d : Dev) (c : Ctx) : Dev :=
  let old (x : Nbr) : Bool := x.present && decide (x.epoch + 1875 < d.can.epochs)
  let gone := d.book.nbrs.filter old
  let d : Dev := { d with book := { d.book with
    nbrs := d.book.nbrs.map fun x => if old x then { x with present := false } else x } }
  gone.foldl (fun d x => d.reportNone c 12 (x.idx + 256 * 2)) d

/-- An epoch ends with its sightings and the next one starts at this T0 (R187), unless one has started there. DESIGN CHOICE
(assumption 91): the full search of R214 goes on with ID 0 after a full pass, and every TRC.SCAN starts it at 0. -/
def Dev.endEpoch (d : Dev) (c : Ctx) (ss : List Sighting) : Dev :=
  if d.can.epochConv = c.time.conv then d
  else
    let d : Dev := { d with can := { d.can with epochs := d.can.epochs + 1 } }
    let d := (ss.filter fun t => d.searches c t).foldl (fun d t => d.sightNbr c t) d
    let d := d.ageNbrs c
    { d with can := { d.can with
        epochConv := c.time.conv
        scanNext := if c.mode = .survey ∧ d.can.scanAll = true then (d.can.scanNext + 32) % 4096
          else d.can.scanNext } }

end Sys2Proof.Machine
end

