-- ==== Sys2Proof/Machine/Chain.lean ====
section
/-! DEFINITION. The Leadline chain on the tapes of a tick (R337 to R343): power detector, rank filter, resampler, gates,
UNS marks and the tick integrator. -/

namespace Sys2Proof.Machine

/-! ## Settings of a chain -/

/-- A chain's tap and settings: where its samples are, the yarns that feed it, the side at whose RX contacts it stands and
its position, its rate, N, k and OUTR, its gate with the segment of the gate and grid, D_tap in ns, and when a change of
its settings took effect, with whether that changed N or k (R343). -/
structure ChainSet where
  tap : Tap
  yarns : List Nat
  service : Bool
  at_ : Option (Nat × Nat)
  rho : Nat
  n : Nat
  k : Nat
  outr : Nat
  gate : Nat
  grid : Option Seg
  dTap : Nat
  from_ : Option (Int × Bool)
  deriving DecidableEq, Repr, Inhabited

/-- The total delay D in ns (R342). -/
def ChainSet.delayNs (s : ChainSet) : Nat := s.dTap + rankDelayNs s.rho s.n + outDelayNs s.outr

/-- A chain between two delivery instants: settings that change in a tick deliver one stretch before and one after. -/
structure ChainPart where
  set : ChainSet
  from_ : Int
  till : Int
  deriving DecidableEq, Repr, Inhabited

/-- The delivery instants of a tick: [T0 - 24 us, the Close) (R340). -/
def Ctx.delivery (c : Ctx) : Int × Int := (c.time.t0 - 24 * usUnits, c.time.at10 c.time.closeSub)

/-- A chain that runs through a whole tick. -/
def ChainSet.whole (s : ChainSet) (c : Ctx) : List ChainPart :=
  [{ set := s, from_ := c.delivery.1, till := c.delivery.2 }]

/-- Contact times: the delivery instants shifted earlier by D (R340). -/
def ChainPart.span (p : ChainPart) : Int × Int :=
  let d := nsUnits * p.set.delayNs
  (p.from_ - d, p.till - d)

/-! ## Rank filter (R338) -/

/-- Insert into a rising list. -/
def insertRat (x : Rat) : List Rat → List Rat
  | [] => [x]
  | y :: ys => if x ≤ y then x :: y :: ys else y :: insertRat x ys

/-- A list in rising order. -/
def sortRat (l : List Rat) : List Rat := l.foldr insertRat []

/-- The rank output whose window is centred at a sample: the k-th smallest power of N samples over E(N, k). Samples that
the tape does not hold read 0. -/
def rankAt (t : Tape) (n k : Nat) (i : Int) : Rat :=
  let ps := (List.range n).map fun j => (t.value (i - ((n - 1) / 2 : Nat) + j)).sq
  (sortRat ps).getD (k - 1) 0 * 360360 / (rankMean n k : Rat)

/-! ## Outputs (R339, Table LDL-3) -/

/-- T_out of a fixed-rate code. -/
def outUnits (outr : Nat) : Int := 3840 * (outPeriod10 outr : Int)

/-- The useful part of a symbol and its length, in units of 1/30.72 us (Table LAY-7). -/
def usefulUnits (outr : Nat) : Nat := [2048, 1024, 8192].getD outr 2048
def symbolLength (outr j : Nat) : Nat := if outr = 0 then (if j = 0 then 2208 else 2192)
  else if outr = 1 then (if j = 0 then 1112 else 1096) else 8448

/-- The grid of a symbol code in ps from T0: the uplink grid of a segment at the service RX contacts, else the downlink
grid. -/
def gridShift (g : Option Seg) : Int :=
  match g with
  | some s => if s.has 1 then 1000 * s.ulOffs - 2048000 else 0
  | none => 0

/-- The useful parts of the symbols of a symbol code from three symbol periods before T0 to one after, as instants. -/
def symbolParts (c : Ctx) (outr : Nat) (g : Option Seg) : List (Int × Int) :=
  let (starts, ticks) := symbolStarts outr
  let back : Int := c.time.tif % ticks
  let shift := gridShift g
  ([-3, -2, -1, 0, 1] : List Int).flatMap fun p =>
    ((List.range starts.length).zip starts).map fun e =>
      let end_ : Int := (ticks * p - back) * tickUnits + e.2 + symbolLength outr e.1
      let at_ (u : Int) : Int := c.time.t0 + unitsOfPs (unitsPs u + shift)
      (at_ (end_ - usefulUnits outr), at_ end_)

/-- The contact times of the outputs of a code between two instants: the centres of triangles or of useful parts. -/
def outTimes (c : Ctx) (outr : Nat) (g : Option Seg) (a b : Int) : List Int :=
  if 3 ≤ outr then
    let t := outUnits outr
    (List.range (ceilDiv b t - ceilDiv a t).toNat).map fun i => (ceilDiv a t + i) * t
  else ((symbolParts c outr g).map fun e => floorDiv (e.1 + e.2) 2).filter fun t => decide (a ≤ t) && decide (t < b)
def ChainSet.times (s : ChainSet) (c : Ctx) (a b : Int) : List Int := outTimes c s.outr s.grid a b

/-- The weight of a rank output in a triangle, its place resolved to 1/1,024 of a yarn sample. -/
def triangle (rho : Nat) (t off : Int) : Rat :=
  let q := nearest ((1024 * off : Int) / (sampleUnits rho : Rat))
  max 0 (1 - (q.natAbs * sampleUnits rho : Nat) / (1024 * t : Rat))

/-- The output at a contact time: the weighted mean of the rank outputs in its span. -/
def ChainSet.value (s : ChainSet) (tape : Tape) (t : Int) : Rat :=
  let half : Int := if 3 ≤ s.outr then outUnits s.outr else floorDiv (unitsOfPs (unitsPs (usefulUnits s.outr))) 2
  let ks := indices (firstSample s.rho (t - half)) (firstSample s.rho (t + half))
  let ws := ks.map fun k => if 3 ≤ s.outr then triangle s.rho half (sampleAt s.rho k - t) else 1
  let sum := ws.sum
  if sum ≤ 0 then 0
  else (List.zipWith (fun w k => w * rankAt tape s.n s.k (k : Int)) ws ks).sum / sum

/-! ## UNS (R343) -/

/-- The marking events of a chain: when the first affected sample enters stage 2, as the earliest contact time of an output
delivered after it, and U_L. -/
def ChainSet.events (s : ChainSet) (v : Conv) : List (Int × Nat) :=
  let enter (u : Int) : Int :=
    u + nsUnits * s.dTap + 2 * sampleUnits s.rho - nsUnits * s.delayNs
  ((v.uns.filter fun e => decide (e.1 ∈ s.yarns)).map fun e =>
      (enter (sampleAt s.rho e.2.2), unsettledOutputs s.rho s.outr (e.2.1 + s.n - 1))) ++
    (s.from_.map fun e => (enter e.1, unsettledOutputs s.rho s.outr (if e.2 then s.n - 1 else 0))).toList

/-- Whether an output carries UNS: fewer than U_L outputs were delivered since the last event before it. -/
def ChainSet.unsAt (s : ChainSet) (c : Ctx) (v : Conv) (t : Int) : Bool :=
  let past := (s.events v).filter fun e => decide (e.1 < t)
  match past with
  | [] => false
  | e :: es =>
    let last := es.foldl (fun m x => if m.1 < x.1 then x else m) e
    if s.outr < 3 ∧ last.1 < c.time.t0 - 1500 * usUnits then false
    else decide ((s.times c (last.1 + 1) t).length < last.2)

/-! ## Gates (R340, R368) -/

/-- The parts of intervals within one, and outside one. -/
def within (l : List (Int × Int)) (a b : Int) : List (Int × Int) :=
  (l.map fun e => (max e.1 a, min e.2 b)).filter fun e => decide (e.1 < e.2)
def without (l : List (Int × Int)) (a b : Int) : List (Int × Int) :=
  (l.flatMap fun e => [(e.1, min e.2 a), (max e.1 b, e.2)]).filter fun e => decide (e.1 < e.2)

/-- When bursts were open at a position, in this tick and the last. -/
def Dev.burstTimes (d : Dev) (c : Ctx) (bg pos : Nat) : List (Int × Int) :=
  let at_ (tick sub : Nat) : Int := c.time.t0 - 10 * nsUnits * elapsed10 tick sub c.n 0
  ((d.book.bursts.filter fun x => x.bg == bg && x.pos == pos && x.isOpen).map fun x =>
      (at_ x.onTick x.on10, c.time.t1)) ++
    (d.book.spans.filter fun x => x.bg == bg && x.pos == pos).map fun x =>
      (at_ x.onTick x.on10, at_ x.endTick x.end10)

/-- The contact times that a gate admits in an interval (Table LDL-4). The uplink symbols of a gated tick are admitted by no
gate (R368). -/
def Dev.gateSpans (d : Dev) (c : Ctx) (s : ChainSet) (a b : Int) : List (Int × Int) :=
  match s.grid with
  | none => [(a, b)]
  | some g =>
    let symbols (dir : Nat) : List (Int × Int) := match g.symbolSpans c dir s.service with
      | none => if g.has dir then [(a, b)] else []
      | some l => within (l.map fun e => (c.time.t0 + unitsOfPs e.1, c.time.t0 + unitsOfPs e.2)) a b
    let old := tickBefore (c.time.sfn, c.time.tif)
    let shut := (if d.gated c.mode g c.time.sfn c.time.tif then [(c.time.t0, c.time.t1)] else []) ++
      if d.gated c.mode g old.1 old.2 then [(c.time.t0 - 500 * usUnits, c.time.t0)] else []
    let closed := shut.flatMap fun e => within (symbols 1) e.1 e.2
    let open_ (l : List (Int × Int)) : List (Int × Int) := closed.foldl (fun l e => without l e.1 e.2) l
    let bursts := match s.at_ with
      | some p => d.burstTimes c p.1 p.2
      | none => []
    match s.gate with
    | 0 => open_ [(a, b)]
    | 1 => symbols 0
    | 2 => open_ (symbols 1)
    | 3 => bursts.foldl (fun l e => without l e.1 e.2) (open_ (symbols 1))
    | _ => bursts.flatMap fun e => within (open_ (symbols 1)) e.1 e.2

/-! ## The tick integrator (R340, R341) -/

/-- The outputs of a stretch of a chain: the time, the value and whether it carries UNS. An output past the newest sample was
not delivered; one before the oldest counts, as the example of R343 counts it, and its value is free (DEDUCED, assumption
120). -/
def Dev.chainOutputs (d : Dev) (c : Ctx) (p : ChainPart) : List (Int × Rat × Bool) :=
  let tape := tapeOf d.tapes p.set.tap
  let x := p.span
  ((p.set.times c x.1 x.2).filter fun t => decide (firstSample p.set.rho t < tape.next)).map fun t =>
    let k := firstSample p.set.rho t
    (t, if k + tape.data.length < tape.next then (Config.freeOutput (p.set.yarns.headD 0) k : Rat) else p.set.value tape t,
      p.set.unsAt c d.conv t)

/-- A sum as the integrators of HANK keep it: 8 bits of mantissa, truncated (R345). -/
def mantissa8 (r : Rat) : Rat :=
  let n := r.floor.toNat
  let sh := Nat.log2 n - 7
  (n / 2 ^ sh * 2 ^ sh : Nat)

/-- The contact times that the gate of a stretch admits, and its outputs in them. -/
def Dev.admitted (d : Dev) (c : Ctx) (p : ChainPart) : List (Int × Int) × List (Int × Rat × Bool) :=
  let spans := d.gateSpans c p.set p.span.1 p.span.2
  (spans, (d.chainOutputs c p).filter fun o => spans.any fun e => decide (e.1 ≤ o.1) && decide (o.1 < e.2))

/-- One tick's integration over the stretches of a chain (R341). -/
def Dev.integrate (d : Dev) (c : Ctx) (ps : List ChainPart) : ChainFig :=
  let all := ps.map (d.admitted c)
  let hit := all.flatMap (·.2)
  let ok := (hit.filter fun o => !o.2.2).map (·.2.1)
  let gateNs := (floorDiv (((all.flatMap (·.1)).map fun e => e.2 - e.1).sum) nsUnits).toNat
  let first := ok.headD 0
  { kind := if !ok.isEmpty then 0 else if gateNs = 0 then 1 else 2
    sum := if c.mode = .hank then mantissa8 ok.sum else ok.sum
    peak := ok.foldl max first
    min := ok.foldl min first
    incl := ok.length
    unsx := (hit.filter (·.2.2)).length
    gateNs := gateNs }

/-- The mean of an integration. -/
def ChainFig.mean (f : ChainFig) : Rat := if f.incl = 0 then 0 else f.sum / (f.incl : Rat)

/-! ## The taps of beam yarns and strands (Table LDL-1) -/

/-- The chain of a beam yarn's T5 tap in its own segment. -/
def Dev.beamChain (d : Dev) (c : Ctx) (s : Seg) (byid n k outr gate : Nat) : ChainSet :=
  { tap := .stage5 byid
    yarns := (Vec.onYarns (d.rxVecOf d.reef.plan c.mode byid) (d.yarnIndexOf byid)).map (·.1)
    service := byidDir byid == 1
    at_ := some (byidBg byid, byidPos byid)
    rho := s.yrate
    n := n
    k := k
    outr := outr
    gate := gate
    grid := some s
    dTap := tapDelayNs s.yrate s.yresp + 44
    from_ := none }

/-- The chain of a relay yarn's T3 tap in its own segment. -/
def strandChain (s : Seg) (service : Bool) (pos id n k outr gate : Nat) : ChainSet :=
  { tap := .yarn id
    yarns := [id]
    service := service
    at_ := some (s.bg, pos)
    rho := s.yrate
    n := n
    k := k
    outr := outr
    gate := gate
    grid := some s
    dTap := tapDelayNs s.yrate s.yresp
    from_ := none }

end Sys2Proof.Machine
end

