-- ==== Sys2Proof/Machine/Figures.lean ====
section
/-! DEFINITION. The built-in figures of Leadline (R346, Table LDL-6): L5, N_v and N_in of the beam yarns, N_s of the
positions and the sync EPRE of the uplink segments' reference cells. -/

namespace Sys2Proof.Machine

/-- A level as HANK reports it: to 0.5 dB, its low three bits 0 (R345). -/
def coarse (m : Mode) (x : Int) : Int := if m = .hank then floorDiv (x + 4) 8 * 8 else x

/-- A power of yarn words as a reported level, 1/16 dBFS. -/
def Dev.level (d : Dev) (c : Ctx) (p : Rat) : Int := coarse c.mode (powerLevel16 p d.free)

/-- A fresh figure's mean as a level; none from a tick that gave no fresh one. -/
def Dev.freshLevel (d : Dev) (c : Ctx) (f : ChainFig) : Option Int := if f.kind = 0 then some (d.level c f.mean) else none

/-! ## Beam yarns -/

/-- The last 64 entries of N_v's ticks of loop activity, newest first, after one more. -/
def Loop.noteFloor (l : Loop) (x : Option Int) : Loop := { l with floors := x :: l.floors.take 63 }

/-- The lowest of a list of levels. -/
def lowest (l : List Int) : Option Int :=
  l.foldl (fun m x => match m with
    | none => some x
    | some y => some (min x y)) none

/-- N_v: the lowest fresh mean of the last 64 ticks of loop activity. -/
def Loop.floor (l : Loop) : Option Int := lowest (l.floors.filterMap id)

/-- The figures of one beam yarn in this tick. N_in stands as last measured. A tick is judged by L5 alone, whatever N_in did
in it (R251; DESIGN CHOICE, assumption 122); a CARRY case without a figure to carry has no value (R341; DESIGN CHOICE,
assumption 123). -/
def Dev.yarnFig (d : Dev) (c : Ctx) (s : Seg) (byid : Nat) : YarnFig :=
  let up := decide (byidDir byid = 1)
  let f := d.integrate c ((d.beamChain c s byid 5 3 4 (if up then 2 else 1)).whole c)
  let n := if up then d.freshLevel c (d.integrate c ((d.beamChain c s byid 5 3 4 3).whole c)) else none
  { byid := byid
    kind := if f.kind = 1 ∧ (d.bel.lastFig byid).isNone then 2 else f.kind
    l5 := if f.kind = 0 then d.level c f.mean else ((d.bel.lastFig byid).map (·.l5)).getD 0
    nv := (d.can.loop byid).bind Loop.floor
    nIn := n.or ((d.bel.lastFig byid).bind (·.nIn)) }

/-- A tick of loop activity adds its noise floor to a beam yarn's loop. -/
def Dev.noteFloor (d : Dev) (c : Ctx) (byid : Nat) : Dev :=
  match d.segOfByid byid with
  | none => d
  | some s =>
    if d.loopActive c byid then
      let gate := if byidDir byid = 1 then 3 else 1
      let x := d.freshLevel c (d.integrate c ((d.beamChain c s byid 15 1 4 gate).whole c))
      { d with can := { d.can with loops := d.can.loops.map fun l => if l.byid == byid then l.noteFloor x else l } }
    else d

/-- The figures of the formed beam yarns, and of those that a gated tick alone does not form, whose gates admit nothing there
(R368). -/
def Dev.yarnFigs (d : Dev) (c : Ctx) : List YarnFig :=
  (d.ungated.formedNow c).filterMap fun b => (d.segOfByid b).map fun s => d.yarnFig c s b

/-! ## N_s (R300) -/

/-- N_s of a position in this tick: the mean over the strands that count; none without a fresh value. -/
def Dev.stationNoise (d : Dev) (c : Ctx) (s : Seg) (bg pos : Nat) : Option Int :=
  let fs := (d.serviceYarns c bg pos).map fun e => d.integrate c ((strandChain s true pos e.2 5 3 4 3).whole c)
  let ok := fs.filter fun f => decide (f.kind = 0)
  if ok.isEmpty then none else some (d.level c ((ok.map ChainFig.mean).sum / (ok.length : Rat)))

/-- N_s of every position; one without a fresh value keeps its last. -/
def Dev.noteNoise (d : Dev) (c : Ctx) : Dev :=
  let new : List (Nat × Nat × Int) := (List.range 8).flatMap fun bg => match d.seg bg 1 with
    | none => []
    | some s => (List.range s.ycount).filterMap fun pos => (d.stationNoise c s bg pos).map fun x => (bg, pos, x)
  let keep := d.ldl.noise.filter fun e => new.all fun f => f.1 != e.1 || f.2.1 != e.2.1
  { d with ldl := { d.ldl with noise := keep ++ new, prevNoise := d.ldl.noise } }

/-! ## The donor figures (R284, R346) -/

/-- The cells of a segment's radio access received on its bound donor beam within its reference edges (R273, R284). -/
def Dev.refCells (d : Dev) (s : Seg) : List Cand :=
  match d.refEdges s with
  | none => []
  | some (lo, hi) => d.ptr.cands.filter fun x =>
      x.rat == s.rat && !outside x.khz lo hi && x.hits.any fun e => e.1 == (d.beams.group s.bg).donor

/-- The reference cell: the timing donor if it is one of them, else the strongest. -/
def Dev.refCell (d : Dev) (s : Seg) : Option Cand :=
  let l := d.refCells s
  (l.find? fun x => decide (d.ptr.donor = some (x.rat, x.pci))).or
    (l.foldl (fun best x => match best with
      | none => some x
      | some b => if b.power < x.power then some x else some b) none)

/-- The mean of powers in 1/16 dBm, and that plus 1.96 standard errors, both rounded to the nearest. One occasion has no
standard error: its bound has no value (assumption 84). -/
def epreOf (free : Nat) (ps : List Int) : Int × Int :=
  let n : Rat := ps.length
  let mean : Rat := (ps.sum : Int) / n
  let dev := (ps.map fun p => ((p : Rat) - mean) * ((p : Rat) - mean)).sum / (n - 1)
  (nearest mean, if ps.length < 2 then Config.freeLevel free else nearest (mean + 49 / 25 * ratSqrt (dev / n)))

/-- The donor figure of an uplink segment; without a reference cell there is none in it. -/
def Dev.donorFig (d : Dev) (i : Nat) (s : Seg) : DonorFig :=
  let beam := (d.beams.group s.bg).donor
  match d.refCell s with
  | none => { seg := i, cand := 0xFF, beam := beam, epre := 0, epreHi := 0, occ := 0, tick := 0 }
  | some x =>
    let hits := x.hits.filter fun e => e.1 == beam
    let p := epreOf d.free (hits.map (·.2.1))
    { seg := i, cand := x.idx, beam := beam, epre := p.1, epreHi := p.2, occ := hits.length,
      tick := (hits.headD default).2.2 }

/-- The donor figures of the plan's uplink segments. -/
def Dev.donorFigs (d : Dev) : List DonorFig :=
  match d.plan.committed with
  | none => []
  | some p => ((List.range p.segs.length).zip p.segs).filterMap fun e =>
      if e.2.has 1 then some (d.donorFig e.1 e.2) else none

/-- The noise floors that a Close takes up before it computes the figures. -/
def Dev.noteNoises (d : Dev) (c : Ctx) : Dev :=
  ((d.formedNow c).foldl (fun (d : Dev) b => d.noteFloor c b) { d with free := d.free + 1 }).noteNoise c

end Sys2Proof.Machine
end

