-- ==== Sys2Proof/Machine/Leadline.lean ====
section
/-! DEFINITION. Leadline subscriptions and their records (R335 to R350). -/

namespace Sys2Proof.Machine

/-! ## Taps (R335, R342) -/

/-- The segment of a relay yarn ID with its position in the committed plan. -/
def Dev.yarnSlot (d : Dev) (id : Nat) : Option (Nat × Nat) := (d.slots (id / 16))[id % 16]?

/-- Whether a relay yarn has an RX form, at whose output T3 lies (R335, Table YRN-1). -/
def Dev.hasRx (d : Dev) (id : Nat) : Bool :=
  (d.yarnSlot id).any fun e => (d.plan.committed.bind fun p => p.segs[e.1]?).any fun s =>
    s.forms (d.side (id / 16)) % 2 == 1

/-- The segment number that holds a tap in the committed plan; a measurement yarn lies where its centre
does. -/
def Dev.tapHeldBy (d : Dev) (src target centreKhz seg : Nat) : Bool :=
  match d.plan.committed with
  | none => false
  | some p =>
    if src = 1 then d.hasRx target && (d.yarnSlot target).any fun e => e.1 == seg
    else if src = 2 then p.segIndex (byidBg target) (byidDir target) == some seg
    else p.segs[seg]?.any fun s => !outside centreKhz s.fLo s.fHi

/-- The rate code and relay choice at a T3 or T5 tap. -/
def Dev.tapRate (d : Dev) (src target : Nat) : Option (Nat × Nat) :=
  let s := if src = 1 then (d.yarnSlot target).bind fun e => d.plan.committed.bind fun p => p.segs[e.1]?
    else d.segOfByid (target % 32768)
  s.map fun s => (s.yrate, s.yresp)

/-- Whether the tap of a subscription is formed (R336); a gated tick forms it no less, and its gates admit nothing then
(R368). -/
def Dev.tapFormed (d : Dev) (c : Ctx) (a : MeasArgs) : Bool :=
  let shed := d.reef.plan.shed.any fun s => s.step == 1 && s.kind == 4 && s.num == a.subId
  match a.src with
  | 1 => d.hasRx a.target && (d.heldYarns d.reef.plan (a.target / 16)).any fun e => e.1 == a.target % 16
  | 2 | 4 => decide (a.target % 32768 ∈ d.ungated.formedNow c)
  | 3 => !shed && d.liveYarns.any fun m => m.owner == 1 && m.tag == a.subId
  | _ => (d.seg a.target 1).isSome

/-- The delay of a chain in ns, as the completion of MEAS.SUB gives it (R342). -/
def Dev.gdelay (d : Dev) (a : MeasArgs) : Option Nat :=
  let rest (rho : Nat) : Nat := rankDelayNs rho a.n + outDelayNs a.outr
  if a.src = 3 then some (measDelayNs a.rho a.mresp + rest a.rho)
  else if a.src ≤ 2 then
    (d.tapRate a.src a.target).map fun r =>
      tapDelayNs r.1 r.2 + (if a.src = 2 then 44 else 0) + rest r.1
  else some 0

/-- The hawser whose 64 entries a subscription takes (Table LDL-1); SRC 5 counts against none. -/
def subOwner (hawsers : Nat) (a : MeasArgs) : Option Nat :=
  match a.src with
  | 1 => some (a.target / 256)
  | 2 | 4 => some (byidOwner hawsers a.target)
  | 3 => some (a.target / 16)
  | _ => none

/-! ## MEAS.SUB (R348) -/

/-- A yarn centre at RF that R74 allows. -/
def centreOk (khz : Nat) : Bool := !outside khz 600000 7125000 && rangeInZone khz khz

/-- The target of a subscription is out of range (Table LDL-7); a slot ceiling has no T5 tap. -/
def measTargetBad (m : Member) (a : MeasArgs) : Bool :=
  match a.src with
  | 1 => decide (Config.yarns m ≤ a.target)
  | 2 | 4 => byidSlot a.target == 1 || decide (Config.serviceBeams m ≤ byidBeam a.target)
  | 3 => decide (Config.strands m ≤ a.target) || !centreOk a.centreKhz || outside a.rho 1 8 ||
      decide (5 < a.mresp)
  | 5 => decide (7 < a.target)
  | _ => true

/-- The settings of a chain are out of range or do not belong to the tap (R338, R339, R348). -/
def Dev.measChainBad (d : Dev) (a : MeasArgs) : Bool :=
  !rankValid a.n a.k || decide (6 < a.outr) || decide (4 < a.gate) ||
    (decide (63 < a.gridSeg) && a.gridSeg != 0xFF) ||
    (a.gridSeg == 0xFF && (a.gate != 0 || a.outr == 2)) ||
    (a.gridSeg != 0xFF && (!d.tapHeldBy a.src (a.target % 32768) a.centreKhz a.gridSeg ||
      (a.outr == 2 && !((d.plan.committed.bind fun p => p.segs[a.gridSeg]?).any fun s => s.has 1))))

/-- A MEAS.SUB completes with BAD_ARG. A deletion looks at SUB_ID alone. -/
def Dev.measBad (d : Dev) (m : Member) (a : MeasArgs) : Bool :=
  decide (511 < a.subId) || outside a.action 1 2 ||
    (if a.action = 2 then !(d.ldl.subs.any fun s => s.a.subId == a.subId)
     else outside a.src 1 5 || measTargetBad m a || decide (64 < a.div) ||
       (decide (a.src ≤ 3) && d.measChainBad a))

/-- The hawser of a subscription carries 64 others already. -/
def Dev.subsFull (d : Dev) (hawsers : Nat) (a : MeasArgs) : Bool :=
  match subOwner hawsers a with
  | none => false
  | some h => decide (64 ≤ d.ldl.subs.countP fun s => s.a.subId != a.subId && subOwner hawsers s.a == some h)

/-- The measurement yarn that a subscription asks for, from tick n on. -/
def subYarns (n : Nat) (a : MeasArgs) : List MYarn :=
  if a.action = 1 ∧ a.src = 3 then [mkYarn 1 a.subId n a.target a.centreKhz a.rho a.mresp] else []

/-- MEAS.SUB (R348). -/
def cmdMeasSub (h : CmdHdr) (a : MeasArgs) (s : State) : State :=
  s.onDev fun c d =>
    let admitted := d.admitAll (subYarns c.effTick a)
    guarded 0x0601 h
      [(d.measBad c.ident.member a, stBadArg), (!modeAccepts c.mode 0x0601, stDenied),
        (a.action == 1 && d.subsFull c.hawsers a, stNoRoom), (admitted.isNone, stNoRoom)]
      (fun d =>
        let e := admitted.getD d
        let g := if a.action = 2 then some 0 else d.gdelay a
        let p : Pend := { tick := c.effTick, opcode := 0x0601, tag := h.tag, what := .sub a }
        let e : Dev := { e with
          pend := e.pend ++ [p]
          free := if g.isNone then e.free + 1 else e.free }
        e.complete 0x0601 h stOk 0 (some c.effTick)
          (leBytes 4 (g.getD (Config.freeGdelay d.free).toNat))) d

def execMeasSub (h : CmdHdr) (a : MeasArgs) (s : State) : Host.Outcome State Fault Refusal :=
  .next (cmdMeasSub h a s.fetched)

/-- An integration of no tick. -/
def ChainFig.none : ChainFig := { kind := 2, sum := 0, peak := 0, min := 0, incl := 0, unsx := 0, gateNs := 0 }

/-- A subscription as its Plan window starts it. A replacement that leaves the tap, N, k and OUTR as they were is no marking
event; a new chain counts as a change of N and k (R343; DESIGN CHOICE, assumption 92). -/
def Sub.start (a : MeasArgs) (old : Option Sub) (conv : Nat) : Sub :=
  let tap (x : MeasArgs) : List Nat :=
    if x.src = 3 then [x.src, x.target, x.centreKhz, x.rho, x.mresp] else [x.src, x.target]
  let rank (x : MeasArgs) : Nat × Nat := (x.n, x.k)
  let here := old.filter fun s => tap s.a == tap a
  let same := here.any fun s => rank s.a == rank a
  let kept := here.filter fun s => same && s.a.outr == a.outr
  { a := a, old := (here.filter fun s => s.a.src != 3).map fun s => (s.a, s.from_, s.ranked), idle := false, cnt := 0
    carry := 0, acc := ChainFig.none, last := none
    from_ := (kept.map (·.from_)).getD conv
    ranked := (kept.map (·.ranked)).getD (!same) }

/-- What a MEAS.SUB changes at its Plan window: the yarn that it reserved runs, and those that later commands of the same
subscription reserved stay reserved. -/
def Dev.applySub (d : Dev) (c : Ctx) (later : List PendWhat) (a : MeasArgs) : Dev :=
  let keep := d.ldl.subs.filter fun s => s.a.subId != a.subId
  let old := d.ldl.subs.find? fun s => s.a.subId == a.subId
  let subs := if a.action = 1 then keep ++ [Sub.start a old c.time.conv] else keep
  let next := later.map fun p => match p with
    | .sub b => if b.subId = a.subId then (subYarns 0 b).length else 0
    | _ => 0
  ({ d with ldl := { d.ldl with subs := subs } }).keepNewest 1 a.subId ((subYarns 0 a).length + next.sum)

/-! ## Records at the Close (R341, R345, R349, R350) -/

/-- The measurement yarn that a subscription runs. -/
def Dev.subYarn (d : Dev) (id : Nat) : Option MYarn := d.liveYarns.find? fun m => m.owner == 1 && m.tag == id

/-- The segment of a number in the committed plan. -/
def Dev.segAt (d : Dev) (i : Nat) : Option Seg := d.plan.committed.bind fun p => p.segs[i]?

/-- The chain of a subscription's settings at its tap (Tables LDL-1, LDL-7), with when they took effect; none where the
committed plan has no such tap. A measurement yarn is at no position, so that no burst is open there (DESIGN CHOICE,
assumption 93). -/
def Dev.subSet (d : Dev) (c : Ctx) (a : MeasArgs) (conv : Nat) (ranked : Bool) : Option ChainSet :=
  let tap : Option ChainSet := match a.src with
    | 1 => if !d.hasRx a.target then none
      else (d.yarnSlot a.target).bind fun e => (d.segAt e.1).map fun s =>
        strandChain s (d.side (a.target / 16) == 2) e.2 a.target a.n a.k a.outr a.gate
    | 2 => (d.segOfByid (a.target % 32768)).map fun s => d.beamChain c s (a.target % 32768) a.n a.k a.outr a.gate
    | 3 => (d.subYarn a.subId).map fun m =>
        { tap := .yarn m.id, yarns := [m.id], service := d.side a.target == 2, at_ := none, rho := a.rho, n := a.n,
          k := a.k, outr := a.outr, gate := a.gate, grid := none, dTap := measDelayNs a.rho a.mresp, from_ := none }
    | _ => none
  tap.map fun s => { s with
    grid := d.segAt a.gridSeg
    from_ := some (((conv : Int) - c.time.syncConv) * periodUnits, ranked) }

/-- The chain of a subscription in this tick. In the first tick of settings that replaced others at the tap, the old ones
delivered up to T0 (R343, R348). -/
def Dev.subChain (d : Dev) (c : Ctx) (x : Sub) : List ChainPart :=
  match d.subSet c x.a x.from_ x.ranked with
  | none => []
  | some s =>
    match x.old.bind fun o => d.subSet c o.1 o.2.1 o.2.2 with
    | some o =>
      if c.time.conv = x.from_ then
        [{ set := o, from_ := c.delivery.1, till := c.time.t0 }, { set := s, from_ := c.time.t0, till := c.delivery.2 }]
      else s.whole c
    | none => s.whole c

/-- The common part of a measurement record (Table LDL-8). -/
def measHead (kind flags sub tick : Nat) : Bytes :=
  leBytes 1 kind ++ leBytes 1 flags ++ leBytes 2 sub ++ leBytes 4 tick

/-- A level as a signed 16-bit field. -/
def level16 (x : Int) : Bytes := leBytes 2 (ofSigned 16 (satSigned 16 x))

/-- What is added to MEAN to refer it to the system input, in the dB unit (Table LDL-9). The front-end state
of a strand tap is that of the segment at its frequency. -/
def Dev.inputRef (d : Dev) (m : ModeSt) (a : MeasArgs) : Option Int :=
  let fe (g : Nat) (c2 : Int) (bg dir : Nat) : Option Int :=
    (d.feGain g 1 c2 (d.bel.set bg dir).lna).map fun f => 2 * dB - f
  match a.src with
  | 1 => (d.yarnSlot a.target).bind fun e => (d.segAt e.1).bind fun s =>
      fe (a.target / 16) (s.centre2 e.2) s.bg (if rxSide 0 = d.side (a.target / 16) then 0 else 1)
  | 2 => (d.kRx d.reef.plan m.belayMode (a.target % 32768)).map fun k => 2 * dB - k
  | 3 =>
    let dir := if rxSide 0 = d.side a.target then 0 else 1
    let bg := ((d.plan.committed.map (·.segs)).getD []).find? fun s =>
      s.has dir && !outside a.centreKhz s.fLo s.fHi
    match d.feGain a.target 1 (2 * (a.centreKhz : Int)) ((bg.map fun s => (d.bel.set s.bg dir).lna).getD 0) with
    | some f => some (2 * dB - f)
    | none => none
  | _ => none

/-- Merge one tick's integration (R349). -/
def ChainFig.merge (a f : ChainFig) : ChainFig :=
  { kind := 0
    sum := a.sum + f.sum
    peak := if a.incl = 0 then f.peak else max a.peak f.peak
    min := if a.incl = 0 then f.min else Min.min a.min f.min
    incl := a.incl + f.incl
    unsx := a.unsx
    gateNs := a.gateNs }

/-- One more tick of a subscription (R349); a tick without a figure is one without a value. -/
def Sub.take (s : Sub) (f : Option ChainFig) : Sub :=
  let s := { s with cnt := s.cnt + 1 }
  match f with
  | none => s
  | some f =>
    let acc : ChainFig := { s.acc with unsx := s.acc.unsx + f.unsx, gateNs := s.acc.gateNs + f.gateNs }
    if f.kind = 0 then { s with acc := acc.merge f }
    else { s with acc := acc, carry := if f.kind = 1 then s.carry + 1 else s.carry }

/-- The flags of a power record and the integration that it reports; none: no value. A merge is CARRY or NOVAL where every
tick of it is; a mix without a fresh tick has neither flag and no value (R349; DESIGN CHOICE, assumption 121). A CARRY case
with nothing to carry is NOVAL (R341; DESIGN CHOICE, assumption 123). -/
def Sub.merged (s : Sub) : Nat × Option ChainFig :=
  if 0 < s.acc.incl then (0, some s.acc)
  else if s.carry = s.cnt then
    match s.last with
    | some f => (1, some f)
    | none => (2, none)
  else (if 0 < s.carry then 0 else 2, none)

/-- A subscription after its record. -/
def Sub.clear (s : Sub) : Sub :=
  { s with cnt := 0, carry := 0, acc := ChainFig.none, last := if 0 < s.acc.incl then some s.acc else s.last }

/-- The power record of a subscription (Table LDL-9). -/
def Dev.powerRecord (d : Dev) (c : Ctx) (s : Sub) : Dev :=
  let (fl, fig) := s.merged
  let unsx := if fl = 1 then (fig.map (·.unsx)).getD 0 else s.acc.unsx
  let flags := fl + 4 * bitNat (c.mode == .hank) + 8 * bitNat (decide (0 < unsx))
  let input := d.inputRef c.modes s.a
  let body : Bytes := match fig with
    | some f =>
      let mean := d.level c f.mean
      let ref : Bytes := match input with
        | some r => level16 (coarse c.mode (round16 (mean * dB16 + r)))
        | none => leBytes 2 0x8000
      level16 mean ++ level16 (d.level c f.peak) ++ level16 (d.level c f.min) ++ ref
    | none =>
      let x := (Config.freeNoval d.free).toNat
      if input.isNone then leBytes 6 x ++ leBytes 2 0x8000 else leBytes 8 x
  let bytes := measHead 1 flags s.a.subId c.n ++ body ++ leBytes 4 ((fig.map (·.incl)).getD 0) ++ leBytes 4 unsx ++
    leBytes 4 s.acc.gateNs ++ zeros 4
  let d : Dev := { d with
    free := d.free + 1
    ldl := { d.ldl with noval := if fl = 2 then satAdd 8 d.ldl.noval 1 else d.ldl.noval } }
  d.record c 4 bytes (succ32 c.n)

/-- An isolation or path loss of a record; 0xFFFF unknown. -/
def isoField (m : Mode) (x : Option Int) : Bytes :=
  match x with
  | some i => level16 (coarse m i)
  | none => leBytes 2 0xFFFF

/-- The isolation record of a beam yarn (Table LDL-9). A tick whose figures were not delivered has no value: NOVAL, and its
isolations unknown (R347). -/
def Dev.isoRecord (d : Dev) (c : Ctx) (ok : Bool) (s : Sub) : Dev :=
  let byid := s.a.target % 32768
  let l := (d.can.loop byid).getD (Loop.start byid)
  let known (x : Option Int) : Bytes := isoField c.mode (if ok && l.known then x else none)
  let i := d.can.inst byid
  let taps := (i.map (·.active)).getD 0
  let bulk := (i.map (·.bulk)).getD l.bulk
  let bytes := measHead 2 (2 * bitNat !ok + 4 * bitNat (c.mode == .hank)) s.a.subId c.n ++ leBytes 2 byid ++
    known l.iPhys ++ known l.iEff ++ known l.preds[1]? ++ known l.preds[2]? ++ known l.preds[3]? ++
    leBytes 2 taps ++ leBytes 2 bulk ++ leBytes 2 l.win ++ zeros 6
  d.record c 4 bytes (succ32 c.n)

/-- The donor record of a band group (Table LDL-9); without a figure EPRE and EPRE_HI are free values. AGE counts from
the newest occasion, or from the last PL_d where no occasion is held. -/
def Dev.donorRecord (d : Dev) (c : Ctx) (donors : List DonorFig) (s : Sub) : Dev :=
  let seg := (d.plan.committed.bind fun p => p.segIndex s.a.target 1).getD 0xFF
  let f := donors.find? fun f => f.seg == seg
  let pl := d.bel.pathLoss.find? fun e => e.1 == s.a.target
  let body : Bytes := match f with
    | some f =>
      if 0 < f.occ then
        leBytes 1 f.cand ++ leBytes 1 f.beam ++ level16 (coarse c.mode f.epre) ++ level16 (coarse c.mode f.epreHi)
      else leBytes 1 0xFF ++ leBytes 1 f.beam ++ leBytes 4 (Config.freeNoval d.free).toNat
    | none => leBytes 1 0xFF ++ leBytes 1 (d.beams.group s.a.target).donor ++
        leBytes 4 (Config.freeNoval d.free).toNat
  let fresh := pl.any fun e => decide (sub32 c.n e.2.2 ≤ 2048)
  let at_ := ((f.filter fun f => decide (0 < f.occ)).map (·.tick)).or (pl.map (·.2.2))
  let bytes := measHead 3 (4 * bitNat (c.mode == .hank)) s.a.subId c.n ++ body ++
    isoField c.mode (if fresh then pl.map fun e => floor16 e.2.1 else none) ++
    leBytes 2 ((f.map (·.occ)).getD 0) ++
    leBytes 2 ((at_.map fun n => min (sub32 c.n n) 65535).getD 65535) ++ leBytes 1 seg ++ zeros 11
  let d : Dev := { d with free := d.free + 1 }
  d.record c 4 bytes (succ32 c.n)

/-- Whether a MEAS.SUB of the next Plan window deletes a subscription. -/
def Dev.subEnds (d : Dev) (n id : Nat) : Bool :=
  d.pend.any fun p => p.tick == n && match p.what with
    | .sub a => a.subId == id && a.action == 2
    | _ => false

/-- One subscription's Close (R341, R349): it merges the tick, and delivers its record where one is due. A deleted
subscription delivers its last record at the Close before. Figures that are not `ok` were not delivered (R347). -/
def Dev.closeSub (d : Dev) (c : Ctx) (donors : List DonorFig) (ok : Bool) (id : Nat) : Dev :=
  match d.ldl.subs.find? fun s => s.a.subId == id with
  | none => d
  | some s =>
    let parts := d.subChain c s
    let formed := d.tapFormed c s.a && !s.idle
    let s := if formed then s.take (if ok && !parts.isEmpty then some (d.integrate c parts) else none) else s
    let due := decide (0 < s.a.div) && decide (0 < s.cnt) &&
      (c.n % s.a.div + 1 == s.a.div || d.subEnds (succ32 c.n) id)
    let d := if due then
        (if s.a.src ≤ 3 then d.powerRecord c s
         else if s.a.src = 4 then d.isoRecord c ok s
         else d.donorRecord c donors s)
      else d
    let s := if due then s.clear else s
    let subs := d.ldl.subs.map fun x => if x.a.subId = id then s else x
    { d with ldl := { d.ldl with subs := subs } }

/-- The subscriptions' part of a Close. -/
def Dev.closeSubs (d : Dev) (c : Ctx) (donors : List DonorFig) : Dev :=
  (d.ldl.subs.map fun s => s.a.subId).foldl (fun d id => d.closeSub c donors true id)
    { d with ldl := { d.ldl with prevSubs := d.ldl.subs } }

/-- Close a subscription again without the figures of its tick: the record that was to leave is dropped, and counts in
NOVAL_CNT once. -/
def Dev.undeliver (d : Dev) (c : Ctx) (id : Nat) : Dev :=
  let mine (r : Staged) : Bool := r.ring == 4 && fieldAt r.bytes 2 2 == id && fieldAt r.bytes 4 4 == c.n &&
    byteAt r.bytes 0 != 4
  let counted := d.host.staged.any fun r => mine r && byteAt r.bytes 1 / 2 % 2 == 1
  let noval := d.ldl.noval
  let old := d.ldl.prevSubs.find? fun s => s.a.subId == id
  let d : Dev := { d with
    host := { d.host with staged := d.host.staged.filter fun r => !mine r }
    ldl := { d.ldl with subs := d.ldl.subs.map fun s => if s.a.subId = id then old.getD s else s } }
  let d := d.closeSub c [] false id
  if counted then { d with ldl := { d.ldl with noval := noval } } else d

/-- Leadline's close overruns on hawser h: N_s of the positions with a strand on it stands as it was, and its subscriptions
close without a figure (R347, Table TCK-2). -/
def Dev.subsOverrun (d : Dev) (c : Ctx) (h : Nat) : Dev :=
  let hit (e : Nat × Nat × Int) : Bool := (d.serviceYarns c e.1 e.2.1).any fun y => y.2 / 256 == h
  let noise := (d.ldl.noise.filter fun e => !hit e) ++ d.ldl.prevNoise.filter hit
  let ids := (d.ldl.subs.filter fun s => subOwner c.hawsers s.a == some h).map (·.a.subId)
  ids.foldl (fun d id => d.undeliver c id) { d with ldl := { d.ldl with noise := noise } }

end Sys2Proof.Machine
end

