-- ==== Sys2Proof/Machine/Capture.lean ====
section
/-! DEFINITION. Spectrum snapshots and captures (R351 to R358). -/

namespace Sys2Proof.Machine

/-! ## Spectrum snapshots (R351, R352) -/

/-- The first key of a TAG that no snapshot has. -/
def Dev.snapKey (d : Dev) (tag : Nat) : Nat :=
  let taken (k : Nat) : Bool := d.ldl.snaps.any (fun x => x.key == k) ||
    d.ldl.myarns.any fun m => m.owner == 3 && m.tag == k
  (((List.range (d.ldl.snaps.length + d.ldl.myarns.length + 1)).map fun i => tag + 65536 * i).find? fun k =>
    !taken k).getD tag

/-- SPEC.SNAP (R351). -/
def cmdSpecSnap (h : CmdHdr) (a : SnapArgs) (o : OutBuf) (s : State) : State :=
  s.onDev fun c d =>
    let key := d.snapKey a.tag
    let admitted := d.admitAll [mkYarn 3 key c.effTick a.strand a.centreKhz a.rho a.mresp]
    guarded 0x0602 h
      (outChecks o ++
        [(decide (c.strands ≤ a.strand), stBadArg), (!centreOk a.centreKhz, stBadArg),
          (outside a.rho 1 8, stBadArg), (decide (5 < a.mresp), stBadArg), (outside a.avg 1 64, stBadArg),
          (!modeAccepts c.mode 0x0602, stDenied), (decide (o.len < 16384), stNoRoom),
          (admitted.isNone, stNoRoom)])
      (fun d =>
        let d := admitted.getD d
        let x : Snap := { key := key, mark := 0, words := [], a := a, addr := o.addr, shed := 0 }
        ({ d with ldl := { d.ldl with snaps := d.ldl.snaps ++ [x] } }).ok 0x0602 h) d

def execSpecSnap (h : CmdHdr) (a : SnapArgs) (o : OutBuf) (s : State) : Host.Outcome State Fault Refusal :=
  .next (cmdSpecSnap h a o s.fetched)

/-- The SPECTRUM record of a snapshot (Table LDL-9). -/
def snapRecord (x : Snap) (m : Mode) (n : Nat) : Bytes :=
  measHead 4 (4 * bitNat (m == .hank)) x.a.tag n ++ leBytes 2 x.a.strand ++ leBytes 1 x.a.rho ++
    leBytes 1 x.shed ++ leBytes 4 x.a.centreKhz ++ leBytes 4 (if x.shed = 0 then 16384 else 0) ++
    leBytes 1 x.a.avg ++ zeros 11

/-- The yarn that a snapshot runs. -/
def Dev.snapYarn (d : Dev) (x : Snap) : Option MYarn :=
  d.liveYarns.find? fun m => m.owner == 3 && m.tag == x.key

/-- The first settled sample of a yarn after its last UNS run (R133). -/
def Conv.settledFrom (v : Conv) (id : Nat) : Nat :=
  ((v.uns.find? fun e => e.1 == id).map fun e => e.2.2 + e.2.1).getD 0

/-- The samples that a snapshot takes: AVG frames of 8,192. -/
def Snap.need (x : Snap) : Nat := 8192 * x.a.avg

/-- A snapshot takes the samples of its yarn up to an instant, from the end of the UNS run on (R352). -/
def Dev.fillSnap (d : Dev) (now : Int) (x : Snap) : Snap :=
  match d.snapYarn x with
  | none => x
  | some m =>
    if x.shed ≠ 0 then x
    else
      let tape := tapeOf d.tapes (.yarn m.id)
      let new := (tape.since (if x.words.isEmpty then d.conv.settledFrom m.id else x.mark)).filter fun k =>
        decide (sampleAt m.rho k < now)
      let ks := new.take (x.need - x.words.length)
      { x with
        mark := (new.getLast?.map (· + 1)).getD x.mark
        words := (ks.map fun k => tape.value (k : Int)).reverse ++ x.words }

/-- The four-term Blackman-Harris window of 8,192 points. PRESUMED (assumption 94): R352 names it without its
coefficients. -/
def blackmanHarris (n : Nat) : Rat :=
  let c (j : Nat) : Rat := (turn ((j * n : Nat) : Int) 8192).re
  35875 / 100000 - 48829 / 100000 * c 1 + 14128 / 100000 * c 2 - 1168 / 100000 * c 3

/-- The windowed frames of a snapshot. -/
def Snap.frames (x : Snap) : List (List Cx) :=
  let ws := x.words.reverse
  (List.range x.a.avg).map fun j =>
    ((List.range 8192).zip ((ws.drop (8192 * j)).take 8192)).map fun e => e.2.scale (blackmanHarris e.1)

/-- The power of bin b: the mean over the frames, at the level at which a tone on the bin reads its own (R352). -/
def binPower (frames : List (List Cx)) (b : Nat) : Rat :=
  let gain : Rat := 8192 * 35875 / 100000
  (frames.map fun f => (dftBin f ((b : Int) - 4096)).sq).sum / ((frames.length : Rat) * (gain * gain))

/-- The bins as they are written: 8,192 signed values of 16 bits, in 1/16 dBFS. -/
def Snap.bins (x : Snap) (free : Nat) : Bytes :=
  let fs := x.frames
  (List.range 8192).flatMap fun b => level16 (powerLevel16 (binPower fs b) free)

/-- A time of a past or coming tick, on the nominal grid, as the present grid counts it. -/
def Ctx.unitsAt (c : Ctx) (t : Nat × Int) : Int := c.time.t0 + dist32 t.1 c.n * 19200000000 + t.2

/-- A tick and an offset in 10 ns in these units. -/
def Ctx.instant (c : Ctx) (tick sub : Nat) : Int := c.unitsAt (tick, 10 * nsUnits * sub)

/-- Up to which instant Leadline has samples: now where it runs (R336), in LATCHED when that was entered. -/
def Dev.sampledTo (d : Dev) (c : Ctx) (now : Int) : Option Int :=
  if leadlineRuns c.mode then some now else d.ldl.stopped.map fun e => min now (c.instant e.1 e.2)

/-- The running snapshots take the samples up to now. -/
def Dev.fillSnaps (d : Dev) (c : Ctx) (now : Int) : Dev :=
  match d.sampledTo c now with
  | none => d
  | some till => { d with ldl := { d.ldl with snaps := d.ldl.snaps.map (d.fillSnap till) } }

/-- The snapshot of a TAG that ends: one that was shed or stopped, or has all its samples while bus mastering is on. -/
def Dev.snapReady (d : Dev) (tag : Nat) : Option Snap :=
  d.ldl.snaps.find? fun x => x.a.tag == tag && (x.shed == 1 || x.shed == 2 ||
    (x.shed == 0 && d.host.mastering && decide (x.need ≤ x.words.length)))

/-- A snapshot ends (R352): after its last sample its bins are written and its record posted, or the record alone where it
was shed or stopped. Its yarn is freed at the next Plan window. The write waits while bus mastering is stopped. -/
def execSpecSnapDone (tag : Nat) (x : Samples) (s : State) : Host.Outcome State Fault Refusal :=
  let s := (s.feed x).onDev fun c d => d.fillSnaps c (c.time.at10 c.time.sub)
  match s.dev.snapReady tag with
  | none => .next s
  | some x => .next (s.onDev fun c d =>
      let y : Snap := { x with shed := 3, words := [] }
      let d : Dev := { d with
        free := d.free + 1
        ldl := { d.ldl with
          snaps := d.ldl.snaps.map fun z => if z.key = x.key then y else z
          snapShed := if x.shed = 0 then d.ldl.snapShed else satAdd 8 d.ldl.snapShed 1 }
        host := if x.shed = 0 then { d.host with written := some (x.addr, x.bins d.free) } else d.host }
      d.record c 4 (snapRecord x c.mode c.n) (succ32 c.n))

/-- The Plan window frees the yarns of the snapshots whose records were posted. -/
def Dev.freeSnaps (d : Dev) : Dev :=
  let gone := d.ldl.snaps.filter fun x => x.shed == 3
  gone.foldl (fun d x => ({ d with ldl := { d.ldl with snaps := d.ldl.snaps.erase x } } : Dev).freeYarns 3 x.key) d

/-! ## CAPTURE.ARM (R353 to R355) -/

/-- One source entry (Table HST-12). -/
structure CapSrc where
  kind : Nat
  rho : Nat
  mresp : Nat
  id : Nat
  centreKhz : Nat
  deriving DecidableEq, Repr, Inhabited

def capSrcOf (b : Bytes) : CapSrc :=
  { kind := byteAt b 0, rho := byteAt b 1, mresp := byteAt b 2, id := fieldAt b 4 2,
    centreKhz := fieldAt b 8 4 }

/-- The source entries of a buffer. -/
def capEntries (n : Nat) (b : Bytes) : List Bytes := (List.range n).map fun i => (b.drop (16 * i)).take 16

/-- A source is out of range. -/
def Dev.capSrcBad (d : Dev) (m : Member) (x : CapSrc) : Bool :=
  match x.kind with
  | 1 => decide (Config.yarns m ≤ x.id)
  | 2 => byidSlot x.id == 1 || decide (Config.serviceBeams m ≤ byidBeam x.id)
  | 3 => decide (Config.strands m ≤ x.id) || !centreOk x.centreKhz || outside x.rho 1 8 ||
      decide (5 < x.mresp)
  | 4 => !(d.ldl.subs.any fun s => s.a.subId == x.id && decide (s.a.src ≤ 3))
  | _ => true

/-- The output rate of an output code, outputs per second, rounded up: symbol codes count their symbols. -/
def outRate (outr : Nat) : Nat := [14000, 28000, 3637, 1000000, 250000, 62500, 15625].getD outr 0

/-- The bit rate of a source, bit/s (R354, R355): a tap that the committed plan does not hold has none. -/
def Dev.capRate (d : Dev) (format : Nat) (x : CapSrc) : Nat :=
  let bits := if format = 0 then 32 else 16
  match x.kind with
  | 1 | 2 => ((d.tapRate x.kind x.id).map fun r => rateHz r.1 * bits).getD 0
  | 3 => rateHz x.rho * bits
  | 4 => ((d.ldl.subs.find? fun s => s.a.subId == x.id).map fun s => outRate s.a.outr * 32).getD 0
  | _ => 0

/-- The sub-ring of each source in bytes (R355). -/
def subRing (sizeMb nsrc : Nat) : Nat := if nsrc = 0 then 0 else sizeMb * 1048576 / nsrc / 4096 * 4096

/-- The fields of a CAPTURE.ARM out of range, its sources aside. -/
def capArmBad (m : Member) (dens : Nat) (a : CapArgs) : Bool :=
  decide (15 < a.bufc) || decide (128 < a.nsrc) ||
    (a.nsrc != 0 && (decide (1 < a.format) || decide (3 < a.trig) || outside a.sizeMb 1 (captureMb dens) ||
      a.preUs + a.postUs == 0 || (a.trig == 2 && decide (127 < a.targ)) ||
      (a.trig == 3 && (decide (95 < a.targ) || !((List.range 256).any fun u => sourceFits m a.targ u)))))

/-- The bit rate of the buffers that write (R355, Table LDL-12). -/
def Dev.capRates (d : Dev) : Nat := ((d.ldl.caps.filter Cap.writing).map (·.rate)).sum

/-- The capture region that the buffers other than c hold, MB. -/
def Dev.capMbOthers (d : Dev) (c : Nat) : Nat :=
  (((List.range 16).filter fun i => i != c).map fun i =>
    let b := d.ldl.caps.getD i default
    if b.state = 0 then 0 else b.a.sizeMb).sum

/-- The measurement yarns of a capture, from tick n on. -/
def capYarns (n c : Nat) (xs : List CapSrc) : List MYarn :=
  (xs.filter fun x => x.kind == 3).map fun x => mkYarn 2 c n x.id x.centreKhz x.rho x.mresp

/-- CAPTURE.ARM (R354, R355). With NSRC 0 it takes no buffer. -/
def cmdCaptureArm (h : CmdHdr) (a : CapArgs) (b : InBuf) (s : State) : State :=
  s.onDev fun c d =>
    let es := capEntries a.nsrc (b.data.take b.len)
    let xs := es.map capSrcOf
    let rates := xs.map fun x => d.capRate a.format x
    let ring := subRing a.sizeMb a.nsrc
    let span := a.preUs + a.postUs
    let admitted := d.admitAll (capYarns c.effTick a.bufc xs)
    let state := (d.ldl.caps.getD a.bufc default).state
    let buf := if a.nsrc = 0 then [] else inChecks b (16 * a.nsrc)
    guarded 0x0603 h
      ((capArmBad c.ident.member d.mem.dens a, stBadArg) :: buf ++
        [(xs.any fun x => d.capSrcBad c.ident.member x, stBadArg),
          (rates.any fun r => decide (8000000 * ring < r * span), stBadArg),
          (!modeAccepts c.mode 0x0603, stDenied), (a.nsrc != 0 && (state == 1 || state == 2), stBusy),
          (a.nsrc != 0 && d.mem.march.any fun m => m.a.die == 8 && m.a.mode == 2, stBusy),
          (a.nsrc != 0 && decide (2000000000000 < d.capRates + rates.sum), stNoRoom),
          (a.nsrc != 0 && decide (captureMb d.mem.dens < d.capMbOthers a.bufc + a.sizeMb), stNoRoom),
          (admitted.isNone, stNoRoom)])
      (fun d => (admitted.getD d).planned c 0x0603 h (.arm a es rates.sum ring)) d

def execCaptureArm (h : CmdHdr) (a : CapArgs) (b : InBuf) (s : State) : Host.Outcome State Fault Refusal :=
  .next (cmdCaptureArm h a b s.fetched)

/-- The rate code of a source as the committed plan has it, of a subscription the output code. -/
def Dev.capRho (d : Dev) (x : CapSrc) : Nat :=
  if x.kind = 3 then x.rho
  else if x.kind = 4 then ((d.ldl.subs.find? fun s => s.a.subId == x.id).map (·.a.outr)).getD 0
  else ((d.tapRate x.kind x.id).map (·.1)).getD 0

/-- The measurement yarns that an accepted CAPTURE.ARM of a buffer reserved. -/
def armYarns (bufc : Nat) (p : PendWhat) : Nat :=
  match p with
  | .arm a es _ _ => if a.bufc = bufc then (capYarns 0 bufc (es.map capSrcOf)).length else 0
  | _ => 0

/-- Whether a buffer has stored a sample since it was armed. -/
def Cap.stored (b : Cap) : Bool := b.wrote.any fun n => decide (0 < n)

/-- What a CAPTURE.ARM changes at its Plan window: the buffer arms with an empty ring, or goes to IDLE and
frees its yarns. Those that later commands for the buffer reserved stay reserved. The pages of a buffer are clean where no
buffer that stored a sample has given up its pages since the wipe (R454). -/
def Dev.applyArm (d : Dev) (n : Nat) (later : List PendWhat) (a : CapArgs) (srcs : List Bytes) (rate ring : Nat) : Dev :=
  let dirty := d.mem.capDirty || (d.ldl.caps.getD a.bufc default).stored
  let b : Cap :=
    if a.nsrc = 0 then default
    else { (default : Cap) with
      clean := !dirty && !d.ldl.caps.any fun x => x.state == 0 && x.stored
      rings := srcs.map fun _ => [], marks := srcs.map fun _ => (n, 0), rhos := srcs.map fun e => d.capRho (capSrcOf e),
      state := 1, a := a, srcs := srcs, rate := rate, subRing := ring, armTick := n, armSub := 0 }
  let d := d.keepNewest 2 a.bufc (((.arm a srcs rate ring :: later).map (armYarns a.bufc)).sum)
  { d with
    ldl := { d.ldl with caps := d.ldl.caps.set a.bufc b }
    mem := { d.mem with capDirty := dirty } }

/-! ## The rings (R354, R356) -/

/-- Whether a capture source is formed: a tap that the committed plan holds. -/
def Dev.capFormed (d : Dev) (c : Ctx) (e : Bytes) : Bool :=
  let x := capSrcOf e
  match x.kind with
  | 1 => d.hasRx x.id && (d.heldYarns d.reef.plan (x.id / 16)).any fun y => y.1 == x.id % 16
  | 2 => decide (x.id % 32768 ∈ d.formedNow c)
  | 4 => (d.ldl.subs.find? fun s => s.a.subId == x.id).any fun s => d.tapFormed c s.a
  | _ => true

/-- Where the samples of a formed source are, with its rate code. -/
def Dev.capTap (d : Dev) (bufc : Nat) (x : CapSrc) : Option (Tap × Nat) :=
  match x.kind with
  | 1 => (d.tapRate 1 x.id).map fun r => (.yarn x.id, r.1)
  | 2 => (d.tapRate 2 x.id).map fun r => (.stage5 (x.id % 32768), r.1)
  | 3 => (d.liveYarns.find? fun m => m.owner == 2 && m.tag == bufc && m.g == x.id && m.centreKhz == x.centreKhz &&
      m.rho == x.rho && m.mresp == x.mresp).map fun m => (.yarn m.id, m.rho)
  | _ => none

/-- A sample as a capture keeps it: I below Q, whole, or the upper 8 bits of each, rounded and saturating (R354). -/
def capWord (format : Nat) (z : Cx) : Nat :=
  let half (r : Rat) : Nat :=
    if format = 0 then ofSigned 16 (satSigned 16 (nearest r)) else ofSigned 8 (satSigned 8 (nearest (r / 256)))
  half z.re + half z.im * (if format = 0 then 65536 else 256)

/-- The bytes of a kept word. -/
def capWidth (format kind : Nat) : Nat := if format = 0 ∨ kind = 4 then 4 else 2

/-- What a source gained since its mark, oldest first: the contact time and the word of each sample up to now. A source
that is not formed has zeros (R356). Outputs of a subscription, 32-bit linear powers, are gained at the Close. -/
def Dev.capGained (d : Dev) (c : Ctx) (now : Int) (bufc format : Nat) (e : Bytes) (from_ : Int) (rho0 : Nat) :
    List (Int × Nat) :=
  let x := capSrcOf e
  let formed := d.capFormed c e
  if x.kind = 4 then
    let sub := d.ldl.subs.find? fun s => s.a.subId == x.id
    let parts := (sub.map fun s => d.subChain c s).getD []
    let all : List (Int × Nat) :=
      if formed ∧ !parts.isEmpty then
        parts.flatMap fun p => (d.chainOutputs c p).map fun o => (o.1, min (nearest o.2.1).toNat (two32 - 1))
      else if parts.isEmpty then
        (outTimes c rho0 (sub.bind fun s => d.segAt s.a.gridSeg) c.delivery.1 c.delivery.2).map fun t => (t, 0)
      else parts.flatMap fun p => (p.set.times c p.span.1 p.span.2).map fun t => (t, 0)
    if c.time.window ≠ .close then [] else all.filter fun o => decide (from_ ≤ o.1)
  else
    match if formed then d.capTap bufc x else none with
    | some (p, rho) =>
      let tape := tapeOf d.tapes p
      ((tape.since (firstSample rho from_)).filter fun k => decide (sampleAt rho k < now)).map fun k =>
        (sampleAt rho k, capWord format (tape.value (k : Int)))
    | none => (indices (firstSample rho0 from_) (firstSample rho0 now)).map fun k => (sampleAt rho0 k, 0)

/-- The oldest contact time that a buffer may still keep: an ARMED one may be triggered up to a tick back. -/
def Cap.oldest (b : Cap) (c : Ctx) (now : Int) : Int :=
  if b.state = 1 then now - (b.a.preUs + 500 : Nat) * usUnits else c.instant b.startTick b.startSub

/-- A buffer takes what its sources gained, and drops what it can no longer keep; a shed one writes nothing (Table
REF-5). -/
def Dev.fillCap (d : Dev) (c : Ctx) (now : Int) (bufc : Nat) (b : Cap) : Cap :=
  if !b.writing ∧ !b.recDue then b
  else
    let old := b.oldest c now
    let inside (w : CapWord) : Bool := b.state == 1 || decide (c.unitsAt (w.tick, w.off) < c.instant b.endTick b.endSub)
    let shed := d.reef.plan.item1 3 bufc
    let rows := (List.range b.srcs.length).map fun i =>
      let mark := b.marks.getD i (c.n, 0)
      let new := d.capGained c now bufc b.a.format (b.srcs.getD i []) (c.unitsAt mark) (b.rhos.getD i 0)
      let ws : List CapWord := new.map fun e => { tick := c.n, off := e.1 - c.time.t0, word := e.2 }
      let next : Nat × Int := match new.getLast? with
        | some e => (c.n, e.1 - c.time.t0 + 1)
        | none => mark
      (((if shed then [] else ws.reverse) ++ b.rings.getD i []).takeWhile fun w => decide (old ≤ c.unitsAt (w.tick, w.off)),
        next, b.wrote.getD i 0 + (if shed then 0 else ws.countP inside))
    { b with rings := rows.map (·.1), marks := rows.map (·.2.1), wrote := rows.map (·.2.2) }

/-- Snapshots and captures take the samples up to now (R352, R356). -/
def Dev.fillRings (d : Dev) (c : Ctx) (now : Int) : Dev :=
  match d.sampledTo c now with
  | none => d
  | some till =>
    let d := d.fillSnaps c now
    { d with ldl := { d.ldl with
        caps := ((List.range d.ldl.caps.length).zip d.ldl.caps).map fun e => d.fillCap c till e.1 e.2 } }

/-- A staging overflow of a buffer in BB3 drops the samples of this tick between two offsets in 10 ns, which is a gap
(R356, R378). A HELD buffer without its record loses those before its end instant. -/
def Dev.dropStaged (d : Dev) (c : Ctx) (e : Nat × Nat × Nat) : Dev :=
  let gone (w : CapWord) : Bool := w.tick == c.n && decide (10 * nsUnits * e.2.1 ≤ w.off) &&
    decide (w.off < 10 * nsUnits * e.2.2)
  let hit (b : Cap) : Bool := b.writing || (b.recDue && decide (elapsed10 c.n e.2.1 b.endTick b.endSub > 0))
  let drop (b : Cap) : Cap :=
    if hit b then { b with gap := true, rings := b.rings.map fun r => r.filter fun w => !gone w } else b
  { d with ldl := { d.ldl with
      caps := d.ldl.caps.modify e.1 drop
      gapCnt := if hit (d.ldl.caps.getD e.1 default) then satAdd 8 d.ldl.gapCnt 1 else d.ldl.gapCnt } }

/-! ## Trigger, end and record (R356, R357) -/

/-- Whether the condition of a buffer's TRIG holds at an instant (R354). -/
def State.capFires (s : State) (b : Cap) (sub : Nat) : Bool :=
  match b.a.trig with
  | 1 => b.a.targ == s.time.n && sub == 0
  | 2 => s.dev.book.bursts.any fun x =>
    x.bg == b.a.targ / 16 % 8 && x.pos == b.a.targ % 16 && x.onTick == s.time.n && x.on10 == sub
  | 3 =>
    let x := s.dev.stop.src b.a.targ
    x.bit && x.lastTick == s.time.n && x.lastSub == sub
  | _ => false

/-- A trigger instant of buffer c (R356). Mutes trigger with their imposition. -/
def execCaptureTrigger (c : Nat) (sub : Nat) (s : State) : Host.Outcome State Fault Refusal :=
  match s.dev.ldl.caps[c]? with
  | none => .next s
  | some b =>
    if b.state ≠ 1 ∨ !s.capFires b sub then .next s
    else .next { s with dev :=
      { s.dev with ldl := { s.dev.ldl with
          caps := s.dev.ldl.caps.set c (b.trigger b.a.trig 0 s.time.n sub)
          trigCnt := satAdd 8 s.dev.ldl.trigCnt 1 } } }

/-- The end instant of buffer c: it is HELD and its measurement yarns are free (R353). -/
def execCaptureEnd (c : Nat) (sub : Nat) (s : State) : Host.Outcome State Fault Refusal :=
  match s.dev.ldl.caps[c]? with
  | none => .next s
  | some b =>
    if b.state ≠ 2 ∨ elapsed10 b.endTick b.endSub s.time.n sub < 0 then .next s
    else
      let d : Dev := { s.dev with ldl := { s.dev.ldl with
        caps := s.dev.ldl.caps.set c (b.endNow b.endTick b.endSub) } }
      .next { s with dev := d.freeYarns 2 c }

/-- The words of a sub-ring whose contact times lie in the kept interval, newest first (R356). -/
def Cap.kept (b : Cap) (c : Ctx) (ws : List CapWord) : List CapWord :=
  let lo := c.instant b.startTick b.startSub
  let hi := c.instant b.endTick b.endSub
  ws.filter fun w =>
    let u := c.unitsAt (w.tick, w.off)
    decide (lo ≤ u) && decide (u < hi)

/-- The tick and the offset in 10 ns of a kept word. -/
def CapWord.place (w : CapWord) : Nat × Nat :=
  if w.off < 0 then ((w.tick + two32 - 1) % two32, (floorDiv (w.off + 19200000000) (10 * nsUnits)).toNat)
  else (w.tick, (floorDiv w.off (10 * nsUnits)).toNat)

/-- The buffer with its start at the first kept contact time; with nothing kept, the start of the interval
(R357; DESIGN CHOICE, assumption 126). -/
def Cap.startFirst (b : Cap) (c : Ctx) : Cap :=
  let firsts := b.rings.filterMap fun r => (b.kept c r).getLast?
  match firsts.foldl (fun m w => match m with
    | none => some w
    | some v => if c.unitsAt (w.tick, w.off) < c.unitsAt (v.tick, v.off) then some w else some v) none with
  | none => b
  | some w => { b with startTick := w.place.1, startSub := w.place.2 }

/-- The capture ring record (Table LDL-11). -/
def Cap.record (b : Cap) (c : Nat) : Bytes :=
  leBytes 1 c ++ leBytes 1 b.cause ++ leBytes 1 b.muteTrig ++
    leBytes 1 (bitNat b.preShort + 2 * bitNat b.gap + 4 * (b.a.format % 2)) ++ leBytes 4 b.trigTick ++
    leBytes 2 b.trigSub ++ leBytes 2 b.srcs.length ++ leBytes 4 b.startTick ++ leBytes 2 b.startSub ++
    zeros 2 ++ leBytes 4 b.subRing ++ leBytes 4 b.endTick ++ leBytes 2 b.endSub ++ zeros 2

/-- A sub-ring as it is held: the words whose contact times lie in the kept interval, in grid order, from offset 0 on
(R356, R357). -/
def Cap.held (b : Cap) (c : Ctx) (i : Nat) : Bytes :=
  let width := capWidth b.a.format (capSrcOf (b.srcs.getD i [])).kind
  ((b.kept c (b.rings.getD i [])).reverse.flatMap fun w => leBytes width w.word).take b.subRing

/-- The sub-rings of a HELD buffer are rotated and its record is posted, due 64 ticks after the end
(R357). -/
def execCaptureRecord (c : Nat) (x : Samples) (s : State) : Host.Outcome State Fault Refusal :=
  let s := s.feed x
  match s.dev.ldl.caps[c]? with
  | none => .next s
  | some b =>
    if b.state ≠ 3 ∨ !b.recDue then .next s
    else .next (s.onDev fun x d =>
      let now := x.time.at10 x.time.sub
      let b := match d.sampledTo x now with
        | none => b
        | some till => d.fillCap x till c b
      let y : Cap := { b.startFirst x with
        recDue := false, rings := [], marks := [], data := (List.range b.srcs.length).map fun i => b.held x i }
      ({ d with ldl := { d.ldl with caps := d.ldl.caps.set c y } }).record x 5 (y.record c)
        ((b.endTick + 64) % two32))

/-- Whether a byte of a sub-ring outside its `kept` first bytes has not been written since the wipe (R454): the pages were
clean, and the bytes stored before the kept ones end where the sub-ring ends. -/
def Cap.unwritten (b : Cap) (s kept j : Nat) : Bool :=
  b.clean && decide (j + (b.wrote.getD s 0 * capWidth b.a.format (capSrcOf (b.srcs.getD s [])).kind - kept) < b.subRing)

/-- A byte of a held buffer: sub-ring s lies at s x SUBRING. Outside the kept samples it is zero where nothing was written
since the wipe (R454), else free. -/
def Cap.byte (b : Cap) (i : Nat) : Byte :=
  let s := i / b.subRing
  let j := i % b.subRing
  let data := b.data.getD s []
  (data[j]?).getD (if b.unwritten s data.length j then 0#8 else Config.freeSample b.a.bufc b.armTick i)

/-- CAPTURE.READ (R512). -/
def cmdCaptureRead (h : CmdHdr) (bufc offset : Nat) (o : OutBuf) (s : State) : State :=
  s.onDev fun c d =>
    let b := d.ldl.caps.getD bufc default
    let beyond := b.state == 3 && decide (b.srcs.length * b.subRing < offset + o.len)
    guarded 0x0604 h
      (outChecks o ++
        [(decide (15 < bufc), stBadArg), (decide (offset % 4 ≠ 0), stBadArg), (decide (o.len % 4 ≠ 0), stBadArg),
          (beyond, stBadArg), (!modeAccepts c.mode 0x0604, stDenied), (b.state != 3, stDenied)])
      (fun d => d.startOutput 0x0604 h o.addr ((List.range o.len).map fun i => b.byte (offset + i))
        (leBytes 4 o.len) (some bufc)) d

def execCaptureRead (h : CmdHdr) (bufc offset : Nat) (o : OutBuf) (s : State) :
    Host.Outcome State Fault Refusal :=
  .next (cmdCaptureRead h bufc offset o s.fetched)

/-! ## What a commit does to captures (R356) -/

/-- Mark the writing buffers of which the commit stops forming a source (R356). -/
def Dev.capGaps (old d : Dev) (oldC c : Ctx) : Dev :=
  ((List.range 16).filter fun i =>
    ((d.ldl.caps.getD i default).srcs).any fun e => old.ungated.capFormed oldC e && !d.ungated.capFormed c e).foldl
    (fun d i => d.capGap i) d

end Sys2Proof.Machine
end

