-- ==== Sys2Proof/Machine/Logline.lean ====
section
/-! DEFINITION. The Logline store, authorisation tokens, keys and the lifecycle (spec/15_faults_and_logline.md,
R473 to R490). -/

namespace Sys2Proof.Machine

/-! ## Records (R473 to R477) -/

/-- The sizes of the pinned region and the general ring in bytes (Table STP-5). -/
def pinnedBytes : Nat := 1048576
def ringBytes : Nat := 7143424

/-- The length of a record. -/
def LogRec.len (r : LogRec) : Nat := 16 + r.payload.length

/-- The bytes of a record: its header and its payload (Table STP-6). -/
def LogRec.bytes (r : LogRec) : Bytes :=
  leBytes 2 r.len ++ leBytes 2 r.typ ++ leBytes 4 r.optime ++ leBytes 4 r.pcc ++ leBytes 4 r.seq ++ r.payload

/-- The bytes that records hold. -/
def logBytes (l : List LogRec) : Nat := (l.map LogRec.len).sum

/-- Drop the oldest records until the rest fits a limit; `t` is what all of them hold. -/
def trimRing (limit : Nat) : Nat → List LogRec → List LogRec
  | _, [] => []
  | t, r :: rs => if t ≤ limit then r :: rs else trimRing limit (t - r.len) rs

/-- A record with the next SEQ. -/
def NvSt.newRec (v : NvSt) (optime typ : Nat) (payload : Bytes) : LogRec :=
  { seq := v.seq, typ := typ, optime := optime, pcc := v.pcc, payload := payload }

/-- Write a record at the ring's position, overwriting the oldest whole records (R476). -/
def NvSt.putAtRing (v : NvSt) (r : LogRec) : NvSt :=
  let ring := v.ring ++ [r]
  { v with
    ring := trimRing ringBytes (logBytes ring) ring
    ringPos := (v.ringPos + r.len) % ringBytes
    seq := succ32 v.seq }

/-- Write a record to the general ring; a padding record fills a remainder that is too short (R476). -/
def NvSt.putRing (v : NvSt) (optime typ : Nat) (payload : Bytes) : NvSt :=
  let left := ringBytes - v.ringPos
  let v := if left < 16 + payload.length then v.putAtRing (v.newRec optime 0 (zeros (left - 16))) else v
  v.putAtRing (v.newRec optime typ payload)

/-- Whether the pinned region has room for a record. -/
def NvSt.pinRoom (v : NvSt) (len : Nat) : Bool := decide (logBytes v.pinned + len ≤ pinnedBytes)

/-- Write a record to its region; one meant for a full pinned region goes to the ring (R477). -/
def NvSt.putLog (v : NvSt) (optime typ : Nat) (pinned : Bool) (payload : Bytes) : NvSt :=
  if pinned && v.pinRoom (16 + payload.length) then
    { v with pinned := v.pinned ++ [v.newRec optime typ payload], seq := succ32 v.seq }
  else v.putRing optime typ payload

/-- Write a record with PIN_FULL and its raise, which comes once per power cycle (R477). -/
def State.putLog (s : State) (typ : Nat) (pinned : Bool) (payload : Bytes) : State :=
  let full := pinned && !s.nv.pinRoom (16 + payload.length)
  let s := { s with nv := s.nv.putLog s.dev.log.optime typ pinned payload }
  if full then
    let due := !s.dev.log.pinRaised
    s.onDev fun c d =>
      let d : Dev := { d with log := { d.log with pinFull := true, pinRaised := true } }
      if due then d.raise c 1 2 1 c.time.sub else d
  else s

/-- Write the record of a command: while a clear runs it waits, for its SEQ lies above the clear record's
(R482). -/
def State.logNow (s : State) (typ : Nat) (pinned : Bool) (payload : Bytes) : State :=
  if s.dev.log.clear.isSome then { s with dev := s.dev.logRec typ pinned payload }
  else s.putLog typ pinned payload

/-- The oldest staged record is written to the MRAM and the mirror; where both tries fail their read-back the
record is lost (R476, R477). While a clear runs the records wait for its clear record (R482). -/
def execLoglineRecordWrite (readback : Bool) (s : State) : Host.Outcome State Fault Refusal :=
  match s.dev.log.staged with
  | [] => .next s
  | r :: rest =>
    if s.dev.log.clear.isSome then .next s
    else
      let s := { s with dev := { s.dev with log := { s.dev.log with staged := rest } } }
      if readback then .next (s.putLog r.typ r.pinned r.payload)
      else .next (s.onDev fun c d => d.raise c 1 3 1 c.time.sub)

/-- Every 60 s OPTIME is saved to the control area (R474). -/
def execOptimeSave (s : State) : Host.Outcome State Fault Refusal :=
  if s.dev.log.optime < s.nv.optime + 60 then .next s
  else .next { s with nv := { s.nv with optime := s.dev.log.optime } }

/-! ## LOG.READ (R479, R483) -/

/-- Records in ascending SEQ. -/
def bySeq (l : List LogRec) : List LogRec := sortBy (fun a b => decide (0 ≤ dist32 b.seq a.seq)) l

/-- The records of a region, in ascending SEQ. -/
def NvSt.region (v : NvSt) (region : Nat) : List LogRec :=
  if region = 1 then v.ring else if region = 2 then v.pinned else bySeq (v.ring ++ v.pinned)

/-- Whole items that fit a length, with what is left over. -/
def takeWhole : Nat → List Bytes → List Bytes
  | _, [] => []
  | n, b :: bs => if b.length ≤ n then b :: takeWhole (n - b.length) bs else []

/-- One entry of the calibration store (R483): its data is opaque. -/
def calEntryBytes (g : Nat) (e : CalEntry) : Bytes :=
  let data := leBytes 500 (Config.freeCalData g e.gen).toNat
  leBytes 2 g ++ leBytes 1 (bitNat e.valid) ++ zeros 1 ++ leBytes 2 (ofSigned 16 e.temp) ++ zeros 2 ++
    leBytes 4 (crc32 data) ++ data

/-- What LOG.READ reads, with the SEQ of each item. -/
def State.logItems (s : State) (region fromSeq : Nat) : List (Nat × Bytes) :=
  if region = 4 then
    (List.range s.ctx.strands).map fun g => (0, calEntryBytes g (s.nv.calStore.getD g { valid := false, temp := 0, gen := 0 }))
  else
    ((s.nv.region region).filter fun r => decide (0 ≤ dist32 r.seq fromSeq)).map fun r => (r.seq, r.bytes)

/-- LOG.READ (R479). -/
def cmdLogRead (h : CmdHdr) (region fromSeq : Nat) (o : OutBuf) (s : State) : State :=
  let items := s.logItems region fromSeq
  let out := takeWhole o.len (items.map (·.2))
  let next := ((items[out.length]?).map (·.1)).getD (if region = 4 then 0 else s.nv.seq)
  s.onDev fun c d =>
    guarded 0x0801 h
      (outChecks o ++
        [(decide (o.len % 4 ≠ 0), stBadArg), (outside region 1 4, stBadArg), (!modeAccepts c.mode 0x0801, stDenied),
          (!items.isEmpty && out.isEmpty, stNoRoom)])
      (fun d => d.startOutput 0x0801 h o.addr out.flatten
        (leBytes 4 out.flatten.length ++ leBytes 4 out.length ++ leBytes 4 next)) d

def execLogRead (h : CmdHdr) (region fromSeq : Nat) (o : OutBuf) (s : State) :
    Host.Outcome State Fault Refusal :=
  .next (cmdLogRead h region fromSeq o s.fetched)

/-! ## Nonce and tokens (R480, R481) -/

/-- LOG.NONCE (R480): the new nonce replaces the one held. -/
def cmdLogNonce (h : CmdHdr) (o : OutBuf) (s : State) : State :=
  s.onDev fun c d =>
    guarded 0x0802 h
      (outChecks o ++ [(!modeAccepts c.mode 0x0802, stDenied), (decide (o.len < 96), stNoRoom)])
      (fun d =>
        let nonce := (Config.freeNonce d.free).toNat
        let head := leBytes 16 nonce ++ leBytes 8 c.ident.serial ++ leBytes 4 c.nv.pcc ++ zeros 4
        let sig := leBytes 32 (Config.freeIdSigR c.nv.idGen (leNat head)).toNat ++
          leBytes 32 (Config.freeIdSigS c.nv.idGen (leNat head)).toNat
        ({ d with free := d.free + 1, log := { d.log with nonce := some nonce } }).startOutput 0x0802 h o.addr
          (head ++ sig) []) d

def execLogNonce (h : CmdHdr) (o : OutBuf) (s : State) : Host.Outcome State Fault Refusal :=
  .next (cmdLogNonce h o s.fetched)

/-- The key of a slot. -/
def NvSt.key (v : NvSt) (slot : Nat) : Option Bytes := (v.keys[slot]?).bind id

/-- A token of 144 bytes passes the check of R481 for a purpose, its ARG, PARAM and DIGEST as the command
needs them (Table STP-9). -/
def tokenOk (v : NvSt) (serial : Nat) (nonce : Option Nat) (t : Bytes) (purpose arg param : Nat)
    (digest : Bytes) : Bool :=
  let slot := byteAt t 5
  decide (144 ≤ t.length) && fieldAt t 0 4 == 0x4B4F5441 && byteAt t 4 == purpose &&
    (purpose == 1 || slot == 0) && fieldAt t 6 2 == arg && fieldAt t 8 8 == serial && fieldAt t 16 4 == v.pcc &&
    zeroRange t 20 4 && nonce == some (fieldAt t 24 16) && fieldAt t 40 4 == param && zeroRange t 44 4 &&
    (t.drop 48).take 32 == digest &&
    match v.key slot with
    | none => false
    | some k => verifySigned k (t.take 80) ((t.drop 80).take 32) ((t.drop 112).take 32)

/-- A token check consumes the nonce, whatever its outcome (R480). -/
def State.spendNonce (s : State) : State :=
  { s with dev := { s.dev with log := { s.dev.log with nonce := none } } }

/-! ## LOG.CLEAR (R482) -/

/-- LOG.CLEAR (R482). -/
def cmdLogClear (h : CmdHdr) (b : InBuf) (s : State) : State :=
  let t := b.data.take b.len
  let scope := fieldAt t 6 2
  let upto := fieldAt t 40 4
  match firstFail (inChecks b 144 ++ [(outside scope 1 3, stBadArg), (!modeAccepts s.modes.mode 0x0803, stDenied)]) with
  | some st => { s with dev := s.dev.reject 0x0803 h st }
  | none =>
    let ok := tokenOk s.nv s.ident.serial s.dev.log.nonce t 1 scope upto (zeros 32)
    let s := s.spendNonce
    let w : LogClearSt :=
      { hdr := h, scope := scope, slot := byteAt t 5, upto := upto }
    let dev := guarded 0x0803 h [(!ok, stDenied), (s.dev.log.clear.isSome, stBusy)]
      (fun d => { d with log := { d.log with clear := some w } }) s.dev
    { s with dev := dev }

def execLogClear (h : CmdHdr) (b : InBuf) (s : State) : Host.Outcome State Fault Refusal :=
  .next (cmdLogClear h b s.fetched)

/-- Record types that no clear removes from the pinned region. -/
def neverCleared (typ : Nat) : Bool := typ == 0x0001 || typ == 0x0300 || typ == 0x0301

/-- The store after a clear of a scope up to a SEQ; all ones stands for every record of the scope. -/
def NvSt.cleared (v : NvSt) (scope upto : Nat) : NvSt :=
  let gone (r : LogRec) : Bool := upto == 0xFFFFFFFF || decide (dist32 r.seq upto ≤ 0)
  { v with
    ring := if scope = 2 then v.ring else v.ring.filter fun r => !gone r
    pinned := if scope = 1 then v.pinned
      else bySeq (v.pinned.filter fun r => !(gone r && !neverCleared r.typ)) }

/-- The clear ends: the records go, the clear record is written and the completion is posted (R482). -/
def execLogClearDone (s : State) : Host.Outcome State Fault Refusal :=
  match s.dev.log.clear with
  | none => .next s
  | some w =>
    let v := s.nv.cleared w.scope w.upto
    let kb := (logBytes s.nv.ring + logBytes s.nv.pinned - logBytes v.ring - logBytes v.pinned) / 1024
    let log : Logline :=
      { s.dev.log with
        clear := none
        pinFull := s.dev.log.pinFull && decide (pinnedBytes < logBytes v.pinned + 65536) }
    let s := { s with nv := v, dev := { s.dev with log := log } }
    let s := s.putLog 0x0001 true
      (leBytes 1 w.scope ++ leBytes 1 w.slot ++ zeros 2 ++ leBytes 4 w.upto ++ leBytes 4 kb ++ zeros 4)
    .next { s with dev := s.dev.complete 0x0803 w.hdr stOk 0 none (leBytes 4 kb) }

/-! ## Lifecycle and keys (R484 to R488) -/

/-- The transitions of Table STP-11: some true needs a token of slot 0. -/
def lifeTransition : Life → Life → Option Bool
  | .blank, .provisioned => some false
  | .blank, .retired => some false
  | .provisioned, .deployed => some true
  | .provisioned, .blank => some false
  | .provisioned, .retired => some false
  | .deployed, .service => some true
  | .deployed, .retired => some true
  | .service, .deployed => some true
  | .service, .blank => some true
  | .service, .retired => some true
  | _, _ => none

/-- A 64-byte key is a point on the curve (R485). -/
def keyOk (k : Bytes) : Bool := p256OnCurve (leNat (k.take 32)) (leNat ((k.drop 32).take 32))

/-- The payload of the Lifecycle record (R478). -/
def lifePayload (old new : Life) (slot group digest : Nat) : Bytes :=
  leBytes 1 (lifeId old) ++ leBytes 1 (lifeId new) ++ leBytes 1 slot ++ zeros 1 ++ leBytes 4 group ++ leBytes 8 digest

/-- The store once a lifecycle change is committed (R488, step 2): the new state with its pending flag, and
from BLANK the first key and the group (Table STP-12). -/
def NvSt.commitLife (v : NvSt) (new : Life) (group : Nat) (key : Bytes) : NvSt :=
  let first := v.life == .blank && new == .provisioned
  { v with
    life := new
    lifeFrom := some v.life
    keys := if first then v.keys.set 0 (some key) else v.keys
    group := if first then group else v.group }

/-- The checks of LIFE.SET before its token. -/
def lifeChecks (s : State) (target : Option Life) (group : Nat) (b : InBuf) : List (Bool × Nat) :=
  let first := s.nv.life == .blank && target == some .provisioned
  let need := target.bind fun x => lifeTransition s.nv.life x
  let buf := if first then inChecks b 64 else if need = some true then inChecks b 144 else []
  (target.isNone, stBadArg) :: buf ++
    [(first && group == 0, stBadArg), (first && !keyOk (b.data.take 64), stBadArg),
      (!modeAccepts s.modes.mode 0x0804, stDenied), (need.isNone, stDenied)]

/-- LIFE.SET (R485, R488): the record, the new state, the completion; the reset follows 1 ms later. -/
def cmdLifeSet (h : CmdHdr) (state group : Nat) (b : InBuf) (s : State) : State :=
  let target := lifeOfId state
  match firstFail (lifeChecks s target group b) with
  | some st => { s with dev := s.dev.reject 0x0804 h st }
  | none =>
    let new := target.getD .blank
    let needs := lifeTransition s.nv.life new == some true
    let t := b.data.take b.len
    let ok := !needs || tokenOk s.nv s.ident.serial s.dev.log.nonce t 2 state 0 (zeros 32)
    let s := if needs then s.spendNonce else s
    match firstFail [(!ok, stDenied), (s.nv.lifeFrom.isSome, stBusy)] with
    | some st => { s with dev := s.dev.reject 0x0804 h st }
    | none =>
      let first := s.nv.life == .blank && new == .provisioned
      let grp := if first then group else s.nv.group
      let digest := (Config.freeIdentityDigest (s.nv.idGen + 1)).toNat
      let old := s.nv.life
      let s := s.logNow 0x0300 true (lifePayload old new (if needs then 0 else 0xFF) grp digest)
      let d := s.dev.ok 0x0804 h
      { s with
        nv := s.nv.commitLife new group (b.data.take 64)
        dev := { d with boot := { d.boot with lifeDue := true } } }

def execLifeSet (h : CmdHdr) (state group : Nat) (b : InBuf) (s : State) : Host.Outcome State Fault Refusal :=
  .next (cmdLifeSet h state group b s.fetched)

/-- What the next boot does with a pending lifecycle change (R487, R488, Table STP-12): it erases the items of
the target, rotates the identity key and clears the pending flag. -/
def NvSt.finishLife (v : NvSt) : NvSt :=
  match v.lifeFrom with
  | none => v
  | some _ =>
    let wipes := v.life == .blank || v.life == .retired
    { v with
      lifeFrom := none
      idGen := v.idGen + 1
      keys := if wipes then List.replicate 4 none else v.keys
      group := if wipes then 0 else v.group
      seqFloors := if wipes then List.replicate 4 0 else v.seqFloors
      runCounts := if wipes then [] else v.runCounts
      ring := if v.life == .blank then [] else v.ring
      ringPos := if v.life == .blank then 0 else v.ringPos }

/-- The payload of a Key record (R478). -/
def keyPayload (slot action auth : Nat) (key : Option Bytes) : Bytes :=
  leBytes 1 slot ++ leBytes 1 action ++ leBytes 1 auth ++ zeros 13 ++
    match key with
    | some k => sha256 k
    | none => zeros 32

/-- The checks of KEY.SET before its token (R486). -/
def keyChecks (s : State) (slot action : Nat) (b : InBuf) : List (Bool × Nat) :=
  let tok := s.nv.life == .deployed || s.nv.life == .service
  let need := (if action = 1 then 64 else 0) + (if tok then 144 else 0)
  let buf := if need = 0 then [] else inChecks b need
  [(decide (3 < slot), stBadArg), (outside action 1 2, stBadArg)] ++ buf ++
    [(action == 1 && !keyOk (b.data.take 64), stBadArg), (!modeAccepts s.modes.mode 0x0805, stDenied),
      (s.nv.life == .blank || s.nv.life == .retired, stDenied), (action == 2 && slot == 0, stDenied)]

/-- KEY.SET (R486). -/
def cmdKeySet (h : CmdHdr) (slot action : Nat) (b : InBuf) (s : State) : State :=
  match firstFail (keyChecks s slot action b) with
  | some st => { s with dev := s.dev.reject 0x0805 h st }
  | none =>
    let tok := s.nv.life == .deployed || s.nv.life == .service
    let data := b.data.take b.len
    let key : Option Bytes := if action = 1 then some (data.take 64) else none
    let t := if action = 1 then data.drop 64 else data
    let digest := match key with
      | some k => sha256 k
      | none => zeros 32
    let arg := slot + (if action = 2 then 256 else 0)
    let ok := !tok || tokenOk s.nv s.ident.serial s.dev.log.nonce t 3 arg 0 digest
    let s := if tok then s.spendNonce else s
    if !ok then { s with dev := s.dev.reject 0x0805 h stDenied }
    else
      let s := { s with nv := { s.nv with keys := s.nv.keys.set slot key } }
      let s := s.logNow 0x0301 true (keyPayload slot action (if tok then 0 else 0xFF) key)
      { s with dev := s.dev.ok 0x0805 h }

def execKeySet (h : CmdHdr) (slot action : Nat) (b : InBuf) (s : State) : Host.Outcome State Fault Refusal :=
  .next (cmdKeySet h slot action b s.fetched)

end Sys2Proof.Machine
end

