-- ==== Sys2Proof/Machine/Converters.lean ====
section
/-! DEFINITION. Converters and clocks (R71 to R96, R511): the synthesizer, SYNC, calibration waves and
CAL.RUN, strand delays and trims. -/

namespace Sys2Proof.Machine

/-! ## The synthesizer (R79 to R81) -/

/-- Converter tiles 0…k - 1 of the member draw converter power, the others none (R90, Tables MOD-6 and MOD-7). -/
def Dev.powerTiles (d : Dev) (m : Member) (k : Nat) : Dev :=
  { d with conv := { d.conv with power := (List.range 16).map fun t => decide (t < k) && decide (t < Config.tiles m) } }

/-- The synthesizer locks to REF_10M: the tick grid starts with tick 0 and the tiles of wave 0 power up, or holdover
ends (R79, R90, R416). -/
def execSynthLock (s : State) : Host.Outcome State Fault Refusal :=
  if s.modes.mode = .reset ∨ !s.dev.boot.powered then .next s
  else
    let d : Dev := { s.dev with conv := { s.dev.conv with refOk := true, locked := true } }
    if s.time.running then .next { s with dev := d }
    else .next { s with
      time := { s.time with n := 0, tif := 0, sfn := 0, hfc := 0, running := true, window := .plan, sub := 0 }
      dev := d.powerTiles s.ident.member 2 }

/-- REF_10M is lost or the synthesizer unlocks: the device mute follows at the next Plan window (R80). -/
def execSynth (refLost : Bool) (s : State) : Host.Outcome State Fault Refusal :=
  if s.modes.mode = .reset then .next s
  else
    let was := s.dev.conv.locked
    let conv : Conv := { s.dev.conv with refOk := s.dev.conv.refOk && !refLost, locked := false }
    let d : Dev := { s.dev with conv := conv }
    .next { s with dev := if was then d.dueTrigger 10 4 0 else d }

/-! ## SYNC (R86 to R89) -/

/-- The modes that accept a SYNC (R88). -/
def syncMode : Mode → Bool
  | .boot | .survey | .standby | .maintenance => true
  | _ => false

/-- Whether an accepted MODE.SET to HANK or a relay mode, or a COIL.ENTER, waits to take effect (R88). -/
def Qual.bars (q : Qual) : Bool := q.pend.any fun p => p.opcode == 0x0102 || (p.opcode == 0x0101 && relays p.target)

/-- Whether this module follows another's grid (R89). -/
def Dev.isSlave (d : Dev) : Bool := d.ptr.st == .slave

/-- Register a SYNC for a tick; one that is pending stays (R88). -/
def Dev.askSync (d : Dev) (tick : Nat) : Dev :=
  match d.conv.syncPend with
  | some _ => d
  | none => { d with
      conv := { d.conv with syncPend := some tick }
      splice := { d.splice with syncSent := some tick } }

/-- The tick of the pending SYNC instant. -/
def Dev.syncTick (d : Dev) : Nat := d.conv.syncPend.getD 0

/-- SYNC (R87). -/
def cmdSync (h : CmdHdr) (s : State) : State :=
  s.onDev fun c d =>
    guarded 0x0105 h [(!modeAccepts c.mode 0x0105, stDenied), (d.isSlave, stDenied), (d.qual.bars, stBusy)]
      (fun d =>
        let d := d.askSync ((c.n + 2) % two32)
        d.okAt 0x0105 h d.syncTick) d

def execSync (h : CmdHdr) (s : State) : Host.Outcome State Fault Refusal := .next (cmdSync h s.fetched)

/-- A rising edge on SYNC_IN (R87, R88). -/
def execSyncInEdge (s : State) : Host.Outcome State Fault Refusal :=
  if s.modes.mode = .reset then .next s
  else .next (s.onDev fun c d =>
    if syncMode c.mode && !d.isSlave && !d.qual.bars then d.askSync ((c.n + 2) % two32)
    else
      let conv : Conv := { d.conv with syncIgn := satAdd 8 d.conv.syncIgn 1 }
      ({ d with conv := conv }).raise c 13 0 0 c.time.sub)

/-- Nothing of the old sample grid is kept over a SYNC: the tapes start again, and what follows them (R86). -/
def Dev.restartGrid (d : Dev) : Dev :=
  { d with
    tapes := []
    can := { d.can with
      loops := d.can.loops.map fun l => { l with mark := 0 }
      insts := d.can.insts.map fun i => { i with mark := 0 }
      learn := d.can.learn.map fun l => { l with ests := l.ests.map fun e => { e with mark := 0 } } }
    ldl := { d.ldl with snaps := d.ldl.snaps.map fun x => { x with mark := 0 } } }

/-- The SYNC instant at T0 of its tick: every phase and the sample grid start again, and every yarn's output is
unsettled from sample 0 on (R86, R89, R133). -/
def execSyncInstant (s : State) : Host.Outcome State Fault Refusal :=
  if !(s.time.running && s.time.window == .plan) ∨ s.dev.conv.syncPend ≠ some s.time.n then .next s
  else
    let conv : Conv := { s.dev.conv with syncPend := none, lastSync := s.time.n }
    let d : Dev := { s.dev with conv := conv }
    .next { s with
      time := { s.time with syncConv := s.time.conv }
      dev := (d.restartGrid).markUns d.reef.plan 0 fun _ => true }

/-- The SYNC of R94, at the first T0 after the last wave. On spliced modules the master performs it for all
once each has reported (R419); a slave performs none. -/
def Dev.postCalSync (d : Dev) (n : Nat) : Dev :=
  if !d.conv.calSyncDue ∨ d.isSlave then d
  else if d.splice.peers.isEmpty then
    ({ d with conv := { d.conv with calSyncDue := false } }).askSync (succ32 n)
  else if d.splice.master && d.splice.peers.all (·.calDone) then
    ({ d with conv := { d.conv with calSyncDue := false } }).askSync (succ32 (succ32 n))
  else d

/-! ## Converter calibration (R90 to R94, R483) -/

/-- Whether a strand's calibration succeeded: in both directions (R93). -/
def strandOk (r : StrandCal) : Bool := r.rxOk && r.txOk

/-- One strand takes the results of its calibration (R82, R92, R93). A strand without a result failed, and so did one of
which either direction did. DESIGN CHOICE (assumption 76): a failed strand's RX_ALIGN and TX_ALIGN, of which R93 says
nothing, become 0. -/
def Strand.calibrated (x : Strand) (store : CalEntry) (r : StrandCal) : Strand :=
  let near := decide (r.temp - store.temp ≤ 240) && decide (store.temp - r.temp ≤ 240)
  { x with
    rxAlign := if strandOk r then min r.rxAlign 2560 else 0
    txAlign := if strandOk r then min r.txAlign 2560 else 0
    rxOk := r.rxOk
    txOk := r.txOk
    failed := !strandOk r
    seeded := store.valid && near }

/-- The result of strand g. -/
def calResult (res : List StrandCal) (g : Nat) : StrandCal :=
  (res.find? fun r => r.g == g).getD { g := g, rxOk := false, txOk := false, rxAlign := 0, txAlign := 0, temp := 0 }

/-- The calibration-store entry that a result leaves (R483). -/
def CalEntry.after (e : CalEntry) (r : StrandCal) : CalEntry :=
  if strandOk r then { valid := true, temp := r.temp, gen := e.gen + 1 } else { e with valid := false }

/-- DLY_SAT is set where a total delay is applied saturated (R82). -/
def Strand.saturate (x : Strand) : Strand :=
  { x with dlySat := x.dlySat || delaySaturates (x.rxAlign + x.array) || delaySaturates (x.txAlign + x.array) }

/-- Strands gs end their calibration at one instant (R93). -/
def State.calibrate (s : State) (gs : List Nat) (res : List StrandCal) : State :=
  let strands := gs.foldl (fun l g =>
    l.modify g fun x =>
      (x.calibrated (s.nv.calStore.getD g default) (calResult res g)).saturate) s.dev.conv.strands
  let store := gs.foldl (fun l g => l.modify g fun e => e.after (calResult res g)) s.nv.calStore
  let s := { s with
    nv := { s.nv with calStore := store }
    dev := { s.dev with conv := { s.dev.conv with strands := strands } } }
  s.onDev fun c d => (gs.filter fun g => !strandOk (calResult res g)).foldl
    (fun d g => d.raise c (44 + g / 8) 2 g c.time.sub) d

/-- A CAL.RUN after some strands. -/
def CalRunSt.took (w : CalRunSt) (gs : List Nat) (res : List StrandCal) : CalRunSt :=
  let ok := gs.countP fun g => strandOk (calResult res g)
  { w with good := w.good + ok, failed := w.failed + (gs.length - ok) }

/-- A start-up wave has ended: the tiles of the next power up and it begins (R90), or after the last the SYNC of R94 follows. -/
def State.nextWave (s : State) (wave : Nat) : State :=
  if wave + 1 < s.ctx.hawsers then
    { s with
      dev := ({ s.dev with conv := { s.dev.conv with wave := wave + 1 } }).powerTiles s.ident.member (2 * wave + 4) }
  else s.onDev fun c d =>
    ({ d with
      conv := { d.conv with calSyncDue := true }
      boot := { d.boot with calDone := true } }).postCalSync c.n

/-- What a running CAL.RUN has done. -/
def State.setCalRun (s : State) (w : CalRunSt) : State :=
  { s with dev := { s.dev with conv := { s.dev.conv with calRun := some w } } }

/-- A calibration wave of start-up ends, or a group of 16 of a running CAL.RUN (R90, R93). -/
def execCalWaveDone (res : List StrandCal) (s : State) : Host.Outcome State Fault Refusal :=
  match s.dev.conv.calRun with
  | some w => .next ((s.calibrate w.group res).setCalRun (w.took w.group res))
  | none =>
    if s.modes.mode ≠ .boot ∨ !s.time.running ∨ s.dev.boot.calDone then .next s
    else
      .next ((s.calibrate ((List.range 16).map fun i => 16 * s.dev.conv.wave + i) res).nextWave s.dev.conv.wave)

/-! ## CAL.RUN (R511) -/

/-- CAL.RUN: the strands are recalibrated in ascending g. -/
def cmdCalRun (h : CmdHdr) (first count : Nat) (s : State) : State :=
  s.onDev fun c d =>
    guarded 0x0106 h
      [(count == 0 || decide (c.strands < first + count), stBadArg), (!modeAccepts c.mode 0x0106, stDenied),
        (d.conv.calRun.isSome, stBusy)]
      (fun d =>
        let w : CalRunSt := { hdr := h, first := first, count := count, good := 0, failed := 0 }
        { d with conv := { d.conv with calRun := some w } }) d

def execCalRun (h : CmdHdr) (first count : Nat) (s : State) : Host.Outcome State Fault Refusal :=
  .next (cmdCalRun h first count s.fetched)

/-- CAL.RUN ends: a SYNC follows at the next T0, on a master of spliced modules one tick later, so that its message goes
out at least a tick ahead (R89); the completion carries its tick and the strands calibrated and failed. A slave performs
no SYNC of its own. -/
def execCalRunDone (res : List StrandCal) (s : State) : Host.Outcome State Fault Refusal :=
  match s.dev.conv.calRun with
  | none => .next s
  | some w =>
    let s := s.calibrate w.rest res
    .next (s.onDev fun c d =>
      let w' := w.took w.rest res
      let d : Dev := { d with conv := { d.conv with calRun := none } }
      let d := if d.isSlave then d
        else d.askSync (if d.splice.peers.isEmpty then succ32 c.n else succ32 (succ32 c.n))
      d.complete 0x0106 w.hdr stOk 0 (if d.isSlave then none else some d.syncTick)
        (leBytes 2 w'.good ++ leBytes 2 w'.failed))

/-! ## What a tick edge does to converters (R85, R95, R96) -/

/-- Whether the mode takes up written array delays (R85). -/
def arrayMode : Mode → Bool
  | .boot | .survey | .standby | .maintenance => true
  | _ => false

/-- The written ARRAY values take effect (R82, R85). -/
def Dev.settleArray (d : Dev) (c : Ctx) : Dev :=
  if arrayMode c.mode then
    let strands := ((List.range 128).zip d.conv.strands).map fun e =>
      let v := (c.setup.dlyArray.getD e.1 0#32).field 0 15
      if e.2.array = v then e.2 else { e.2 with array := v }.saturate
    { d with conv := { d.conv with strands := strands } }
  else d

/-- The valid readings of a tile's two sensors, 1/16 degree C. -/
def Dev.tileTemps (d : Dev) (t : Nat) : List Int :=
  [102 + 2 * t, 103 + 2 * t].filterMap fun i =>
    let x := d.thm.sensors.getD i Sensor.reset
    if x.have_ && x.valid then some x.temp else none

/-- Trims of the tiles, each as a function of the mean of its valid sensors; without one it holds (R95). -/
def Dev.trimsBy (d : Dev) (c : Ctx) (trim : Nat → Int → Int) (old : List Int) : List Int :=
  ((List.range 16).zip old).map fun e =>
    let l := d.tileTemps e.1
    if e.1 < Config.tiles c.ident.member ∧ l ≠ [] then trim e.1 (floorDiv l.sum l.length) else e.2

/-- The ADC and DAC reference trims of each tile follow its temperature (R95). -/
def Dev.settleTrims (d : Dev) (c : Ctx) : Dev :=
  { d with conv := { d.conv with
      adcTrims := d.trimsBy c Config.freeAdcTrim d.conv.adcTrims
      dacTrims := d.trimsBy c Config.freeDacTrim d.conv.dacTrims } }

/-- VCO_TC follows Bowline sensor 5, one step at most, once a threshold is passed by 2 degrees C (R96). -/
def Dev.settleVco (d : Dev) : Dev :=
  let x := d.thm.sensors.getD 101 Sensor.reset
  let v := d.conv.vcoTc
  if !(x.have_ && x.valid) then d
  else if v < 63 ∧ Config.freeVcoThreshold v + 32 ≤ x.temp then { d with conv := { d.conv with vcoTc := v + 1 } }
  else if 0 < v ∧ x.temp ≤ Config.freeVcoThreshold (v - 1) - 32 then
    { d with conv := { d.conv with vcoTc := v - 1 } }
  else d

/-- At a commit a strand runs in mix mode where the plan gives it a zone-2 TX segment, else in NRZ (R77). -/
def Dev.settleMix (d : Dev) (p : Plan) : Dev :=
  let mix (g : Nat) : Bool := p.segs.any fun s => decide (6150000 < s.fLo) &&
    [0, 1].any fun dir => s.has dir && p.side g == txSide dir
  let strands := ((List.range 128).zip d.conv.strands).map fun e => { e.2 with txMix := mix e.1 }
  { d with conv := { d.conv with strands := strands } }

end Sys2Proof.Machine
end

