-- ==== Sys2Proof/Machine/Descriptor.lean ====
section
/-! DEFINITION. Command descriptors (Tables HST-5 and HST-8): the command that a descriptor spells, its argument
fields at the offsets of Table HST-8, and the descriptor that spells a command. -/

namespace Sys2Proof.Machine

/-! ## From a descriptor to a command (R500, R501, R510) -/

/-- The argument bytes in use: bytes at offset DLEN and beyond read as 0. -/
def argBytes (d : Descriptor) : Bytes := d.args.take (d.dlen - 24)

/-- The field of `n` bytes at an offset of the descriptor. -/
def argAt (d : Descriptor) (off n : Nat) : Nat := fieldAt (argBytes d) (off - 24) n

/-- A run of `k` fields of `n` bytes each. -/
def argsAt (d : Descriptor) (off n k : Nat) : List Nat := (List.range k).map fun i => argAt d (off + n * i) n

/-- DLEN as the device checks it: 24…64 in multiples of 4 (R500); 0 is a no-op. -/
def dlenOk (n : Nat) : Bool := decide (24 ≤ n) && decide (n ≤ 64) && n % 4 == 0

/-- FENCE (R503). -/
def fenced (d : Descriptor) : Bool := d.flags % 2 == 1

/-- The input and the output buffer that a descriptor names. -/
def inOf (d : Descriptor) : InBuf :=
  { addr := d.buf, len := d.bufLen, data := d.data, wcoll := d.wcoll, ecc := d.ecc }
def outOf (d : Descriptor) : OutBuf := { addr := d.buf, len := d.bufLen }

/-- Operating-mode, clock and converter commands (0x01xx). -/
def command1 (h : CmdHdr) (d : Descriptor) : Option Instr :=
  match d.opcode with
  | 0x0101 => some (.modeSet h (argAt d 24 1))
  | 0x0102 => some (.coilEnter h (argAt d 24 4))
  | 0x0103 => some (.coilWake h)
  | 0x0104 => some (.timeSet h (argAt d 24 8))
  | 0x0105 => some (.sync h)
  | 0x0106 => some (.calRun h (argAt d 24 2) (argAt d 26 2))
  | 0x0107 => some (.txTest h
      { kind := argAt d 24 1, paEn := argAt d 25 1, rho := argAt d 26 1, first := argAt d 28 2,
        count := argAt d 30 2, centreKhz := argAt d 32 4, level := toSigned 16 (argAt d 36 2),
        duration := argAt d 38 2 })
  | _ => none

/-- The fields of MUTE.SET and MUTE.CLR. -/
def muteArgs (d : Descriptor) : MuteArgs :=
  { level := argAt d 24 1, bg := argAt d 25 1, dir := argAt d 26 1, id := argAt d 28 2 }

/-- Protection commands (0x02xx). -/
def command2 (h : CmdHdr) (d : Descriptor) : Option Instr :=
  match d.opcode with
  | 0x0201 => some (.planLoad h (inOf d))
  | 0x0202 => some (.muteSet h (muteArgs d))
  | 0x0203 => some (.muteClr h (muteArgs d))
  | 0x0204 => some (.netInd h
      { kind := argAt d 24 1, bg := argAt d 25 1, scs := argAt d 26 1, beamK := argAt d 27 1,
        sfn := argAt d 28 2, slot := argAt d 30 1, on := argAt d 31 1, nslots := argAt d 32 2 })
  | 0x0205 => some (.ulSched h (argAt d 24 1) (argAt d 25 1) (argAt d 26 1) (inOf d))
  | _ => none

/-- Front-end, beam and canceller commands (0x03xx). -/
def command3 (h : CmdHdr) (d : Descriptor) : Option Instr :=
  match d.opcode with
  | 0x0301 => some (.feLoad h (argAt d 24 2) (inOf d))
  | 0x0302 => some (.yarnMap h (argAt d 24 2) (argAt d 26 2) (outOf d))
  | 0x0303 => some (.beamSet h
      { target := argAt d 24 1, bg := argAt d 25 1, index := argAt d 26 1, recip := argAt d 27 1,
        sbeams := argAt d 28 1, fixed := argAt d 29 1, donor := argAt d 30 1, e := argAt d 32 2,
        entry := argAt d 34 2, k := argAt d 36 1, mapEnt := argAt d 38 2 } (inOf d))
  | 0x0304 => some (.arrayCal h
      { side := argAt d 24 1, rho := argAt d 25 1, ticks := argAt d 26 1, gRef := argAt d 28 2,
        centreKhz := argAt d 32 4 } (outOf d))
  | 0x0305 => some (.cancSet h
      { inst := argAt d 24 2, vkind := argAt d 26 1, bg := argAt d 27 1, pos := argAt d 28 1,
        beam := argAt d 29 1, taps := argAt d 30 2, pre := argAt d 32 1, forget := argAt d 33 1,
        refs := argsAt d 34 1 4, imods := argsAt d 38 1 4 })
  | 0x0306 => some (.entryLearn h
      { bg := argAt d 24 1, e := argAt d 26 2, n := argAt d 28 2, learnTicks := argAt d 30 2,
        ltaps := argAt d 32 2 })
  | 0x0307 => some (.trcScan h (argAt d 24 1) (argAt d 25 1) (inOf d))
  | _ => none

/-- Belay and book commands (0x04xx, 0x05xx). -/
def command45 (h : CmdHdr) (d : Descriptor) : Option Instr :=
  match d.opcode with
  | 0x0401 => some (.gainSet h
      { bg := argAt d 24 1, dir := argAt d 25 1, beam := argAt d 26 1, mask := argAt d 27 1,
        target := argAt d 28 2, pmax := argAt d 30 2, vlim := argAt d 32 2, alim := argAt d 34 2,
        jlim := argAt d 36 2, lnaSt := argAt d 38 1, pagSt := argAt d 39 1 })
  | 0x0402 => some (.belBank h (argAt d 24 1) (argsAt d 28 2 8) (argsAt d 44 2 8))
  | 0x0403 => some (.belRead h (argAt d 24 2) (argAt d 26 2) (outOf d))
  | 0x0501 => some (.bookBasis h (argAt d 24 1) (argAt d 28 4) (inOf d))
  | 0x0502 => some (.bookLoad h (inOf d))
  | 0x0503 => some (.bookRead h (argAt d 24 4) (argAt d 28 4) (argAt d 32 1) (argAt d 33 1) (outOf d))
  | 0x0504 => some (.bookSet h
      { eid := argAt d 24 4, mask := argAt d 28 1, flags := argAt d 29 1, widx := argAt d 30 2,
        offset := toSigned 16 (argAt d 32 2) })
  | 0x0505 => some (.bookDel h (argAt d 24 4) (argAt d 28 4) (argAt d 32 1))
  | 0x0506 => some (.partnerRead h (argAt d 24 1) (outOf d))
  | _ => none

/-- Measurement and capture commands (0x06xx). -/
def command6 (h : CmdHdr) (d : Descriptor) : Option Instr :=
  match d.opcode with
  | 0x0601 => some (.measSub h
      { subId := argAt d 24 2, action := argAt d 26 1, src := argAt d 27 1, target := argAt d 28 2,
        rho := argAt d 30 1, mresp := argAt d 31 1, centreKhz := argAt d 32 4, n := argAt d 36 1,
        k := argAt d 37 1, outr := argAt d 38 1, gridSeg := argAt d 39 1, gate := argAt d 40 1,
        div := argAt d 41 1 })
  | 0x0602 => some (.specSnap h
      { strand := argAt d 24 2, tag := argAt d 26 2, centreKhz := argAt d 28 4, rho := argAt d 32 1,
        mresp := argAt d 33 1, avg := argAt d 34 1 } (outOf d))
  | 0x0603 => some (.captureArm h
      { bufc := argAt d 24 1, format := argAt d 25 1, trig := argAt d 26 1, nsrc := argAt d 28 2,
        sizeMb := argAt d 32 4, preUs := argAt d 36 4, postUs := argAt d 40 4, targ := argAt d 44 4 } (inOf d))
  | 0x0604 => some (.captureRead h (argAt d 24 1) (argAt d 32 8) (outOf d))
  | _ => none

/-- Power, memory, log and lifecycle commands (0x07xx, 0x08xx). -/
def command78 (h : CmdHdr) (d : Descriptor) : Option Instr :=
  match d.opcode with
  | 0x0701 => some (.reefCap h (argAt d 24 2))
  | 0x0702 => some (.thmClr h (argAt d 24 1) (argAt d 26 2))
  | 0x0703 => some (.marchRun h
      { die := argAt d 24 1, bank := argAt d 25 1, mode := argAt d 26 1, offs := argAt d 28 4,
        len := argAt d 32 4 })
  | 0x0801 => some (.logRead h (argAt d 24 1) (argAt d 28 4) (outOf d))
  | 0x0802 => some (.logNonce h (outOf d))
  | 0x0803 => some (.logClear h (inOf d))
  | 0x0804 => some (.lifeSet h (argAt d 24 1) (argAt d 28 4) (inOf d))
  | 0x0805 => some (.keySet h (argAt d 24 1) (argAt d 25 1) (inOf d))
  | _ => none

/-- The command that a descriptor at a command ring index spells; none for an opcode that Table HST-8 does not
list. -/
def commandOf (cidx : Nat) (d : Descriptor) : Option Instr :=
  let h : CmdHdr := { tag := d.tag, cidx := cidx }
  match d.opcode / 256 with
  | 1 => command1 h d
  | 2 => command2 h d
  | 3 => command3 h d
  | 4 | 5 => command45 h d
  | 6 => command6 h d
  | 7 | 8 => command78 h d
  | _ => none

/-! ## From a command to a descriptor -/

/-- A descriptor of the longest form without a buffer. -/
def plainDesc (op : Nat) (h : CmdHdr) (args : Bytes) : Descriptor :=
  { opcode := op, dlen := 64, flags := 0, tag := h.tag, buf := 0, bufLen := 0, args := args ++ zeros (40 - args.length),
    data := [], wcoll := false, ecc := false }

/-- A descriptor with an input buffer. -/
def inDesc (op : Nat) (h : CmdHdr) (args : Bytes) (b : InBuf) : Descriptor :=
  { plainDesc op h args with buf := b.addr, bufLen := b.len, data := b.data, wcoll := b.wcoll, ecc := b.ecc }

/-- A descriptor with an output buffer. -/
def outDesc (op : Nat) (h : CmdHdr) (args : Bytes) (o : OutBuf) : Descriptor :=
  { plainDesc op h args with buf := o.addr, bufLen := o.len }

/-- A run of fields of `n` bytes. -/
def leMany (n : Nat) (xs : List Nat) : Bytes := xs.flatMap (leBytes n)

/-- The argument bytes of MUTE.SET and MUTE.CLR. -/
def muteBytes (a : MuteArgs) : Bytes :=
  leBytes 1 a.level ++ leBytes 1 a.bg ++ leBytes 1 a.dir ++ zeros 1 ++ leBytes 2 a.id

/-- The argument bytes of the commands whose fields form a structure (Table HST-8). -/
def txTestBytes (a : TxTestArgs) : Bytes :=
  leBytes 1 a.kind ++ leBytes 1 a.paEn ++ leBytes 1 a.rho ++ zeros 1 ++ leBytes 2 a.first ++ leBytes 2 a.count ++
    leBytes 4 a.centreKhz ++ leBytes 2 (ofSigned 16 a.level) ++ leBytes 2 a.duration
def netIndBytes (a : NetIndArgs) : Bytes :=
  leBytes 1 a.kind ++ leBytes 1 a.bg ++ leBytes 1 a.scs ++ leBytes 1 a.beamK ++ leBytes 2 a.sfn ++
    leBytes 1 a.slot ++ leBytes 1 a.on ++ leBytes 2 a.nslots
def beamSetBytes (a : BeamSetArgs) : Bytes :=
  leBytes 1 a.target ++ leBytes 1 a.bg ++ leBytes 1 a.index ++ leBytes 1 a.recip ++ leBytes 1 a.sbeams ++
    leBytes 1 a.fixed ++ leBytes 1 a.donor ++ zeros 1 ++ leBytes 2 a.e ++ leBytes 2 a.entry ++ leBytes 1 a.k ++
    zeros 1 ++ leBytes 2 a.mapEnt
def arrayCalBytes (a : ArrayCalArgs) : Bytes :=
  leBytes 1 a.side ++ leBytes 1 a.rho ++ leBytes 1 a.ticks ++ zeros 1 ++ leBytes 2 a.gRef ++ zeros 2 ++
    leBytes 4 a.centreKhz
def cancSetBytes (a : CancArgs) : Bytes :=
  leBytes 2 a.inst ++ leBytes 1 a.vkind ++ leBytes 1 a.bg ++ leBytes 1 a.pos ++ leBytes 1 a.beam ++
    leBytes 2 a.taps ++ leBytes 1 a.pre ++ leBytes 1 a.forget ++ leMany 1 a.refs ++ leMany 1 a.imods
def learnBytes (a : LearnArgs) : Bytes :=
  leBytes 1 a.bg ++ zeros 1 ++ leBytes 2 a.e ++ leBytes 2 a.n ++ leBytes 2 a.learnTicks ++ leBytes 2 a.ltaps
def gainBytes (a : GainArgs) : Bytes :=
  leBytes 1 a.bg ++ leBytes 1 a.dir ++ leBytes 1 a.beam ++ leBytes 1 a.mask ++ leBytes 2 a.target ++
    leBytes 2 a.pmax ++ leBytes 2 a.vlim ++ leBytes 2 a.alim ++ leBytes 2 a.jlim ++ leBytes 1 a.lnaSt ++
    leBytes 1 a.pagSt
def bookSetBytes (a : BookSetArgs) : Bytes :=
  leBytes 4 a.eid ++ leBytes 1 a.mask ++ leBytes 1 a.flags ++ leBytes 2 a.widx ++ leBytes 2 (ofSigned 16 a.offset)
def measBytes (a : MeasArgs) : Bytes :=
  leBytes 2 a.subId ++ leBytes 1 a.action ++ leBytes 1 a.src ++ leBytes 2 a.target ++ leBytes 1 a.rho ++
    leBytes 1 a.mresp ++ leBytes 4 a.centreKhz ++ leBytes 1 a.n ++ leBytes 1 a.k ++ leBytes 1 a.outr ++
    leBytes 1 a.gridSeg ++ leBytes 1 a.gate ++ leBytes 1 a.div
def snapBytes (a : SnapArgs) : Bytes :=
  leBytes 2 a.strand ++ leBytes 2 a.tag ++ leBytes 4 a.centreKhz ++ leBytes 1 a.rho ++ leBytes 1 a.mresp ++
    leBytes 1 a.avg
def capArmBytes (a : CapArgs) : Bytes :=
  leBytes 1 a.bufc ++ leBytes 1 a.format ++ leBytes 1 a.trig ++ zeros 1 ++ leBytes 2 a.nsrc ++ zeros 2 ++
    leBytes 4 a.sizeMb ++ leBytes 4 a.preUs ++ leBytes 4 a.postUs ++ leBytes 4 a.targ
def marchBytes (a : MarchArgs) : Bytes :=
  leBytes 1 a.die ++ leBytes 1 a.bank ++ leBytes 1 a.mode ++ zeros 1 ++ leBytes 4 a.offs ++ leBytes 4 a.len

/-- The descriptor that spells a command of Table HST-8; none for the other rows of the table of commands. -/
def descriptorOf : Instr → Option Descriptor
  | .modeSet h m => some (plainDesc 0x0101 h (leBytes 1 m))
  | .coilEnter h w => some (plainDesc 0x0102 h (leBytes 4 w))
  | .coilWake h => some (plainDesc 0x0103 h [])
  | .timeSet h t => some (plainDesc 0x0104 h (leBytes 8 t))
  | .sync h => some (plainDesc 0x0105 h [])
  | .calRun h first count => some (plainDesc 0x0106 h (leBytes 2 first ++ leBytes 2 count))
  | .txTest h a => some (plainDesc 0x0107 h (txTestBytes a))
  | .planLoad h b => some (inDesc 0x0201 h [] b)
  | .muteSet h a => some (plainDesc 0x0202 h (muteBytes a))
  | .muteClr h a => some (plainDesc 0x0203 h (muteBytes a))
  | .netInd h a => some (plainDesc 0x0204 h (netIndBytes a))
  | .ulSched h bg action p b => some (inDesc 0x0205 h (leBytes 1 bg ++ leBytes 1 action ++ leBytes 1 p) b)
  | .feLoad h n b => some (inDesc 0x0301 h (leBytes 2 n) b)
  | .yarnMap h first count o => some (outDesc 0x0302 h (leBytes 2 first ++ leBytes 2 count) o)
  | .beamSet h a b => some (inDesc 0x0303 h (beamSetBytes a) b)
  | .arrayCal h a o => some (outDesc 0x0304 h (arrayCalBytes a) o)
  | .cancSet h a => some (plainDesc 0x0305 h (cancSetBytes a))
  | .entryLearn h a => some (plainDesc 0x0306 h (learnBytes a))
  | .trcScan h all n b => some (inDesc 0x0307 h (leBytes 1 all ++ leBytes 1 n) b)
  | .gainSet h a => some (plainDesc 0x0401 h (gainBytes a))
  | .belBank h x kp ki => some (plainDesc 0x0402 h (leBytes 1 x ++ zeros 3 ++ leMany 2 kp ++ leMany 2 ki))
  | .belRead h first count o => some (outDesc 0x0403 h (leBytes 2 first ++ leBytes 2 count) o)
  | .bookBasis h bg id b => some (inDesc 0x0501 h (leBytes 1 bg ++ zeros 3 ++ leBytes 4 id) b)
  | .bookLoad h b => some (inDesc 0x0502 h [] b)
  | .bookRead h first count dirty clean o =>
    some (outDesc 0x0503 h (leBytes 4 first ++ leBytes 4 count ++ leBytes 1 dirty ++ leBytes 1 clean) o)
  | .bookSet h a => some (plainDesc 0x0504 h (bookSetBytes a))
  | .bookDel h first count m => some (plainDesc 0x0505 h (leBytes 4 first ++ leBytes 4 count ++ leBytes 1 m))
  | .partnerRead h kind o => some (outDesc 0x0506 h (leBytes 1 kind) o)
  | .measSub h a => some (plainDesc 0x0601 h (measBytes a))
  | .specSnap h a o => some (outDesc 0x0602 h (snapBytes a) o)
  | .captureArm h a b => some (inDesc 0x0603 h (capArmBytes a) b)
  | .captureRead h c off o => some (outDesc 0x0604 h (leBytes 1 c ++ zeros 7 ++ leBytes 8 off) o)
  | .reefCap h w => some (plainDesc 0x0701 h (leBytes 2 w))
  | .thmClr h action target => some (plainDesc 0x0702 h (leBytes 1 action ++ zeros 1 ++ leBytes 2 target))
  | .marchRun h a => some (plainDesc 0x0703 h (marchBytes a))
  | .logRead h region seq o => some (outDesc 0x0801 h (leBytes 1 region ++ zeros 3 ++ leBytes 4 seq) o)
  | .logNonce h o => some (outDesc 0x0802 h [] o)
  | .logClear h b => some (inDesc 0x0803 h [] b)
  | .lifeSet h st group b => some (inDesc 0x0804 h (leBytes 1 st ++ zeros 3 ++ leBytes 4 group) b)
  | .keySet h slot action b => some (inDesc 0x0805 h (leBytes 1 slot ++ leBytes 1 action) b)
  | _ => none

end Sys2Proof.Machine
end

