-- ==== Sys2Proof/Machine/Memory.lean ====
section
/-! DEFINITION. On-chip memory and DRAM (spec/14_memory.md): the march tests, DRAM training, error counts and
the Marline links (R463). -/

namespace Sys2Proof.Machine

/-! ## Raises and counts (R439, R442, R452, R458, R459) -/

/-- The SRAM source of a die: 0…7 a hawser, 8 the Bowline. -/
def Dev.sramRaise (d : Dev) (c : Ctx) (sev die sub : Nat) : Dev := d.raise c 17 sev die sub

/-- Corrected SRAM errors of a die. -/
def Dev.countCor (d : Dev) (e : Nat × Nat) : Dev :=
  if e.1 = 8 then { d with mem := { d.mem with sramCor := satAdd 8 d.mem.sramCor e.2 } }
  else d.onHwsA e.1 fun w => { w with eccCor := satAdd 4 w.eccCor e.2 }

/-- Port A bus errors of a die. -/
def Dev.countBusErr (d : Dev) (e : Nat × Nat) : Dev :=
  if e.1 = 8 then { d with mem := { d.mem with busErr := satAdd 4 d.mem.busErr e.2 } }
  else d.onHwsA e.1 fun w => { w with busErr := satAdd 4 w.busErr e.2 }

/-- Double-bit SRAM errors of a die, with their raise: each that port A reads is a bus error (R442). -/
def Dev.countUnc (c : Ctx) (d : Dev) (e : Nat × Nat × Nat) : Dev :=
  let n := e.2.1 + e.2.2
  if n = 0 then d
  else
    let d : Dev := if e.1 = 8 then
        { d with mem := { d.mem with sramUnc := satAdd 4 d.mem.sramUnc n } }
      else d
    (d.countBusErr (e.1, e.2.1)).sramRaise c 3 e.1 c.time.sub

/-! ## Two ports on one bank (R439 to R441) -/

/-- The byte lanes that an access writes in a word (R441). -/
def writtenLanes (a : PortAccess) (w : Nat) : WordLanes :=
  if a.write then
    ((List.range 8).filter fun i => decide (a.off ≤ 8 * w + i) && decide (8 * w + i < a.off + a.len)).map fun i => (i, 0)
  else []

/-- The word collisions of two accesses that begin in one cycle: each is served a word a cycle, and port B waits where
its word conflicts with port A's (R439, R441). -/
def collisions (a b : PortAccess) : List Nat → List Nat → Nat
  | [], _ => 0
  | _ :: _, [] => 0
  | x :: xs, y :: ys =>
    let hit := x == y && (portsOnWord (List.replicate 8 0) (writtenLanes a x) (writtenLanes b y)).2
    bitNat hit + collisions a b xs (if portConflict (8 * x) (8 * y) then y :: ys else ys)

def portCollisions (a b : PortAccess) : Nat := collisions a b (wordsTouched a.off a.len) (wordsTouched b.off b.len)

/-- Collisions in a bank of a die (Table MEM-3). -/
def Dev.addColl (d : Dev) (die bank k : Nat) : Dev :=
  if die = 8 then
    { d with mem := { d.mem with bbColl := d.mem.bbColl.modify bank fun x => satAdd 8 x k } }
  else d.onHwsA die fun w =>
    match bank with
    | 0 => { w with coll0 := satAdd 8 w.coll0 k }
    | 1 => { w with coll1 := satAdd 8 w.coll1 k }
    | 2 => { w with coll2 := satAdd 8 w.coll2 k }
    | _ => w

/-- What two ports met in a bank: the collisions are counted. An engine's transfer is repeated once, and a second
collision raises the die's source (R440). -/
def Dev.countPorts (c : Ctx) (d : Dev) (p : PortPair) : Dev :=
  let k := portCollisions p.a p.b
  let d := d.addColl p.die p.bank k
  if k = 0 ∨ !p.engine then d
  else
    let k2 := (p.again.map fun a => portCollisions a p.b).getD 0
    if k2 = 0 then d else (d.addColl p.die p.bank k2).sramRaise c 3 p.die c.time.sub

/-! ## DRAM (R451 to R453) -/

/-- An isolation record whose read is uncorrectable is not VALID (R452). -/
def Dev.loseIso (d : Dev) (a : Nat) : Dev :=
  let code := d.beams.code.map fun x =>
    if isolationAddr x.bg x.e = a / 32 * 32 then { x with iso := x.iso.map fun r => { r with valid := false } } else x
  { d with beams := { d.beams with code := code } }

/-- An uncorrectable DRAM read at an address, with the raise of its channel (R452). -/
def Dev.countDram (c : Ctx) (d : Dev) (a : Nat) : Dev :=
  let d : Dev := { d with mem := { d.mem with dramUnc := satAdd 8 d.mem.dramUnc 1 } }
  (d.loseIso a).raise c (36 + dramChannel a) 3 0 c.time.sub

/-- Saturated RX samples of a strand (R72). -/
def Dev.countRx (d : Dev) (e : Nat × Nat) : Dev :=
  { d with conv := { d.conv with strands := d.conv.strands.modify e.1 fun x => { x with ovr := satAdd 8 x.ovr e.2 } } }

/-- What happened since the last T0 that the device counts. -/
def Dev.countEnv (d : Dev) (c : Ctx) (e : TickEnv) : Dev :=
  let d := e.overRange.foldl Dev.countRx d
  let d := e.sramCor.foldl Dev.countCor d
  let d := e.sramUnc.foldl (Dev.countUnc c) d
  let d := e.ports.foldl (Dev.countPorts c) d
  let d := e.busErr.foldl Dev.countBusErr d
  let d : Dev := { d with
    mem := { d.mem with dramCor := satAdd 8 d.mem.dramCor e.dramCor }
    conv := { d.conv with refOk := d.conv.refOk || e.refBack } }
  e.dramUnc.foldl (Dev.countDram c) d

/-! ## MARCH.RUN (R444 to R447) -/

/-- The die number as the model keeps it: 8 for the Bowline (0xF in the command). -/
def marchDie (die : Nat) : Nat := if die = 15 then 8 else die

/-- A field of MARCH.RUN is out of range (Table MEM-4). -/
def marchBad (m : Member) (a : MarchArgs) : Bool :=
  let die := marchDie a.die
  (a.die == 8 || (die != 8 && decide (Config.hawsers m ≤ die))) || bankSize die a.bank == 0 ||
    outside a.mode 1 2 || decide (a.offs % 4096 ≠ 0) || decide (a.len % 4096 ≠ 0) || a.len == 0 ||
    decide (bankSize die a.bank < a.offs + a.len)

/-- The book holds a record, or a band group that h owns holds a basis (R445). -/
def Dev.bookUses (d : Dev) (hawsers h : Nat) : Bool :=
  !d.book.recs.isEmpty || d.book.bases.any fun b => b.1 % hawsers == h

/-- MARCH.RUN is not allowed (R445). -/
def Dev.marchDenied (d : Dev) (c : Ctx) (a : MarchArgs) : Bool :=
  let die := marchDie a.die
  if a.mode = 1 then c.mode ∈ [.reset, .boot, .coil, .latched]
  else
    c.mode != .maintenance || !bankDestructible die a.bank || decide (a.offs < handlerSize die a.bank) ||
      (die == 8 && d.ldl.caps.any fun b => b.state == 1 || b.state == 2) ||
      (die != 8 && a.bank == 2 && d.bookUses c.hawsers die)

/-- MARCH.RUN (R444, R445): it starts at the next T0. -/
def cmdMarchRun (h : CmdHdr) (a : MarchArgs) (s : State) : State :=
  s.onDev fun c d =>
    let die := marchDie a.die
    guarded 0x0703 h
      [(marchBad c.ident.member a, stBadArg), (!modeAccepts c.mode 0x0703, stDenied),
        (d.marchDenied c a, stDenied), (d.mem.march.any fun m => m.a.die == die, stBusy)]
      (fun d =>
        let m : March :=
          { hdr := h, a := { a with die := die }, started := false, next := 0, tested := 0, touched := 0,
            fails := 0, firstFail := 0, retry := [], untested := 0, partial_ := false, here := 0 }
        { d with mem := { d.mem with march := d.mem.march ++ [m] } }) d

def execMarchRun (h : CmdHdr) (a : MarchArgs) (s : State) : Host.Outcome State Fault Refusal :=
  .next (cmdMarchRun h a s.fetched)

/-- Accepted tests start at T0 (R445), and no window has started in the tick yet. -/
def March.begin (m : March) : March := { m with started := true, here := 0 }

/-! ## Windows (R448, R449) -/

/-- The windows of a test's range. -/
def March.windows (m : March) : Nat := m.a.len / 4096

/-- The window that the engine is at: the next of the range, then those to retry. -/
def March.window (m : March) : Option Nat :=
  if m.next < m.windows then some m.next else m.retry.head?.map (·.1)

/-- A preserving test that runs. -/
def March.borrows (m : March) : Bool := m.started && m.a.mode == 1 && !m.partial_

/-- The windows that can start in one tick at one per 64 us: over the whole tick on the Bowline, within
[T0 + 24 us, T0 + 470 us) on a hawser (R448; DEDUCED, assumption 98). -/
def March.pace (m : March) : Nat := if m.a.die = 8 then 8 else 7

/-- Whether a window may start: on a hawser's banks only in Run, and at the pace of R448. -/
def March.mayStart (m : March) (w : Window) : Bool :=
  m.borrows && (m.a.die == 8 || w == .run) && decide (m.here < m.pace)

/-- The test of a die. -/
def Memory.test (x : Memory) (die : Nat) : Option March := x.march.find? fun m => m.a.die == die

/-- Replace the test of a die. -/
def Memory.putTest (x : Memory) (m : March) : Memory :=
  { x with march := x.march.map fun y => if y.a.die = m.a.die then m else y }

/-- Failing words of a test, saturating, with the first. -/
def March.addFails (m : March) (fails : List Nat) : March :=
  { m with
    fails := satAdd 16 m.fails fails.length
    firstFail := if m.fails = 0 then fails.headD m.firstFail else m.firstFail }

/-- The engine goes on behind the window that it is at. -/
def March.advance (m : March) : March :=
  if m.next < m.windows then { m with next := m.next + 1 } else { m with retry := m.retry.tail }

/-- One window is borrowed, tested and returned; on a hawser's banks only inside the Run window. -/
def execMarchWindow (die : Nat) (fails : List Nat) (s : State) : Host.Outcome State Fault Refusal :=
  match s.dev.mem.test die with
  | none => .next s
  | some m =>
    if !m.mayStart s.time.window ∨ m.window.isNone then .next s
    else
      let m := (m.addFails fails).advance
      let m : March := { m with tested := m.tested + 1, here := m.here + 1 }
      .next { s with dev := { s.dev with mem := s.dev.mem.putTest m } }

/-- A touched window is tested again after the range, at most 3 further times. -/
def March.touch (m : March) (w : Nat) : March :=
  let tries := if m.next < m.windows then 0 else (m.retry.head?.map (·.2)).getD 0
  let m' := { m.advance with touched := m.touched + 1, here := m.here + 1 }
  if 3 ≤ tries then { m' with untested := m'.untested + 1 } else { m' with retry := m'.retry ++ [(w, tries + 1)] }

/-- The range of a destructive test is the engine's alone (R447). -/
def March.owns (m : March) (offset : Nat) : Bool :=
  m.started && m.a.mode == 2 && !m.partial_ && decide (m.a.offs ≤ offset) && decide (offset < m.a.offs + m.a.len)

/-- A port A access touches the window that the engine holds: the engine restores and abandons it. In the range of a
destructive test it takes a bus error. -/
def execPortATouch (die offset : Nat) (s : State) : Host.Outcome State Fault Refusal :=
  match s.dev.mem.test die with
  | none => .next s
  | some m =>
    if m.owns offset then .next { s with dev := s.dev.countBusErr (die, 1) }
    else match m.window with
    | none => .next s
    | some w =>
      if !m.mayStart s.time.window ∨ offset / 4096 ≠ m.a.offs / 4096 + w then .next s
      else .next { s with dev := { s.dev with mem := s.dev.mem.putTest (m.touch w) } }

/-! ## The end of a test (R445, R447, R450) -/

/-- The result of a test (Table MEM-5, Table HST-8). -/
def March.result (m : March) : Bytes :=
  let tested := if m.a.mode = 2 ∧ !m.partial_ then m.windows else m.tested
  leBytes 2 m.windows ++ leBytes 2 tested ++ leBytes 2 m.touched ++ leBytes 2 (m.windows - tested) ++
    leBytes 2 m.fails ++ leBytes 1 (bitNat m.partial_) ++ zeros 1 ++
    leBytes 4 (if m.fails = 0 then 0xFFFFFFFF else m.firstFail)

/-- Whether a test may end: a preserving one once no window is left, or once it ends early. -/
def March.over (m : March) : Bool := m.partial_ || (m.started && (m.a.mode == 2 || m.window.isNone))

/-- A test ends with its completion; a bank that it destroyed is rebuilt at the next Plan window. -/
def execMarchDone (die : Nat) (fails : List Nat) (s : State) : Host.Outcome State Fault Refusal :=
  match s.dev.mem.test die with
  | none => .next s
  | some m =>
    if !m.over then .next s
    else .next (s.onDev fun c d =>
      let m := if m.a.mode = 2 then m.addFails fails else m
      let mem : Memory := { d.mem with
        march := d.mem.march.filter fun x => x.a.die != die
        rebuild := if m.a.mode = 2 ∧ m.started ∧ die ≠ 8 then d.mem.rebuild ++ [(die, m.a.bank)] else d.mem.rebuild }
      let d := ({ d with mem := mem }).complete 0x0703 m.hdr stOk 0 none m.result
      if m.fails = 0 then d else d.sramRaise c 3 die c.time.sub)

/-- The first Plan window after a destructive test (R447): canceller instances restart, the cache is empty,
and the hawser's plan is whole again. -/
def Dev.rebuildBanks (d : Dev) (c : Ctx) : Dev :=
  let lost (bank h : Nat) : Bool := decide ((h, bank) ∈ d.mem.rebuild)
  let insts := d.can.insts.map fun i =>
    if lost 1 (i.a.inst / 64) then i.restart (d.can.loop (victim i.a)) (d.markOf (victim i.a)) else i
  let hit := (d.can.insts.filter fun i => lost 1 (i.a.inst / 64)).map fun i => victim i.a
  let loops := d.can.loops.map fun l => if l.byid ∈ hit then l.restart (d.markOf l.byid) else l
  let cache := d.book.cache.filter fun e => !((d.book.rec? e.1).any fun r => lost 2 (r.bg % c.hawsers))
  { d with
    can := { d.can with insts := insts, loops := loops }
    book := { d.book with cache := cache }
    mem := { d.mem with rebuild := [] } }

/-! ## Start-up (R451, R455, R456) -/

/-- The ROM march and zero fill of every bank is complete: the firmware load follows, or a failing bank holds
the module in BOOT. The operand lists failing banks as (die, bank). -/
def execSramWipeDone (fails : List (Nat × Nat)) (s : State) : Host.Outcome State Fault Refusal :=
  if s.modes.mode ≠ .boot ∨ s.dev.boot.stage ≠ 0 then .next s
  else .next (s.onDev fun c d =>
    let dies := (fails.map (·.1)).dedup
    let boot : Boot := { d.boot with sramOk := fails.isEmpty, stage := if fails.isEmpty then 1 else 5 }
    dies.foldl (fun d die => d.sramRaise c 5 die c.time.sub) { d with boot := boot })

/-- Channels that failed training or differ in density from the lowest channel that trained (R451). -/
def badChannels (dens : List Nat) : List Nat :=
  let ref := ((dens.take 8).find? (· != 0)).getD 0
  (List.range 8).filter fun ch =>
    let x := dens.getD ch 0
    x == 0 || x != ref || decide (4 < x)

/-- DRAM training is complete: the data key is replaced and the regions are wiped; a failing channel holds the
module in BOOT with its source raised at severity 5 (R416, R451, R456). -/
def execDramTrained (dens : List Nat) (s : State) : Host.Outcome State Fault Refusal :=
  if s.modes.mode ≠ .boot ∨ !s.dev.boot.fwOk ∨ s.dev.boot.dramOk ∨ s.dev.mem.failed ≠ 0 then .next s
  else .next (s.onDev fun c d =>
    let bad := badChannels dens
    let trained := ((List.range 8).filter fun ch => dens.getD ch 0 != 0).foldl (fun a ch => a + 2 ^ ch) 0
    let failed := bad.foldl (fun a ch => a + 2 ^ ch) 0
    if bad.isEmpty then
      { d with
        mem := { d.mem with
          dens := dens.getD 0 0, trained := trained, failed := 0, wiped := true, capDirty := false, key := d.mem.key + 1 }
        log := { d.log with mirrorOk := true }
        boot := { d.boot with dramOk := true } }
    else
      bad.foldl (fun d ch => d.raise c (36 + ch) 5 0 c.time.sub)
        { d with
          mem := { d.mem with trained := trained, failed := failed }
          boot := { d.boot with stage := 5 } })

/-! ## Marline links (R463) -/

/-- The record of a link. -/
def Stopper.link (t : Stopper) (src : Nat) : Option (Nat × Nat × Nat × Bool) := t.links.find? fun l => l.1 == src

/-- Replace the record of a link. -/
def Stopper.putLink (t : Stopper) (l : Nat × Nat × Nat × Bool) : Stopper :=
  { t with links := t.links.filter (fun x => x.1 != l.1) ++ [l] }

/-- A link with an uncorrectable frame in tick n: down after two consecutive ticks. -/
def badFrame (src n : Nat) (old : Option (Nat × Nat × Nat × Bool)) : Nat × Nat × Nat × Bool :=
  match old with
  | none => (src, n, 1, false)
  | some l =>
    let run := if l.2.1 = n then l.2.2.1 else if succ32 l.2.1 = n then l.2.2.1 + 1 else 1
    (src, n, run, l.2.2.2 || decide (2 ≤ run))

/-- A Marline frame is corrected (severity 1) or uncorrectable (severity 3). -/
def execMarlineFrame (src : Nat) (uncorrectable : Bool) (s : State) : Host.Outcome State Fault Refusal :=
  if src < 60 ∨ 95 < src ∨ !sourceFits s.ident.member src 0 then .next s
  else .next (s.onDev fun c d =>
    if uncorrectable then
      let d : Dev := { d with stop := d.stop.putLink (badFrame src c.n (d.stop.link src)) }
      d.raise c src 3 0 c.time.sub
    else d.raise c src 1 0 c.time.sub)

/-- A down MARLINE_P link has passed 20 consecutive ticks without an uncorrectable frame. -/
def execMarlineLinkRestore (src : Nat) (s : State) : Host.Outcome State Fault Refusal :=
  match s.dev.stop.link src with
  | none => .next s
  | some l =>
    if src < 68 ∨ !l.2.2.2 ∨ sub32 s.time.n l.2.1 ≤ 20 then .next s
    else .next { s with dev := { s.dev with stop := { s.dev.stop with
      links := s.dev.stop.links.filter fun x => x.1 != src } } }

end Sys2Proof.Machine
end

