-- ==== Sys2Proof/Machine/Plan.lean ====
section
/-! DEFINITION. The band plan image and PLAN.LOAD (R267 to R273, R140): its parts, the fifteen checks of
Table PRT-3 in order, and the commit of an accepted plan. -/

namespace Sys2Proof.Machine

/-! ## The image (Tables PRT-1 and PRT-2) -/

/-- The length of an image with n segments (R267). -/
def imageLength (n : Nat) : Nat := 192 + 64 * n

/-- A segment entry as its fields. -/
def segOf (b : Bytes) : Seg where
  fLo := fieldAt b 0 4
  fHi := fieldAt b 4 4
  duplex := byteAt b 8
  dir := byteAt b 9
  bg := byteAt b 10
  prio := byteAt b 11
  yrate := byteAt b 12
  yresp := byteAt b 13
  ycount := byteAt b 14
  flags := byteAt b 15
  gReg := fieldAt b 16 2
  nrise := fieldAt b 18 2
  ulOffs := toSigned 16 (fieldAt b 20 2)
  ssEpre := fieldAt b 22 2
  rat := byteAt b 24
  ulScs := byteAt b 25
  pat :=
    { scs := byteAt b 26, offs := byteAt b 27, p1 := byteAt b 28, d1 := byteAt b 29, ds1 := byteAt b 30,
      u1 := byteAt b 31, us1 := byteAt b 32, p2 := byteAt b 33, d2 := byteAt b 34, ds2 := byteAt b 35,
      u2 := byteAt b 36, us2 := byteAt b 37 }

/-- The bytes of segment entry i. -/
def segBytes (b : Bytes) (i : Nat) : Bytes := (b.drop (128 + 64 * i)).take 64

/-- The side code of strand g (Table PRT-1). -/
def sideCode (b : Bytes) (g : Nat) : Nat := byteAt b (64 + g / 4) / 4 ^ (g % 4) % 4

/-- The plan of an image. -/
def planOf (b : Bytes) : Plan where
  slot := byteAt b 6
  id := fieldAt b 8 4
  seq := fieldAt b 12 4
  scope := byteAt b 24
  target := fieldAt b 16 8
  signedAt := fieldAt b 32 8
  notBefore := fieldAt b 40 8
  expiry := fieldAt b 48 8
  maxRun := fieldAt b 56 4
  sides := (List.range 128).map (sideCode b)
  segs := (List.range (byteAt b 7)).map fun i => segOf (segBytes b i)

/-! ## Checks 2 to 9 of Table PRT-3 -/

/-- Check 2: the header is well formed. -/
def headerOk (len : Nat) (b : Bytes) : Bool :=
  decide (128 ≤ len) && !outside (byteAt b 7) 1 64 && decide (len = imageLength (byteAt b 7)) &&
    decide (fieldAt b 0 4 = 0x50424851) && decide (fieldAt b 4 2 = 1) && decide (byteAt b 6 ≤ 3) &&
    decide (byteAt b 24 ≤ 1) && (byteAt b 24 == 0 || decide (fieldAt b 20 4 = 0)) &&
    zeroRange b 25 7 && zeroRange b 60 4 && zeroRange b 96 32

/-- Check 4: the signature of R270 over all but the last 64 bytes. -/
def planSigned (key b : Bytes) : Bool :=
  let m := 128 + 64 * byteAt b 7
  verifySigned key (b.take m) ((b.drop m).take 32) ((b.drop (m + 32)).take 32)

/-- Check 5: SCOPE and TARGET name this module. -/
def Plan.names (p : Plan) (serial group : Nat) : Bool :=
  if p.scope = 0 then p.target == serial else p.target == group

/-- Check 9: no code 3, and no side for an unfitted strand. -/
def Plan.sidesOk (p : Plan) (strands : Nat) : Bool :=
  (List.range 128).all fun g => p.side g != 3 && (decide (g < strands) || p.side g == 0)

/-! ## Checks 10 to 15, each on segment i and the segments before it -/

/-- The zone that a range lies wholly within (R74): 1, 2, or 0 for neither. -/
def Seg.zone (s : Seg) : Nat :=
  if !outside s.fLo 600000 6150000 && !outside s.fHi 600000 6150000 then 1
  else if !outside s.fLo 6350000 7125000 && !outside s.fHi 6350000 7125000 then 2
  else 0

/-- Two segments clash under R75, whichever lies in zone 2. -/
def zonesClash (s t : Seg) : Bool :=
  if s.zone = 1 ∧ t.zone = 2 then imageClash s.fLo s.fHi t.fLo t.fHi
  else if s.zone = 2 ∧ t.zone = 1 then imageClash t.fLo t.fHi s.fLo s.fHi
  else false

/-- Check 10 fails. A plan without a used strand assigns nothing to one strand. -/
def edgesBad (p : Plan) (before : List Seg) (s : Seg) : Bool :=
  s.zone == 0 || (!p.used.isEmpty && before.any fun t => zonesClash s t)

/-- The fields of a pattern lie in their ranges, and the pattern is valid (R269). -/
def Pattern.ok (p : Pattern) : Bool :=
  decide (p.scs ≤ 1) && decide (p.offs ≤ 39) && !outside p.p1 1 8 && decide (p.ds1 ≤ 13) &&
    decide (p.us1 ≤ 13) && decide (p.p2 ≤ 8) && decide (p.ds2 ≤ 13) && decide (p.us2 ≤ 13) &&
    (p.p2 != 0 || (p.d2 == 0 && p.ds2 == 0 && p.u2 == 0 && p.us2 == 0)) && p.valid

/-- Check 11 holds: the ranges of Table PRT-2 and its zero fields. -/
def segFieldsOk (b : Bytes) : Bool :=
  let s := segOf b
  let down := s.duplex == 0 && s.dir == 1
  decide (s.fLo < s.fHi) && decide (s.duplex ≤ 1) &&
    (if s.duplex = 1 then s.dir == 3 else !outside s.dir 1 2) && decide (s.bg ≤ 7) &&
    decide (s.prio ≤ 63) && !outside s.yrate 1 8 && decide (s.yresp ≤ 5) && !outside s.ycount 1 16 &&
    decide (s.flags ≤ 1) && !outside s.gReg 480 1840 &&
    (if down then s.nrise == 0 && s.ulOffs == 0 else !outside s.nrise 1 160) &&
    decide (s.rat ≤ 2) && decide (s.ulScs ≤ 2) &&
    (if s.duplex = 1 then s.pat.ok else zeroRange b 26 12) && zeroRange b 38 26

/-- Two segments relay in one direction. -/
def sameDirection (s t : Seg) : Bool := (s.has 0 && t.has 0) || (s.has 1 && t.has 1)

/-- Check 12 fails. -/
def groupBad (before : List Seg) (s : Seg) : Bool := before.any fun t => t.bg == s.bg && sameDirection s t

/-- Check 13 fails: a shared frequency other than a single common edge. -/
def overlapBad (before : List Seg) (s : Seg) : Bool :=
  before.any fun t => sameDirection s t && decide (s.fLo < t.fHi) && decide (t.fLo < s.fHi)

/-- Check 14 fails: the seam and the span (R140). -/
def spanBad (s : Seg) : Bool :=
  (decide (2 ≤ s.ycount) && decide (1 < s.yresp)) ||
    decide (20 * (s.fHi - s.fLo) < span20 s.yrate s.yresp s.ycount)

/-- Check 15 fails: yarns on a strand, then credits of a hawser (R140). Every strand with a side carries
every segment. -/
def capacityBad (p : Plan) (before : List Seg) (s : Seg) : Bool :=
  let all := before ++ [s]
  let yarns : Nat := (all.map (·.ycount)).sum
  let credits : Nat := (all.map Seg.credits).sum
  (!p.used.isEmpty && decide (16 < yarns)) ||
    (List.range 8).any fun h => decide (4096 < (p.used.countP fun g => g / 16 == h) * credits)

/-- The index of the first segment that fails a check, each seen with the segments before it. -/
def firstBad (bad : List Seg → Seg → Bool) : List Seg → Nat → List Seg → Option Nat
  | _, _, [] => none
  | before, i, s :: ss => if bad before s then some i else firstBad bad (before ++ [s]) (i + 1) ss

/-- Checks 10 to 15 in order: the first that fails with its status, its number and the segment. -/
def segmentChecks (p : Plan) (b : Bytes) : Option (Nat × Nat × Nat) :=
  let run (bad : List Seg → Seg → Bool) (st det : Nat) : Option (Nat × Nat × Nat) :=
    (firstBad bad [] 0 p.segs).map fun i => (st, det, i)
  let fields : Option (Nat × Nat × Nat) :=
    ((List.range p.segs.length).find? fun i => !segFieldsOk (segBytes b i)).map fun i => (stBadArg, 11, i)
  (run (edgesBad p) stBadArg 10).or <| fields.or <| (run groupBad stBadArg 12).or <|
    (run overlapBad stBadArg 13).or <| (run (fun _ s => spanBad s) stBadArg 14).or <|
      run (capacityBad p) stNoRoom 15

/-! ## PLAN.LOAD (R271) -/

/-- What PLAN.LOAD decides: the status, DETAIL and SEG of a failure, or the plan. -/
inductive PlanCheck where
  | bad (status detail seg : Nat)
  | good (p : Plan)
  deriving DecidableEq, Repr, Inhabited

/-- Checks 3 to 15 of Table PRT-3. -/
def State.planChecks (s : State) (b : Bytes) : PlanCheck :=
  let p := planOf b
  match s.nv.key p.slot with
  | none => .bad stDenied 3 0xFF
  | some key =>
    if !planSigned key b then .bad stDenied 4 0xFF
    else if !p.names s.ident.serial s.nv.group then .bad stDenied 5 0xFF
    else if p.seq < s.nv.seqFloors.getD p.slot 0 then .bad stDenied 6 0xFF
    else if s.dev.clk.utc.isNone then .bad stDenied 7 0xFF
    else if !planValidAt s.nv s.dev.clk.utc p then .bad stExpired 8 0xFF
    else if !p.sidesOk s.ctx.strands then .bad stBadArg 9 0xFF
    else match segmentChecks p b with
      | some (st, det, i) => .bad st det i
      | none => .good p

/-- The whole of PLAN.LOAD's decision (R271, R440, R442, R501). -/
def State.planDecision (s : State) (b : InBuf) : PlanCheck :=
  if !modeAccepts s.modes.mode 0x0201 then .bad stDenied 0 0xFF
  else if s.dev.plan.pending.isSome then .bad stBusy 1 0xFF
  else match firstFail (inChecks b 1) with
    | some st => .bad st (if st = stBadArg then 2 else 0) 0xFF
    | none =>
      if !headerOk b.len (b.data.take b.len) then .bad stBadArg 2 0xFF
      else s.planChecks (b.data.take b.len)

/-- PLAN.LOAD (R271, R272). -/
def cmdPlanLoad (h : CmdHdr) (b : InBuf) (s : State) : State :=
  match s.planDecision b with
  | .bad st det seg => { s with dev := s.dev.complete 0x0201 h st det none (leBytes 1 seg) }
  | .good p =>
    let n := s.ctx.effTick
    let d := s.dev
    let q : PendPlan := { plan := p, tick := n }
    let d : Dev := { d with plan := { d.plan with pending := some q } }
    { s with dev := d.complete 0x0201 h stOk 0 (some n) (leBytes 1 0xFF) }

def execPlanLoad (h : CmdHdr) (b : InBuf) (s : State) : Host.Outcome State Fault Refusal :=
  .next (cmdPlanLoad h b s.fetched)

/-! ## The commit (R40, R272 to R274) -/

/-- The fields that must be equal for a segment to keep running (R273). -/
def Seg.sameRun (s t : Seg) : Bool :=
  s.fLo == t.fLo && s.fHi == t.fHi && s.duplex == t.duplex && s.dir == t.dir && s.bg == t.bg &&
    s.yrate == t.yrate && s.yresp == t.yresp && s.ycount == t.ycount && decide (s.pat = t.pat)

/-- Whether a commit keeps a segment running: an entry of the old plan matches and no side changes (R273). -/
def Plan.keeps (old new : Plan) (s : Seg) : Bool :=
  decide (old.sides = new.sides) && old.segs.any fun t => t.sameRun s

/-- Whether a commit starts a segment or changes the side of a strand (R409). -/
def commitStarts (old : Option Plan) (new : Plan) : Bool :=
  match old with
  | none => true
  | some o => !decide (o.sides = new.sides) || new.segs.any fun s => !o.keeps new s

/-- The run count entry of a plan that commits, the 8 most recently committed being kept (R274). -/
def NvSt.touchRun (v : NvSt) (p : Plan) : NvSt :=
  let r : RunCount :=
    { slot := p.slot, id := p.id, seq := p.seq, ticks := v.runTicks p,
      stamp := (v.runCounts.map (·.stamp)).foldl Nat.max 0 + 1 }
  let rest := v.runCounts.filter fun x => !(x.slot == p.slot && x.id == p.id && x.seq == p.seq)
  { v with runCounts := (r :: rest).take 8 }

/-- What a commit leaves in the key store: the sequence floor and TIME_FLOOR are raised (R266, R272). -/
def NvSt.commitPlan (v : NvSt) (p : Plan) : NvSt :=
  { v.touchRun p with
    seqFloors := v.seqFloors.modify p.slot fun f => max f p.seq
    timeFloor := max v.timeFloor p.signedAt }

/-- One tick of the committed plan's run count. -/
def NvSt.countRun (v : NvSt) (p : Plan) : NvSt :=
  { v with runCounts := v.runCounts.map fun r =>
      if r.slot = p.slot ∧ r.id = p.id ∧ r.seq = p.seq then { r with ticks := r.ticks + 1 } else r }

/-- The committed plan with the patterns that R40 holds back. -/
def PlanSt.settled (x : PlanSt) : Option Plan :=
  match x.committed, x.nextPats with
  | some p, some pats => some { p with segs := (p.segs.zip pats).map fun e => { e.1 with pat := e.2 } }
  | c, _ => c

/-- The held-back patterns come into force at a tick edge that begins a frame (R40). -/
def PlanSt.frame (x : PlanSt) (tif : Nat) : PlanSt :=
  if tif = 0 then { x with committed := x.settled, nextPats := none } else x

/-- A new segment with the pattern in force in its band group before the commit (R40). -/
def Plan.withOldPat (old : Option Plan) (s : Seg) : Seg :=
  match old.bind fun o => o.segs.find? fun t => t.bg == s.bg && t.duplex == 1 with
  | some t => if s.duplex = 1 then { s with pat := t.pat } else s
  | none => s

/-- An accepted plan commits at the Plan window of its tick, or at the next one where n was set past it. A commit that starts a segment clears SURVEY_OK
(R40, R272, R409). -/
def State.commitPlan (s : State) : State :=
  match s.dev.plan.pending with
  | none => s
  | some q =>
    if !tickDue s.time.n q.tick then s
    else
      let old := s.dev.plan.committed
      let starts := commitStarts s.dev.plan.settled q.plan
      let now : Plan := { q.plan with segs := q.plan.segs.map (Plan.withOldPat old) }
      let plan : PlanSt :=
        { committed := some now
          pending := none
          valid := s.dev.plan.valid
          posted7 := false
          posted24 := false
          nextPats := some (q.plan.segs.map (·.pat)) }
      let qual : Qual := if starts then { s.dev.qual with surveyOk := false, survCnt := 0 } else s.dev.qual
      { s with
        nv := s.nv.commitPlan q.plan
        dev := { s.dev with plan := plan.frame s.time.tif, qual := qual } }

end Sys2Proof.Machine
end

