-- ==== Sys2Proof/Machine/Reef.lean ====
section
/-! DEFINITION. The Reef governor (spec/11_reef_power_scheduling.md): the power ceiling, the price of a plan,
clock settings, the shedding order, capacity fits, restoration, the draft and the commit. Energies are in
units of 10^-20 J, in which every cost of Table REF-3 is whole. -/

namespace Sys2Proof.Machine

/-! ## Units -/

/-- One millijoule and one microjoule. -/
def eMj : Nat := 100000000000000000
def eUj : Nat := 100000000000000

/-- One watt over a tick of 500 us. -/
def eWatt : Nat := 50000000000000000

/-- An energy per tick as power in W, rounded up. -/
def wattsUp (e : Nat) : Nat := (e + eWatt - 1) / eWatt

/-! ## The ceiling (R359 to R362) -/

/-- The thermal allowance at step k in W: the lowest among the steps up to k; none where none applies. -/
def Dev.allowance (d : Dev) (k : Nat) : Option Nat :=
  ((d.stepWords k).map fun w => w.field 0 10).foldl
    (fun best a => if 560 < a then best else match best with
      | none => some a
      | some b => some (min a b)) none

/-- Whether a setting lies within a ceiling: a higher divide, or its divide with at least its skip. -/
def clockWithin (ceil x : Clock) : Bool := decide (ceil.1 < x.1) || (x.1 == ceil.1 && decide (ceil.2 ≤ x.2))

/-- The lowest of the newest `k` samples of VIN, mV. -/
def lowestVin (vin : List Nat) (k : Nat) : Nat :=
  match vin.take k with
  | [] => 0
  | v :: vs => vs.foldl min v

/-- VIN samples in the 500 us before a draft and in the 64 us before a commit, at one sample in 8 us. -/
def draftSamples : Nat := 63
def commitSamples : Nat := 8

/-- A VIN sample (R359). -/
def execVinSample (mv : Nat) (s : State) : Host.Outcome State Fault Refusal :=
  .next { s with dev := { s.dev with reef := { s.dev.reef with
    vin := (mv :: s.dev.reef.vin).take draftSamples } } }

/-- The ceiling in microwatts with the code of the term that sets it: 0 supply, 1 host cap, 2 thermal. -/
def Dev.ceiling (d : Dev) (ilim vin : Nat) : Nat × Nat :=
  let supply := 920 * vin * ilim
  let a := if d.reef.capW ≠ 0 ∧ d.reef.capW * 1000000 < supply then (d.reef.capW * 1000000, 1) else (supply, 0)
  match d.allowance d.reefStep with
  | some w => if w * 1000000 < a.1 then (w * 1000000, 2) else a
  | none => a

/-- The energy of a tick at a ceiling in microwatts. -/
def tickEnergy (uw : Nat) : Nat := uw * 50000000000

/-- REEF.CAP (R360). -/
def cmdReefCap (h : CmdHdr) (capW : Nat) (s : State) : State :=
  s.onDev fun c d =>
    guarded 0x0701 h [(decide (560 < capW), stBadArg), (!modeAccepts c.mode 0x0701, stDenied)]
      (fun d => d.planned c 0x0701 h (.cap capW)) d

def execReefCap (h : CmdHdr) (capW : Nat) (s : State) : Host.Outcome State Fault Refusal :=
  .next (cmdReefCap h capW s.fetched)

/-! ## Uplink schedules (R367) -/

/-- Ticks from the effective tick to the first frame whose SFN is a multiple of the period. -/
def schedDelay (tih period : Nat) : Nat :=
  ((List.range (20 * period)).find? fun k => (tih + k) % (20 * period) == 0).getD 0

/-- The bits of a schedule: bit j of the buffer is bit j mod 8 of byte j / 8. -/
def schedBits (log2 : Nat) (b : Bytes) : List Bool :=
  (List.range (20 * 2 ^ log2)).map fun j => byteAt b (j / 8) / 2 ^ (j % 8) % 2 == 1

/-- UL.SCHED (R367). A clear takes no buffer; its period is its own PERIOD_LOG2. -/
def cmdUlSched (h : CmdHdr) (bg action periodLog2 : Nat) (b : InBuf) (s : State) : State :=
  s.onDev fun c d =>
    let buf := if action = 1 then inChecks b ((20 * 2 ^ periodLog2 + 7) / 8) else []
    guarded 0x0205 h
      ([(decide (7 < bg), stBadArg), (outside action 1 2, stBadArg), (decide (10 < periodLog2), stBadArg)] ++
        buf ++ [(!modeAccepts c.mode 0x0205, stDenied)])
      (fun d =>
        let n := c.effTick
        let tih := (c.tih + sub32 n c.n) % 20480
        let at_ := (n + schedDelay tih (2 ^ periodLog2)) % two32
        let u : UlSched :=
          { bg := bg, log2 := periodLog2, bits := if action = 1 then schedBits periodLog2 b.data else [] }
        let p : Pend := { tick := at_, opcode := 0x0205, tag := h.tag, what := .sched (action == 1) u n }
        ({ d with pend := d.pend ++ [p] }).okAt 0x0205 h at_) d

def execUlSched (h : CmdHdr) (bg action periodLog2 : Nat) (b : InBuf) (s : State) :
    Host.Outcome State Fault Refusal :=
  .next (cmdUlSched h bg action periodLog2 b s.fetched)

/-! ## Work that a plan holds (R363, R368, R369, R371) -/

/-- What the governor plans for: the state with the changes of the planned tick, that tick's context and
mode. -/
structure GovView where
  d : Dev
  c : Ctx
  m : Mode
  deriving DecidableEq, Repr, Inhabited

/-- Whether a measurement yarn works under a plan. -/
def RPlan.runsMeas (r : RPlan) (m : MYarn) : Bool :=
  match m.owner with
  | 1 => !r.item1 4 m.tag
  | 2 => !r.item1 3 m.tag
  | 3 => !r.item1 0 m.tag
  | 4 => !r.item1 2 0
  | _ => true

/-- The level of an instance under a plan: 0 for TAPS, then L/2, L/4, L/8 and 0. -/
def RPlan.tapLevel (r : RPlan) (inst : Nat) : Nat :=
  (r.shed.filter fun s => s.step == 3 && s.num == inst).foldl (fun l s => max l s.hawser) 0

/-- The taps per reference of a binding at a level (R201). -/
def tapsAt (a : CancArgs) (level : Nat) : Nat := if 4 ≤ level then 0 else a.taps / 2 ^ level

/-- The active taps of an instance under a plan. -/
def GovView.taps (v : GovView) (r : RPlan) (i : Inst) : Nat :=
  min (fitTaps i.a (v.d.rhoOf (victim i.a))) (tapsAt i.a (r.tapLevel i.a.inst))

/-- The measurement yarns of the planned tick: those kept whose tick has come by then (R38). -/
def GovView.myarns (v : GovView) : List MYarn := v.d.keptYarns.filter fun y => tickDue v.c.n y.start

/-- The instances of hawser h. -/
def GovView.insts (v : GovView) (h : Nat) : List Inst := v.d.can.insts.filter fun i => i.a.inst / 64 == h

/-- The yarn credits that hawser h must hold under a plan (R142, R364): relay yarns, and measurement yarns
that are not shed. -/
def GovView.credLoad (v : GovView) (r : RPlan) (h : Nat) : Nat :=
  v.d.credRelay r h +
    ((v.myarns.filter fun y => y.g / 16 == h && r.runsMeas y).map fun y => creditCost y.rho).sum

/-- Twice the credits whose energy a relay yarn of a segment costs on strand g: none for an FDD uplink yarn
and half for a TDD yarn in a gated tick; a shed segment keeps the donor-side RX yarns of Painter. -/
def GovView.yarnCost2 (v : GovView) (r : RPlan) (g i : Nat) (s : Seg) : Nat :=
  let full := 2 * creditCost s.yrate
  if r.segShedOn i (g / 16) then (if v.d.keepsSeg r g i then full else 0)
  else if !segInMode v.m s ∨ !formsBeams v.m then 0
  else if v.d.gated v.m s v.c.time.sfn v.c.time.tif then (if s.duplex = 1 then full / 2 else 0)
  else full

/-- Twice the yarn credits in use on hawser h. -/
def GovView.yarns2 (v : GovView) (r : RPlan) (h : Nat) : Nat :=
  let segs := ((v.d.plan.committed.map (·.segs)).getD [])
  let relay := (List.range 16).map fun k =>
    let g := 16 * h + k
    if v.d.holdsYarns r g then
      (((List.range segs.length).zip segs).map fun e => e.2.ycount * v.yarnCost2 r g e.1 e.2).sum
    else 0
  relay.sum + 2 * ((v.myarns.filter fun y => y.g / 16 == h && r.runsMeas y).map fun y =>
    creditCost y.rho).sum

/-- The steering slots of a group that a plan of the view holds (R43). -/
def GovView.slots (v : GovView) (r : RPlan) (bg : Nat) : List Nat := v.d.planSlots r v.m bg

/-- The service beams of a group that a plan holds: formed beams and slots. A group that no segment names has none (R146),
one whose segments are all shed the guard beam alone (R371). -/
def GovView.beams (v : GovView) (r : RPlan) (bg : Nat) : List Nat :=
  let named := (v.d.serviceBeams r v.m bg).filter fun b => decide (b < (v.d.beams.group bg).fixed)
  let segs := (v.d.plan.committed.map (·.segs)).getD []
  let mine := (List.range segs.length).filter fun i => (segs[i]?).any fun s => s.bg == bg
  if named.isEmpty || mine.isEmpty then []
  else if mine.all fun i => r.segShed i then named.filter (· == 0)
  else named ++ v.slots r bg

/-- The beam yarns whose Lay work a plan holds. -/
def GovView.layYarns (v : GovView) (r : RPlan) : List Nat :=
  let slots := (List.range 8).flatMap fun bg =>
    match v.d.plan.committed.bind fun p => (p.segIndex bg 1).bind fun i => p.segs[i]?.map fun s => (i, s) with
    | none => []
    | some e =>
      if r.segShed e.1 || v.d.gated v.m e.2 v.c.time.sfn v.c.time.tif then []
      else (v.slots r bg).flatMap fun b => (List.range e.2.ycount).map fun pos => mkByid 1 bg b pos
  (v.d.formedYarns v.c r v.m ++ slots).dedup

/-- The canceller load of an instance, R x L_a x r in units of 3.84 Msps; one whose victim the plan does not form is idle
(R184). A gated tick frees no capacity (R368). -/
def GovView.load (v : GovView) (r : RPlan) (victims : List Nat) (i : Inst) : Nat :=
  if victim i.a ∈ victims then usedRefs i.a * v.taps r i * creditCost (v.d.rhoOf (victim i.a)) else 0

/-- The victims whose taps a plan runs, gated or not. -/
def GovView.victims (v : GovView) (r : RPlan) : List Nat := ({ v with d := v.d.ungated }).layYarns r

/-- The canceller load of a hawser. -/
def GovView.cancLoad (v : GovView) (r : RPlan) (h : Nat) : Nat :=
  let victims := v.victims r
  ((v.insts h).map fun i => v.load r victims i).sum

/-- Hawsers with combining strands of a beam yarn: those of its RX vector that count. A slot, whose vector its
next claim brings, is priced with every service strand that counts. -/
def GovView.combining (v : GovView) (r : RPlan) (byid : Nat) : Nat :=
  let gs := if v.d.isSlot byid then
      (List.range 128).filter fun g => v.d.side g == 2 && v.d.strandCounts r v.m g
    else (v.d.rxVecOf r v.m byid).map (·.1)
  ((gs.map fun g => g / 16).dedup).length

/-- The energy of the Lay work. -/
def GovView.layEnergy (v : GovView) (r : RPlan) : Nat :=
  ((v.layYarns r).map fun b => creditCost (v.d.rhoOf b) * (8 + v.combining r b)).sum * (eUj / 16)

/-- Strands whose converter channels run under a plan: a strand that failed calibration runs none (R93), nor does one of a
tile without converter power (R90). -/
def GovView.strands (v : GovView) (r : RPlan) : List Nat :=
  (List.range v.c.strands).filter fun g => v.d.strandRuns r g && v.d.conv.power.getD (g / 8) false

/-- Whether every uplink and TDD segment is gated: the donor side then transmits nothing. -/
def GovView.upGated (v : GovView) (r : RPlan) : Bool :=
  let segs := ((v.d.plan.committed.map (·.segs)).getD [])
  let ups := ((List.range segs.length).zip segs).filter fun e => e.2.has 1 && !r.segShed e.1
  !ups.isEmpty && ups.all fun e => v.d.gated v.m e.2 v.c.time.sfn v.c.time.tif

/-- Strands with a running test signal. -/
def GovView.testing (v : GovView) : List Nat := (v.d.conv.tests.filter fun t => !t.ended).map (·.g)

/-- The energy of the converter tiles and channels. -/
def GovView.tileEnergy (v : GovView) (r : RPlan) : Nat :=
  let on := v.strands r
  let tx := (on.filter fun g => !(v.d.side g == 1 && v.upGated r)) ++ v.testing.filter fun g => !decide (g ∈ on)
  let tiles := ((on ++ tx).map fun g => g / 8).dedup
  tiles.length * (75 * eMj / 100) + on.length * (375 * eMj / 1000) + tx.length * (3125 * eMj / 10000)

/-- The capture rate that a plan holds, bit/s. -/
def GovView.capRate (v : GovView) (r : RPlan) : Nat :=
  ((List.range 16).map fun i =>
    let b := v.d.ldl.caps.getD i default
    if b.writing && !r.item1 3 i then b.rate else 0).sum

/-- The energy that no hawser clock touches, but for the Lay work. Matching is priced into every plan (R369). -/
def GovView.fixedEnergy (v : GovView) (r : RPlan) : Nat :=
  let rate := v.capRate r
  13 * eMj + 4 * eMj + rate * 50000 + (v.d.splice.linkUp.countP id) * eMj + 8 * (54375 * eMj / 100000) +
    (v.d.reef.dramBytes + rate / 16000) * (eMj / 10000000) +
    v.c.hawsers * (4 * eMj / 10 + if bookRuns v.m && !r.bookShed then 3 * eMj / 10 else 0)

/-! ## Hawser clock settings (R364, R365) -/

/-- The energy of hawser h at a setting: its base, yarn chains and cancellers (Table REF-3, Table REF-4). -/
def GovView.hawserEnergy (v : GovView) (r : RPlan) (h : Nat) (k : Clock) : Nat :=
  let units := v.yarns2 r h * (75 * eUj / 100) + v.cancLoad r h * 610351562500
  let fbase := if k.1 = 1 then 10 else if k.1 = 2 then 6 else 4
  let funit := if k.1 = 1 then 100 else if k.1 = 2 then 70 else 55
  2876 * eMj / 1000 / 320 * fbase * (32 - k.2) + units / 100 * funit

/-- The limits of a setting: yarn credits and canceller load. -/
def clockCredits (k : Clock) : Nat := 256 * (16 - k.2) / k.1
def clockTaps (k : Clock) : Nat := 32768 * (16 - k.2) / k.1

/-- Whether hawser h's load fits a setting. -/
def GovView.fits (v : GovView) (r : RPlan) (h : Nat) (k : Clock) : Bool :=
  decide (v.credLoad r h ≤ clockCredits k) && decide (v.cancLoad r h ≤ clockTaps k)

/-- Every setting, the higher capacities first. -/
def allClocks : List Clock := [1, 2, 4].flatMap fun d => (List.range 9).map fun k => (d, k)

/-- Of two settings the one of lower energy, and on equal energy the one of higher capacity. -/
def betterClock (a b : Nat × Clock) : Nat × Clock :=
  if b.1 < a.1 ∨ (b.1 = a.1 ∧ clockCap a.2 < clockCap b.2) then b else a

/-- The setting of hawser h under a ceiling; the ceiling itself where nothing fits. -/
def GovView.pickClock (v : GovView) (r : RPlan) (h : Nat) (ceil : Clock) : Clock :=
  match (allClocks.filter fun k => clockWithin ceil k && v.fits r h k).map fun k => (v.hawserEnergy r h k, k) with
  | [] => ceil
  | x :: xs => (xs.foldl betterClock x).2

/-- The energy of a plan at its settings. -/
def GovView.energy (v : GovView) (r : RPlan) : Nat :=
  let clocks := (List.range v.c.hawsers).map fun h => v.hawserEnergy r h (r.clocks.getD h (1, 0))
  v.fixedEnergy r + (if v.d.mem.gated then 0 else v.tileEnergy r + v.layEnergy r + clocks.sum)

/-- A plan with its clocks refitted and its energy computed. -/
def GovView.refit (v : GovView) (ceil : Clock) (r : RPlan) : RPlan :=
  let clocks := (List.range 8).map fun h => if h < v.c.hawsers then v.pickClock r h ceil else (1, 0)
  let r : RPlan := { r with clocks := clocks }
  { r with energy := v.energy r }

/-! ## The shedding order (R371, R372) -/

/-- A plan with one more item shed. -/
def RPlan.push (r : RPlan) (step kind num hawser tick : Nat) : RPlan :=
  let s : Shed := { step := step, kind := kind, num := num, hawser := hawser, since := tick }
  { r with shed := r.shed ++ [s] }

/-- The step 1 items that remain, in their order, as (kind, number); `on` restricts them to measurement yarns
of a hawser. -/
def GovView.step1 (v : GovView) (r : RPlan) (on : Option Nat) : List (Nat × Nat) :=
  let has (owner tag : Nat) : Bool := match on with
    | none => true
    | some h => v.myarns.any fun y => y.owner == owner && (owner == 4 || y.tag == tag) && y.g / 16 == h
  let snaps := (v.d.ldl.snaps.filter fun x => x.shed == 0).map fun x => (0, x.key)
  let learn : List (Nat × Nat) := if v.d.can.learn.isSome ∧ on.isNone then [(1, 0)] else []
  let cal : List (Nat × Nat) := if v.d.beams.arrayCal.isSome then [(2, 0)] else []
  let caps := ((List.range 16).reverse.filter fun i => (v.d.ldl.caps.getD i default).writing).map fun i => (3, i)
  let subs := (sortBy (fun a b => decide (b ≤ a))
    ((v.d.ldl.subs.filter fun s => s.a.src == 3 && !s.idle).map fun s => s.a.subId)).map fun i => (4, i)
  (snaps ++ learn ++ cal ++ caps ++ subs).filter fun e =>
    !r.item1 e.1 e.2 && (e.1 == 1 || has (if e.1 = 0 then 3 else if e.1 = 2 then 4 else if e.1 = 3 then 2 else 1) e.2)

/-- One candidate halving: the instance, the level it reaches and the surplus in the dB unit. -/
structure Halving where
  inst : Nat
  level : Nat
  surplus : Int
  slot : Bool
  deriving DecidableEq, Repr, Inhabited

/-- The next level of an instance, below its active taps; none at 0 taps. -/
def GovView.nextLevel (v : GovView) (r : RPlan) (i : Inst) : Option Nat :=
  (List.range 5).find? fun k => decide (r.tapLevel i.a.inst < k) && decide (tapsAt i.a k < v.taps r i)

/-- The Belay state whose gain need a victim has: a slot's is that of its ceiling (R235, R372). -/
def needKey (a : CancArgs) : Nat := if a.vkind = 3 then 16384 + mkByid 1 a.bg 0 a.pos else victim a

/-- The candidate halving of an instance with its surplus (R372); a victim without a prediction or a gain
need has none. -/
def GovView.halving (v : GovView) (r : RPlan) (i : Inst) : Option Halving :=
  match v.nextLevel r i, v.d.can.loop (victim i.a),
      v.d.bel.yarns.find? fun y => y.byid == needKey i.a with
  | some k, some l, some y =>
    (l.preds[k]?).map fun p =>
      { inst := i.a.inst, level := k, surplus := p * dB16 - v.d.use.margin - y.need, slot := i.a.vkind == 3 }
  | _, _, _ => none

/-- Whether every instance of a hawser but those of slots is at L/8 or below; an idle one has no active tap (R184). -/
def GovView.othersLow (v : GovView) (r : RPlan) (victims : List Nat) (h : Nat) : Bool :=
  (v.insts h).all fun i => i.a.vkind == 3 || decide (3 ≤ r.tapLevel i.a.inst) || v.load r victims i == 0

/-- The first of two halvings: the larger surplus, then the lower instance number. -/
def betterHalving (a b : Halving) : Halving :=
  if a.surplus < b.surplus ∨ (a.surplus = b.surplus ∧ b.inst < a.inst) then b else a

/-- The halving that comes first of some. -/
def firstHalving : List Halving → Option Halving
  | [] => none
  | x :: xs => some (xs.foldl betterHalving x)

/-- The halving that comes first among some instances; slots wait for the others of their hawser. -/
def GovView.bestHalving (v : GovView) (r : RPlan) (victims : List Nat) (is : List Inst) : Option Halving :=
  firstHalving ((is.filterMap fun i => v.halving r i).filter fun x => !x.slot || v.othersLow r victims (x.inst / 64))

/-- The service beam that step 4 sheds next. -/
def GovView.step4 (v : GovView) (r : RPlan) : Option (Nat × Nat) :=
  let groups := (List.range 8).filterMap fun bg =>
    let bs := v.beams r bg
    match (bs.filter (· != 0)).getLast? with
    | some b => some (bs.length, bg, b)
    | none => none
  match groups with
  | [] => none
  | x :: xs => some (xs.foldl (fun a b => if a.1 ≤ b.1 then b else a) x).2

/-- The tile order of step 5. -/
def tileOrder : List Nat := [15, 13, 11, 9, 7, 5, 3, 14, 12, 10, 8, 6, 4, 2]

/-- Whether a tile holds a running service strand under a plan. -/
def GovView.tileRuns (v : GovView) (r : RPlan) (t : Nat) : Bool :=
  decide (t < Config.tiles v.c.ident.member) &&
    (List.range 8).any fun k => v.d.side (8 * t + k) == 2 && v.d.strandRuns r (8 * t + k)

/-- The segments of the committed plan that a test selects, in the order of step 6. -/
def GovView.step6 (v : GovView) (sel : Nat → Bool) : Option Nat :=
  let segs := ((v.d.plan.committed.map (·.segs)).getD [])
  match ((List.range segs.length).zip segs).filter fun e => sel e.1 with
  | [] => none
  | x :: xs => some (xs.foldl (fun a b => if a.2.prio ≤ b.2.prio then b else a) x).1

/-- Shed the next item of steps 1 and 2. -/
def GovView.shedWork (v : GovView) (r : RPlan) : Option RPlan :=
  match v.step1 r none with
  | e :: _ => some (r.push 1 e.1 e.2 0 v.c.n)
  | [] => if bookRuns v.m && !r.bookShed then some (r.push 2 0 0 0 v.c.n) else none

/-- Shed the next item of step 3: only where the surplus stays at or above 0 dB. -/
def GovView.shedTaps (v : GovView) (r : RPlan) : Option RPlan :=
  let is := v.d.can.insts.filter fun i => (v.halving r i).any fun x => decide (0 ≤ x.surplus)
  (v.bestHalving r (v.victims r) is).map fun x => r.push 3 0 x.inst x.level v.c.n

/-- Shed the next item of step 4. -/
def GovView.shedBeam (v : GovView) (r : RPlan) : Option RPlan :=
  (v.step4 r).map fun e => r.push 4 0 (64 * e.1 + e.2) 0 v.c.n

/-- Shed the next item of step 5. -/
def GovView.shedTile (v : GovView) (r : RPlan) : Option RPlan :=
  (tileOrder.find? fun t => !r.tileShed t && v.tileRuns r t).map fun t => r.push 5 0 t 0 v.c.n

/-- Shed the next item of step 6. -/
def GovView.shedSeg (v : GovView) (r : RPlan) : Option RPlan :=
  (v.step6 fun i => !r.segShed i).map fun i => r.push 6 0 i 0 v.c.n

/-- Shed the next item of Table REF-5. -/
def GovView.shedNext (v : GovView) (r : RPlan) : Option RPlan :=
  v.shedWork r <|> v.shedTaps r <|> v.shedBeam r <|> v.shedTile r <|> v.shedSeg r

/-- More items than Table REF-5 can hold. -/
def shedFuel : Nat := 4096

/-- Shed until a plan costs no more than an energy; one under the floor is marked (R370, R375). -/
def GovView.shedTo (v : GovView) (ceil : Clock) (e : Nat) : Nat → RPlan → RPlan
  | 0, r => { r with under := true }
  | n + 1, r =>
    if r.energy ≤ e then r
    else match v.shedNext r with
      | none => { r with under := true }
      | some r' => GovView.shedTo v ceil e n (v.refit ceil r')

/-- Shed everything (R375). -/
def GovView.shedAll (v : GovView) : Nat → RPlan → RPlan
  | 0, r => r
  | n + 1, r => match v.shedNext r with
    | none => r
    | some r' => GovView.shedAll v n r'

/-! ## The capacity fit (R373) -/

/-- The halving of an instance that has no prediction or gain need. -/
def GovView.blindHalving (v : GovView) (r : RPlan) (i : Inst) : Option Halving :=
  (v.nextLevel r i).map fun k => { inst := i.a.inst, level := k, surplus := 0, slot := i.a.vkind == 3 }

/-- The halving that a fit of hawser h takes among the instances that use the limit: the first under R372. DESIGN CHOICE
(assumption 119): those without a prediction or a gain need come after those with both, in the same order. -/
def GovView.fitHalving (v : GovView) (r : RPlan) (h : Nat) : Option Halving :=
  let victims := v.victims r
  let is := (v.insts h).filter fun i => decide (0 < v.load r victims i)
  v.bestHalving r victims is <|>
    firstHalving ((is.filterMap fun i => v.blindHalving r i).filter fun x => !x.slot || v.othersLow r victims h)

/-- Halve taps on hawser h until its canceller load fits, without the surplus condition. -/
def GovView.fitTapsOf (v : GovView) (ceil : Clock) (h : Nat) : Nat → RPlan → RPlan
  | 0, r => r
  | n + 1, r =>
    if v.cancLoad r h ≤ clockTaps ceil then r
    else match v.fitHalving r h with
      | none => r
      | some x => GovView.fitTapsOf v ceil h n { r.push 3 0 x.inst x.level v.c.n with fit := true }

/-- The next item that a credit fit of hawser h removes. -/
def GovView.credItem (v : GovView) (r : RPlan) (h : Nat) : Option RPlan :=
  match v.step1 r (some h) with
  | e :: _ => some (r.push 1 e.1 e.2 0 v.c.n)
  | [] =>
    match [2 * h + 1, 2 * h].find? fun t => decide (2 ≤ t) && !r.tileShed t && v.tileRuns r t with
    | some t => some (r.push 5 0 t 0 v.c.n)
    | none => (v.step6 fun i => !r.segShedOn i h).map fun i => r.push 6 0 i (h + 1) v.c.n

/-- Remove yarn work on hawser h until its credits fit. -/
def GovView.fitCredits (v : GovView) (ceil : Clock) (h : Nat) : Nat → RPlan → RPlan
  | 0, r => r
  | n + 1, r =>
    if v.credLoad r h ≤ clockCredits ceil then r
    else match v.credItem r h with
      | none => r
      | some r' => GovView.fitCredits v ceil h n { r' with fit := true }

/-- The capacity fit of every hawser. -/
def GovView.capacityFit (v : GovView) (ceil : Clock) (r : RPlan) : RPlan :=
  (List.range v.c.hawsers).foldl
    (fun r h => v.fitCredits ceil h shedFuel (v.fitTapsOf ceil h shedFuel r)) r

/-! ## Restoration (R374) -/

/-- DWELL as it acts. -/
def Setup.reefDwell (u : Setup) : Nat := max 1 (u.reefCfg.field 5 8)

/-- Whether every hawser's load fits its clock ceiling. -/
def GovView.allFit (v : GovView) (ceil : Clock) (r : RPlan) : Bool :=
  (List.range v.c.hawsers).all fun h => v.fits r h ceil

/-- Restore shed items, the most recent first, until one fails; `done` holds the instances already doubled in
this draft. -/
def GovView.restore (v : GovView) (ceil : Clock) (e : Nat) : Nat → List Nat → RPlan → RPlan
  | 0, _, r => r
  | n + 1, done, r => match r.shed.getLast? with
    | none => r
    | some s =>
      let r' := v.refit ceil { r with shed := r.shed.dropLast }
      if sub32 v.c.n s.since < v.d.use.reefDwell ∨ (s.step = 3 ∧ s.num ∈ done) ∨ !v.allFit ceil r' ∨
          e * (100 - v.d.use.reefCfg.field 0 5) < 100 * r'.energy then r
      else GovView.restore v ceil e n (if s.step = 3 then s.num :: done else done) r'

/-! ## The draft (R370) -/

/-- Whether a shed item still stands for something: work that ended or a place that is gone is dropped. -/
def GovView.stands (v : GovView) (s : Shed) : Bool :=
  match s.step with
  | 1 => match s.kind with
    | 0 => v.d.ldl.snaps.any fun x => x.key == s.num && x.shed == 0
    | 1 => v.d.can.learn.isSome
    | 2 => v.d.beams.arrayCal.isSome
    | 3 => (v.d.ldl.caps.getD s.num default).writing
    | _ => v.d.ldl.subs.any fun x => x.a.subId == s.num && x.a.src == 3 && !x.idle
  | 3 => v.d.can.insts.any fun i => i.a.inst == s.num
  | 4 => decide (s.num % 64 < (v.d.beams.group (s.num / 64)).sbeams)
  | 6 => decide (s.num < ((v.d.plan.committed.map (·.segs)).getD []).length)
  | _ => true

/-- The taps that a plan lowers, for the instances and Belay. -/
def GovView.tapList (v : GovView) (r : RPlan) : List (Nat × Nat) :=
  (v.d.can.insts.filter fun i => r.tapLevel i.a.inst != 0).map fun i => (i.a.inst, v.taps r i)

/-- Apply the changes of a list that are due at a time and bear on the governor's plan. -/
def Dev.govApply (c : Ctx) (t : TimeSt) : List Pend → Dev → Dev
  | [], d => d
  | p :: ps, d =>
    let later := ps.map (·.what)
    Dev.govApply c t ps
      (if !p.due t then d
      else match p.what with
        | .canc a rho => d.applyCanc a rho
        | .sub a => d.applySub c later a
        | .arm a es rate ring => d.applyArm t.n later a es rate ring
        | .sched on u _ => d.applySched on u
        | _ => d)

/-- The changes of the host that take effect at the planned tick. -/
def Dev.govPreview (d : Dev) (c : Ctx) : Dev := Dev.govApply c (d.nextCtx c).time d.pend (d.preview c)

/-- What the governor plans the next tick for. -/
def Dev.govView (d : Dev) (c : Ctx) : GovView :=
  let next := d.nextCtx c
  { d := d.govPreview c, c := next, m := next.mode }

/-- The draft for a tick energy, carried on from the committed plan (R370 to R375). -/
def GovView.draft (v : GovView) (ceil : Clock) (e : Nat) (r : RPlan) : RPlan :=
  let r : RPlan := { r with
    shed := r.shed.filter fun s => v.stands s
    under := false
    isOver := false
    fit := false }
  let r := v.refit ceil (v.capacityFit ceil r)
  let r := v.shedTo ceil e shedFuel r
  let r := if r.under then r else v.restore ceil e shedFuel [] r
  { r with taps := v.tapList r }

/-- The floor energy (R375): everything shed, every hawser at its lowest-energy setting. -/
def GovView.floor (v : GovView) (ceil : Clock) (r : RPlan) : Nat :=
  (v.refit ceil (v.shedAll shedFuel { r with shed := r.shed.filter fun s => v.stands s })).energy

/-- The eight modes in which the governor plans every tick (R35). -/
def governs : Mode → Bool
  | .reset | .boot | .coil | .latched => false
  | .hank | .survey | .standby | .relayOpen | .relaySteered | .relayNetwork | .muted | .maintenance => true

/-- T0 + 24 us: the governor drafts the plan of the next tick (R359, R370). -/
def Dev.startDraft (d : Dev) (c : Ctx) : Dev :=
  if !governs (d.nextModes c).mode then { d with reef := { d.reef with draft := none } }
  else
    let v := d.govView c
    let ceil := d.clockCeiling d.reefStep
    let uw := (d.ceiling c.ident.ilim (lowestVin d.reef.vin draftSamples)).1
    let base : RPlan := { d.reef.plan with thin := (List.range 8).filter d.hawserThin }
    let r := v.draft ceil (tickEnergy uw) base
    let reef : Reef := { d.reef with
      draft := some r
      draftUw := uw
      dramDraft := d.reef.dramBytes
      floorE := v.floor ceil base
      capFit := if r.fit then satAdd 8 d.reef.capFit 1 else d.reef.capFit }
    let d := { d with reef := reef }
    if r.under && !d.reef.plan.under then d.raise c 7 3 0 c.time.sub else d

/-! ## The commit (R362, R376, R377) -/

/-- Shed the next item that R28 allows at a commit: work, service beams, segments. -/
def GovView.cutNext (v : GovView) (r : RPlan) : Option RPlan :=
  v.shedWork r <|> v.shedBeam r <|> v.shedSeg r

/-- Shed at the commit until the plan costs no more than an energy; clocks stay as they are. -/
def GovView.cutTo (v : GovView) (e : Nat) : Nat → RPlan → RPlan
  | 0, r => r
  | n + 1, r =>
    if r.energy ≤ e then r
    else match v.cutNext r with
      | none => r
      | some r' => GovView.cutTo v e n { r' with energy := v.energy r' }

/-- The hawsers from the one of highest energy down. -/
def GovView.hottest (v : GovView) (r : RPlan) : List Nat :=
  sortBy (fun a b =>
    decide (v.hawserEnergy r b (r.clocks.getD b (1, 0)) ≤ v.hawserEnergy r a (r.clocks.getD a (1, 0))))
    (List.range v.c.hawsers)

/-- One step of skip on a hawser, up to 8, while its load fits. -/
def GovView.skipSteps (v : GovView) (e h : Nat) : Nat → RPlan → RPlan
  | 0, r => r
  | n + 1, r =>
    let k := r.clocks.getD h (1, 0)
    if r.energy ≤ e ∨ 8 ≤ k.2 ∨ !v.fits r h (k.1, k.2 + 1) then r
    else
      let r : RPlan := { r with clocks := r.clocks.set h (k.1, k.2 + 1) }
      GovView.skipSteps v e h n { r with energy := v.energy r }

/-- The reductions of R376. -/
def GovView.cut (v : GovView) (e : Nat) (r : RPlan) : RPlan :=
  let r := v.cutTo e shedFuel r
  let r := (v.hottest r).foldl (fun r h => v.skipSteps e h 8 r) r
  { r with isOver := decide (e < r.energy) }

/-- The tiles and segments that a plan holds back (Table REF-7). -/
def RPlan.tilesOff (r : RPlan) : Nat := ((r.shed.filter fun s => s.step == 5).map (·.num)).dedup.length
def RPlan.segsOff (r : RPlan) : Nat := ((r.shed.filter fun s => s.step == 6).map (·.num)).dedup.length

/-- The mask of the steps that hold a shed item. -/
def RPlan.shedMask (r : RPlan) : Nat :=
  ((List.range 6).filter fun j => r.shed.any fun s => s.step == j + 1).foldl (fun a j => a + 2 ^ j) 0

/-- DIV as the registers code it. -/
def divCode (d : Nat) : Nat := if d = 4 then 2 else if d = 2 then 1 else 0

/-- The shed set of a plan without its times. -/
def RPlan.shedSet (r : RPlan) : List (Nat × Nat × Nat × Nat) := r.shed.map fun s => (s.step, s.kind, s.num, s.hawser)

/-- The REEF event of a commit that changes the shed set, a setting or UNDER (R377). -/
def Dev.reefEvent (d : Dev) (c : Ctx) (old new : RPlan) : Dev :=
  if old.shedSet = new.shedSet ∧ old.clocks = new.clocks ∧ old.under = new.under then d
  else
    d.event c 5 (new.shedMask + 64 * bitNat new.under) 0 (wattsUp new.energy)
      (new.tilesOff + 256 * new.segsOff)
      ((List.range 8).flatMap fun h =>
        let k := new.clocks.getD h (1, 0)
        leBytes 1 (divCode k.1 + 4 * k.2))

/-- What shedding does to the work of step 1: a snapshot ends with status 1, a writing capture has a gap, and the entry
whose learning is restored counts its ticks from the start (Table REF-5). -/
def Dev.shedWorkEffects (d : Dev) (old new : RPlan) : Dev :=
  let snaps := d.ldl.snaps.map fun x => if x.shed = 0 ∧ new.item1 0 x.key then { x with shed := 1 } else x
  let d : Dev := { d with ldl := { d.ldl with snaps := snaps } }
  let d := ((List.range 16).filter fun i => new.item1 3 i && !old.item1 3 i).foldl (fun d i => d.capGap i) d
  if old.learnShed && !new.learnShed then d.abandonLearn fun _ _ => true else d

/-- The Plan window commits the draft, reduced where the ceiling has fallen, or the plan of the last tick where
the draft was late (R28, R41, R376). -/
def Dev.commitReef (d : Dev) (c : Ctx) : Dev :=
  if !governs c.mode then d
  else
    let v : GovView := { d := { d with reef := { d.reef with dramBytes := d.reef.dramDraft } }, c := c, m := c.mode }
    let vin := lowestVin d.reef.vin commitSamples
    let (uw, src) := d.ceiling c.ident.ilim vin
    let e := tickEnergy uw
    let old := d.reef.plan
    let base := d.reef.draft.getD old
    let was := if d.reef.draft.isSome then d.reef.draftUw else d.reef.ceilUw
    let fell := decide (uw < was) && decide (e < base.energy)
    let new := if fell then v.cut e base else base
    let reef : Reef := { d.reef with
      plan := new
      draft := none
      vinUse := vin
      ceilUw := uw
      ceilSrc := src
      commitCut := if new.shed = base.shed ∧ new.clocks = base.clocks then d.reef.commitCut
        else satAdd 8 d.reef.commitCut 1
      underCnt := if new.under then satAdd 8 d.reef.underCnt 1 else d.reef.underCnt }
    let d := (({ d with reef := reef }).reefEvent c old new).shedWorkEffects old new
    if new.isOver then d.raise c 8 3 0 0 else d

/-- Whether a shed item lies on hawser h: taps of its instances, beams that it owns, its tiles and segments shed on it
alone. -/
def Shed.on (hawsers h : Nat) (s : Shed) : Bool :=
  match s.step with
  | 3 => s.num / 64 == h
  | 4 => (s.num / 64 + s.num % 64) % hawsers == h
  | 5 => s.num / 2 == h
  | 6 => s.hawser == h + 1
  | _ => false

/-- A Belay overrun of hawser h: the draft keeps for it the tap counts, the strand set and the clock setting of the last
tick, and only the commit reduces them (R41). -/
def Dev.keepHawser (d : Dev) (c : Ctx) (h : Nat) : Dev :=
  let mine (s : Shed) : Bool := s.on c.hawsers h
  let old := d.reef.plan
  let draft := d.reef.draft.map fun r =>
    let r : RPlan := { r with
      shed := (r.shed.filter fun s => !mine s) ++ old.shed.filter mine
      taps := (r.taps.filter fun t => t.1 / 64 != h) ++ old.taps.filter fun t => t.1 / 64 == h
      thin := (r.thin.filter (· != h)) ++ old.thin.filter (· == h)
      clocks := r.clocks.set h (old.clocks.getD h (1, 0)) }
    { r with energy := (({ d with reef := { d.reef with dramBytes := d.reef.dramDraft } } : Dev).govView c).energy r }
  { d with reef := { d.reef with draft := draft } }

end Sys2Proof.Machine
end

