-- ==== Sys2Proof/Machine/Painter.lean ====
section
/-! DEFINITION. Painter (R45 to R60, R330): the tracking of donor cells, the candidate list, the choice of the
timing donor, the locks, steps and reloads, and PPS_IN. -/

namespace Sys2Proof.Machine

/-! ## Units: converter periods of 80 ps -/

/-- A tick, a frame, one microsecond and 100 ns in converter periods (R36). -/
def tickPeriods : Int := 6250000
def framePeriods : Int := 125000000
def usPeriods : Int := 12500
def agreePeriods : Int := 1250

/-- A timing against the grid of ticks: within half a tick on either side. -/
def tickPhase (t : Int) : Int := (t + 3125000) % tickPeriods - 3125000

/-- The frames of a cell that began since the grid's frame began, seen at T0 of tick TIF: the cell's frame
boundary lies `timing` after the grid's. -/
def cellFrames (tif : Nat) (timing : Int) : Int :=
  floorDiv ((tif : Int) * tickPeriods - timing + 3125000) framePeriods

/-- A number modulo 1,024. -/
def sfnMod (x : Int) : Nat := (x % 1024).toNat

/-- The SFN offset of a cell whose frame number is `f` at T0 of a tick. -/
def sfnOffset (c : Ctx) (f : Nat) (timing : Int) : Nat :=
  sfnMod ((f : Int) - c.time.sfn - cellFrames c.time.tif timing)

/-! ## Configuration and modes -/

/-- SRC_PRIO as the device acts (R47): 3 acts as 0. -/
def Dev.srcPrio (d : Dev) : Nat := if d.use.ptrCfg.field 0 2 = 3 then 0 else d.use.ptrCfg.field 0 2

/-- The modes that allow a step (R55). -/
def stepMode : Mode → Bool
  | .boot | .survey | .standby | .muted | .maintenance => true
  | _ => false

/-- The modes in which donor occasions can be received: the converters run and the mode forms beams or
tests. -/
def occasionMode : Mode → Bool
  | .reset | .coil | .latched => false
  | _ => true

/-! ## Cells (R50, R51, R54) -/

/-- Whether a cell meets R50 now: 4 agreeing hits in a row, with two decodes that agree. -/
def Cand.acquired (x : Cand) : Bool := decide (4 ≤ x.run) && !decide x.decodes.Nodup

/-- The same cell. -/
def Cand.is (x : Cand) (rat pci : Nat) : Bool := x.rat == rat && x.pci == pci

/-- Shift a cell's timing by a move of the grid, and its frame numbers by a change of the grid's SFN; the
timing stays within half a frame. -/
def Cand.shift (x : Cand) (by_ : Int) (dSfn : Int) : Cand :=
  let t := x.timing - by_
  let k := floorDiv (62500000 - t) framePeriods
  let off (o : Nat) : Nat := sfnMod ((o : Int) + dSfn + k)
  { x with
    timing := t + k * framePeriods
    base := x.base - by_ + k * framePeriods
    sfnOffs := off x.sfnOffs
    decodes := x.decodes.map off }

/-- Shift every cell. -/
def Painter.shift (p : Painter) (by_ dSfn : Int) : Painter :=
  { p with
    cands := p.cands.map fun x => x.shift by_ dSfn
    tracks := p.tracks.map fun x => x.shift by_ dSfn }

/-- The last 16 hits on each donor beam, after one more (R346). -/
def Cand.hitsWith (x : Cand) (o : Occasion) (n : Nat) : List (Nat × Int × Nat) :=
  let mine := x.hits.filter fun e => e.1 == o.beam
  (o.beam, o.power, n) :: mine.take 15 ++ x.hits.filter fun e => e.1 != o.beam

/-- A hit: the run goes on where the timing agrees within 100 ns, else it starts again (R50). DESIGN CHOICE (assumption
74): R50 does not say which timing the 100 ns are measured against; here it is that of the run's first hit. -/
def Cand.hit (x : Cand) (c : Ctx) (bhf : Nat) (o : Occasion) : Cand :=
  let goes := decide (0 < x.run) && decide (o.timing - x.base ≤ agreePeriods) &&
    decide (x.base - o.timing ≤ agreePeriods)
  let new : List Nat := match o.sfn with
    | some f => [sfnOffset c f o.timing]
    | none => []
  { x with
    src := none
    beam := o.beam
    timing := o.timing
    power := o.power
    run := if goes then x.run + 1 else 1
    base := if goes then x.base else o.timing
    decodes := (if goes then x.decodes else []) ++ new
    khz := o.khz
    hits := x.hitsWith o c.n
    sfnOffs := new.headD x.sfnOffs
    missed := 0
    missTicks := 0
    lastBhf := bhf
    lastTih := c.tih }

/-- A miss ends the run (R50, R54). -/
def Cand.miss (x : Cand) : Cand := { x with run := 0, decodes := [], missed := x.missed + 1 }

/-- Whether an occasion is a hit: detected within 1 us of its expected time (R54). -/
def occasionHit (o : Occasion) : Bool :=
  match o.detected with
  | some ns => decide (-1000 ≤ ns) && decide (ns ≤ 1000)
  | none => false

/-- The candidate of a cell. -/
def Painter.cand (p : Painter) (rat pci : Nat) : Option Cand := p.cands.find? fun x => x.is rat pci

/-- The timing donor's entry. -/
def Painter.donorCand (p : Painter) : Option Cand := p.donor.bind fun e => p.cand e.1 e.2

/-- The DONOR report of the endpoint ring (Table EPB-10). -/
def Dev.donorReport (d : Dev) (c : Ctx) (idx code : Nat) : Dev := d.reportNone c 11 (idx + 256 * code)

/-- The lowest free entry of the list of 8. -/
def Painter.freeIdx (p : Painter) : Option Nat := (List.range 8).find? fun i => !(p.cands.any fun x => x.idx == i)

/-- The weakest entry other than the timing donor. -/
def Painter.weakest (p : Painter) : Option Cand :=
  (p.cands.filter fun x => !decide (p.donor = some (x.rat, x.pci))).foldl
    (fun best x => match best with
      | none => some x
      | some b => if x.power < b.power then some x else some b) none

/-- A cell enters the list: a free entry, or that of the weakest where it is 3 dB stronger (R51, R330). -/
def Dev.addCand (d : Dev) (c : Ctx) (x : Cand) : Dev :=
  let put (d : Dev) (i : Nat) : Dev :=
    let y : Cand := { x with idx := i, strong := 0, firstBhf := d.book.bhf }
    ({ d with ptr := { d.ptr with cands := d.ptr.cands ++ [y] } }).donorReport c i 1
  match d.ptr.freeIdx with
  | some i => put d i
  | none => match d.ptr.weakest with
    | some w =>
      if w.power + 48 ≤ x.power then
        put (({ d with ptr := { d.ptr with cands := d.ptr.cands.erase w } }).donorReport c w.idx 2) w.idx
      else d
    | none => d

/-! ## States and Painter sync (R48, R57) -/

/-- The timing donor agrees with the grid within 1 us. -/
def Painter.agrees (p : Painter) : Bool :=
  match p.donorCand with
  | some x => decide (-usPeriods ≤ tickPhase x.timing) && decide (tickPhase x.timing ≤ usPeriods)
  | none => false

/-- The condition of R48. -/
def Painter.inSync (p : Painter) : Bool :=
  (p.st == .lockedDonor || (p.st == .lockedPps && p.agrees)) && decide (p.misses < 2) &&
    decide (-usPeriods ≤ p.phaseErr) && decide (p.phaseErr ≤ usPeriods)

/-- Take up Painter sync. True inside the donor-loss hold, it ends the condition (R280). -/
def Dev.setSync (d : Dev) (c : Ctx) (b : Bool) : Dev :=
  let d : Dev := { d with ptr := { d.ptr with sync := b } }
  match d.prt.declared with
  | some t0 =>
    if b ∧ sub32 c.n t0 < min (d.use.prtCfg.field 0 8) 200 then
      { d with prt := { d.prt with declared := none, noSync := 0 } }
    else d
  | none => d

/-- Painter changes its state, with its event (Table TCK-5, R515). FREERUN, SEARCH and SLAVE follow no
donor. -/
def Dev.ptrTo (d : Dev) (c : Ctx) (st : PtrState) : Dev :=
  if d.ptr.st = st then d
  else
    let old := d.ptr.st
    let p := d.ptr
    let p : Painter :=
      if st = .freerun ∨ st = .search ∨ st = .slave then
        { p with st := st, donor := none, freq := 0, phaseErr := 0, frac := 0, misses := 0, reload := false }
      else { p with st := st }
    let p := if st = .search then { p with searchTicks := 0 } else p
    ({ d with ptr := p }).event c 10 (ptrId st + 8 * ptrId old) 0 ((p.donor.map fun e : Nat × Nat => e.2).getD 0) 0

/-! ## The choice of the timing donor (R52) -/

/-- A candidate is eligible in a mode (rule 4). -/
def Cand.eligible (x : Cand) (m : Mode) : Bool :=
  !relays m || (decide (-usPeriods ≤ tickPhase x.timing) && decide (tickPhase x.timing ≤ usPeriods))

/-- The preferred cell of BWL_PTR_CFG (rule 1). -/
def Dev.preferred (d : Dev) (x : Cand) : Bool :=
  let w := d.use.ptrCfg
  w.bit 18 && x.rat == w.field 19 2 && x.pci == w.field 8 10 && x.missed == 0

/-- The strongest of a list of cells, the first among equals. -/
def strongest (l : List Cand) : Option Cand :=
  l.foldl (fun best x => match best with
    | none => some x
    | some b => if b.power < x.power then some x else some b) none

/-- The cell that R52 chooses among those that a condition selects. -/
def Dev.choose (d : Dev) (m : Mode) (sel : Cand → Bool) : Option Cand :=
  let l := d.ptr.cands.filter fun x => sel x && x.eligible m
  (l.find? d.preferred).or (strongest l)

/-! ## Locking (R45, R55, R56) -/

/-- Whether SFN or TIF differ from a donor's frame (R45). -/
def Cand.offFrame (x : Cand) : Bool :=
  x.sfnOffs != 0 || decide (x.timing < -3125000) || decide (3125000 < x.timing)

/-- Painter locks to a cell that lies within 1 us of the grid. -/
def Dev.lockTo (d : Dev) (c : Ctx) (x : Cand) (freq : Int) : Dev :=
  let p : Painter :=
    { d.ptr with
      donor := some (x.rat, x.pci)
      misses := 0
      phaseErr := tickPhase x.timing
      freq := satSigned 16 freq
      reload := x.offFrame
      cands := d.ptr.cands.map fun y => { y with strong := 0 } }
  (({ d with ptr := p }).donorReport c x.idx 3).ptrTo c .lockedDonor

/-- The grid steps: this tick is longer by `delta` converter periods, or the next where its Run window has passed, and
every cell's timing moves with it (R55). Painter sync waits for the T0 that the step moves. -/
def State.step55 (s : State) (delta : Int) : State :=
  let p := s.dev.ptr.shift delta 0
  if s.time.window = .close then { s with dev := { s.dev with ptr := { p with step := delta.toNat } } }
  else
    { s with
      time := { s.time with periods := s.time.periods + delta.toNat }
      dev := { s.dev with ptr := p } }

/-- Painter adopts a cell: at once within 1 us, with a step where the mode allows one, else not (R55 to
R57). -/
def State.adopt (s : State) (x : Cand) (freq : Int) : State :=
  let ph := tickPhase x.timing
  if -usPeriods ≤ ph ∧ ph ≤ usPeriods then
    s.onDev fun c d => d.lockTo c x freq
  else if stepMode s.modes.mode then
    let delta := x.timing % tickPeriods
    (s.step55 delta).onDev fun c d => d.lockTo c (x.shift delta 0) freq
  else s

/-- Take up Painter sync after an event. In a tick that a step lengthens it waits for the next T0. -/
def State.settleSync (s : State) : State :=
  s.onDev fun c d => d.setSync c (d.ptr.inSync && decide (s.time.periods + d.ptr.step < 6250200))

/-- The frequency offset that a lock begins with: that of the occasion where it is this cell's, else the one
last learned. -/
def lockFreq (d : Dev) (x : Cand) (o : Option Occasion) : Int :=
  match o with
  | some o => if x.is o.rat o.pci then o.freq else d.ptr.freq
  | none => d.ptr.freq

/-- In LOCKED_PPS with SRC_PRIO 1 a cell becomes the timing donor, which the grid does not follow (R47, R52). -/
def Dev.takeDonor (d : Dev) (c : Ctx) (x : Cand) : Dev :=
  if d.ptr.donor = some (x.rat, x.pci) then d
  else
    let p : Painter := { d.ptr with
      donor := some (x.rat, x.pci)
      misses := 0
      cands := d.ptr.cands.map fun y => { y with strong := 0 } }
    ({ d with ptr := p }).donorReport c x.idx 3

/-- The timing donor of LOCKED_PPS with SRC_PRIO 1: the preferred cell, else the strongest while there is none
(R52, rules 1 and 2). A donor that rule 4 rules out in the mode gives place to an eligible cell. -/
def Dev.ppsDonor (d : Dev) (m : Mode) : Option Cand :=
  let kept := d.ptr.donorCand.any fun x => x.eligible m
  (d.choose m fun x => d.preferred x).or (if kept then none else d.choose m Cand.acquired)

/-- Painter takes the lock that its sources now allow (R47, R57). -/
def State.settleLock (s : State) (o : Option Occasion) : State :=
  let d := s.dev
  let m := s.modes.mode
  if !occasionMode m ∨ d.ptr.st = .slave ∨ d.srcPrio = 2 then s
  else if d.srcPrio = 0 then
    if d.ptr.st = .lockedDonor then
      match d.choose m fun x => d.preferred x with
      | some x => if d.ptr.donor = some (x.rat, x.pci) then s else s.adopt x (lockFreq d x o)
      | none => s
    else match d.choose m Cand.acquired with
      | some x => s.adopt x (lockFreq d x o)
      | none => s
  else if d.ptr.st = .lockedPps then
    match d.ppsDonor m with
    | some x => s.onDev fun c d => d.takeDonor c x
    | none => s
  else s

/-- A module that keeps its grid locks only to a cell within 1 us of it (R65). -/
def State.settleNear (s : State) : State :=
  let d := s.dev
  if !occasionMode s.modes.mode ∨ d.ptr.st = .slave ∨ d.srcPrio ≠ 0 ∨ d.ptr.st = .lockedDonor then s
  else match d.choose s.modes.mode Cand.acquired with
    | some x =>
      if -usPeriods ≤ tickPhase x.timing ∧ tickPhase x.timing ≤ usPeriods then
        s.onDev fun c d => d.lockTo c x d.ptr.freq
      else s
    | none => s

/-! ## Occasions (R48 to R54) -/

/-- A cell that nothing is known of yet. -/
def Cand.fresh (o : Occasion) : Cand :=
  { (default : Cand) with rat := o.rat, pci := o.pci, beam := o.beam }

/-- An occasion enters the candidate list or the tracks. A cell that a slave reports stays as reported until this
module receives it with more power (R64, assumption 78). -/
def Dev.trackCell (d : Dev) (c : Ctx) (o : Occasion) : Dev :=
  let p := d.ptr
  let hit := occasionHit o
  match p.cand o.rat o.pci with
  | some _ =>
    let own (x : Cand) : Cand :=
      if x.src.isSome then (if hit ∧ x.power < o.power then x.hit c d.book.bhf o else x)
      else if hit then x.hit c d.book.bhf o
      else x.miss
    let cands := p.cands.map fun x => if x.is o.rat o.pci then own x else x
    { d with ptr := { p with cands := cands } }
  | none =>
    let rest := p.tracks.filter fun x => !x.is o.rat o.pci
    if !hit then { d with ptr := { p with tracks := rest } }
    else
      let x := ((p.tracks.find? fun x => x.is o.rat o.pci).getD (Cand.fresh o)).hit c d.book.bhf o
      if x.acquired then
        let d := ({ d with ptr := { p with tracks := rest } }).addCand c x
        if (d.ptr.cand o.rat o.pci).isSome then d
        else { d with ptr := { d.ptr with tracks := rest ++ [x] } }
      else { d with ptr := { p with tracks := rest ++ [x] } }

/-- What an occasion of the timing donor does to the lock (R48, R53, Table TCK-5). -/
def Dev.trackDonor (d : Dev) (c : Ctx) (o : Occasion) : Dev :=
  if d.ptr.donor ≠ some (o.rat, o.pci) then d
  else
    let hit := occasionHit o
    let p := d.ptr
    let misses := if hit then 0 else p.misses + 1
    if p.st = .lockedDonor then
      let x := p.donorCand
      let p : Painter :=
        if hit then
          { p with
            misses := 0
            phaseErr := tickPhase o.timing
            freq := satSigned 16 o.freq
            reload := (x.map Cand.offFrame).getD false }
        else { p with misses := misses }
      let d : Dev := { d with ptr := p }
      if 2 ≤ misses ∨ p.phaseErr < -usPeriods ∨ usPeriods < p.phaseErr then d.ptrTo c .holdover else d
    else { d with ptr := { p with misses := misses } }

/-- The power of an occasion at one element's port, 1/16 dBm: the level on the donor beam's yarn, 2 dBm at 0 dBFS, less k_rx
of the beam's combining vector at the cell's frequency (R346; assumption 103). -/
def Dev.portPower (d : Dev) (c : Ctx) (o : Occasion) : Int :=
  let rx := d.live d.reef.plan c.mode 1 (((d.beams.stored 8 o.beam).map (·.rx)).getD (d.beams.default 1))
  let segs := (d.plan.committed.map (·.segs)).getD []
  let bg := ((segs.find? fun s => s.has 0 && !outside o.khz s.fLo s.fHi).map (·.bg)).getD 0
  match d.rxPart (d.bel.set bg 0) (2 * (o.khz : Int)) rx with
  | some k => round16 (o.power * dB16 + 2 * dB - k)
  | none => o.power + Config.freeBeamGain o.beam

/-- An expected sync occasion of a donor cell passes (R49 to R57). -/
def execSyncOccasion (o : Occasion) (s : State) : Host.Outcome State Fault Refusal :=
  if !s.time.running ∨ !occasionMode s.modes.mode ∨ s.dev.srcPrio = 2 ∨ s.dev.plan.committed.isNone then .next s
  else
    let o : Occasion := { o with power := s.dev.portPower s.ctx o }
    let s := s.onDev fun c d => (d.trackCell c o).trackDonor c o
    .next (s.settleLock (some o)).settleSync

/-- Whether a chosen timing donor is kept and compared with the other cells (R52): in LOCKED_DONOR, and in LOCKED_PPS
with SRC_PRIO 1. -/
def Painter.followsDonor (p : Painter) (prio : Nat) : Bool :=
  p.st == .lockedDonor || (p.st == .lockedPps && prio == 1)

/-! ## Time-outs and replacement -/

/-- SEARCH ends after 4,000 ticks without a source (R57). -/
def execSearchTimeout (s : State) : Host.Outcome State Fault Refusal :=
  if s.dev.ptr.st = .search ∧ 4000 ≤ s.dev.ptr.searchTicks then .next (s.onDev fun c d => d.ptrTo c .freerun)
  else .next s

/-- A candidate that was 6 dB stronger for 200 ticks replaces the timing donor (R52, rule 3), unless rule 1
holds the donor. -/
def execDonorReplace (s : State) : Host.Outcome State Fault Refusal :=
  let d := s.dev
  match d.ptr.donorCand with
  | none => .next s
  | some cur =>
    if !d.ptr.followsDonor d.srcPrio ∨ d.preferred cur then .next s
    else match strongest (d.ptr.cands.filter fun x => x.eligible s.modes.mode && decide (200 ≤ x.strong)) with
      | none => .next s
      | some x =>
        let s := if d.ptr.st = .lockedDonor then s.adopt x d.ptr.freq else s.onDev fun c d => d.takeDonor c x
        .next s.settleSync

/-- A candidate that missed every occasion for 2,000 ticks leaves the list (R330). -/
def execCandidateExpire (idx : Nat) (s : State) : Host.Outcome State Fault Refusal :=
  match s.dev.ptr.cands.find? fun x => x.idx == idx with
  | none => .next s
  | some x =>
    if x.missTicks < 2000 then .next s
    else
      let s := s.onDev fun c d =>
        let p : Painter :=
          { d.ptr with
            cands := d.ptr.cands.erase x
            donor := if d.ptr.donor = some (x.rat, x.pci) then none else d.ptr.donor }
        ({ d with ptr := p }).donorReport c idx 2
      .next s.settleSync

/-- Whether TICK_OUT's pulse is 1, 2 or 4 us wide at a tick edge, 0 while it is off (R61). -/
def tickOutWidth (d : Dev) (t : TimeSt) : Nat :=
  if !d.use.ptrCfg.bit 3 then 0 else if t.tif ≠ 0 then 1 else if t.sfn ≠ 0 then 2 else 4

/-- TIF and SFN of this tick take new values: every cell's timing and frame numbers are referred to the grid's new frame
(R51), and in the Plan window of the tick the patterns of R40 and the schedules of R367 come into force where a frame begins
with it, and TICK_OUT has that tick's width (R61). -/
def State.renumber (s : State) (tif sfn : Nat) : State :=
  let t : TimeSt := { s.time with tif := tif, sfn := sfn }
  let p := s.dev.ptr.shift (((s.time.tif : Int) - tif) * tickPeriods) ((s.time.sfn : Int) - sfn)
  let d : Dev := { s.dev with ptr := p }
  let d : Dev := if s.time.window ≠ .plan ∨ (tif = s.time.tif ∧ sfn = s.time.sfn) then d
    else ({ d with plan := d.plan.frame tif, ptr := { d.ptr with tickOut := tickOutWidth d t } } : Dev).takeScheds t
  { s with time := t, dev := d }

/-- The frame number that the reload of R45 puts in force at this T0, at the donor's frame boundary; none where no reload
is due. -/
def State.reloadSfn (s : State) : Option Nat :=
  match s.dev.ptr.donorCand with
  | none => none
  | some x =>
    let k := cellFrames s.time.tif x.timing
    let inTick := (s.time.tif : Int) * tickPeriods - x.timing - k * framePeriods
    if !s.inPlan ∨ !s.dev.ptr.reload ∨ s.dev.ptr.st ≠ .lockedDonor ∨ 3125000 ≤ inTick then none
    else some (sfnMod ((s.time.sfn : Int) + k + x.sfnOffs))

/-- A tracer epoch ends with its sightings at T0 of a tick whose number in the hyperframe is a multiple of 64, or early
where a reload is due (R187). -/
def execTracerEpoch (ss : List Sighting) (s : State) : Host.Outcome State Fault Refusal :=
  if !s.inPlan ∨ (s.ctx.tih % 64 ≠ 0 ∧ s.reloadSfn = none) then .next s
  else .next (s.onDev fun c d => d.endEpoch c ss)

/-- At the donor's next frame boundary SFN and TIF are reloaded (R45). n and HFC never change. The reload ends the running
tracer epoch and starts the next at this T0, unless a TRACER_EPOCH with the epoch's sightings came before it (R187). -/
def execSfnReload (s : State) : Host.Outcome State Fault Refusal :=
  match s.reloadSfn with
  | none => .next s
  | some new =>
    let s' := s.renumber 0 new
    let s' : State := { s' with dev := ({ s'.dev with ptr := { s'.dev.ptr with reload := false } }).endEpoch s.ctx [] }
    .next { s' with dev := s'.dev.event s.ctx 7 new 0 s.time.sfn 0 }

/-! ## PPS_IN (R58) -/

/-- The PPS edge marks T0 of a tick with TIF 0: this tick, or the next where the edge lies just before it. SFN counts on
from the value it holds (R45). -/
def State.ppsTick (s : State) (phase : Int) : State := s.renumber (if phase < 0 then 19 else 0) s.time.sfn

/-- Painter is locked to PPS_IN with an edge at a distance from T0, a phase error that is left and the frequency offset
that the spacing of the edges shows. -/
def State.ppsEnter (s : State) (ph err freq : Int) : State :=
  let s := s.ppsTick ph
  ({ s with dev := { s.dev with ptr := { s.dev.ptr with phaseErr := err, freq := satSigned 16 freq } } }).onDev
    fun c d => d.ptrTo c .lockedPps

/-- Within 1 us of the grid. -/
def nearGrid (ph : Int) : Bool := decide (-usPeriods ≤ ph) && decide (ph ≤ usPeriods)

/-- A PPS edge moves Painter into LOCKED_PPS, or is tracked there. `phase` is the edge's distance from T0 of
this tick in converter periods. -/
def State.ppsLock (s : State) (phase : Nat) (freq : Int) : State :=
  if nearGrid (tickPhase phase) then s.ppsEnter (tickPhase phase) (tickPhase phase) freq
  else if stepMode s.modes.mode then (s.step55 ((phase : Int) % tickPeriods)).ppsEnter 0 0 freq
  else s.onDev fun c d => if d.ptr.st = .lockedPps then d.ptrTo c .holdover else d

/-- Whether a valid PPS_IN is the source that R47 and Table TCK-5 take now: LOCKED_PPS goes on with every valid edge. -/
def Dev.wantsPps (d : Dev) : Bool :=
  d.ptr.ppsValid && d.ptr.st != .slave && d.srcPrio != 2 &&
    (d.ptr.st == .lockedPps || d.srcPrio == 1 ||
      (d.ptr.st != .lockedDonor && !(d.ptr.cands.any Cand.acquired)))

/-- The tick that an edge defines is this one or the next: PPS_OUT rises at its T0 (R62). -/
def State.markPps (s : State) : State :=
  if s.dev.ptr.st ≠ .lockedPps then s
  else
    let p : Painter := if s.time.tif = 19 then { s.dev.ptr with ppsNext := true }
      else { s.dev.ptr with ppsOut := s.dev.use.ptrCfg.bit 4 }
    { s with dev := { s.dev with ptr := p } }

/-- A PPS_IN edge: PPS_EDGE selects the rising or the falling edges,
and the others do nothing. Three edges spaced 1 s within 1 us make PPS_IN valid, an edge outside that spacing makes it
invalid. The spacing shows the frequency offset of REF_10M (R69): DEDUCED (assumption 75). -/
def execPpsInEdge (e : PpsEdge) (phase : Nat) (s : State) : Host.Outcome State Fault Refusal :=
  if !s.time.running ∨ s.modes.mode = .reset ∨ e.rising = s.dev.use.ptrCfg.bit 2 then .next s
  else
    let good := !outside e.spacingNs 999999000 1000001000
    let run := if good then min (s.dev.ptr.ppsRun + 1) 3 else 1
    let valid := decide (3 ≤ run)
    let s := s.onDev fun c d =>
      let d : Dev := { d with ptr := { d.ptr with ppsRun := run, ppsValid := valid } }
      if !valid && d.ptr.st == .lockedPps then d.ptrTo c .holdover else d
    let s := if s.dev.wantsPps && s.modes.mode != .coil then (s.ppsLock phase ((e.spacingNs : Int) - 1000000000)).markPps else s
    .next s.settleSync

/-- No PPS_IN edge for 1.1 s. -/
def execPpsInTimeout (s : State) : Host.Outcome State Fault Refusal :=
  let s := s.onDev fun c d =>
    let d : Dev := { d with ptr := { d.ptr with ppsRun := 0, ppsValid := false } }
    if d.ptr.st = .lockedPps then d.ptrTo c .holdover else d
  .next s.settleSync

/-! ## What a tick edge does to Painter (R44, R52, R53, R57) -/

/-- The corrections of the tick that begins, in converter periods: the slew of R53, at most 100 periods toward
the source, and the whole part of the learned frequency offset. -/
def Painter.correct (p : Painter) : Painter × Int :=
  let slew := if p.st = .lockedDonor ∨ p.st = .lockedPps then clampInt p.phaseErr (-100) 100 else 0
  let drift := if p.st = .lockedDonor ∨ p.st = .lockedPps ∨ p.st = .holdover then
      p.frac + p.freq * tickPeriods
    else 0
  let whole := floorDiv drift 1000000000
  ({ p.shift slew 0 with phaseErr := p.phaseErr - slew, frac := drift - whole * 1000000000 }, slew + whole)

/-- The counts of a tick: SEARCH, the missed occasions of R330 and rule 3 of R52. -/
def Painter.count (p : Painter) (prio : Nat) : Painter :=
  let cur := (p.donorCand.map (·.power))
  let stronger (x : Cand) : Bool := match cur with
    | some w => p.followsDonor prio && decide (w + 96 ≤ x.power) && x.missed == 0
    | none => false
  { p with
    searchTicks := if p.st = .search then p.searchTicks + 1 else p.searchTicks
    cands := p.cands.map fun x =>
      { x with missTicks := x.missTicks + 1, strong := if stronger x then x.strong + 1 else 0 } }

/-- Donor yarns that run for the first time, or on other donor strands, start a search; SRC_PRIO 2 runs free
(R57). -/
def Dev.settleSearch (d : Dev) (c : Ctx) : Dev :=
  let now : List Nat := match d.plan.committed with
    | some p => if formsBeams c.mode then (List.range 128).filter fun g => p.side g == 1 else []
    | none => []
  let fresh := !now.isEmpty && decide (now ≠ d.ptr.donors)
  let d : Dev := if fresh then { d with ptr := { d.ptr with donors := now } } else d
  if d.ptr.st = .slave then d
  else if d.srcPrio = 2 then d.ptrTo c .freerun
  else if fresh then d.ptrTo c .search
  else d

/-- Whether PPS_OUT rises at a tick edge (R62): in LOCKED_PPS at the ticks that PPS_IN defines, else every
2,000 ticks. -/
def ppsOutRises (d : Dev) (t : TimeSt) (ppsTick : Bool) : Bool :=
  d.use.ptrCfg.bit 4 && (if d.ptr.st = .lockedPps then ppsTick else t.n % 2000 == 0)

end Sys2Proof.Machine
end

