-- ==== Sys2Proof/Machine/Splice.lean ====
section
/-! DEFINITION. Spliced modules (R63 to R66, R89, R419, R463): the election of the timing master, its messages
and the loss of links. -/

namespace Sys2Proof.Machine

/-- The rank of a module: its strapped ID, then its serial number (R63). -/
def rankBelow (a b : Nat × Nat) : Bool := decide (a.1 < b.1) || (a.1 == b.1 && decide (a.2 < b.2))

/-- The rank of a peer. -/
def Peer.rank (p : Peer) : Nat × Nat := (p.modId, p.serial)

/-- This module's rank. -/
def Ctx.rank (c : Ctx) : Nat × Nat := (c.ident.modId, c.ident.serial)

/-- The peer that ranks lowest. -/
def Splice.lowest (x : Splice) : Option Peer :=
  x.peers.foldl (fun best p => match best with
    | none => some p
    | some b => if rankBelow p.rank b.rank then some p else some b) none

/-- Whether a present module ranks below this one. -/
def Dev.hasLower (d : Dev) (c : Ctx) : Bool := d.splice.peers.any fun p => rankBelow p.rank c.rank

/-- The rank of the lowest present module. -/
def Dev.lowestRank (d : Dev) (c : Ctx) : Nat × Nat :=
  if d.hasLower c then (d.splice.lowest.map Peer.rank).getD c.rank else c.rank

/-- The lowest present module is the master of the grid. -/
def Dev.nameMaster (d : Dev) (c : Ctx) : Dev :=
  let r := d.lowestRank c
  { d with splice := { d.splice with masterId := r.1, masterSerial := r.2, lost := 0 } }

/-- The module becomes SLAVE of the lowest present module. -/
def Dev.enslave (d : Dev) (c : Ctx) : Dev :=
  let x : Splice := { d.splice with elected := true, master := false }
  ((({ d with splice := x }).nameMaster c).ptrTo c .slave).setSync c false

/-- The module becomes timing master and keeps the grid it holds, in HOLDOVER unless it is locked: the grid takes no step
(R65, R419). -/
def State.becomeMaster (s : State) : State :=
  let s := s.onDev fun c d =>
    let x : Splice := { d.splice with
      elected := true, master := true, masterId := c.ident.modId, masterSerial := c.ident.serial, lost := 0 }
    let d : Dev := { d with splice := x }
    let d := if d.isSlave then d.ptrTo c (if d.srcPrio = 2 then .freerun else .holdover) else d
    d.postCalSync c.n
  s.settleNear.settleSync

/-- A Splice link comes up and identities are exchanged; a shared ID raises DUP_ID (R66, R419). -/
def execSpliceLinkUp (port modId serial tracer : Nat) (s : State) : Host.Outcome State Fault Refusal :=
  if 3 < port ∨ s.modes.mode = .reset then .next s
  else .next (s.onDev fun c d =>
    let p : Peer := { modId := modId % 4, serial := serial, tracer := tracer, port := port, calDone := false }
    let rest := d.splice.peers.filter fun q => !(q.modId == p.modId && q.serial == p.serial)
    let x : Splice := { d.splice with peers := rest ++ [p], linkUp := d.splice.linkUp.set port true }
    let d : Dev := { d with splice := x }
    let d := if p.modId = c.ident.modId then d.raise c 6 3 0 c.time.sub else d
    if d.splice.elected then d
    else if rankBelow p.rank c.rank then d.enslave c
    else d)

/-- 200 ms after its synthesizer lock, a module that heard no lower ID becomes timing master (R419). -/
def execElectionTimeout (s : State) : Host.Outcome State Fault Refusal :=
  if !s.time.running ∨ s.time.n < 400 ∨ s.dev.splice.elected ∨ s.dev.hasLower s.ctx then .next s
  else .next s.becomeMaster

/-- A module that joined later and ranks lowest takes over at the tick edge (R419). -/
def execMasterTakeover (s : State) : Host.Outcome State Fault Refusal :=
  if !s.inPlan ∨ !s.dev.isSlave ∨ s.dev.hasLower s.ctx then .next s else .next s.becomeMaster

/-- T0 of this tick moves by a number of converter periods, and with it the grid that cells are measured against
(R51, R63). -/
def State.moveT0 (s : State) (by_ : Int) : State :=
  { s with
    time := { s.time with conv := ((s.time.conv : Int) + by_).toNat }
    dev := { s.dev with ptr := s.dev.ptr.shift by_ 0 } }

/-- The per-tick timing message of the master: a slave takes T0, n, TIF, SFN and HFC (R63). The message places the
master's T0 in the slave's count of converter periods. A master that hears a lower module, and a module that is not yet
elected, become slaves first. -/
def execSpliceTimingMessage (t0 : MasterTick) (tif sfn hfc : Nat) (s : State) : Host.Outcome State Fault Refusal :=
  if !s.time.running ∨ s.modes.mode = .reset ∨ (s.dev.splice.master && !s.dev.hasLower s.ctx) then .next s
  else
    let s := s.onDev fun c d => if d.isSlave then d else d.enslave c
    let s := (s.moveT0 t0.after).renumber (tif % 20) (sfn % 1024)
    .next { s with
      time := { s.time with n := t0.n % two32, hfc := hfc % two32 }
      dev := { s.dev with splice := { s.dev.splice with lost := 0 } } }

/-- Two ticks passed without a timing message: the master is lost, and the lowest of the remaining modules
takes over (R65). A master whose link is down already is no longer listed. -/
def execMasterLost (s : State) : Host.Outcome State Fault Refusal :=
  if !s.dev.isSlave ∨ s.dev.splice.lost < 3 then .next s
  else
    let s := s.onDev fun c d => match d.splice.lowest with
      | some p =>
        let peers := if d.hasLower c && p.rank == (d.splice.masterId, d.splice.masterSerial) then d.splice.peers.erase p
          else d.splice.peers
        ({ d with splice := { d.splice with peers := peers } }).nameMaster c
      | none => d
    .next (if s.dev.hasLower s.ctx then s else s.becomeMaster)

/-- The master's message that carries the tick of the SYNC instant (R89). -/
def execSpliceSyncMessage (tick : Nat) (s : State) : Host.Outcome State Fault Refusal :=
  if !s.dev.isSlave then .next s
  else
    let conv : Conv := { s.dev.conv with syncPend := some (tick % two32), calSyncDue := false }
    .next { s with dev := { s.dev with conv := conv } }

/-- A Splice port retrains (severity 1), or stays down for 2 ticks (severity 3): its modules are then no longer
present (R463). -/
def execSplicePortDown (port : Nat) (stays : Bool) (s : State) : Host.Outcome State Fault Refusal :=
  if 3 < port ∨ !s.dev.splice.linkUp.getD port false then .next s
  else .next (s.onDev fun c d =>
    if stays then
      let x : Splice := { d.splice with
        peers := d.splice.peers.filter fun p => p.port != port
        linkUp := d.splice.linkUp.set port false }
      ({ d with splice := x }).raise c 11 3 port c.time.sub
    else d.raise c 11 1 port c.time.sub)

/-- The candidate entry of a report. A slave reports the donor candidates that it holds, which R50 has
accepted there. -/
def Cand.ofReport (modId : Nat) (r : CandReport) (bhf tih : Nat) : Cand :=
  { (default : Cand) with
    src := some modId
    rat := r.rat
    pci := r.pci
    beam := r.beam
    sfnOffs := r.sfnOffs % 1024
    timing := r.timing
    base := r.timing
    power := r.power
    run := 4
    decodes := [r.sfnOffs % 1024, r.sfnOffs % 1024]
    lastBhf := bhf
    lastTih := tih }

/-- One reported cell joins the union of R64: a module's newer report takes the place of its older one, and of two
modules' reports of one cell the stronger stands (assumption 78). Either way the cell is received. -/
def Dev.mergeReport (d : Dev) (c : Ctx) (modId : Nat) (r : CandReport) : Dev :=
  let x := Cand.ofReport modId r d.book.bhf c.tih
  match d.ptr.cand r.rat r.pci with
  | none => d.addCand c x
  | some y =>
    let z : Cand :=
      if y.src = some modId ∨ y.run = 0 ∨ y.power < x.power then
        { x with idx := y.idx, firstBhf := y.firstBhf, strong := y.strong }
      else { y with missTicks := 0, lastBhf := x.lastBhf, lastTih := x.lastTih }
    { d with ptr := { d.ptr with cands := d.ptr.cands.map fun w => if w = y then z else w } }

/-- The timing master takes a slave's donor candidates into its list (R64). -/
def execSpliceCandidateReport (r : CandReports) (s : State) : Host.Outcome State Fault Refusal :=
  if !s.time.running ∨ !s.dev.splice.master then .next s
  else
    let s := s.onDev fun c d => r.cands.foldl (fun d x => d.mergeReport c r.modId x) d
    .next (s.settleLock none).settleSync

/-- A slave reports its last calibration wave done; the shared SYNC follows once all have (R419). -/
def execSpliceCalReport (modId : Nat) (s : State) : Host.Outcome State Fault Refusal :=
  if !s.dev.splice.master then .next s
  else .next (s.onDev fun c d =>
    let peers := d.splice.peers.map fun p => if p.modId = modId then { p with calDone := true } else p
    ({ d with splice := { d.splice with peers := peers } }).postCalSync c.n)

end Sys2Proof.Machine
end

