-- ==== Sys2Proof/Machine/Modes.lean ====
section
/-! DEFINITION. Modes (R404 to R415, R420 to R428): MODE.SET with its conditions, COIL.ENTER and COIL.WAKE,
TX.TEST, LOCK_QUAL, and what the Plan window makes of an accepted mode command. -/

namespace Sys2Proof.Machine

/-! ## Conditions of MODE.SET (R405 to R409, R484, R529) -/

/-- Table MOD-1, with R283 for MUTED. -/
def modeTarget (m t : Mode) : Bool :=
  match m with
  | .hank => t == .survey || t == .standby || isRelay t
  | .survey => t == .hank || t == .standby || isRelay t || t == .maintenance
  | .standby => t == .hank || t == .survey || isRelay t || t == .maintenance
  | .relayOpen | .relaySteered | .relayNetwork => t == .hank || t == .survey || t == .standby || isRelay t
  | .muted => true
  | .maintenance => t == .standby
  | .reset | .boot | .coil | .latched => false

/-- The modes that a lifecycle state opens (Table STP-10). -/
def lifeOpens (l : Life) (t : Mode) : Bool :=
  match l with
  | .blank => t == .standby || t == .maintenance
  | .provisioned => true
  | .deployed => t != .maintenance
  | .service => t == .standby || t == .survey || t == .maintenance
  | .retired => t == .standby

/-- The targets that need a valid plan and LOCK_QUAL (Table MOD-2) and SETUP_LOCK in DEPLOYED (R529). -/
def needsPlan (t : Mode) : Bool := relays t || t == .survey

/-- A present module carries this module's ID (R66), or its TRACER_ID (R216). -/
def Dev.dupId (d : Dev) (c : Ctx) : Bool := d.splice.peers.any fun p => p.modId == c.ident.modId
def Dev.dupTracer (d : Dev) (c : Ctx) : Bool :=
  d.splice.peers.any fun p => p.tracer == c.setup.canCfg.field 0 12

/-- Every node of a used strand is present and its table covers the plan (R108, R115). -/
def Dev.nodesReady (d : Dev) : Bool :=
  match d.plan.committed with
  | none => false
  | some p => p.used.all fun g => (d.node g).present && d.feCovers p g

/-- Table MOD-2 holds for a target. -/
def Dev.qualified (d : Dev) (c : Ctx) (t : Mode) : Bool :=
  (!needsPlan t || (d.plan.committed.isSome && d.plan.valid && d.qual.lockQual)) &&
    (!isRelay t || d.qual.surveyOk) &&
    (!relays t || (!d.dupId c && !d.dupTracer c && d.nodesReady && !d.reef.plan.under))

/-- A destructive memory test runs (R446). -/
def Dev.destructive (d : Dev) : Bool := d.mem.march.any fun m => m.a.mode == 2 && !m.partial_

/-- The MODE field of MODE.SET (R405). -/
def modeField (k : Nat) : Option Mode := if k ∈ [2, 3, 4, 5, 6, 7, 10] then modeOfId k else none

/-- The denials of MODE.SET in the mode in force (R283, R406, R407, R484, R529). -/
def Dev.modeDenied (d : Dev) (c : Ctx) (t : Mode) : Bool :=
  !modeTarget c.mode t || !lifeOpens c.nv.life t || (c.nv.life == .deployed && needsPlan t && !c.setup.locked) ||
    (c.mode == .muted && relays t && d.planExpired) || !d.qualified c t

/-- MODE.SET waits for other work (R88, R446, R511). -/
def Dev.modeBusy (d : Dev) (c : Ctx) (t : Mode) : Bool :=
  (relays t && d.conv.syncPend.isSome) ||
    (c.mode == .maintenance && t == .standby && (d.destructive || d.conv.calRun.isSome))

/-- MODE.SET (R405). -/
def cmdModeSet (h : CmdHdr) (mode : Nat) (s : State) : State :=
  s.onDev fun c d =>
    if d.qual.pend.isSome then d.reject 0x0101 h stBusy
    else match modeField mode with
      | none => d.reject 0x0101 h stBadArg
      | some t =>
        if t = c.mode then d.ok 0x0101 h
        else
          guarded 0x0101 h [(d.modeDenied c t, stDenied), (d.modeBusy c t, stBusy)]
            (fun d =>
              let p : PendMode := { opcode := 0x0101, target := t, tick := c.effTick, tag := h.tag }
              ({ d with qual := { d.qual with pend := some p } }).okAt 0x0101 h c.effTick) d

def execModeSet (h : CmdHdr) (mode : Nat) (s : State) : Host.Outcome State Fault Refusal :=
  .next (cmdModeSet h mode s.fetched)

/-! ## COIL.ENTER and COIL.WAKE (R420, R426) -/

/-- COIL.ENTER (R88, R420). -/
def cmdCoilEnter (h : CmdHdr) (wakeIn : Nat) (s : State) : State :=
  s.onDev fun c d =>
    guarded 0x0102 h
      [(d.qual.pend.isSome, stBusy), (wakeIn == 1, stBadArg), (!modeAccepts c.mode 0x0102, stDenied),
        (d.plan.pending.isSome, stBusy), (d.book.load.isSome, stBusy), (d.conv.syncPend.isSome, stBusy)]
      (fun d =>
        let p : PendMode := { opcode := 0x0102, target := .coil, tick := c.effTick, tag := h.tag }
        ({ d with qual := { d.qual with pend := some p, wakeIn := wakeIn } }).okAt 0x0102 h c.effTick) d

def execCoilEnter (h : CmdHdr) (wakeIn : Nat) (s : State) : Host.Outcome State Fault Refusal :=
  .next (cmdCoilEnter h wakeIn s.fetched)

/-- The later of two ticks. -/
def laterTick (a b : Nat) : Nat := if 0 ≤ dist32 a b then a else b

/-- COIL.WAKE (R426). A wake that runs, and a timed wake that comes first, stand. -/
def cmdCoilWake (h : CmdHdr) (s : State) : State :=
  s.onDev fun c d =>
    let w := laterTick (succ32 c.n) (((d.qual.coilEntry.getD c.n) + 2) % two32)
    guarded 0x0103 h [(d.qual.pend.isSome, stBusy), (c.mode != .coil, stDenied)]
      (fun d =>
        match d.qual.wakeTick with
        | some t =>
          if c.modes.waking ∨ 0 < dist32 w t then d.okAt 0x0103 h t
          else
            let p : PendMode := { opcode := 0x0103, target := .coil, tick := w, tag := h.tag }
            ({ d with qual := { d.qual with pend := some p } }).okAt 0x0103 h w
        | none =>
          let p : PendMode := { opcode := 0x0103, target := .coil, tick := w, tag := h.tag }
          ({ d with qual := { d.qual with pend := some p } }).okAt 0x0103 h w) d

def execCoilWake (h : CmdHdr) (s : State) : Host.Outcome State Fault Refusal := .next (cmdCoilWake h s.fetched)

/-- Whether a wake begins in a tick: the pending COIL.WAKE or the timed wake (R426). -/
def Qual.wakes (q : Qual) (n : Nat) : Bool :=
  (q.pend.any fun p => p.opcode == 0x0103 && p.tick == n) || q.wakeTick == some n

/-- A wake begins at T0 of tick w: hawsers and tiles power up. It ends with the mode of R428 at the Plan window
of w + 3 (R427). -/
def execCoilWakeStart (s : State) : Host.Outcome State Fault Refusal :=
  if !s.inPlan ∨ s.modes.mode ≠ .coil ∨ s.modes.waking ∨ !s.dev.qual.wakes s.time.n then .next s
  else
    let d := s.dev.powerTiles s.ident.member 8
    .next { s with
      modes := { s.modes with waking := true }
      dev := { d with
        qual := { d.qual with pend := none, wakeTick := some s.time.n }
        mem := { d.mem with gated := false } } }

/-! ## TX.TEST (R415) -/

/-- The fields of a TX.TEST of KIND 1 or 2 out of range, or a band that R74 does not allow. -/
def txTestBad (c : Ctx) (a : TxTestArgs) : Bool :=
  decide (2 < a.kind) || (a.kind != 0 &&
    (decide (1 < a.paEn) || outside a.rho 1 8 || a.count == 0 || decide (c.strands < a.first + a.count) ||
      outside a.centreKhz 600000 7125000 || decide (a.level < -960) || decide (-96 < a.level) ||
      outside a.duration 1 65535 || !rangeInZone (testBand a).1 (testBand a).2))

/-- The strands of a TX.TEST. -/
def testStrands (a : TxTestArgs) : List Nat := (List.range a.count).map (a.first + ·)

/-- With PA_EN the plan and the front-end tables must hold the band on every named strand. -/
def Dev.txTestDenied (d : Dev) (a : TxTestArgs) : Bool :=
  a.paEn == 1 && match d.plan.committed with
    | none => true
    | some p => !d.plan.valid || (testStrands a).any fun g =>
        (p.testSeg (p.side g) a).isNone || (d.testPath g a).isNone

/-- The measurement yarns of a TX.TEST, from tick n on. -/
def testYarns (n : Nat) (a : TxTestArgs) : List MYarn :=
  (testStrands a).map fun g => mkYarn 5 g n g a.centreKhz a.rho 0

/-- The tests of a TX.TEST once its yarns are admitted. -/
def Dev.startTests (d : Dev) (a : TxTestArgs) (tick : Nat) : Dev :=
  let ts : List TxTest := (testStrands a).map fun g =>
    { g := g, y := (((d.keptYarns.filter fun m => m.owner == 5 && m.g == g).getLast?).map (·.y)).getD 0, a := a,
      start := tick, stop := (tick + a.duration) % two32, on := false, ended := false }
  { d with conv := { d.conv with tests := d.conv.tests ++ ts } }

/-- TX.TEST (R415). KIND 0 stops every running test. -/
def cmdTxTest (h : CmdHdr) (a : TxTestArgs) (s : State) : State :=
  s.onDev fun c d =>
    let n := c.effTick
    let admitted := d.admitAll (testYarns n a)
    let busy := (testStrands a).any fun g => d.conv.tests.any fun t => t.g == g && !t.ended
    if a.kind = 0 then
      guarded 0x0107 h [(!modeAccepts c.mode 0x0107, stDenied)]
        (fun d =>
          let tests := d.conv.tests.map fun t => if 0 < dist32 t.stop n then { t with stop := n } else t
          ({ d with conv := { d.conv with tests := tests } }).okAt 0x0107 h n) d
    else
      guarded 0x0107 h
        [(txTestBad c a, stBadArg), (!modeAccepts c.mode 0x0107, stDenied), (d.txTestDenied a, stDenied),
          (busy, stBusy), (admitted.isNone, stNoRoom)]
        (fun d => ((admitted.getD d).startTests a n).okAt 0x0107 h n) d

def execTxTest (h : CmdHdr) (a : TxTestArgs) (s : State) : Host.Outcome State Fault Refusal :=
  .next (cmdTxTest h a s.fetched)

/-- A test signal stops at its tick (R415). -/
def execTxTestEnd (s : State) : Host.Outcome State Fault Refusal :=
  let n := s.time.n
  let tests := s.dev.conv.tests.map fun t => if 0 ≤ dist32 n t.stop then { t with ended := true } else t
  .next { s with dev := { s.dev with conv := { s.dev.conv with tests := tests } } }

/-- The tests at a Plan window: those that ended free their yarns, those whose tick has come start, and those whose last
tick has passed stop; a mode other than MAINTENANCE stops them all. -/
def Dev.settleTests (d : Dev) (c : Ctx) : Dev :=
  let live := d.conv.tests.filter fun t => !t.ended
  let d := (d.conv.tests.filter (·.ended)).foldl
    (fun d t => d.keepNewest 5 t.g (live.countP fun u => u.g == t.g)) d
  let tests := live.map fun t =>
    { t with
      on := t.on || decide (0 ≤ dist32 c.n t.start)
      ended := c.mode != .maintenance || d.deviceMuted || decide (0 ≤ dist32 c.n t.stop) }
  { d with conv := { d.conv with tests := tests } }

/-! ## LOCK_QUAL and SURVEY_OK (R408, R409) -/

/-- One tick more of Painter sync, and one since the first entry into STANDBY. -/
def Dev.countLock (d : Dev) : Dev :=
  { d with qual := { d.qual with
      lockTicks := if d.ptr.sync then d.qual.lockTicks + 1 else 0
      standbyTicks := if d.qual.standbySeen then d.qual.standbyTicks + 1 else 0 } }

/-- The ticks that count toward LOCK_QUAL: of Painter sync, or with SRC_PRIO 2 since the first entry into STANDBY. -/
def Dev.lockCount (d : Dev) : Nat := if d.srcPrio = 2 then d.qual.standbyTicks else d.qual.lockTicks

/-- 3,000 ticks set LOCK_QUAL. -/
def execLockQual (s : State) : Host.Outcome State Fault Refusal :=
  if s.dev.lockCount < 3000 then .next s
  else .next { s with dev := { s.dev with qual := { s.dev.qual with lockQual := true } } }

/-- Whether every formed beam yarn of every segment has known isolations, in both directions (R193, R409). -/
def Dev.surveyed (d : Dev) (c : Ctx) : Bool :=
  d.plan.committed.isSome && (d.formedNow c).all fun b => (d.can.loop b).any Loop.known

/-- The Close of a tick in SURVEY counts it, and sets SURVEY_OK once 400 are reached with every isolation
known (R409). -/
def Dev.closeSurvey (d : Dev) (c : Ctx) : Dev :=
  if c.mode ≠ .survey then d
  else
    let n := min (d.qual.survCnt + 1) 1023
    let ok := d.qual.surveyOk || (decide (400 ≤ n) && d.surveyed c)
    { d with qual := { d.qual with survCnt := n, surveyOk := ok } }

/-! ## Mode changes at the Plan window (R404, R410 to R412, R421, R427, R428) -/

/-- Enter a mode by command, wake, block reset or end of start-up, with its event (R515). -/
def State.enterMode (s : State) (m : ModeSt) (cause tag : Nat) : State :=
  if m.mode = s.modes.mode then { s with modes := m }
  else { s with
    modes := m
    dev := s.dev.modeEvent s.ctx s.modes.mode m.mode 0 cause tag }

/-- What an entry into COIL does at its Plan window (Table MOD-6, R422, R450): a locked Painter goes on in
HOLDOVER, and no run of hits goes on without occasions (R50). -/
def Dev.coilEntry (d : Dev) (c : Ctx) : Dev :=
  let d := d.kill c
  let d := if d.ptr.st = .lockedDonor ∨ d.ptr.st = .lockedPps then d.ptrTo c .holdover else d
  let d := d.endYarnsBy fun m => m.owner == 2 && (d.ldl.caps.getD m.tag default).writing
  { d with
    ptr := { d.ptr with
      tracks := []
      cands := d.ptr.cands.map fun x => if x.src.isSome then x else { x with run := 0, decodes := [] } }
    ldl := { d.ldl with caps := d.ldl.caps.map fun b => b.quit c.n 0 }
    mem := { d.mem with march := d.mem.march.map March.stopEarly }
    qual := { d.qual with
      coilEntry := some c.n
      wakeTick := if d.qual.wakeIn = 0 then none else some ((c.n + d.qual.wakeIn) % two32) } }

/-- An accepted MODE.SET or COIL.ENTER takes effect at the Plan window of its tick. In MUTED, HANK and the
relay modes become the return mode; COIL keeps the return mode of MUTED as its prior mode. -/
def State.applyMode (s : State) : State :=
  match s.dev.qual.pend with
  | none => s
  | some p =>
    if !tickDue s.time.n p.tick ∨ p.opcode = 0x0103 then s
    else
      let s : State := { s with dev := { s.dev with qual := { s.dev.qual with pend := none } } }
      if p.opcode = 0x0102 then
        let prior := s.modes.ret.getD s.modes.mode
        (s.enterMode { mode := .coil, ret := none, prior := some prior, waking := false } 0 p.tag).onDev
          fun c d => d.coilEntry c
      else if s.modes.mode = .muted ∧ relays p.target then
        { s with modes := { s.modes with ret := some p.target } }
      else s.enterMode { mode := p.target, ret := none, prior := none, waking := false } 0 p.tag

/-- A wake ends with the mode of R428; a fall back to STANDBY has a cause of its own. -/
def State.endWake (s : State) : State :=
  if !s.dev.wakeEnds s.modes s.time.n then s
  else
    let (m, ret) := s.dev.wakeMode s.modes
    let low := m == .standby && (s.modes.prior.map isRelay).getD false
    let s := s.enterMode { mode := m, ret := ret, prior := none, waking := false } (if low then 4 else 2) 0
    { s with dev := { s.dev with qual := { s.dev.qual with coilEntry := none, wakeTick := none } } }

/-- COIL from tick e + 1: LYD_CLK stops, dies and tiles are gated, banks are retained and DRAM refreshes itself; during a wake
DRAM leaves self-refresh and LYD_CLK restarts at w + 1 (Tables MOD-6 and MOD-7). -/
def Dev.coilTick (d : Dev) (c : Ctx) : Dev :=
  if c.mode ≠ .coil then d
  else if c.modes.waking then
    if d.qual.wakeTick.any fun w => sub32 c.n w == 1 then
      { d.lydClk c.time.conv true with mem := { d.mem with selfRefresh := false } }
    else d
  else if d.qual.coilEntry.any fun e => sub32 c.n e == 1 then
    { (d.lydClk 0 false).powerTiles c.ident.member 0 with
      mem := { d.mem with gated := true, retained := true, selfRefresh := true } }
  else d

/-- By the Close of tick w of a wake the last tiles have power and the retained banks are awake: both follow its T0 by at
most 120 us (Table MOD-7). -/
def Dev.wakeRest (d : Dev) (c : Ctx) : Dev :=
  if c.mode = .coil ∧ c.modes.waking ∧ d.mem.retained then
    { d.powerTiles c.ident.member 16 with mem := { d.mem with retained := false } }
  else d

/-- BOOT ends after Lanyard discovery, a block reset ends in STANDBY (R411, R431). A failure holds BOOT. -/
def State.autoMode (s : State) : State :=
  let standby : ModeSt := { mode := .standby, ret := none, prior := none, waking := false }
  if s.modes.mode = .boot ∧ s.dev.lyd.discovered ∧ s.dev.boot.stage = 3 ∧ s.dev.boot.dramOk ∧ s.dev.boot.fwOk then
    let s := s.enterMode standby 5 0
    { s with dev := { s.dev with boot := { s.dev.boot with stage := 4 } } }
  else if s.dev.boot.blkDone then
    let s : State := { s with dev := { s.dev with boot := { s.dev.boot with blkDone := false } } }
    match s.modes.mode with
    | .hank | .survey | .relayOpen | .relaySteered | .relayNetwork | .muted | .maintenance =>
      s.enterMode standby 3 0
    | _ => s
  else s

/-- What an entry into a mode leaves of the qualifications: MAINTENANCE clears SURVEY_OK (R409), and the first
STANDBY is remembered (R408). -/
def Dev.noteMode (d : Dev) (old new : Mode) : Dev :=
  let q := d.qual
  let q : Qual := if new = .maintenance ∧ old ≠ .maintenance then { q with surveyOk := false, survCnt := 0 } else q
  let q : Qual := if new = .standby then { q with standbySeen := true } else q
  { d with qual := q }

/-- The learning and array calibration that a mode ends: ENTRY.LEARN outside R203, but it waits in MUTED with a
relay return mode; ARRAY.CAL outside SURVEY and MAINTENANCE (R510). -/
def Dev.endLearn (d : Dev) (m : ModeSt) : Dev :=
  let learns := m.mode == .survey || isRelay m.mode || (m.mode == .muted && (m.ret.map isRelay).getD false)
  match d.can.learn with
  | none => d
  | some l =>
    if learns then (if l.host || m.mode != .survey then d else { d with can := { d.can with learn := none } })
    else
      let d : Dev := { d with can := { d.can with learn := none } }
      if l.host then d.complete 0x0306 l.hdr stDenied 0 none (leBytes 2 l.done) else d

/-- ARRAY.CAL ends early with the results written so far, none of which is a result of this model (R510). -/
def Dev.endArrayCal (d : Dev) (m : ModeSt) : Dev :=
  match d.beams.arrayCal with
  | none => d
  | some w =>
    if m.mode = .survey ∨ m.mode = .maintenance then d
    else
      let d := d.freeYarns 4 0
      ({ d with beams := { d.beams with arrayCal := none } }).complete 0x0304 w.hdr stDenied 0 none (leBytes 2 0)

end Sys2Proof.Machine
end

