-- ==== Sys2Proof/Machine/Thermal.lean ====
section
/-! DEFINITION. Thermal sensing and shutdown (spec/12_thermal.md): sensor validity, the governing temperature,
the Reef step machine, freezes, the critical shutdown and THM.CLR. Temperatures are in 1/16 degree C. -/

namespace Sys2Proof.Machine

/-! ## Sites, groups and settings (R380, R382, R397, R400) -/

/-- Whether a sensor is a remote channel. -/
def isRemote (i : Nat) : Bool := decide (134 ≤ i)

/-- The settings word of a remote sensor. -/
def Setup.remWord (u : Setup) (i : Nat) : Word := u.remCfg.getD (i - 134) 0#32

/-- Whether a sensor takes part: it exists, and a remote channel is enabled. -/
def Setup.sensorOn (u : Setup) (m : Member) (i : Nat) : Bool :=
  Config.sensorExists m i && (!isRemote i || (u.remWord i).bit 0)

/-- The hot-spot group of a sensor (Table THM-1). -/
def Setup.groupOf (u : Setup) (i : Nat) : Nat :=
  if i < 96 then 4 * (i / 12) + i % 12 / 3
  else if i < 102 then 32 + (i - 96) / 3
  else if i < 134 then 34 + (i - 102) / 2
  else 50 + (u.remWord i).field 2 3

/-- Whether a hot-spot group exists on a member. -/
def groupExists (m : Member) (g : Nat) : Bool :=
  if g < 32 then decide (g / 4 < Config.hawsers m)
  else if g < 34 then true
  else if g < 50 then decide (g - 34 < Config.tiles m)
  else decide (g < 58) && Config.remoteThermal m

/-- The equivalent temperature of a reading (R382). -/
def Setup.teq (u : Setup) (i : Nat) (t : Int) : Int :=
  if isRemote i then t + 4 * toSigned 10 ((u.remWord i).field 16 10) else t

/-- STEP_BASE, and the threshold of step k, in 1/16 degree C. -/
def Setup.stepBase (u : Setup) : Nat := min 95 (max 70 (u.thmCfg.field 0 7))
def Setup.threshold (u : Setup) (k : Nat) : Int := 16 * (u.stepBase + 3 * (k - 1) : Nat)

/-- The effective critical limit (R397). -/
def Setup.critical (u : Setup) : Int := 16 * (max (min (u.thmCfg.field 8 7) 118) (u.stepBase + 18) : Nat)

/-- ALERT_STEP as it acts; 0 never (Table THM-5). -/
def Setup.alertStep (u : Setup) : Nat := min 6 (u.thmCfg.field 16 3)

/-- The thermal-sensor source of a sensor (Table STP-2). -/
def sensorSource (i : Nat) : Nat :=
  if i < 96 then 28 + i / 12 else if i < 102 then 27 else if i < 134 then 28 + (i - 102) / 4 else 27

/-- The thermal settings are taken up at the next sample (R523). -/
def Setup.takeThermal (u v : Setup) : Setup :=
  { u with thmCfg := v.thmCfg, remCfg := v.remCfg, remPar := v.remPar }

/-! ## Conversion (R381, R383, R384) -/

/-- A temperature in kelvin in 1/16 degree C, to the nearest. -/
def celsius16 (t : Rat) : Int := nearest (16 * (t - 27315 / 100))

/-- The natural logarithm of 2, and of a / b. -/
def ln2 : Rat := 6931471805599453 / 10000000000000000
def lnRatio (a b : Nat) : Rat := (log2Ratio a b : Rat) / (2 ^ 40 : Nat) * ln2

/-- The temperature of a diode channel from its base-emitter voltages in nV at 10, 40 and 160 microamperes, for an
ideality code (R383). PRESUMED (assumption 95): each step of four in current adds n (k T / q) ln 4, and a series
resistance adds four times as much to the second step as to the first. -/
def diodeTemp (nf : Nat) (v : Nat × Nat × Nat) : Int :=
  let (v10, v40, v160) := v
  let dv : Int := 4 * ((v40 : Int) - v10) - ((v160 : Int) - v40)
  let n : Rat := 1 + (nf : Rat) / 2048
  celsius16 ((dv : Rat) / 1000000000 * (11604518 / 1000) / (3 * n * (2 * ln2)))

/-- The temperature of a thermistor of a resistance in ohms, for the R25 and BETA fields (R384). -/
def thermistorTemp (r25 beta ohms : Nat) : Int :=
  celsius16 (1 / (100 / 29815 + lnRatio (max 1 ohms) (10 * max 1 r25) / (max 2000 beta : Nat)))

/-- A reading with the temperature that its sensor's converter gives: an on-die sensor gives it itself. -/
def Setup.convert (u : Setup) (r : Reading) : Reading :=
  let p := u.remPar.getD (r.idx - 134) 0#32
  if r.idx < 134 then r
  else if r.idx < 142 then { r with temp := diodeTemp (p.field 0 8) r.diode }
  else { r with temp := thermistorTemp (p.field 0 16) (p.field 16 12) r.ohms }

/-! ## One sensor's sample (R385, R386) -/

/-- Samples of one raw code, and of the interval, behind the stuck criterion. -/
def stuckSamples : Nat := 31250

/-- Samples of an extreme kept: those younger than the interval that no later sample passes. -/
def keepExtreme (now : Nat) (drop : Int → Bool) (q : List (Nat × Int)) (t : Int) : List (Nat × Int) :=
  (q.filter fun e => decide (now < e.1 + stuckSamples) && !drop e.2) ++ [(now, t)]

/-- A sensor's histories as a disabled channel leaves them: empty. An invalid sensor stays so (R386). -/
def Sensor.forget (x : Sensor) : Sensor :=
  { x with have_ := false, same := 0, maxq := [], minq := [], crit := 0, cool := 0 }

/-- A sensor that THM.CLR re-admits (R386). -/
def Sensor.clear (x : Sensor) : Sensor := { x.forget with valid := true, fault := 0 }

/-- The range and rate criteria of Table THM-2 for a reading after the last one. -/
def Sensor.breaks (x : Sensor) (r : Reading) : Nat :=
  let low : Int := if isRemote r.idx then -880 else -720
  let step : Int := if isRemote r.idx then 8 else 32
  if r.broken || decide (r.temp < low) || decide (2400 < r.temp) then 1
  else if x.have_ && decide (step < |r.temp - x.temp|) then 2
  else 0

/-- A sensor with one more reading in its histories. -/
def Sensor.note (x : Sensor) (now : Nat) (r : Reading) : Sensor :=
  { x with
    temp := r.temp
    have_ := true
    raw := r.raw
    same := if x.have_ && x.raw == r.raw then x.same + 1 else 1
    maxq := keepExtreme now (fun t => decide (t ≤ r.temp)) x.maxq r.temp
    minq := keepExtreme now (fun t => decide (r.temp ≤ t)) x.minq r.temp }

/-- How far a sensor's readings spread over the interval. -/
def Sensor.spread (x : Sensor) : Int :=
  match x.maxq, x.minq with
  | a :: _, b :: _ => a.2 - b.2
  | _, _ => 0

/-- The sensor of an index. -/
def Thermal.sensor (t : Thermal) (i : Nat) : Sensor := t.sensors.getD i Sensor.reset

/-- Whether a sensor counts: it takes part, is valid and has a sample. -/
def Thermal.counts (t : Thermal) (u : Setup) (m : Member) (i : Nat) : Bool :=
  u.sensorOn m i && (t.sensor i).valid && (t.sensor i).have_

/-- The sensors of a member that count. -/
def Thermal.counted (t : Thermal) (u : Setup) (m : Member) : List Nat :=
  (List.range 150).filter fun i => t.counts u m i

/-- Whether a sensor is stuck: its code has not moved while another valid one of its group has. -/
def Thermal.stuck (t : Thermal) (u : Setup) (m : Member) (i : Nat) : Bool :=
  decide (stuckSamples ≤ (t.sensor i).same) &&
    (t.counted u m).any fun j => j != i && u.groupOf j == u.groupOf i && decide (32 ≤ (t.sensor j).spread)

/-! ## THM.CLR (R398) -/

/-- The target of a THM.CLR does not exist on the member. -/
def thmTargetBad (m : Member) (action target : Nat) : Bool :=
  if action = 1 then target != 0xFF && !groupExists m target
  else if action = 2 then target != 0xFFFF && !Config.sensorExists m target
  else true

/-- THM.CLR (R398): it acts at the next sample. -/
def cmdThmClr (h : CmdHdr) (action target : Nat) (s : State) : State :=
  s.onDev fun c d =>
    guarded 0x0702 h
      [(thmTargetBad c.ident.member action target, stBadArg), (!modeAccepts c.mode 0x0702, stDenied)]
      (fun d => ({ d with thm := { d.thm with pend := d.thm.pend ++ [(action, target)] } }).ok 0x0702 h) d

def execThmClr (h : CmdHdr) (action target : Nat) (s : State) : Host.Outcome State Fault Refusal :=
  .next (cmdThmClr h action target s.fetched)

/-- What a THM.CLR does at the sample. -/
def Thermal.clearOne (t : Thermal) (e : Nat × Nat) : Thermal :=
  if e.1 = 1 then { t with freezes := t.freezes.filter fun f => e.2 != 0xFF && f.group != e.2 }
  else
    let sensors := ((List.range 150).zip t.sensors).map fun x =>
      if (e.2 = 0xFFFF ∨ e.2 = x.1) ∧ !x.2.valid then x.2.clear else x.2
    { t with sensors := sensors }

/-- The commands that wait take effect at the next sample. -/
def Thermal.cleared (t : Thermal) : Thermal := { t.pend.foldl Thermal.clearOne t with pend := [] }

/-! ## The sample (R385 to R395) -/

/-- Readings of the sensors that take part enter the histories; a disabled channel holds none. -/
def Thermal.takeReadings (t : Thermal) (u : Setup) (m : Member) (rs : List Reading) : Thermal :=
  let now := t.samples + 1
  let sensors := ((List.range 150).zip t.sensors).map fun x =>
    if !u.sensorOn m x.1 then x.2.forget
    else match rs.find? fun r => r.idx == x.1 with
      | none => x.2
      | some r =>
        let r := u.convert r
        let f := x.2.breaks r
        let y := x.2.note now r
        if x.2.valid ∧ f ≠ 0 then { y with valid := false, fault := f } else y
  { t with samples := now, sensors := sensors }

/-- Sensors that are stuck become invalid. -/
def Thermal.dropStuck (t : Thermal) (u : Setup) (m : Member) : Thermal :=
  let sensors := ((List.range 150).zip t.sensors).map fun x =>
    if t.counts u m x.1 && t.stuck u m x.1 then { x.2 with valid := false, fault := 3 } else x.2
  { t with sensors := sensors }

/-- The governing sensor and temperature: the largest T_eq, and on equal values the lower index (R388). -/
def Thermal.governing (t : Thermal) (u : Setup) (m : Member) : Option (Nat × Int) :=
  (t.counted u m).foldl
    (fun best i =>
      let x := u.teq i (t.sensor i).temp
      match best with
      | none => some (i, x)
      | some b => if b.2 < x then some (i, x) else best) none

/-- One sample of the step machine (R389). -/
def stepSample (u : Setup) (x : Int) (active : List Bool) (run : List Nat) : List Bool × List Nat :=
  let e := (List.range 6).map fun k =>
    let a := active.getD k false
    let th := u.threshold (k + 1)
    let r := if (!a && decide (th ≤ x)) || (a && decide (x < th - 48)) then run.getD k 0 + 1 else 0
    if r = 125 then (!a, 0) else (a, r)
  (e.map (·.1), e.map (·.2))

/-- The highest active step. -/
def computedStep (active : List Bool) : Nat :=
  ((List.range 6).filter fun k => active.getD k false).foldl (fun m k => max m (k + 1)) 0

/-- Whether a die is blind: a hawser, or 8 for the Bowline (R387). -/
def Thermal.dieBlind (t : Thermal) (m : Member) (die : Nat) : Bool :=
  let own := if die = 8 then (List.range 6).map (96 + ·) else (List.range 12).map (12 * die + ·)
  (die == 8 || decide (die < Config.hawsers m)) && own.all fun i => !(t.sensor i).valid

/-- The blind dies. -/
def Thermal.blindDies (t : Thermal) (m : Member) : List Nat := (List.range 9).filter fun x => t.dieBlind m x

/-- The samples of R393: counted from the freeze, or from the sample at which the sensor went below. A sensor whose failure
began the freeze does not count, re-admitted or not. -/
def Thermal.coolStep (t : Thermal) (u : Setup) (m : Member) (f : Freeze) : Thermal :=
  let below (i : Nat) (x : Sensor) : Bool := decide (u.teq i x.temp < u.threshold f.floor - 48)
  let sensors := ((List.range 150).zip t.sensors).map fun x =>
    if u.groupOf x.1 == f.group then
      let counts := t.counts u m x.1 && !decide (x.1 ∈ f.failed)
      { x.2 with cool := if counts && below x.1 x.2 then x.2.cool + 1 else 0 }
    else x.2
  let t : Thermal := { t with sensors := sensors }
  if (List.range 150).any fun i => u.groupOf i == f.group && decide (1000 < (t.sensor i).cool) then
    { t with freezes := t.freezes.filter fun g => g.group != f.group }
  else t

/-- A sensor's failure begins a freeze in its group, or raises its floor; either way its count restarts (R392, R394). -/
def Thermal.freeze (t : Thermal) (u : Setup) (sensor floor : Nat) : Thermal :=
  let group := u.groupOf sensor
  let before := (t.freezes.filter fun g => g.group == group).flatMap (·.failed)
  let f : Freeze := { group := group, floor := floor, failed := before ++ [sensor] }
  let sensors := ((List.range 150).zip t.sensors).map fun x =>
    if u.groupOf x.1 == group then { x.2 with cool := 0 } else x.2
  { t with freezes := t.freezes.filter (fun g => g.group != group) ++ [f], sensors := sensors }

/-- The reported step (R389). -/
def Thermal.report (t : Thermal) (m : Member) : Nat :=
  t.freezes.foldl (fun r f => max r f.floor) (max t.computed (if (t.blindDies m).isEmpty then 0 else 6))

/-- The critical counts of R395; the answer says whether one reached 2. -/
def Thermal.critStep (t : Thermal) (u : Setup) (m : Member) : Thermal × Bool :=
  let sensors := ((List.range 150).zip t.sensors).map fun x =>
    let takes := !isRemote x.1 || (u.remWord x.1).bit 1
    let hot := decide (u.critical ≤ u.teq x.1 x.2.temp)
    { x.2 with crit := if t.counts u m x.1 && takes && hot then min 2 (x.2.crit + 1) else 0 }
  ({ t with sensors := sensors }, sensors.any fun x => x.crit == 2)

/-- ALERT_N (R391). -/
def Dev.setAlert (d : Dev) : Dev :=
  let k := d.use.alertStep
  let low := d.thm.latched || (k != 0 && decide (k ≤ d.thm.reported))
  { d with stop := { d.stop with alertLow := low } }

/-- The thermal state of one sample before the critical limit. -/
def Thermal.sample (t : Thermal) (u : Setup) (m : Member) (rs : List Reading) : Thermal :=
  let t := t.cleared
  let gov := t.govSns
  let wasValid := (t.sensor gov).valid && u.sensorOn m gov
  let t := (t.takeReadings u m rs).dropStuck u m
  let t := if wasValid && !(t.sensor gov).valid && decide (1 ≤ t.reported) then
      t.freeze u gov t.reported
    else t
  let t : Thermal := match t.governing u m with
    | none => t
    | some g =>
      let (active, run) := stepSample u g.2 t.active t.run
      { t with active := active, run := run, computed := computedStep active, govSns := g.1, govTemp := g.2 }
  let t := t.freezes.foldl (fun t f => t.coolStep u m f) t
  { t with reported := t.report m }

/-- The raises of a sample: sensors that became invalid, freezes that began and dies that became blind, against the state
that THM.CLR left (R385, R387, R392). -/
def Dev.thermalRaises (d : Dev) (c : Ctx) (old : Thermal) (sub : Nat) : Dev :=
  let m := c.ident.member
  let d := ((List.range 150).filter fun i => (old.sensor i).valid && !(d.thm.sensor i).valid).foldl
    (fun d i => d.raise c (sensorSource i) 2 i sub) d
  let d := (d.thm.freezes.filter fun f => !old.freezes.any fun g => g.group == f.group).foldl
    (fun d f => d.raise c 10 2 f.group sub) d
  (((d.thm.blindDies m).filter fun x => !decide (x ∈ old.blindDies m))).foldl
    (fun d x => d.raise c 9 3 x sub) d

/-- The critical shutdown (R395, R396): trigger 15, LATCHED at once, the hawsers and tiles gated, DRAM in self-refresh. -/
def State.thermalShutdown (s : State) (sub : Nat) : State :=
  if s.dev.thm.latched then s
  else
    let t : Trigger := { trig := 15, level := 5, scope := 0, unit := 0, loopg := 0, sub := sub }
    (s.onDev fun c d =>
      (({ d with
          thm := { d.thm with latched := true }
          conv := { d.conv with power := d.conv.power.map fun _ => false }
          mem := { d.mem with gated := true, selfRefresh := true } }).impose c t).setAlert).settleMutesAt sub

/-- One thermal sample (R381, R389, R390), in RESET too (R416, R552; assumption 31). -/
def execThermalSample (rs : List Reading) (sub : Nat) (s : State) : Host.Outcome State Fault Refusal :=
  if !s.dev.boot.powered then .next s
  else
    let s := s.onDev fun c d =>
      let use := d.use.takeThermal c.setup
      let m := c.ident.member
      let old := d.thm
      let t := old.sample use m rs
      let d := (({ d with use := use, thm := t }).thermalRaises c old.cleared sub).setAlert
      if t.reported = old.reported then d
      else d.event c 4 (t.reported + 8 * old.reported) sub t.govSns (ofSigned 32 t.govTemp)
    let x := s.dev.thm.critStep s.dev.use s.ident.member
    let s : State := { s with dev := { s.dev with thm := x.1 } }
    .next (if x.2 then s.thermalShutdown sub else s)

/-- A hardware comparator trips (R395). Dies 0…7 are hawsers, 8 the Bowline, 9…24 the tiles. -/
def execThermalCritical (die sub : Nat) (s : State) : Host.Outcome State Fault Refusal :=
  let fitted := die == 8 || decide (die < s.ctx.hawsers) ||
    (decide (9 ≤ die) && decide (die - 9 < Config.tiles s.ident.member))
  if !s.dev.boot.powered ∨ !fitted then .next s else .next (s.thermalShutdown sub)

end Sys2Proof.Machine
end

