-- ==== Sys2Proof/Machine/Fetch.lean ====
section
/-! DEFINITION. The fetch and the evaluation of command descriptors (R500 to R508). -/

namespace Sys2Proof.Machine

/-- A command of Table HST-8 is evaluated (R502, R510); the other rows are no host commands. -/
def runCommand (i : Instr) (s : State) : State :=
  match i with
  | .modeSet h mode => cmdModeSet h mode s
  | .coilEnter h wakeIn => cmdCoilEnter h wakeIn s
  | .coilWake h => cmdCoilWake h s
  | .timeSet h time => cmdTimeSet h time s
  | .sync h => cmdSync h s
  | .calRun h first count => cmdCalRun h first count s
  | .txTest h a => cmdTxTest h a s
  | .planLoad h b => cmdPlanLoad h b s
  | .muteSet h a => cmdMuteSet h a s
  | .muteClr h a => cmdMuteClr h a s
  | .netInd h a => cmdNetInd h a s
  | .ulSched h bg action p b => cmdUlSched h bg action p b s
  | .feLoad h nblk b => cmdFeLoad h nblk b s
  | .yarnMap h first count o => cmdYarnMap h first count o s
  | .beamSet h a b => cmdBeamSet h a b s
  | .arrayCal h a o => cmdArrayCal h a o s
  | .cancSet h a => cmdCancSet h a s
  | .entryLearn h a => cmdEntryLearn h a s
  | .trcScan h scanAll nids b => cmdTrcScan h scanAll nids b s
  | .gainSet h a => cmdGainSet h a s
  | .belBank h xfade kp ki => cmdBelBank h xfade kp ki s
  | .belRead h first count o => cmdBelRead h first count o s
  | .bookBasis h bg id b => cmdBookBasis h bg id b s
  | .bookLoad h b => cmdBookLoad h b s
  | .bookRead h first count dirty clean o => cmdBookRead h first count dirty clean o s
  | .bookSet h a => cmdBookSet h a s
  | .bookDel h first count mask => cmdBookDel h first count mask s
  | .partnerRead h kind o => cmdPartnerRead h kind o s
  | .measSub h a => cmdMeasSub h a s
  | .specSnap h a o => cmdSpecSnap h a o s
  | .captureArm h a b => cmdCaptureArm h a b s
  | .captureRead h bufc offset o => cmdCaptureRead h bufc offset o s
  | .reefCap h capW => cmdReefCap h capW s
  | .thmClr h action target => cmdThmClr h action target s
  | .marchRun h a => cmdMarchRun h a s
  | .logRead h region seq o => cmdLogRead h region seq o s
  | .logNonce h o => cmdLogNonce h o s
  | .logClear h b => cmdLogClear h b s
  | .lifeSet h st group b => cmdLifeSet h st group b s
  | .keySet h slot action b => cmdKeySet h slot action b s
  | _ => s

/-- The evaluation of one descriptor whose completion is owed (R500, R507): DLEN 0 is a no-op, a DLEN or an
opcode out of range is BAD_ARG. -/
def evaluate (cidx : Nat) (x : Descriptor) (s : State) : State :=
  let h : CmdHdr := { tag := x.tag, cidx := cidx }
  if x.dlen = 0 then s.onDev fun _ d => d.ok x.opcode h
  else if !dlenOk x.dlen then s.onDev fun _ d => d.reject x.opcode h stBadArg
  else match commandOf cidx x with
    | some i => runCommand i s
    | none => s.onDev fun _ d => d.reject x.opcode h stBadArg

/-- Whether every earlier command has posted its completion: the completions owed are those of the descriptors
that wait (R503). -/
def HostIf.clear (h : HostIf) (waiting : Nat) : Bool := h.owed == waiting

/-- The descriptors that a FENCE held back are evaluated in order, until one must wait again. -/
def runWaiting : List (Nat × Descriptor) → State → State
  | [], s => { s with dev := { s.dev with host := { s.dev.host with waiting := [] } } }
  | x :: xs, s =>
    if fenced x.2 && !s.dev.host.clear (xs.length + 1) then
      { s with dev := { s.dev with host := { s.dev.host with waiting := x :: xs } } }
    else runWaiting xs (evaluate x.1 x.2 s)

/-- One descriptor is fetched: CMD_C advances, its completion is owed, and it is evaluated unless a FENCE holds
it or one before it. -/
def State.fetchOne (s : State) (x : Descriptor) : State :=
  let r := s.ring 0
  let held := !s.dev.host.waiting.isEmpty || (fenced x && !s.dev.host.clear 0)
  let t := (s.setRing 0 { r with c := succ32 r.c }).fetched
  if held then
    { t with dev := { t.dev with host := { t.dev.host with waiting := t.dev.host.waiting ++ [(r.c, x)] } } }
  else evaluate r.c x t

/-- Descriptors are fetched in ring order while the device may. -/
def fetchAll : List Descriptor → State → State
  | [], s => s
  | x :: xs, s => if s.mayFetch && s.completionRoom then fetchAll xs (s.fetchOne x) else s

/-- The device fetches descriptors from the command ring; the operand holds what stands there in ring order
(R502). Descriptors that a FENCE holds back are evaluated first. -/
def execCommandFetch (ds : List Descriptor) (s : State) : Host.Outcome State Fault Refusal :=
  .next ((fetchAll ds (runWaiting s.dev.host.waiting s)).writeIndex)

end Sys2Proof.Machine
end

