-- ==== Sys2Proof/Machine/Flags.lean ====
section
/-! DEFINITION. The status and flag words of the block: how the state of each unit packs into the registers that
report it (R9, R11, R433, and the register tables of spec/17_setup_registers.md). -/

namespace Sys2Proof.Machine

/-! ## Packing (R9, R11) -/

/-- A register word from fields given as lowest bit, width and value. -/
def pack (fs : List (Nat × Nat × Nat)) : Word :=
  packWord (fs.map fun f => (f.1, f.2.2 % 2 ^ f.2.1))

/-- A flag as a field. -/
def flag (i : Nat) (b : Bool) : Nat × Nat × Nat := (i, 1, bitNat b)

/-- A mask of those numbers below a bound that a condition selects. -/
def maskWhere (n : Nat) (p : Nat → Bool) : Nat := ((List.range n).filter p).foldl (fun a i => a + 2 ^ i) 0

/-- A signed value in 16 bits, saturating at +-32,767 (Table TCK-8). -/
def sat16 (x : Int) : Nat := ofSigned 16 (clampInt x (-32767) 32767)

/-! ## The Bowline block (Table REG-3) -/

/-- BWL_DEV (Table REG-2). -/
def devWord (i : Ident) : Word :=
  pack [(0, 4, Config.hawsers i.member), (4, 5, Config.tiles i.member),
    flag 9 (Config.remoteThermal i.member), (16, 4, i.stepMaj), (20, 4, i.stepMin)]

/-- BWL_MODULE (Table REG-2). -/
def State.moduleWord (s : State) : Word :=
  let p := s.dev.splice
  let present := maskWhere 4 fun m => m == s.ident.modId || p.peers.any fun q => q.modId == m
  pack [(0, 2, s.ident.modId), (4, 4, if p.elected then present else 0), (8, 2, p.masterId),
    flag 10 (s.dev.dupId s.ctx), (16, 4, maskWhere 4 fun i => p.linkUp.getD i false)]

/-- BWL_RST_STAT (Table MOD-11) and BWL_BOOT_STAT (Table MOD-13). -/
def Boot.rstWord (b : Boot) : Word := pack [(0, 3, b.cause), (8, 8, b.blkCnt), (16, 3, b.blkLast)]
def Dev.bootWord (d : Dev) : Word :=
  pack [(0, 3, d.boot.stage), flag 3 d.boot.fwOk, flag 4 d.boot.dramOk, flag 5 d.boot.calDone,
    (6, 4, d.conv.wave), flag 10 (d.splice.elected && d.splice.linkUp.any id)]

/-- PG_OUT is high from power-good until a brown-out (R543). -/
def Boot.pgOut (b : Boot) : Bool := b.powered

/-- The module drives the SPI contacts only while STAGE is 0 or 1 (R556). -/
def Boot.drivesSpi (b : Boot) : Bool := b.powered && decide (b.stage ≤ 1)

/-- BWL_MODE_STAT (Table MOD-10). -/
def State.modeWord (s : State) : Word :=
  let m := s.modes
  let ret := if m.mode = .muted then (m.ret.map modeId).getD 0 else 0
  let prior := if m.mode = .coil then (m.prior.map modeId).getD 0 else 0
  let q := s.dev.qual
  pack [(0, 4, modeId m.mode), (4, 4, ret), (8, 4, prior), flag 12 q.lockQual, flag 13 q.surveyOk,
    flag 14 m.waking, (16, 10, q.survCnt)]

/-- BWL_LIFE (Table STP-15). -/
def NvSt.lifeWord (v : NvSt) : Word :=
  pack [(0, 3, lifeId v.life), flag 3 v.lifeFrom.isSome,
    (4, 4, maskWhere 4 fun i => (v.key i).isSome)]

/-- BWL_PTR_STAT (Table TCK-7) and BWL_PTR_PHASE (Table TCK-8). -/
def Dev.ptrWord (d : Dev) : Word :=
  let p := d.ptr
  let donor := p.donor.getD (0, 0)
  pack [(0, 3, ptrId p.st), flag 3 p.sync, flag 4 p.ppsValid, flag 5 d.splice.master, (6, 2, donor.1),
    (8, 10, donor.2), (18, 4, min 8 p.cands.length)]
def Painter.phaseWord (p : Painter) : Word := pack [(0, 16, sat16 p.phaseErr), (16, 16, sat16 p.freq)]

/-- BWL_SYN_STAT, BWL_LYD_STAT and BWL_LYD_PRES (Table CNV-9). -/
def Conv.synWord (x : Conv) : Word :=
  pack [flag 0 x.refOk, flag 1 x.locked, (2, 6, x.vcoTc), (8, 8, x.syncIgn), (16, 16, x.lastSync)]
def Lanyard.statWord (l : Lanyard) : Word := pack [(0, 16, l.lateSw), (16, 16, l.crcErr)]
def Dev.presWord (d : Dev) (i : Nat) : Word := pack [(0, 32, maskWhere 32 fun j => (d.node (32 * i + j)).present)]

/-- BWL_PRT_STAT (Table PRT-10) and BWL_PRT_CNT (Table PRT-11). -/
def Dev.prtWord (d : Dev) : Word :=
  let st := if d.plan.committed.isNone then 0 else if d.plan.valid then 1 else 2
  let cause := maskWhere 6 fun i => d.prt.mutes.any fun m => m.level == 4 && m.trig == 9 + i
  pack [(0, 2, st), flag 2 d.clk.utc.isSome, flag 3 d.plan.pending.isSome, flag 4 d.prt.declared.isSome,
    flag 5 d.prt.muteNLow, (6, 6, cause)]
def Protect.cntWord (p : Protect) : Word := pack [(0, 8, p.niLate), (8, 8, p.niBad), (16, 8, p.devMute)]

/-- The count registers of the book and the neighbours (Tables EPB-13 and EPB-14). -/
def Book.inState (b : Book) (st : Nat) : Nat := b.recs.countP fun r => r.state == st
def Book.nbrWord (b : Book) : Word := pack [(0, 8, b.nbrDrop), (8, 6, b.nbrs.length)]

/-- BWL_MEM_STAT, BWL_MEM_ECC, BWL_DRAM_CFG and BWL_DRAM_STAT (Tables MEM-7 and MEM-9 to MEM-11). -/
def Memory.statWord (m : Memory) : Word := pack ((List.range 4).map fun i => (8 * i, 8, m.bbColl.getD i 0))
def Memory.eccWord (m : Memory) : Word :=
  pack [(0, 8, m.sramCor), (8, 4, m.sramUnc), (12, 4, m.busErr), (16, 8, m.dramCor), (24, 8, m.dramUnc)]
def Memory.cfgWord (m : Memory) : Word :=
  pack [(0, 3, m.dens), (8, 17, captureMb m.dens)]
def Memory.dramWord (m : Memory) : Word := pack [(0, 8, m.trained), (8, 8, m.failed), flag 16 m.wiped]

/-- A number as a whole register. -/
def num (n : Nat) : Word := BitVec.ofNat 32 n

/-- The Logline and lifecycle registers read 0 until the firmware is loaded (R490). -/
def Boot.stored (b : Boot) (w : Word) : Word := if b.fwOk then w else 0#32

/-! ## The other blocks -/

/-- BWL_HST_STAT (Table HST-14). -/
def HostIf.statWord (h : HostIf) (stalls : Bool) : Word :=
  pack [flag 0 h.dbErr, flag 1 (h.started && !h.mastering), flag 2 stalls, (8, 8, h.dbErrCnt)]

/-- STOP_STATk and STOP_RPTm (Table STP-13). -/
def Stopper.statWord (t : Stopper) (k : Nat) : Word := pack [(0, 32, maskWhere 32 fun i => (t.src (32 * k + i)).bit)]
def Stopper.rptWord (t : Stopper) (m : Nat) : Word :=
  pack ((List.range 8).map fun j => (4 * j, 4, (t.src (8 * m + j)).rpt))

/-- STOP_FIRST (Table STP-13). -/
def Stopper.firstWord (t : Stopper) : Word :=
  pack [(0, 7, t.firstSrc), (8, 3, t.firstSev), (16, 8, t.firstUnit), flag 30 t.firstOvf, flag 31 t.firstValid]

/-- THM_STAT (Table THM-6). -/
def State.thmWord (s : State) : Word :=
  let t := s.dev.thm
  pack [(0, 3, t.reported), (3, 3, t.computed), flag 6 (!t.freezes.isEmpty),
    flag 7 (!(t.blindDies s.ident.member).isEmpty), (8, 8, t.govSns), (16, 16, ofSigned 16 t.govTemp)]

/-- HWS_REEF_CLK (Table REF-7). -/
def RPlan.clkWord (r : RPlan) (h : Nat) : Word :=
  let k := r.clocks.getD h (1, 0)
  pack [(0, 2, divCode k.1), (2, 4, k.2), (6, 13, clockCredits k), (19, 8, 2 * clockCap k)]

end Sys2Proof.Machine
end

