-- ==== Sys2Proof/Machine/Stopper.lean ====
section
/-! DEFINITION. The rows of the Stopper (spec/15_faults_and_logline.md, R461 to R472): a raise from outside, the
host's acknowledgement, STOP_FIRST, the FAULT_N hold and the end of a block reset (R431). -/

namespace Sys2Proof.Machine

/-- A Stopper source line raises a fault (R461, R468). -/
def execStopperRaise (src sev unit sub : Nat) (s : State) : Host.Outcome State Fault Refusal :=
  if 95 < src ∨ 5 < sev then .next s else .next (s.onDev fun c d => d.raise c src sev unit sub)

/-- A W1C write to STOP_STATk acknowledges every source whose bit is written as 1 (R468, R471). -/
def execStopperAcknowledge (k : Nat) (v : Word) (s : State) : Host.Outcome State Fault Refusal :=
  if 2 < k then .next s
  else .next (s.onDev fun c d =>
    ((List.range 32).filter fun i => v.bit i).foldl (fun d i => d.acknowledge c (32 * k + i) c.time.sub) d)

/-- A W1C write to STOP_FIRST: bit 31 unlatches it, bit 30 clears OVF (R469). -/
def execStopFirstUnlatch (v : Word) (s : State) : Host.Outcome State Fault Refusal :=
  let t := s.dev.stop
  .next { s with dev := { s.dev with stop :=
    { t with
      firstValid := t.firstValid && !v.bit 31
      firstAt := if v.bit 31 then none else t.firstAt
      firstOvf := t.firstOvf && !v.bit 30 } } }

/-- FAULT_N has been low for 1 ms: it rises unless a source still holds it (R467). -/
def execFaultNHoldEnd (s : State) : Host.Outcome State Fault Refusal :=
  let t : Stopper := { s.dev.stop with faultHold := false }
  .next { s with dev := { s.dev with stop := { t with faultLow := t.wantsFault } } }

/-- A block reset of hawser h completes: h rejoins, the reset is counted and reported, and the next Plan
window takes the module to STANDBY (R431, R434). -/
def execBlockResetDone (h : Nat) (s : State) : Host.Outcome State Fault Refusal :=
  if !decide (h ∈ s.dev.boot.blkRun) then .next s
  else .next (s.onDev fun c d =>
    let boot : Boot :=
      { d.boot with
        blkRun := d.boot.blkRun.erase h
        blkCnt := satAdd 8 d.boot.blkCnt 1
        blkLast := h
        blkDone := true }
    let stop : Stopper := { d.stop with links := d.stop.links.filter fun l => l.1 != 60 + h }
    ({ d with boot := boot, stop := stop }).event c 11 h c.time.sub 0 0)

end Sys2Proof.Machine
end

