-- ==== Sys2Proof/Machine/Resets.lean ====
section
/-! DEFINITION. Resets and start-up (R416, R429 to R435, R488, R543 to R546): what each reset kind keeps
(Table MOD-9), power-good and brown-out, the requests of BWL_RST_CTL, the chip reset of the Stopper, the
reset of a lifecycle change, reset release and the firmware load. -/

namespace Sys2Proof.Machine

/-! ## What a reset keeps (Table MOD-9) -/

/-- The codes of CAUSE in BWL_RST_STAT (R434). -/
def causePower : Nat := 0
def causeCtl : Nat := 1
def causeStop : Nat := 2
def causeWarm : Nat := 3
def causeLife : Nat := 4

/-- The host interface after a reset. Warm reset keeps the endpoint, its configuration space and the link;
the contacts and what was sent lie outside the module. -/
def HostIf.afterReset (h : HostIf) (cause : Nat) : HostIf :=
  let warm := cause == causeWarm
  { HostIf.reset with
    perstLow := h.perstLow
    started := warm && h.started
    bme := warm && h.bme
    d3hot := warm && h.d3hot
    linkUp := warm && h.linkUp
    written := h.written
    sent := h.sent
    idxBlock := h.idxBlock
    jtag := h.jtag }

/-- The Stopper after a reset: its status survives warm reset alone; a FAULT_N that was driven stays low for
its 1 ms (R432, R467). -/
def Stopper.afterReset (t : Stopper) (cause : Nat) : Stopper :=
  if cause = causeWarm then { t with raises := 0, merged := 0, links := [] }
  else if cause = causePower then Stopper.reset
  else { Stopper.reset with faultHold := t.faultHold, faultLow := t.faultHold }

/-- The Logline controller after a reset: records on their way reach the MRAM (R476), OPTIME runs on, the
nonce is lost (R480). -/
def Logline.afterReset (l : Logline) (cause : Nat) : Logline :=
  if cause = causePower then default
  else { (default : Logline) with staged := l.staged, optime := l.optime, pinRaised := l.pinRaised }

/-- The device part after a reset, with the setup registers that then hold. -/
def Dev.afterReset (d : Dev) (cause : Nat) (setup : Setup) : Dev :=
  { Dev.reset with
    use := setup
    prt := { (default : Protect) with muteNLow := d.prt.muteNLow }
    thm := if cause = causeWarm then d.thm else Thermal.reset
    mem := { Memory.reset with key := d.mem.key }
    stop := d.stop.afterReset cause
    log := d.log.afterReset cause
    host := d.host.afterReset cause
    boot := { Boot.reset with cause := cause }
    free := d.free }

/-- A reset of the whole module begins: mode RESET at once (R404, R411, R432). -/
def State.resetModule (s : State) (cause : Nat) : State :=
  let setup := if cause = causeWarm then s.setup else Setup.reset
  { s with
    setup := setup
    time := TimeSt.reset
    modes := { mode := .reset, ret := none, prior := none, waking := false }
    rings := List.replicate 6 Ring.reset
    dev := s.dev.afterReset cause setup }

/-! ## Power (R543 to R546, R550, R552) -/

/-- PG_OUT rises: the contacts are sampled, PCC counts the power cycle, and the power-on reset begins (R429,
R474, R543, R544, R546, R552). MUTE_N that is low holds the device mute from release (R550). -/
def execPowerGood (a : PowerGoodArgs) (s : State) : Host.Outcome State Fault Refusal :=
  let s := s.resetModule causePower
  let d := s.dev
  .next { s with
    ident := { s.ident with
      modId := bitNat a.modId0 + 2 * bitNat a.modId1
      testN := a.testN
      ilim := ilimOf a.rIlim }
    nv := { s.nv with pcc := succ32 s.nv.pcc }
    dev := { d with
      prt := { d.prt with muteNLow := !a.muteN }
      conv := { d.conv with refOk := a.refValid }
      host := { d.host with jtag := 1 }
      log := { d.log with optime := s.nv.optime } } }

/-- A brown-out: every DAC is quiet, PG_OUT is low and LYD_CLK stops; the MRAM record in progress is
completed (R543). -/
def State.powerDown (s : State) : State :=
  let log := s.dev.log
  let s := s.resetModule causePower
  let d := s.dev
  { s with dev :=
    { d with
      boot := { d.boot with powered := false }
      log := { d.log with staged := log.staged.take 1, optime := log.optime } } }

/-- VIN stays below 8.0 V for 20 us, or a rail leaves regulation (R543). -/
def execBrownOut (s : State) : Host.Outcome State Fault Refusal :=
  if !s.dev.boot.powered then .next s else .next s.powerDown

/-- The input current limit is held for 5 ms (R545). -/
def execIlimHold (s : State) : Host.Outcome State Fault Refusal :=
  if !s.dev.boot.powered then .next s else .next s.powerDown

/-! ## Requests and begins (R430, R435, R465, R488) -/

/-- Whether a write to BWL_RST_CTL asks for a reset: KEY is 0xA5 and exactly one of CHIP and WARM is 1. -/
def rstAsked (v : Word) : Bool := v.field 8 8 == 0xA5 && (v.bit 0 != v.bit 1)

/-- Whether a level 5 mute holds or LATCHED is the mode: nothing but a power cycle ends either (R396, R430). -/
def State.latches (s : State) : Bool := s.modes.mode == .latched || s.dev.level5

/-- A reset in LATCHED, or under a shutdown that came in RESET, is ignored (R396, R430). -/
def State.resetUnlessLatched (s : State) (cause : Nat) : State :=
  if s.latches then s else s.resetModule cause

/-- A write to BWL_RST_CTL that asks for a warm reset (R435). -/
def execWarmResetRequest (v : Word) (s : State) : Host.Outcome State Fault Refusal :=
  if rstAsked v ∧ v.bit 0 then .next (s.resetUnlessLatched causeWarm) else .next s

/-- A write to BWL_RST_CTL that asks for a chip reset (R435). -/
def execChipResetRequest (v : Word) (s : State) : Host.Outcome State Fault Refusal :=
  if rstAsked v ∧ v.bit 1 then .next (s.resetUnlessLatched causeCtl) else .next s

/-- The Logline records are in the MRAM, and the events are written or held back (R465). -/
def State.secured (s : State) : Bool :=
  (s.dev.log.staged.isEmpty || s.dev.log.clear.isSome) &&
    (!(s.dev.host.staged.any fun r => r.ring == 2) || !s.dev.host.mastering || !s.ringRoom 2)

/-- The chip reset that a Stopper reaction called for begins (R465). In LATCHED it is ignored. -/
def execChipResetBegin (s : State) : Host.Outcome State Fault Refusal :=
  match s.dev.boot.due with
  | none => .next s
  | some cause =>
    if s.latches then
      .next { s with dev := { s.dev with boot := { s.dev.boot with due := none } } }
    else if s.secured then .next (s.resetModule cause)
    else .next s

/-- The reset of a lifecycle change begins (R488). In LATCHED the change waits for the next power-on. -/
def execLifecycleReset (s : State) : Host.Outcome State Fault Refusal :=
  if !s.dev.boot.lifeDue then .next s else .next (s.resetUnlessLatched causeLife)

/-! ## Release and the firmware load (R411, R416, R487, R488) -/

/-- Reset is released: BOOT. A pending lifecycle change is completed, and MUTE_N or a shutdown that came in
RESET takes its effect. With TEST_N read as 0 the module stays in RESET (R552). -/
def execResetRelease (s : State) : Host.Outcome State Fault Refusal :=
  if s.modes.mode ≠ .reset ∨ !s.dev.boot.powered ∨ !s.ident.testN then .next s
  else
    let s : State := { s with
      modes := { mode := .boot, ret := none, prior := none, waking := false }
      nv := s.nv.finishLife }
    .next (s.onDev fun c d => if d.prt.muteNLow then d.muteN c 0 else d).settleMutes

/-- The Start record (Table STP-7, R478). -/
def startPayload (cause life compat fw : Nat) : Bytes :=
  leBytes 1 cause ++ leBytes 1 life ++ leBytes 1 compat ++ zeros 1 ++ leBytes 4 fw ++ zeros 8

/-- The firmware load ends: FW_OK with the Start record, or the failure of its check holds BOOT (R416). -/
def execFirmwareLoaded (ok : Bool) (version : Nat) (s : State) : Host.Outcome State Fault Refusal :=
  if s.modes.mode ≠ .boot ∨ s.dev.boot.stage ≠ 1 then .next s
  else .next (s.onDev fun c d =>
    if ok then
      let fw := version % 2 ^ 24
      let d : Dev := { d with boot := { d.boot with fwOk := true, fwVer := fw, stage := 2 } }
      d.logRec 0x0010 false (startPayload d.boot.cause (lifeId c.nv.life) (bitNat (c.setup.stopCfg.bit 0)) fw)
    else ({ d with boot := { d.boot with stage := 5 } }).raise c 1 5 0 c.time.sub)

end Sys2Proof.Machine
end

