-- ==== Sys2Proof/Machine/Regs.lean ====
section
/-! DEFINITION. The registers of BAR0 (spec/17_setup_registers.md): what each offset reads, what a write of
each access type does, the fields that a read clears, and the reads over I2C and the TAP (R46, R296, R520 to
R535, R557, R558). -/

namespace Sys2Proof.Machine

/-! ## The Bowline block (Table REG-3) -/

/-- The PORT_EN bits of ports with fitted tiles; the others read 0 and ignore writes (R116). -/
def portMask (m : Member) : Word := num (2 ^ Config.tiles m - 1)

/-- The Bowline block. -/
def State.bwlReg (s : State) (off : Nat) : Word :=
  let d := s.dev
  let u := s.setup
  if off = 0x00 then pack [(0, 16, Config.vendorId), (16, 16, Config.deviceId s.ident.member)]
  else if off = 0x04 then devWord s.ident
  else if off = 0x08 then num s.ident.serial
  else if off = 0x0C then num (s.ident.serial / two32)
  else if off = 0x10 then num (if d.boot.fwOk then d.boot.fwVer else 0)
  else if off = 0x14 then s.moduleWord
  else if off = 0x18 then u.lock
  else if off = 0x24 then d.boot.rstWord
  else if off = 0x28 then d.bootWord
  else if off = 0x2C then s.modeWord
  else if off = 0x30 then d.boot.stored s.nv.lifeWord
  else if off = 0x34 then d.boot.stored (num s.nv.group)
  else if off = 0x40 then num s.time.n
  else if off = 0x44 then pack [(0, 5, s.time.shTif), (5, 10, s.time.shSfn)]
  else if off = 0x48 then num s.time.shHfc
  else if off = 0x4C then u.ptrCfg
  else if off = 0x50 then d.ptrWord
  else if off = 0x54 then d.ptr.phaseWord
  else if off = 0x60 then d.conv.synWord
  else if off = 0x64 then u.lydCfg &&& portMask s.ident.member
  else if off = 0x68 then d.lyd.statWord
  else if 0x70 ≤ off ∧ off < 0x80 then d.presWord ((off - 0x70) / 4)
  else if off = 0x80 then u.canCfg
  else if off = 0x84 then u.belCfg
  else if off = 0x88 then u.belCfg2
  else if off = 0x90 then u.prtCfg
  else if off = 0x94 then d.prtWord
  else if off = 0x98 then d.prt.cntWord
  else if off = 0x9C then num (d.clk.utc.getD 0)
  else if off = 0xA0 then num s.time.shUtcHi
  else if off = 0xA4 then num ((d.plan.committed.map (·.id)).getD 0)
  else if off = 0xA8 then num ((d.plan.committed.map (·.seq)).getD 0)
  else if off = 0xB0 then u.epbCfg
  else if off = 0xB4 then u.epbCfg2
  else if off = 0xB8 then u.epbCfg3
  else if off = 0xBC then num d.book.bhf
  else if off = 0xC0 then pack [(0, 19, d.book.inState 2)]
  else if off = 0xC4 then pack [(0, 19, d.book.inState 1)]
  else if off = 0xC8 then d.book.nbrWord
  else if off = 0xD0 then d.mem.statWord
  else if off = 0xD4 then d.mem.eccWord
  else if off = 0xD8 then d.mem.cfgWord
  else if off = 0xDC then d.mem.dramWord
  else 0#32

/-! ## The other blocks (Tables REG-4 to REG-8) -/

/-- The host-interface block: ring k at 0x20 x k, then the index-block and interface registers. -/
def State.hstReg (s : State) (off : Nat) : Word :=
  let u := s.setup
  if off < 0xC0 then
    let k := off / 0x20
    let r := s.ring k
    let o := off % 0x20
    if o = 0x00 then u.ringLo.getD k 0#32
    else if o = 0x04 then u.ringHi.getD k 0#32
    else if o = 0x08 then u.ringCfg.getD k 0#32
    else if o = 0x0C then num r.p
    else if o = 0x10 then num r.c
    else if o = 0x14 then pack [(0, 16, r.drop)]
    else 0#32
  else if off = 0x100 then u.idxLo
  else if off = 0x104 then u.idxHi
  else if off = 0x108 then u.hstCfg
  else if off = 0x10C then s.dev.host.statWord s.stalls
  else 0#32

/-- The nibbles of STOP_REACT that belong to sources the member fits (R489). -/
def reactMask (m : Member) (k : Nat) : Word :=
  packWord (((List.range 8).filter fun j => sourceFits m (8 * k + j) 0).map fun j => (4 * j, 15))

/-- The Stopper block. -/
def State.stopReg (s : State) (off : Nat) : Word :=
  let t := s.dev.stop
  if off < 0x0C then t.statWord (off / 4)
  else if off = 0x10 then t.firstWord
  else if off = 0x14 then num t.firstTick
  else if off = 0x18 then s.setup.stopCfg
  else if off = 0x1C then pack [(0, 16, t.raises), (16, 16, t.merged)]
  else if 0x40 ≤ off ∧ off < 0x70 then t.rptWord ((off - 0x40) / 4)
  else if 0x80 ≤ off ∧ off < 0xB0 then
    s.setup.stopReact.getD ((off - 0x80) / 4) 0#32 &&& reactMask s.ident.member ((off - 0x80) / 4)
  else 0#32

/-- The Logline block (Table STP-15). Kilobytes and the like round down (assumption 32). -/
def State.logReg (s : State) (off : Nat) : Word :=
  let l := s.dev.log
  let v := s.nv
  s.dev.boot.stored
    (if off = 0x00 then
      pack [flag 0 l.pinFull, flag 1 l.nonce.isSome, flag 2 l.mirrorOk, (4, 11, logBytes v.pinned / 1024),
        (16, 13, logBytes v.ring / 1024)]
    else if off = 0x04 then num v.seq
    else if off = 0x08 then num ((v.ring.head?.map (·.seq)).getD 0)
    else if off = 0x0C then num v.pcc
    else if off = 0x10 then num l.optime
    else 0#32)

/-- THM_SNSi (Table THM-7). -/
def State.sensorWord (s : State) (i : Nat) : Word :=
  if !Config.sensorExists s.ident.member i then 0#32
  else
    let x := s.dev.thm.sensor i
    let g := s.setup.groupOf i
    let on := s.setup.sensorOn s.ident.member i
    pack [(0, 16, ofSigned 16 x.temp), flag 16 (on && x.valid && x.have_), (17, 2, if on then x.fault else 0),
      flag 19 (s.dev.thm.freezes.any fun f => f.group == g), (20, 6, g)]

/-- The thermal block. -/
def State.thmReg (s : State) (off : Nat) : Word :=
  if off = 0x00 then s.setup.thmCfg
  else if off = 0x04 then s.thmWord
  else if 0x100 ≤ off ∧ off < 0x358 then s.sensorWord ((off - 0x100) / 4)
  else if 0x400 ≤ off ∧ off < 0x480 ∧ Config.remoteThermal s.ident.member = true then
    let r := (off - 0x400) / 8
    if off % 8 = 0 then s.setup.remCfg.getD r 0#32 else s.setup.remPar.getD r 0#32
  else 0#32

/-- The Reef block (Table REF-7). -/
def State.reefReg (s : State) (off : Nat) : Word :=
  let g := s.dev.reef
  if off = 0x00 then s.setup.reefCfg
  else if off < 0x1C then s.setup.thmStep.getD (off / 4 - 1) 0#32
  else if off = 0x20 then pack [(0, 16, g.vinUse), (16, 5, if s.time.running then s.ident.ilim else 0)]
  else if off = 0x24 then
    pack [(0, 11, min 2047 (g.ceilUw / 1000000)), (11, 2, g.ceilSrc), (13, 10, wattsUp g.floorE),
      flag 23 g.plan.under]
  else if off = 0x28 then
    pack [(0, 10, wattsUp g.plan.energy), (10, 6, g.plan.shedMask), (16, 4, g.plan.tilesOff),
      (20, 7, g.plan.segsOff)]
  else if off = 0x2C then pack [(0, 8, g.commitCut), (8, 8, g.underCnt), (16, 8, g.capFit)]
  else 0#32

/-- The Leadline block (Table LDL-12). -/
def State.ldlReg (s : State) (off : Nat) : Word :=
  let l := s.dev.ldl
  if off = 0x00 then pack [(0, 10, l.subs.length), (16, 8, l.noval), (24, 8, l.snapShed)]
  else if off = 0x04 then pack ((List.range 16).map fun c => (2 * c, 2, (l.caps.getD c default).state))
  else if off = 0x08 then pack [(0, 8, l.gapCnt), (8, 8, l.trigCnt)]
  else if off = 0x0C then pack [(0, 12, s.dev.capRates / 1000000000)]
  else 0#32

/-- The counts of hawser h. -/
def Dev.hawA (d : Dev) (h : Nat) : HwsA := d.hwsA.getD h default
def Dev.hawB (d : Dev) (h : Nat) : HwsB := d.hwsB.getD h default

/-- The block of hawser h (Table REG-7). -/
def State.hwsReg (s : State) (h off : Nat) : Word :=
  let d := s.dev
  let a := d.hawA h
  let b := d.hawB h
  if s.ctx.hawsers ≤ h then 0#32
  else if off = 0x00 then pack [(0, 13, d.credUsed d.reef.plan h), (16, 13, d.credMeas h)]
  else if off = 0x04 then pack [(0, 8, a.steerSw), (8, 8, a.noSlot), (16, 8, a.steerDrop), (24, 8, a.wsat)]
  else if off = 0x08 then
    let active := d.can.insts.countP fun i => i.a.inst / 64 == h && d.subtracts s.ctx i
    pack [(0, 7, active), (8, 6, a.solveRej), (14, 6, a.tapsCut), (20, 6, a.coupChg), (26, 6, a.importLoss)]
  else if off = 0x0C then
    pack [(0, 8, a.tripA), (8, 8, a.tripB), (16, 3, a.lastBg), (19, 1, a.lastDir), (20, 4, a.lastPos)]
  else if off = 0x10 then
    pack [flag 0 b.satInt, flag 1 b.satOut, flag 2 b.satArith, (4, 8, b.freezeCnt), (12, 8, b.decayCnt),
      (20, 8, b.fadeCnt)]
  else if off = 0x14 then pack [(0, 8, b.umLoop), (8, 8, b.umNoise), (16, 8, b.umPower), (24, 8, b.umRange)]
  else if off = 0x18 then pack [(0, 16, b.matched), (16, 16, b.unmatch)]
  else if off = 0x1C then pack [(0, 8, b.collide), (8, 8, b.ambig), (16, 8, b.late), (24, 8, b.short)]
  else if off = 0x20 then pack [(0, 8, b.noRoom), (8, 16, b.miss)]
  else if off = 0x24 then d.reef.plan.clkWord h
  else if off = 0x28 then
    pack [(0, 8, a.coll0), (8, 8, a.coll1), (16, 8, a.coll2), (24, 4, a.eccCor), (28, 4, a.busErr)]
  else 0#32

/-- The block of strand g (Table REG-8). -/
def State.strReg (s : State) (g off : Nat) : Word :=
  let d := s.dev
  let x := d.strand g
  if s.ctx.strands ≤ g then 0#32
  else if off = 0x00 then pack [(0, 15, x.rxAlign), (16, 15, x.txAlign)]
  else if off = 0x04 then s.setup.dlyArray.getD g 0#32
  else if off = 0x08 then
    pack [flag 0 x.rxOk, flag 1 x.txOk, flag 2 x.seeded, flag 3 x.failed, flag 4 x.dlySat, flag 5 x.txMix,
      (16, 8, x.ovr)]
  else if off = 0x0C then pack [(0, 16, d.yarnMask d.reef.plan g), (16, 8, x.txClip)]
  else 0#32

/-- What a read of a BAR0 offset returns (R492, R520, R521). A reserved offset, an offset that is not a multiple
of 4 and a register that the member does not have read 0. -/
def State.reg (s : State) (off : Nat) : Word :=
  if off % 4 ≠ 0 ∨ 0x100000 ≤ off then 0#32
  else if off < 0x1000 then s.bwlReg off
  else if off < 0x2000 then s.hstReg (off - 0x1000)
  else if off < 0x3000 then s.stopReg (off - 0x2000)
  else if off < 0x4000 then s.logReg (off - 0x3000)
  else if off < 0x5000 then s.thmReg (off - 0x4000)
  else if off < 0x6000 then s.reefReg (off - 0x5000)
  else if off < 0x7000 then s.ldlReg (off - 0x6000)
  else if 0x10000 ≤ off ∧ off < 0x18000 then s.hwsReg ((off - 0x10000) / 0x1000) (off % 0x1000)
  else if 0x20000 ≤ off ∧ off < 0x28000 then s.strReg ((off - 0x20000) / 0x100) (off % 0x100)
  else 0#32

/-! ## Fields that a read clears (R524) -/

/-- The device part after a read of an offset below 0x7000. -/
def Dev.readClears (d : Dev) (off : Nat) : Dev :=
  if off = 0x24 then { d with boot := { d.boot with blkCnt := 0 } }
  else if off = 0x60 then { d with conv := { d.conv with syncIgn := 0 } }
  else if off = 0x68 then { d with lyd := { d.lyd with lateSw := 0, crcErr := 0 } }
  else if off = 0x98 then { d with prt := { d.prt with niLate := 0, niBad := 0, devMute := 0 } }
  else if off = 0xC8 then { d with book := { d.book with nbrDrop := 0 } }
  else if off = 0xD0 then { d with mem := { d.mem with bbColl := List.replicate 4 0 } }
  else if off = 0xD4 then
    { d with mem := { d.mem with sramCor := 0, sramUnc := 0, busErr := 0, dramCor := 0, dramUnc := 0 } }
  else if off = 0x110C then { d with host := { d.host with dbErrCnt := 0 } }
  else if off = 0x201C then { d with stop := { d.stop with raises := 0, merged := 0 } }
  else if off = 0x502C then { d with reef := { d.reef with commitCut := 0, underCnt := 0, capFit := 0 } }
  else if off = 0x6000 then { d with ldl := { d.ldl with noval := 0, snapShed := 0 } }
  else if off = 0x6008 then { d with ldl := { d.ldl with gapCnt := 0, trigCnt := 0 } }
  else d

/-- The counts of a hawser after a read of an offset in its block. -/
def HwsA.readClears (a : HwsA) (off : Nat) : HwsA :=
  if off = 0x04 then { a with steerSw := 0, noSlot := 0, steerDrop := 0, wsat := 0 }
  else if off = 0x08 then { a with solveRej := 0, tapsCut := 0, coupChg := 0, importLoss := 0 }
  else if off = 0x0C then { a with tripA := 0, tripB := 0 }
  else if off = 0x28 then { a with coll0 := 0, coll1 := 0, coll2 := 0, eccCor := 0, busErr := 0 }
  else a
def HwsB.readClears (b : HwsB) (off : Nat) : HwsB :=
  if off = 0x10 then { b with freezeCnt := 0, decayCnt := 0, fadeCnt := 0 }
  else if off = 0x14 then { b with umLoop := 0, umNoise := 0, umPower := 0, umRange := 0 }
  else if off = 0x18 then { b with matched := 0, unmatch := 0 }
  else if off = 0x1C then { b with collide := 0, ambig := 0, late := 0, short := 0 }
  else if off = 0x20 then { b with noRoom := 0, miss := 0 }
  else b

/-- The counts of a strand after a read of an offset in its block. -/
def Strand.readClears (x : Strand) (off : Nat) : Strand :=
  if off = 0x08 then { x with ovr := 0 } else if off = 0x0C then { x with txClip := 0 } else x

/-- The state after a read of an offset: cleared-by-read fields of that register are 0 (R524). -/
def State.readClears (s : State) (off : Nat) : State :=
  if 0x1000 ≤ off ∧ off < 0x10C0 ∧ off % 0x20 = 0x14 then
    let k := (off - 0x1000) / 0x20
    let r := s.ring k
    s.setRing k { r with drop := 0 }
  else if off < 0x7000 then { s with dev := s.dev.readClears off }
  else if 0x10000 ≤ off ∧ off < 0x18000 then
    let h := (off - 0x10000) / 0x1000
    let o := off % 0x1000
    if s.ctx.hawsers ≤ h then s
    else { s with dev := (s.dev.onHwsA h fun a => a.readClears o).onHwsB h fun b => b.readClears o }
  else if 0x20000 ≤ off ∧ off < 0x28000 then
    let g := (off - 0x20000) / 0x100
    let o := off % 0x100
    if s.ctx.strands ≤ g then s
    else
      let strands := s.dev.conv.strands.modify g fun x => x.readClears o
      { s with dev := { s.dev with conv := { s.dev.conv with strands := strands } } }
  else s

/-- What the host's read returned. -/
def State.returns (s : State) (w : Word) : State := { s with dev := { s.dev with host := { s.dev.host with read := w } } }

/-- A read of BWL_TICK_CNT latches TIF, SFN and HFC of the same tick (R46). -/
def State.latchTick (s : State) : State :=
  { s with time := { s.time with shTif := s.time.tif, shSfn := s.time.sfn, shHfc := s.time.hfc } }

/-- A read of BWL_UTC_LO latches the upper clock half (R296). -/
def State.latchUtc (s : State) : State :=
  { s with time := { s.time with shUtcHi := s.dev.clk.utc.getD 0 / two32 } }

/-- What a doorbell page of BAR2 reads: the producer index behind doorbell 0, the consumer indices behind 1 to 5,
0 behind the reserved ones (R497). -/
def State.doorbell (s : State) (d : Nat) : Word :=
  if d = 0 then BitVec.ofNat 32 (s.ring 0).p else if d ≤ 5 then BitVec.ofNat 32 (s.ring d).c else 0#32

/-- What a host read returns: BAR0 at its own offsets, BAR2 behind it (R492). DESIGN CHOICE (log entry 97): the
row carries one offset, and BAR2 stands at 1 MB and up in it. -/
def State.hostReg (s : State) (off : Nat) : Word :=
  let b := off - 0x100000
  if 0x100000 ≤ off ∧ b % 4096 = 0 ∧ b / 4096 < 64 then s.doorbell (b / 4096) else s.reg off

/-- A host read of a register with cleared-by-read fields returns the value before it clears them (R524); an
access that R492 turns into a read of 0 clears nothing. A read of any other register only returns. -/
def execReadClear (offset : Nat) (s : State) : Host.Outcome State Fault Refusal :=
  let t := s.returns (s.hostReg offset)
  if offset % 4 ≠ 0 then .next t
  else if offset = 0x40 then .next t.latchTick
  else if offset = 0x9C then .next t.latchUtc
  else .next (t.readClears offset)

/-- A host read of BWL_TICK_CNT (R46). -/
def execTickCntRead (s : State) : Host.Outcome State Fault Refusal := .next (s.returns (s.reg 0x40)).latchTick

/-- A host read of BWL_UTC_LO (R296). -/
def execUtcLoRead (s : State) : Host.Outcome State Fault Refusal := .next (s.returns (s.reg 0x9C)).latchUtc

/-! ## Writes (R13, R14, R15, R523, R527) -/

/-- A write that sets SETUP_LOCK (R527). -/
def execSetupLock (v : Word) (s : State) : Host.Outcome State Fault Refusal :=
  if s.setup.locked then .next s else .next { s with setup := { s.setup with lock := v &&& 1#32 } }

/-- The bits of THM_REMPr that hold fields (Table THM-8). -/
def remParMask (r : Nat) : Word := if r < 8 then 0x000000FF#32 else 0x0FFFFFFF#32

/-- The setup registers after a write to an offset of an RWL register that has no row of its own. Reserved bits
are not stored (R11, R14); every other offset is unchanged. -/
def Setup.write (u : Setup) (m : Member) (off : Nat) (v : Word) : Setup :=
  if off = 0x4C then { u with ptrCfg := v &&& 0x001FFF1F#32 }
  else if off = 0x64 then { u with lydCfg := v &&& portMask m }
  else if off = 0x80 then { u with canCfg := v &&& 0x07FFFFFF#32 }
  else if off = 0x84 then { u with belCfg := v &&& 0x03FFFDFF#32 }
  else if off = 0x88 then { u with belCfg2 := v &&& 0x0000FFFF#32 }
  else if off = 0x90 then { u with prtCfg := v &&& 0x000001FF#32 }
  else if off = 0xB0 then { u with epbCfg := v &&& 0x0FFFFFFF#32 }
  else if off = 0xB4 then { u with epbCfg2 := v }
  else if off = 0xB8 then { u with epbCfg3 := v &&& 0xFFFF07FF#32 }
  else if off = 0x1100 then { u with idxLo := v &&& 0xFFFFFFC0#32 }
  else if off = 0x1108 then { u with hstCfg := v &&& 0x0000003F#32 }
  else if off = 0x2018 then { u with stopCfg := v &&& 1#32 }
  else if 0x2080 ≤ off ∧ off < 0x20B0 ∧ off % 4 = 0 then
    let k := (off - 0x2080) / 4
    let keep := u.stopReact.getD k 0#32 &&& ~~~(reactMask m k)
    { u with stopReact := u.stopReact.set k ((v &&& reactMask m k) ||| keep) }
  else if off = 0x4000 then { u with thmCfg := v &&& 0x00077F7F#32 }
  else if 0x4400 ≤ off ∧ off < 0x4480 ∧ Config.remoteThermal m = true then
    let r := (off - 0x4400) / 8
    if off % 8 = 0 then { u with remCfg := u.remCfg.set r (v &&& 0x03FF001F#32) }
    else if off % 8 = 4 then { u with remPar := u.remPar.set r (v &&& remParMask r) }
    else u
  else if off = 0x5000 then { u with reefCfg := v &&& 0x00003FFF#32 }
  else if 0x5004 ≤ off ∧ off < 0x501C ∧ off % 4 = 0 then
    { u with thmStep := u.thmStep.set ((off - 0x5004) / 4) (v &&& 0x0000FFFF#32) }
  else if 0x20000 ≤ off ∧ off < 0x28000 ∧ off % 0x100 = 0x04 ∧ (off - 0x20000) / 0x100 < Config.strands m then
    { u with dlyArray := u.dlyArray.set ((off - 0x20000) / 0x100) (v &&& 0x00007FFF#32) }
  else u

/-- A write to a register without a row of its own (R523). While SETUP_LOCK is 1 it is ignored (R13, R527). -/
def execRegisterWrite (offset : Nat) (v : Word) (s : State) : Host.Outcome State Fault Refusal :=
  if s.setup.locked then .next s
  else .next { s with setup := s.setup.write s.ident.member offset v }

/-- The saturation flags of HWS_BEL_STAT after a W1C write. -/
def HwsB.w1c (b : HwsB) (v : Word) : HwsB :=
  { b with
    satInt := b.satInt && !v.bit 0
    satOut := b.satOut && !v.bit 1
    satArith := b.satArith && !v.bit 2 }

/-- A W1C write to a status flag without behaviour of its own: DB_ERR, the saturation flags of a hawser and
DLY_SAT of a strand (R15). -/
def execW1cClear (offset : Nat) (v : Word) (s : State) : Host.Outcome State Fault Refusal :=
  let h := (offset - 0x10000) / 0x1000
  let g := (offset - 0x20000) / 0x100
  if offset = 0x110C then
    .next { s with dev := { s.dev with host := { s.dev.host with dbErr := s.dev.host.dbErr && !v.bit 0 } } }
  else if 0x10000 ≤ offset ∧ offset % 0x1000 = 0x10 ∧ h < s.ctx.hawsers then
    .next { s with dev := s.dev.onHwsB h fun b => b.w1c v }
  else if 0x20000 ≤ offset ∧ offset % 0x100 = 0x08 ∧ g < s.ctx.strands then
    let strands := s.dev.conv.strands.modify g fun x => { x with dlySat := x.dlySat && !v.bit 4 }
    .next { s with dev := { s.dev with conv := { s.dev.conv with strands := strands } } }
  else .next s

/-! ## I2C and JTAG (R557, R558) -/

/-- An SMBus read of a BAR0 offset: 3 bytes of offset, no field cleared and no shadow latched. -/
def execI2cRead (offset : Nat) (s : State) : Host.Outcome State Fault Refusal :=
  if !s.dev.boot.powered then .next s
  else .next { s with dev := { s.dev with host := { s.dev.host with i2c := s.reg (offset % 2 ^ 24) } } }

/-- The instruction as which an 8-bit code acts: EXTEST, CLAMP and HIGHZ only where TEST_N read 0. -/
def jtagEffect (testN : Bool) (code : Nat) : Nat :=
  if code = 0x01 ∨ code = 0x02 then code
  else if (code = 0x00 ∨ code = 0x04 ∨ code = 0x05) ∧ testN = false then code
  else 0xFF

/-- An instruction shifted into the TAP (R558). -/
def execJtagInstruction (code : Nat) (s : State) : Host.Outcome State Fault Refusal :=
  .next { s with dev := { s.dev with host :=
    { s.dev.host with jtag := jtagEffect s.ident.testN (code % 256) } } }

end Sys2Proof.Machine
end

