-- ==== Sys2Proof/Machine/Tick.lean ====
section
/-! DEFINITION. The tick (R16, R36 to R44): what a tick edge counts and commits at its Plan window, the start
of the Run window, the Close, and a work item that misses its deadline. -/

namespace Sys2Proof.Machine

/-! ## T0: the counters (R36, R44, R53) -/

/-- The counters of Table TCK-3 at T0; the tick that begins is `extra` converter periods longer. -/
def TimeSt.tick (t : TimeSt) (extra : Int) : TimeSt :=
  let tif := (t.tif + 1) % 20
  let sfn := if tif = 0 then (t.sfn + 1) % 1024 else t.sfn
  let hfc := if tif = 0 ∧ sfn = 0 then succ32 t.hfc else t.hfc
  { t with
    n := succ32 t.n
    tif := tif
    sfn := sfn
    hfc := hfc
    window := .plan
    sub := 0
    periods := (tickPeriods + extra).toNat
    conv := t.conv + t.periods }

/-- T0: Painter's corrections go into the tick that begins, and BHF counts with HFC (R299). -/
def State.openTick (s : State) : State :=
  let (p, extra) := s.dev.ptr.correct
  let t := s.time.tick (extra + p.step)
  let bhf := if t.hfc = s.time.hfc then s.dev.book.bhf else succ32 s.dev.book.bhf
  { s with
    time := t
    dev := { s.dev with ptr := { p with step := 0 }, book := { s.dev.book with bhf := bhf } } }

/-! ## T0: what the tick that ended adds to the counts -/

/-- A mute has held one tick more, and the run of the release rules of triggers 9 and 10 goes on or starts
again (Table PRT-5). DESIGN CHOICE (assumption 77): R80 does not say whether the tick in which lock returns is the first
of its 20; here the count begins at the next T0. -/
def Dev.countMute (d : Dev) (m : Mute) : Mute :=
  let run (ok : Bool) : Nat := if ok then m.good + 1 else 0
  { m with
    held := m.held + 1
    good := if m.trig = 9 then run d.ptr.sync
      else if m.trig = 10 then run (d.conv.refOk && d.conv.locked)
      else m.good }

/-- Whole ticks with MUTE_N high, ticks without Painter sync (R277, R280), and the mutes' own counts. -/
def Dev.countProtect (d : Dev) (m : Mode) : Dev :=
  let x := d.prt
  let off := donorLossMode m && d.use.ptrCfg.field 0 2 != 2 && !d.ptr.sync
  { d with prt := { x with
      mutes := x.mutes.map d.countMute
      muteNHigh := if x.muteNLow then 0 else if x.muteNClean then x.muteNHigh + 1 else x.muteNHigh
      muteNClean := !x.muteNLow
      noSync := if off then x.noSync + 1 else 0 } }

/-- The device clock's ticks and OPTIME (R265, R475). -/
def Dev.countClocks (d : Dev) : Dev :=
  let up := decide (1999 ≤ d.log.optTicks)
  { d with
    clk := if d.clk.utc.isSome then { d.clk with ticks := d.clk.ticks + 1 } else d.clk
    log := { d.log with
      optTicks := if up then 0 else d.log.optTicks + 1
      optime := if up then d.log.optime + 1 else d.log.optime } }

/-- One more tick at its end: it counts if every frame of it was good (R221). -/
def Import.count (x : Import) : Import := { x with good := if x.bad then 0 else x.good + 1, bad := false }

/-- The counts of the device at T0: presence after rediscovery (R109), Painter, the lock, a slave's missing
timing messages (R65), good imports (R219), clocks, mutes, an ARRAY.CAL's ticks (R162), and march tests that start. -/
def Dev.countTick (d : Dev) (m : Mode) (n : Nat) : Dev :=
  let d := (((d.countProtect m).countClocks).countLock).arrayTick n
  let lost := if d.ptr.st = .slave then d.splice.lost + 1 else d.splice.lost
  { d with
    lyd := { d.lyd with nodes := d.lyd.nodes.map Node.join }
    ptr := d.ptr.count d.srcPrio
    splice := { d.splice with lost := lost }
    can := { d.can with imports := d.can.imports.map Import.count }
    mem := { d.mem with march := d.mem.march.map March.begin } }

/-- The committed plan's run count advances by one tick (R274). -/
def State.countPlan (s : State) : State :=
  match s.dev.plan.committed with
  | some p => { s with nv := s.nv.countRun p }
  | none => s

/-! ## T0: TDD pattern mismatch (R60, trigger 6) -/

/-- One frame's comparison for a band group: the run of mismatches, or one more good frame for its mutes. -/
def Dev.tddFrame (d : Dev) (bg : Nat) (mismatch : Bool) : Dev :=
  let run := ((d.ptr.tdd.find? fun e => e.1 == bg).map (·.2)).getD 0
  let rest := d.ptr.tdd.filter fun e => e.1 != bg
  let tdd := if mismatch then rest ++ [(bg, run + 1)] else rest
  let mutes := d.prt.mutes.map fun m =>
    if m.trig = 6 ∧ byidBg m.scope = bg then { m with good := if mismatch then 0 else m.good + 1 } else m
  { d with ptr := { d.ptr with tdd := tdd }, prt := { d.prt with mutes := mutes } }

/-- Whether the power in a frame's uplink symbols is within 10 dB of that in its downlink symbols (R60), in 1/16 dB. -/
def tddMismatch (f : TddPowers) : Bool := decide (f.down - f.up ≤ 160) && decide (f.up - f.down ≤ 160)

/-- The comparisons of the frame that ended with this T0, while Painter sync is true. -/
def Dev.tddFrames (d : Dev) (tif : Nat) (fs : List TddPowers) : Dev :=
  if !d.ptr.sync then { d with ptr := { d.ptr with tdd := [] } }
  else if tif ≠ 0 then d
  else fs.foldl (fun d f =>
    match d.plan.committed.bind fun p => p.segs[f.seg]? with
    | some s => if s.duplex = 1 then d.tddFrame s.bg (tddMismatch f) else d
    | none => d) d

/-- Every beam yarn of a band group, in both directions. -/
def Dev.groupByids (d : Dev) (bg : Nat) : List Nat :=
  let down : List Nat := match d.seg bg 0 with
    | some s => (List.range s.ycount).map fun pos => mkByid 0 bg 0 pos
    | none => []
  let up : List Nat := match d.seg bg 1 with
    | some s => (List.range (d.beams.group bg).sbeams).flatMap fun b =>
        (List.range s.ycount).map fun pos => mkByid 1 bg b pos
    | none => []
  down ++ up

/-- The beam yarns that four mismatching frames in a row mute at this Plan window. -/
def Dev.tddMismatches (d : Dev) : List Nat :=
  (d.ptr.tdd.filter fun e => decide (4 ≤ e.2)).flatMap fun e => d.groupByids e.1

/-! ## The Plan window: what was accepted (R38, R39, R40, R272, R503) -/

/-- The tick-bound blocks take up the written setup registers; the thermal manager and the governor have
instants of their own (R523). -/
def Dev.takeSetup (d : Dev) (u : Setup) : Dev :=
  { d with use := { u with
      thmCfg := d.use.thmCfg
      remCfg := d.use.remCfg
      remPar := d.use.remPar
      reefCfg := d.use.reefCfg
      thmStep := d.use.thmStep } }

/-- The band groups whose segments or arrangements a commit changes; every group where a side changes
(R205). -/
def changedGroups (old : Option Plan) (new : Plan) : List Nat :=
  match old with
  | none => List.range 8
  | some o =>
    if o.sides ≠ new.sides then List.range 8
    else (List.range 8).filter fun bg =>
      decide ((o.segs.filter fun s => s.bg == bg) ≠ new.segs.filter fun s => s.bg == bg)

/-- The mute of PLAN_EXPIRY releases at the commit of a valid plan (Table PRT-5). -/
def Dev.releaseExpiry (d : Dev) (n : Nat) : Dev :=
  if !d.plan.valid then d
  else
    let mutes := d.prt.mutes.map fun m => if m.trig = 11 then { m with release := some n } else m
    { d with prt := { d.prt with mutes := mutes } }

/-- An accepted plan that commits in this tick. -/
def State.planDue (s : State) : Option Plan :=
  s.dev.plan.pending.bind fun q => if tickDue s.time.n q.tick then some q.plan else none

/-- The plan's part of a Plan window: held-back patterns, the commit, and what it brings (R40, R77, R205,
R272, R274). -/
def State.planWindow (s : State) : State :=
  let s : State := { s with dev := { s.dev with plan := s.dev.plan.frame s.time.tif } }
  match s.planDue with
  | none => s.onDev fun c d => d.judgePlan c
  | some p =>
    let old := s.dev.plan.settled
    s.commitPlan.onDev fun c d =>
      ((((d.settleMix p).clearEntries (changedGroups old p)).judgePlan c).planEvent c p 0
        (planSecondsLeft c.nv (d.clk.utc.getD 0) p)).releaseExpiry c.n

/-- A new basis of a band group (R298). -/
def Book.applyBasis (b : Book) (bg id : Nat) (vecs : List Vec) : Book :=
  { b with bases := (b.bases.filter fun e => e.1 != bg) ++ [(bg, id, vecs)] }

/-- A BEAM.SET at its Plan window: a rewritten codebook entry is learned again (R206). -/
def Dev.beamWindow (d : Dev) (a : BeamSetArgs) (vecs : List Vec) : Dev :=
  let d := d.applyBeam a vecs
  if a.target = 3 then
    d.abandonLearn fun bg e => bg == a.bg && decide (a.e ≤ e) && decide (e < a.e + vecs.length)
  else d

/-- One change at its Plan window, with the accepted changes that follow it. Host mutes follow with the triggers. -/
def Dev.applyPend (d : Dev) (c : Ctx) (later : List PendWhat) (p : PendWhat) : Dev :=
  match p with
  | .beam a vecs => d.beamWindow a vecs
  | .canc a rho => d.applyCanc a rho
  | .gain a => d.applyGain a
  | .bank xfade kp ki => d.applyBank xfade kp ki
  | .basis bg id vecs => { d with book := d.book.applyBasis bg id vecs }
  | .bookSet a => d.applyBookSet a
  | .bookDel first count mask => d.applyBookDel c first count mask
  | .sub a => d.applySub c later a
  | .arm a srcs rate ring => d.applyArm c.n later a srcs rate ring
  | .cap w => { d with reef := { d.reef with capW := w } }
  | .sched on u _ => d.applySched on u
  | .hostMute _ _ _ => d

/-- The changes of a list that a condition selects, in their order. -/
def Dev.applyPends (c : Ctx) (hit : Pend → Bool) : List Pend → Dev → Dev
  | [], d => d
  | p :: ps, d => Dev.applyPends c hit ps (if hit p then d.applyPend c (ps.map (·.what)) p.what else d)

/-- The changes due in this tick, in ring order; a BEAM.SET that R171 stores in the mode `m` of this Plan window waits on. -/
def State.applyPending (s : State) (m : ModeSt) : State :=
  let hit (p : Pend) : Bool := p.due s.time && !s.dev.pendHeld { s.ctx with modes := m } s.time.n p
  let later := s.dev.pend.filter fun p => !hit p
  (s.onDev fun c d => Dev.applyPends c hit d.pend d).onDev fun _ d => { d with pend := later }

/-! ## The Plan window: triggers and modes (R277, R282, R289, R412) -/

/-- The host mutes due in a tick: for each level and scope the last command decides. -/
def hostMutesDue (n : Nat) (ps : List Pend) : List (Nat × Nat × Bool) :=
  ps.foldl (fun l p =>
    match p.what with
    | .hostMute level scope on =>
      if tickDue n p.tick then (l.filter fun e => !(e.1 == level && e.2.1 == scope)) ++ [(level, scope, on)] else l
    | _ => l) []

/-- One host mute, or its release at this Plan window. -/
def Dev.hostMute (d : Dev) (c : Ctx) (e : Nat × Nat × Bool) : Dev :=
  if e.2.2 then
    let t : Trigger := { trig := if e.1 = 5 then 17 else 13, level := e.1, scope := e.2.1, unit := 0, loopg := 0, sub := 0 }
    d.impose c t
  else
    let mutes := d.prt.mutes.map fun m =>
      if m.trig = 13 ∧ m.level = e.1 ∧ m.scope = e.2.1 then { m with release := some c.n } else m
    { d with prt := { d.prt with mutes := mutes } }

/-- The triggers that wait for this Plan window (Table PRT-5). -/
def Dev.imposeDue (d : Dev) (c : Ctx) : Dev :=
  let due := d.prt.due
  let d : Dev := { d with prt := { d.prt with due := [] } }
  due.foldl (fun d t =>
    d.impose c
      { trig := t.trig, level := t.level, scope := t.scope,
        unit := if t.trig = 7 ∨ t.trig = 8 then t.scope else t.trig, loopg := 0, sub := 0 }) d

/-- The TDD mismatches reported for this Plan window; the count of frames starts again. -/
def Dev.imposeTdd (d : Dev) (c : Ctx) : Dev :=
  let hit := d.tddMismatches
  let tdd := d.ptr.tdd.filter fun e => !decide (4 ≤ e.2)
  let d : Dev := { d with ptr := { d.ptr with tdd := tdd } }
  hit.foldl (fun d b =>
    d.impose c { trig := 6, level := 1, scope := b, unit := 6, loopg := 0, sub := 0 }) d

/-- An off tick holds NET_OFF (R289). -/
def Dev.imposeNetOff (d : Dev) (c : Ctx) : Dev :=
  if networkRules c.modes && d.netOff c.n && !d.holds 12 4 0 then
    d.impose c { trig := 12, level := 4, scope := 0, unit := 12, loopg := 0, sub := 0 }
  else d

/-- Donor loss ends without a mute outside its modes and with SRC_PRIO 2 (R280). -/
def Dev.resetDonorLoss (d : Dev) (m : Mode) : Dev :=
  if donorLossMode m ∧ d.use.ptrCfg.field 0 2 ≠ 2 then d else { d with prt := { d.prt with noSync := 0, declared := none } }

/-- LYD_CLK starts in BOOT with converter calibration, at the first tick after lock (R81, R102). -/
def Dev.bootClock (d : Dev) (c : Ctx) : Dev :=
  if c.mode = .boot ∧ d.lyd.clk = false ∧ d.boot.calDone = false then d.lydClk c.time.conv true else d

/-- Host mutes of a list, in its order. -/
def State.hostMutes (s : State) (l : List (Nat × Nat × Bool)) : State :=
  s.onDev fun c d => l.foldl (fun d e => d.hostMute c e) d

/-- With a level 5 mute the module is LATCHED, which no mode change leaves (R411); else an ended wake, the device's
own changes and the accepted mode command follow. -/
def State.changeMode (s : State) : State :=
  if s.dev.level5 || s.modes.mode == .latched then s.settleMutes else s.endWake.autoMode.applyMode

/-- The triggers of a Plan window, and the modes that result. -/
def State.triggerWindow (s : State) : State :=
  (s.onDev fun c d => ((d.imposeDue c).imposeTdd c).imposeNetOff c).settleMutes

/-- What the mode in force ends or counts. -/
def Dev.inMode (d : Dev) (c : Ctx) (old : Mode) : Dev :=
  ((((((d.noteMode old c.mode).endLearn c.modes).endArrayCal c.modes).resetDonorLoss c.mode).coilTick c).bootClock
    c)

/-- The events of a Plan window in the order of R412: level 5 triggers, mode changes, the other triggers in the
mode that results. -/
def State.modeWindow (s : State) (host : List (Nat × Nat × Bool)) : State :=
  ((((s.hostMutes (host.filter fun e => e.1 == 5)).changeMode).hostMutes
    (host.filter fun e => e.1 != 5)).triggerWindow).onDev fun c d => d.inMode c s.modes.mode

/-! ## The Plan window: indications, plans, beams and gains -/

/-- The band groups whose beam indication for a tick names an entry that is not VALID: each counts in NI_BAD
(R288). -/
def Dev.niInvalid (d : Dev) (c : Ctx) : Nat :=
  if !networkRules c.modes then 0
  else (List.range 8).countP fun bg =>
    ((d.niCovering 1 bg c.n).bind fun i => d.beams.mapped bg i.k).any fun e => (d.beams.entryIso bg e).isNone

/-- Network indications at a Plan window: the beams in force, NI_BAD, the slots that they release, and the
indications whose last tick has passed (R171, R288, R319). -/
def Dev.settleNetwork (d : Dev) (c : Ctx) : Dev :=
  let bad := d.niInvalid c
  let d : Dev := { d with
    beams := { d.beams with netBeam := d.netBeamsAt c c.n }
    prt := { d.prt with
      niBad := satAdd 8 d.prt.niBad bad
      ni := d.prt.ni.filter fun i => decide (dist32 c.n i.first < i.len) } }
  (d.beams.slots.filter fun w => (d.beams.network w.bg).isSome).foldl (fun d w => d.releaseSlot c w) d

/-- The book's part of a Plan window (R311 to R317). -/
def Dev.bookWindow (d : Dev) (c : Ctx) : Dev :=
  ((((d.freeAged c).settleBook c).reportFull c).settleBursts c.n c.mode).commitLate c

/-- Whether segment i of the plan before a Plan window keeps running in the plan that commits there (R273). -/
def keepsSegment (old new : Option Plan) (i : Nat) : Bool :=
  match new with
  | none => true
  | some p => match old with
    | none => false
    | some o => (o.segs[i]?).any fun t => decide (o.sides = p.sides) && p.segs.any fun s => t.sameRun s

/-- The commit of the governor's plan and what follows from the new strand, yarn and beam sets. -/
def Dev.commitWindow (d : Dev) (c : Ctx) (old : Dev) (oldC : Ctx) (due : Option Plan) : Dev :=
  let d := ((d.commitReef c).chooseDefaults c.mode).settleSlots c oldC.mode c.mode
  let d := ((Dev.restartLoops old d c).applySolutions)
  let d := Dev.restartTapes old (((((Dev.fitInsts old d c).freeSnaps).settleTests c).commitYarns c.n).fitYarns c)
  let d := Dev.capGaps old d oldC c
  (d.markStarted (old.runningYarns old.reef.plan (keepsSegment old.plan.settled due)) c.time.t0).countWsat c c.mode

/-- The PAs follow the committed plan, the mode and the mutes, on every node that listens (R105, R111). -/
def Dev.paWindow (d : Dev) (c : Ctx) : Dev :=
  ((List.range 128).filter fun g => d.lyd.clk && d.portOn c (portOf g) && (d.node g).present).foldl
    (fun d g => d.settlePa c c.mode g) d

/-- Whether every beam yarn starts anew: HANK or a relay mode is entered from any other mode, or HANK and a
relay mode change places (R410). -/
def startsAnew (old new : ModeSt) : Bool :=
  relays new.belayMode && (!relays old.belayMode || ((old.belayMode == .hank) != (new.belayMode == .hank)))

/-- Which beam yarns a commit keeps running: those of the segments that R273 keeps. -/
def keepsYarn (old : Option Plan) (new : Option Plan) (byid : Nat) : Bool :=
  match new with
  | none => true
  | some p => match old, p.seg (byidBg byid) (byidDir byid) with
    | some o, some s => o.keeps p s
    | _, _ => false

/-- Belay's part of a Plan window: the beam yarns that run, and the gains of the Close (R29, R226, R410). In
COIL Belay's state is kept. -/
def Dev.belayWindow (d : Dev) (c : Ctx) (old : ModeSt) (oldPlan new : Option Plan) : Dev :=
  if c.mode = .coil then d
  else
    let m := c.modes.belayMode
    (((d.startYarns c m (startsAnew old c.modes) (keepsYarn oldPlan new)).applyBelay).initFlagged m).noteOthers c

/-- TICK_OUT and PPS_OUT at T0 (R61, R62). -/
def Dev.timingOutputs (d : Dev) (t : TimeSt) : Dev :=
  { d with ptr := { d.ptr with
      tickOut := tickOutWidth d t
      ppsOut := ppsOutRises d t d.ptr.ppsNext
      ppsNext := false } }

/-- The converters' and Painter's part of a Plan window. -/
def Dev.timingWindow (d : Dev) (c : Ctx) : Dev :=
  (((((d.rebuildBanks c).settleArray c).settleTrims c).settleVco).settleSearch c).timingOutputs c.time

/-! ## TICK_EDGE -/

/-- What follows the modes of a Plan window: the book, indications, the governor's commit, Belay, PAs and timing. -/
def Dev.settleWindow (d : Dev) (c : Ctx) (s0 : State) (due : Option Plan) : Dev :=
  let d := (((d.bookWindow c).settleNetwork c).commitWindow c s0.dev s0.ctx due).belayWindow c s0.modes
    s0.dev.plan.settled due
  ((((d.setTracers c).setOscLags).paWindow c).timingWindow c)

/-- The changes of a Plan window: the plan, the accepted changes, the modes and what follows. What R171 stores depends on the
mode that results. -/
def State.changeWindow (s : State) (s0 : State) : State :=
  let p := s.planWindow
  let host := hostMutesDue s.time.n s.dev.pend
  ((((p.applyPending (p.modeWindow host).modes).modeWindow host).onDev fun c d =>
    d.settleWindow c s0 s.planDue).settleLock none).settleSync

/-- The Plan window of the tick that T0 has begun. -/
def State.planWork (s : State) (env : TickEnv) (s0 : State) : State :=
  (s.onDev fun c d => ((d.takeSetup c.setup).countEnv c env).tddFrames c.time.tif env.tddFrames).changeWindow s0

/-- The samples of a tick that its Close did not bring pass the relay path and reach the rings, test signals are sent
(R415) and the strand sums are formed (R137); samples that overflowed BB3 are dropped (R356, R378). -/
def State.endTick (s : State) (env : TickEnv) : State :=
  ((s.feed env.tail).onDev fun c d => (d.testTicks c).sumTicks c).onDev fun c d => env.bb3.foldl (fun d e => d.dropStaged c e) (d.fillRings c c.time.t1)

/-- T0 of a tick: the counters advance and the Plan window does its work (R16, R36, R38, R44). -/
def execTickEdge (env : TickEnv) (s : State) : Host.Outcome State Fault Refusal :=
  if !s.time.running ∨ s.modes.mode = .reset then .next s
  else
    let s := (s.endTick env).onDev fun c d => d.takeClose c c.time.sub
    let t : State := { s with dev := s.dev.countTick s.modes.mode s.time.n }
    .next (((t.openTick).countPlan).planWork env s).writeIndex

/-! ## RUN_START and CLOSE_START -/

/-- The governor takes up its setup registers at its draft (R523). -/
def Dev.takeReef (d : Dev) (u : Setup) : Dev :=
  { d with use := { d.use with reefCfg := u.reefCfg, thmStep := u.thmStep } }

/-- T0 + 24 us: the Run window begins; the governor drafts the next tick's plan and Lanyard polls its nodes
(R107, R370). -/
def execRunStart (s : State) : Host.Outcome State Fault Refusal :=
  if !s.inPlan then .next s
  else
    let s : State := { s with time := { s.time with window := .run, sub := 2400 } }
    .next (s.onDev fun c d => ((d.takeReef c.setup).startDraft c).pollNodes c)

/-- What a Close does: Leadline, the cancellers and Belay where they run (R336), and the book's scan in every mode in which
the book is held (R189, R204, R256, R312, R341, R346, R409). -/
def Dev.closeWork (d : Dev) (c : Ctx) : Dev :=
  let d := if leadlineRuns c.mode then
      let d := ((d.closeLoops c).closeLearn c).noteNoises c
      let donors := d.donorFigs
      ((d.closeBelay c (d.yarnFigs c) donors).closeSubs c donors).closeSurvey c
    else d
  let d := d.scanBook c
  if c.mode = .coil ∨ c.mode = .latched then d else d.sendGains (d.preview c) c

/-- T0 + 476 us, later by what a step adds to Run (R55): the draft is final and the tick's figures close (R41, R256). The
samples up to then pass the relay path first. -/
def execCloseStart (env : CloseEnv) (s : State) : Host.Outcome State Fault Refusal :=
  if !s.time.running ∨ s.time.window ≠ .run then .next s
  else
    let s : State := { s.feed env.samples with time := { s.time with window := .close, sub := s.time.closeSub } }
    .next (s.onDev fun c d =>
      let d := d.fillRings c (c.time.at10 c.time.sub)
      (({ d with reef := { d.reef with dramBytes := env.dramBytes } } : Dev).wakeRest c).closeWork c)

/-! ## TICK_OVERRUN (R41, Table TCK-2) -/

/-- The tick-overrun source of the die that a work item runs on. -/
def overrunSource : WorkItem → Nat
  | .draft => 18
  | .belay h => 19 + h
  | .solve h _ => 19 + h
  | .leadline h => 19 + h
  | .records _ => 18

/-- The staged records of ring k whose deadline has passed are dropped and counted. -/
def State.dropLate (s : State) (k : Nat) : State :=
  let late (r : Staged) : Bool := r.ring == k && deadlinePassed s.time r
  let n := s.dev.host.staged.countP late
  if n = 0 then s
  else
    let host : HostIf := { s.dev.host with
      staged := s.dev.host.staged.filter fun r => !late r
      lost := s.dev.host.lost || k == 2 }
    let r := s.ring k
    ({ s with dev := { s.dev with host := host } }).setRing k { r with drop := satAdd 16 r.drop n }

/-- What the device does when a work item overruns. -/
def State.overrun (s : State) (item : WorkItem) : State :=
  match item with
  | .draft => s.onDev fun _ d => { d with reef := { d.reef with draft := none } }
  | .belay h => if s.time.window = .close then s.onDev fun c d => (d.belayOverrun c h).keepHawser c h else s
  | .solve h late => s.onDev fun _ d =>
      let insts := d.can.insts.map fun i =>
        if i.a.inst / 64 = h ∧ i.a.inst ∈ late then { i with next := none } else i
      { d with can := { d.can with insts := insts } }
  | .leadline h => if s.time.window = .close then s.onDev fun c d => (d.leadlineOverrun c h).subsOverrun c h else s
  | .records k => if 2 ≤ k ∧ k ≤ 5 then s.dropLate k else s

/-- A work item misses its deadline: its result is discarded and the die's source is raised at severity 3. -/
def execTickOverrun (item : WorkItem) (s : State) : Host.Outcome State Fault Refusal :=
  if !s.time.running ∨ s.modes.mode = .reset then .next s
  else .next ((s.overrun item).onDev fun c d => d.raise c (overrunSource item) 3 0 c.time.sub)

end Sys2Proof.Machine
end

