-- ==== Sys2Proof/Machine/Dispatch.lean ====
section
/-! DEFINITION. One arm per command: each a direct call of the meaning of that command. -/

namespace Sys2Proof.Machine

/-- The effect of a command on everything but the queue. -/
def exec (i : Instr) (s : State) : Host.Outcome State Fault Refusal :=
  match i with
  | .modeSet h mode => Sys2Proof.Machine.execModeSet h mode s
  | .coilEnter h wakeIn => Sys2Proof.Machine.execCoilEnter h wakeIn s
  | .coilWake h => Sys2Proof.Machine.execCoilWake h s
  | .timeSet h time => Sys2Proof.Machine.execTimeSet h time s
  | .sync h => Sys2Proof.Machine.execSync h s
  | .calRun h first count => Sys2Proof.Machine.execCalRun h first count s
  | .txTest h a => Sys2Proof.Machine.execTxTest h a s
  | .planLoad h b => Sys2Proof.Machine.execPlanLoad h b s
  | .muteSet h a => Sys2Proof.Machine.execMuteSet h a s
  | .muteClr h a => Sys2Proof.Machine.execMuteClr h a s
  | .netInd h a => Sys2Proof.Machine.execNetInd h a s
  | .ulSched h bg action periodLog2 b => Sys2Proof.Machine.execUlSched h bg action periodLog2 b s
  | .feLoad h nblk b => Sys2Proof.Machine.execFeLoad h nblk b s
  | .yarnMap h first count o => Sys2Proof.Machine.execYarnMap h first count o s
  | .beamSet h a b => Sys2Proof.Machine.execBeamSet h a b s
  | .arrayCal h a o => Sys2Proof.Machine.execArrayCal h a o s
  | .cancSet h a => Sys2Proof.Machine.execCancSet h a s
  | .entryLearn h a => Sys2Proof.Machine.execEntryLearn h a s
  | .trcScan h scanAll nids b => Sys2Proof.Machine.execTrcScan h scanAll nids b s
  | .gainSet h a => Sys2Proof.Machine.execGainSet h a s
  | .belBank h xfade kp ki => Sys2Proof.Machine.execBelBank h xfade kp ki s
  | .belRead h first count o => Sys2Proof.Machine.execBelRead h first count o s
  | .bookBasis h bg basisId b => Sys2Proof.Machine.execBookBasis h bg basisId b s
  | .bookLoad h b => Sys2Proof.Machine.execBookLoad h b s
  | .bookRead h first count dirtyOnly clean o => Sys2Proof.Machine.execBookRead h first count dirtyOnly clean o s
  | .bookSet h a => Sys2Proof.Machine.execBookSet h a s
  | .bookDel h first count mask => Sys2Proof.Machine.execBookDel h first count mask s
  | .partnerRead h kind o => Sys2Proof.Machine.execPartnerRead h kind o s
  | .measSub h a => Sys2Proof.Machine.execMeasSub h a s
  | .specSnap h a o => Sys2Proof.Machine.execSpecSnap h a o s
  | .captureArm h a b => Sys2Proof.Machine.execCaptureArm h a b s
  | .captureRead h bufc offset o => Sys2Proof.Machine.execCaptureRead h bufc offset o s
  | .reefCap h capW => Sys2Proof.Machine.execReefCap h capW s
  | .thmClr h action target => Sys2Proof.Machine.execThmClr h action target s
  | .marchRun h a => Sys2Proof.Machine.execMarchRun h a s
  | .logRead h region fromSeq o => Sys2Proof.Machine.execLogRead h region fromSeq o s
  | .logNonce h o => Sys2Proof.Machine.execLogNonce h o s
  | .logClear h b => Sys2Proof.Machine.execLogClear h b s
  | .lifeSet h state group b => Sys2Proof.Machine.execLifeSet h state group b s
  | .keySet h slot action b => Sys2Proof.Machine.execKeySet h slot action b s
  | .doorbellProducer idx => Sys2Proof.Machine.execDoorbellProducer idx s
  | .doorbellConsumer k idx => Sys2Proof.Machine.execDoorbellConsumer k idx s
  | .commandFetch ds => Sys2Proof.Machine.execCommandFetch ds s
  | .commandOutputDone cidx unc => Sys2Proof.Machine.execCommandOutputDone cidx unc s
  | .ringRecordWrite k => Sys2Proof.Machine.execRingRecordWrite k s
  | .ringRecordDrop k => Sys2Proof.Machine.execRingRecordDrop k s
  | .interruptDue k => Sys2Proof.Machine.execInterruptDue k s
  | .ringCfgWrite k reg v => Sys2Proof.Machine.execRingCfgWrite k reg v s
  | .idxBaseHiWrite v => Sys2Proof.Machine.execIdxBaseHiWrite v s
  | .setupLock v => Sys2Proof.Machine.execSetupLock v s
  | .warmResetRequest v => Sys2Proof.Machine.execWarmResetRequest v s
  | .chipResetRequest v => Sys2Proof.Machine.execChipResetRequest v s
  | .stopperAcknowledge k v => Sys2Proof.Machine.execStopperAcknowledge k v s
  | .stopFirstUnlatch v => Sys2Proof.Machine.execStopFirstUnlatch v s
  | .w1cClear offset v => Sys2Proof.Machine.execW1cClear offset v s
  | .registerWrite offset v => Sys2Proof.Machine.execRegisterWrite offset v s
  | .readClear offset => Sys2Proof.Machine.execReadClear offset s
  | .tickCntRead => Sys2Proof.Machine.execTickCntRead s
  | .utcLoRead => Sys2Proof.Machine.execUtcLoRead s
  | .i2cRead offset => Sys2Proof.Machine.execI2cRead offset s
  | .jtagInstruction code => Sys2Proof.Machine.execJtagInstruction code s
  | .pcieLinkEvent e => Sys2Proof.Machine.execPcieLinkEvent e s
  | .powerGood a => Sys2Proof.Machine.execPowerGood a s
  | .brownOut => Sys2Proof.Machine.execBrownOut s
  | .ilimHold => Sys2Proof.Machine.execIlimHold s
  | .vinSample mv => Sys2Proof.Machine.execVinSample mv s
  | .resetRelease => Sys2Proof.Machine.execResetRelease s
  | .sramWipeDone fails => Sys2Proof.Machine.execSramWipeDone fails s
  | .firmwareLoaded ok version => Sys2Proof.Machine.execFirmwareLoaded ok version s
  | .dramTrained dens => Sys2Proof.Machine.execDramTrained dens s
  | .synthLock => Sys2Proof.Machine.execSynthLock s
  | .synth refLost => Sys2Proof.Machine.execSynth refLost s
  | .calWaveDone res => Sys2Proof.Machine.execCalWaveDone res s
  | .lanyardDiscovery ans => Sys2Proof.Machine.execLanyardDiscovery ans s
  | .lanyardRediscovery ans => Sys2Proof.Machine.execLanyardRediscovery ans s
  | .lanyardFrameSend a => Sys2Proof.Machine.execLanyardFrameSend a s
  | .lanyardRsp a => Sys2Proof.Machine.execLanyardRsp a s
  | .lanyardRspMissing g crcErr => Sys2Proof.Machine.execLanyardRspMissing g crcErr s
  | .tickEdge env => Sys2Proof.Machine.execTickEdge env s
  | .runStart => Sys2Proof.Machine.execRunStart s
  | .closeStart env => Sys2Proof.Machine.execCloseStart env s
  | .tickOverrun item => Sys2Proof.Machine.execTickOverrun item s
  | .syncInstant => Sys2Proof.Machine.execSyncInstant s
  | .syncInEdge => Sys2Proof.Machine.execSyncInEdge s
  | .ppsInEdge e phase => Sys2Proof.Machine.execPpsInEdge e phase s
  | .ppsInTimeout => Sys2Proof.Machine.execPpsInTimeout s
  | .syncOccasion o => Sys2Proof.Machine.execSyncOccasion o s
  | .searchTimeout => Sys2Proof.Machine.execSearchTimeout s
  | .donorReplace => Sys2Proof.Machine.execDonorReplace s
  | .candidateExpire idx => Sys2Proof.Machine.execCandidateExpire idx s
  | .sfnReload => Sys2Proof.Machine.execSfnReload s
  | .tddSwitch a => Sys2Proof.Machine.execTddSwitch a s
  | .spliceLinkUp port modId serial tracer => Sys2Proof.Machine.execSpliceLinkUp port modId serial tracer s
  | .electionTimeout => Sys2Proof.Machine.execElectionTimeout s
  | .masterTakeover => Sys2Proof.Machine.execMasterTakeover s
  | .spliceTimingMessage n tif sfn hfc => Sys2Proof.Machine.execSpliceTimingMessage n tif sfn hfc s
  | .masterLost => Sys2Proof.Machine.execMasterLost s
  | .spliceSyncMessage tick => Sys2Proof.Machine.execSpliceSyncMessage tick s
  | .splicePortDown port stays => Sys2Proof.Machine.execSplicePortDown port stays s
  | .spliceRefLoss r => Sys2Proof.Machine.execSpliceRefLoss r s
  | .spliceRefRestore r => Sys2Proof.Machine.execSpliceRefRestore r s
  | .marlineFrame src uncorrectable => Sys2Proof.Machine.execMarlineFrame src uncorrectable s
  | .marlineLinkRestore src => Sys2Proof.Machine.execMarlineLinkRestore src s
  | .oscEvaluate a => Sys2Proof.Machine.execOscEvaluate a s
  | .muteNFall sub => Sys2Proof.Machine.execMuteNFall sub s
  | .muteNRise => Sys2Proof.Machine.execMuteNRise s
  | .muteRelease => Sys2Proof.Machine.execMuteRelease s
  | .donorLoss => Sys2Proof.Machine.execDonorLoss s
  | .donorHoldExpiry => Sys2Proof.Machine.execDonorHoldExpiry s
  | .planExpiry => Sys2Proof.Machine.execPlanExpiry s
  | .clockSecond => Sys2Proof.Machine.execClockSecond s
  | .timeFloorRaise => Sys2Proof.Machine.execTimeFloorRaise s
  | .feedbackDecay byid => Sys2Proof.Machine.execFeedbackDecay byid s
  | .lockQual => Sys2Proof.Machine.execLockQual s
  | .thermalSample rs sub => Sys2Proof.Machine.execThermalSample rs sub s
  | .thermalCritical die sub => Sys2Proof.Machine.execThermalCritical die sub s
  | .burstOnset bg pos at_ => Sys2Proof.Machine.execBurstOnset bg pos at_ s
  | .burstClose bg pos at_ => Sys2Proof.Machine.execBurstClose bg pos at_ s
  | .signatureReady w => Sys2Proof.Machine.execSignatureReady w s
  | .matchComplete bg pos sub lost => Sys2Proof.Machine.execMatchComplete bg pos sub lost s
  | .matchLate bg pos => Sys2Proof.Machine.execMatchLate bg pos s
  | .weightSwitch bg slot at_ => Sys2Proof.Machine.execWeightSwitch bg slot at_ s
  | .slotRelease bg slot at_ => Sys2Proof.Machine.execSlotRelease bg slot at_ s
  | .endpointWriteback eid => Sys2Proof.Machine.execEndpointWriteback eid s
  | .bookLoadCommit => Sys2Proof.Machine.execBookLoadCommit s
  | .entryLearned x => Sys2Proof.Machine.execEntryLearned x s
  | .entryLearnDone => Sys2Proof.Machine.execEntryLearnDone s
  | .entryAged bg e => Sys2Proof.Machine.execEntryAged bg e s
  | .tracerEpoch ss => Sys2Proof.Machine.execTracerEpoch ss s
  | .arrayCalDone rs => Sys2Proof.Machine.execArrayCalDone rs s
  | .calRunDone res => Sys2Proof.Machine.execCalRunDone res s
  | .txTestEnd => Sys2Proof.Machine.execTxTestEnd s
  | .specSnapDone tag x => Sys2Proof.Machine.execSpecSnapDone tag x s
  | .captureTrigger c sub => Sys2Proof.Machine.execCaptureTrigger c sub s
  | .captureEnd c sub => Sys2Proof.Machine.execCaptureEnd c sub s
  | .captureRecord c x => Sys2Proof.Machine.execCaptureRecord c x s
  | .marchWindow die fails => Sys2Proof.Machine.execMarchWindow die fails s
  | .portATouch die offset => Sys2Proof.Machine.execPortATouch die offset s
  | .marchDone die fails => Sys2Proof.Machine.execMarchDone die fails s
  | .coilWakeStart => Sys2Proof.Machine.execCoilWakeStart s
  | .stopperRaise src sev unit sub => Sys2Proof.Machine.execStopperRaise src sev unit sub s
  | .blockResetDone h => Sys2Proof.Machine.execBlockResetDone h s
  | .chipResetBegin => Sys2Proof.Machine.execChipResetBegin s
  | .faultNHoldEnd => Sys2Proof.Machine.execFaultNHoldEnd s
  | .loglineRecordWrite readback => Sys2Proof.Machine.execLoglineRecordWrite readback s
  | .logClearDone => Sys2Proof.Machine.execLogClearDone s
  | .lifecycleReset => Sys2Proof.Machine.execLifecycleReset s
  | .optimeSave => Sys2Proof.Machine.execOptimeSave s
  | .spliceCandidateReport r => Sys2Proof.Machine.execSpliceCandidateReport r s
  | .spliceCalReport modId => Sys2Proof.Machine.execSpliceCalReport modId s

end Sys2Proof.Machine
end

