-- ==== Sys2Proof/WellFormed.lean ====
section
/-! DEFINITION. Which commands are well formed: every operand fits the field, the register or the contact that
carries it (Tables HST-5, HST-8, REG-2; R9). The meanings are total on ill-formed commands too. -/

namespace Sys2Proof

/-- A number fits a field of `w` bits. -/
def fits (w x : Nat) : Bool := decide (x < 2 ^ w)

/-- A signed number fits a field of `w` bits. -/
def fitsInt (w : Nat) (x : Int) : Bool :=
  decide (-((2 ^ (w - 1) : Nat) : Int) ≤ x) && decide (x < ((2 ^ (w - 1) : Nat) : Int))

/-- A list of `n` numbers, each of which fits a field of `w` bits. -/
def fitsMany (n w : Nat) (xs : List Nat) : Bool := xs.length == n && xs.all (fits w)

/-- An offset from T0 in units of 10 ns: 0…49,999, and up to 99,999 in a tick that a step lengthens (R36, R55). -/
def inTick (sub : Nat) : Bool := decide (sub < 100000)

/-- The header and the buffers of a descriptor (Table HST-5). -/
def hdrOk (h : CmdHdr) : Bool := fits 32 h.tag && fits 32 h.cidx
def inBufOk (b : InBuf) : Bool := fits 64 b.addr && fits 32 b.len
def outBufOk (o : OutBuf) : Bool := fits 64 o.addr && fits 32 o.len

/-- The argument structures (Table HST-8). -/
def txTestOk (a : TxTestArgs) : Bool :=
  fits 8 a.kind && fits 8 a.paEn && fits 8 a.rho && fits 16 a.first && fits 16 a.count && fits 32 a.centreKhz &&
    fitsInt 16 a.level && fits 16 a.duration
def muteOk (a : MuteArgs) : Bool := fits 8 a.level && fits 8 a.bg && fits 8 a.dir && fits 16 a.id
def netIndOk (a : NetIndArgs) : Bool :=
  fits 8 a.kind && fits 8 a.bg && fits 8 a.scs && fits 8 a.beamK && fits 16 a.sfn && fits 8 a.slot &&
    fits 8 a.on && fits 16 a.nslots
def beamSetOk (a : BeamSetArgs) : Bool :=
  fits 8 a.target && fits 8 a.bg && fits 8 a.index && fits 8 a.recip && fits 8 a.sbeams && fits 8 a.fixed &&
    fits 8 a.donor && fits 16 a.e && fits 16 a.entry && fits 8 a.k && fits 16 a.mapEnt
def arrayCalOk (a : ArrayCalArgs) : Bool :=
  fits 8 a.side && fits 8 a.rho && fits 8 a.ticks && fits 16 a.gRef && fits 32 a.centreKhz
def cancOk (a : CancArgs) : Bool :=
  fits 16 a.inst && fits 8 a.vkind && fits 8 a.bg && fits 8 a.pos && fits 8 a.beam && fits 16 a.taps &&
    fits 8 a.pre && fits 8 a.forget && fitsMany 4 8 a.refs && fitsMany 4 8 a.imods
def learnOk (a : LearnArgs) : Bool :=
  fits 8 a.bg && fits 16 a.e && fits 16 a.n && fits 16 a.learnTicks && fits 16 a.ltaps
def gainOk (a : GainArgs) : Bool :=
  fits 8 a.bg && fits 8 a.dir && fits 8 a.beam && fits 8 a.mask && fits 16 a.target && fits 16 a.pmax &&
    fits 16 a.vlim && fits 16 a.alim && fits 16 a.jlim && fits 8 a.lnaSt && fits 8 a.pagSt
def bookSetOk (a : BookSetArgs) : Bool :=
  fits 32 a.eid && fits 8 a.mask && fits 8 a.flags && fits 16 a.widx && fitsInt 16 a.offset
def measOk (a : MeasArgs) : Bool :=
  fits 16 a.subId && fits 8 a.action && fits 8 a.src && fits 16 a.target && fits 8 a.rho && fits 8 a.mresp &&
    fits 32 a.centreKhz && fits 8 a.n && fits 8 a.k && fits 8 a.outr && fits 8 a.gridSeg && fits 8 a.gate &&
    fits 8 a.div
def snapOk (a : SnapArgs) : Bool :=
  fits 16 a.strand && fits 16 a.tag && fits 32 a.centreKhz && fits 8 a.rho && fits 8 a.mresp && fits 8 a.avg
def capArmOk (a : CapArgs) : Bool :=
  fits 8 a.bufc && fits 8 a.format && fits 8 a.trig && fits 16 a.nsrc && fits 32 a.sizeMb && fits 32 a.preUs &&
    fits 32 a.postUs && fits 32 a.targ
def marchOk (a : MarchArgs) : Bool :=
  fits 8 a.die && fits 8 a.bank && fits 8 a.mode && fits 32 a.offs && fits 32 a.len

/-- A descriptor as fetched (Table HST-5). -/
def descriptorOk (d : Descriptor) : Bool :=
  fits 16 d.opcode && fits 8 d.dlen && fits 8 d.flags && fits 32 d.tag && fits 64 d.buf && fits 32 d.bufLen &&
    d.args.length == 40

/-- A beam yarn (R259), a strand, a band group with a position. -/
def byidOk (b : Nat) : Bool := fits 15 b
def strandNum (g : Nat) : Bool := fits 7 g
def posOk (bg pos : Nat) : Bool := fits 3 bg && fits 4 pos

/-- The words of samples: 16 bits each of I and Q (R120). -/
def wordsOk (ws : List (Int × Int)) : Bool := ws.all fun w => fitsInt 16 w.1 && fitsInt 16 w.2
def samplesOk (x : Samples) : Bool :=
  (x.yarns.all fun y => fits 11 y.id && wordsOk y.words) &&
    (x.peers.all fun p => fits 2 p.modId && fits 15 p.key && wordsOk p.words) &&
      x.strands.all fun w => fits 7 w.g && w.words.all (fitsInt 16)

/-- An instant with its samples. -/
def atOk (a : SampledAt) : Bool := inTick a.sub && samplesOk a.samples

/-- A port access has 1 to 64 bytes (R441). -/
def accessOk (a : PortAccess) : Bool := decide (1 ≤ a.len) && decide (a.len ≤ 64)

/-- Whether a command is well formed. -/
def wellFormed : Instr → Bool
  | .modeSet h m => hdrOk h && fits 8 m
  | .coilEnter h w => hdrOk h && fits 32 w
  | .coilWake h => hdrOk h
  | .timeSet h t => hdrOk h && fits 64 t
  | .sync h => hdrOk h
  | .calRun h first count => hdrOk h && fits 16 first && fits 16 count
  | .txTest h a => hdrOk h && txTestOk a
  | .planLoad h b => hdrOk h && inBufOk b
  | .muteSet h a => hdrOk h && muteOk a
  | .muteClr h a => hdrOk h && muteOk a
  | .netInd h a => hdrOk h && netIndOk a
  | .ulSched h bg action p b => hdrOk h && fits 8 bg && fits 8 action && fits 8 p && inBufOk b
  | .feLoad h n b => hdrOk h && fits 16 n && inBufOk b
  | .yarnMap h first count o => hdrOk h && fits 16 first && fits 16 count && outBufOk o
  | .beamSet h a b => hdrOk h && beamSetOk a && inBufOk b
  | .arrayCal h a o => hdrOk h && arrayCalOk a && outBufOk o
  | .cancSet h a => hdrOk h && cancOk a
  | .entryLearn h a => hdrOk h && learnOk a
  | .trcScan h all n b => hdrOk h && fits 8 all && fits 8 n && inBufOk b
  | .gainSet h a => hdrOk h && gainOk a
  | .belBank h x kp ki => hdrOk h && fits 8 x && fitsMany 8 16 kp && fitsMany 8 16 ki
  | .belRead h first count o => hdrOk h && fits 16 first && fits 16 count && outBufOk o
  | .bookBasis h bg id b => hdrOk h && fits 8 bg && fits 32 id && inBufOk b
  | .bookLoad h b => hdrOk h && inBufOk b
  | .bookRead h first count dirty clean o =>
    hdrOk h && fits 32 first && fits 32 count && fits 8 dirty && fits 8 clean && outBufOk o
  | .bookSet h a => hdrOk h && bookSetOk a
  | .bookDel h first count m => hdrOk h && fits 32 first && fits 32 count && fits 8 m
  | .partnerRead h kind o => hdrOk h && fits 8 kind && outBufOk o
  | .measSub h a => hdrOk h && measOk a
  | .specSnap h a o => hdrOk h && snapOk a && outBufOk o
  | .captureArm h a b => hdrOk h && capArmOk a && inBufOk b
  | .captureRead h c off o => hdrOk h && fits 8 c && fits 64 off && outBufOk o
  | .reefCap h w => hdrOk h && fits 16 w
  | .thmClr h action target => hdrOk h && fits 8 action && fits 16 target
  | .marchRun h a => hdrOk h && marchOk a
  | .logRead h region seq o => hdrOk h && fits 8 region && fits 32 seq && outBufOk o
  | .logNonce h o => hdrOk h && outBufOk o
  | .logClear h b => hdrOk h && inBufOk b
  | .lifeSet h st group b => hdrOk h && fits 8 st && fits 32 group && inBufOk b
  | .keySet h slot action b => hdrOk h && fits 8 slot && fits 8 action && inBufOk b
  | .doorbellProducer idx => fits 32 idx
  | .doorbellConsumer k idx => fits 6 k && fits 32 idx
  | .commandFetch ds => ds.all descriptorOk
  | .commandOutputDone cidx _ => fits 32 cidx
  | .ringRecordWrite k => decide (k < 6)
  | .ringRecordDrop k => decide (k < 6)
  | .interruptDue k => decide (k < 6)
  | .ringCfgWrite k reg _ => decide (k < 6) && decide (reg < 3)
  | .idxBaseHiWrite _ => true
  | .setupLock _ => true
  | .warmResetRequest _ => true
  | .chipResetRequest _ => true
  | .stopperAcknowledge k _ => decide (k < 3)
  | .stopFirstUnlatch _ => true
  | .w1cClear offset _ => fits 20 offset && offset % 4 == 0
  | .registerWrite offset _ => fits 20 offset && offset % 4 == 0
  | .readClear offset => decide (offset < 0x140000) && offset % 4 == 0
  | .tickCntRead => true
  | .utcLoRead => true
  | .i2cRead offset => fits 20 offset && offset % 4 == 0
  | .jtagInstruction code => fits 8 code
  | .pcieLinkEvent _ => true
  | .powerGood _ => true
  | .brownOut => true
  | .ilimHold => true
  | .vinSample mv => fits 16 mv
  | .resetRelease => true
  | .sramWipeDone fails => fails.all fun e => decide (e.1 ≤ 8) && decide (e.2 ≤ 3)
  | .firmwareLoaded _ version => fits 32 version
  | .dramTrained dens => dens.length == 8
  | .synthLock => true
  | .synth _ => true
  | .calWaveDone res => res.all fun r => strandNum r.g
  | .lanyardDiscovery ans => ans.all fun a => strandNum a.g
  | .lanyardRediscovery ans => ans.all fun a => strandNum a.g
  | .lanyardFrameSend a => fits 4 a.port
  | .lanyardRsp a => strandNum a.g && fits 16 a.status && fits 24 a.data && inTick a.sub
  | .lanyardRspMissing g _ => strandNum g
  | .tickEdge env => samplesOk env.tail && (env.bb3.all fun e => fits 4 e.1) && env.ports.all fun p =>
    accessOk p.a && accessOk p.b && p.again.all accessOk
  | .runStart => true
  | .closeStart env => samplesOk env.samples
  | .tickOverrun _ => true
  | .syncInstant => true
  | .syncInEdge => true
  | .ppsInEdge _ _ => true
  | .ppsInTimeout => true
  | .syncOccasion _ => true
  | .searchTimeout => true
  | .donorReplace => true
  | .candidateExpire idx => fits 3 idx
  | .sfnReload => true
  | .tddSwitch a => strandNum a.g && fits 2 a.path
  | .spliceLinkUp port modId serial tracer => fits 2 port && fits 2 modId && fits 64 serial && fits 12 tracer
  | .electionTimeout => true
  | .masterTakeover => true
  | .spliceTimingMessage t tif sfn hfc =>
    fits 32 t.n && decide (t.after.natAbs < 6250000) && decide (tif < 20) && decide (sfn < 1024) && fits 32 hfc
  | .masterLost => true
  | .spliceSyncMessage tick => fits 32 tick
  | .splicePortDown port _ => fits 2 port
  | .spliceRefLoss r => fits 2 r.modId && r.streams.all (fits 15)
  | .spliceRefRestore r => fits 2 r.modId && r.streams.all (fits 15)
  | .marlineFrame src _ => decide (60 ≤ src) && decide (src < 96)
  | .marlineLinkRestore src => decide (60 ≤ src) && decide (src < 96)
  | .oscEvaluate a => byidOk a.byid && inTick a.sub && samplesOk a.samples
  | .muteNFall sub => inTick sub
  | .muteNRise => true
  | .muteRelease => true
  | .donorLoss => true
  | .donorHoldExpiry => true
  | .planExpiry => true
  | .clockSecond => true
  | .timeFloorRaise => true
  | .feedbackDecay byid => byidOk byid
  | .lockQual => true
  | .thermalSample rs sub => (rs.all fun r => decide (r.idx < 150)) && inTick sub
  | .thermalCritical die sub => decide (die < 25) && inTick sub
  | .burstOnset bg pos at_ => posOk bg pos && atOk at_
  | .burstClose bg pos at_ => posOk bg pos && atOk at_
  | .signatureReady w => posOk w.bg w.pos && samplesOk w.samples
  | .matchComplete bg pos sub lost => posOk bg pos && inTick sub && lost.all (fits 18)
  | .matchLate bg pos => posOk bg pos
  | .weightSwitch bg slot at_ => fits 3 bg && fits 6 slot && atOk at_
  | .slotRelease bg slot at_ => fits 3 bg && fits 6 slot && atOk at_
  | .endpointWriteback eid => fits 18 eid
  | .bookLoadCommit => true
  | .entryLearned x => samplesOk x
  | .entryLearnDone => true
  | .entryAged bg e => fits 3 bg && fits 12 e
  | .tracerEpoch ss => ss.all fun t => fits 12 t.tracer
  | .arrayCalDone rs => rs.all fun r => strandNum r.g
  | .calRunDone res => res.all fun r => strandNum r.g
  | .txTestEnd => true
  | .specSnapDone tag x => fits 16 tag && samplesOk x
  | .captureTrigger c sub => fits 4 c && inTick sub
  | .captureEnd c sub => fits 4 c && inTick sub
  | .captureRecord c x => fits 4 c && samplesOk x
  | .marchWindow die _ => decide (die ≤ 8)
  | .portATouch die _ => decide (die ≤ 8)
  | .marchDone die _ => decide (die ≤ 8)
  | .coilWakeStart => true
  | .stopperRaise src sev unit sub => decide (src < 96) && decide (sev ≤ 5) && fits 8 unit && inTick sub
  | .blockResetDone h => fits 3 h
  | .chipResetBegin => true
  | .faultNHoldEnd => true
  | .loglineRecordWrite _ => true
  | .logClearDone => true
  | .lifecycleReset => true
  | .optimeSave => true
  | .spliceCandidateReport r => fits 2 r.modId && decide (r.cands.length ≤ 8)
  | .spliceCalReport modId => fits 2 modId

end Sys2Proof
end

