-- ==== Sys2Proof/Safety.lean ====
section
/-! DEFINITION. What the statements about a run speak of: the ranges that every step keeps, and the states in which
a host command was answered, accepted for a Plan window, or given its output buffer. -/

namespace Sys2Proof.Machine

/-! ## Ranges -/

/-- The counters lie in the ranges of Table TCK-3 (R44). -/
abbrev TimeSt.InRange (t : TimeSt) : Prop := t.n < two32 ∧ t.tif < 20 ∧ t.sfn < 1024 ∧ t.hfc < two32

/-- Each of the six rings has 32-bit indices and holds no more entries than its size (R495). -/
abbrev State.RingsOk (s : State) : Prop :=
  s.rings.length = 6 ∧
    ∀ k, k < 6 → (s.ring k).p < two32 ∧ (s.ring k).c < two32 ∧ (s.ring k).used ≤ s.ctx.ringSize k

/-- The pinned region of the Logline holds no more than its 1 MB (Table STP-5). -/
abbrev State.PinnedOk (s : State) : Prop := logBytes s.nv.pinned ≤ 1048576

/-! ## Commands that start a reset -/

/-- The rows that take the module to power-on reset: the only ones that leave LATCHED (R430, R543, R545). -/
def cyclesPower : Instr → Bool
  | .powerGood _ | .brownOut | .ilimHold => true
  | _ => false

/-- The rows that begin a reset which returns the setup registers to their reset values (Table MOD-9). -/
def resetsSetup : Instr → Bool
  | .powerGood _ | .brownOut | .ilimHold | .chipResetRequest _ | .chipResetBegin | .lifecycleReset => true
  | _ => false

/-- A read of BWL_TICK_CNT (R46). -/
def readsTickCnt : Instr → Bool
  | .tickCntRead | .readClear 0x40 => true
  | _ => false

/-! ## Host commands -/

/-- One host command was fetched and answered: one more completion is owed (R502), and the record of Table HST-6
stands behind the others in staging. Without a `tick` it takes the tick of its writing (R505). -/
def State.answered (s : State) (op : Nat) (h : CmdHdr) (status detail : Nat) (tick : Option Nat)
    (result : Bytes) : State :=
  let r : Staged :=
    { ring := 1
      bytes := completionBytes op status detail h.tag h.cidx (tick.getD 0) result
      deadline := none
      stamp := tick.isNone }
  let host : HostIf := { s.dev.host with owed := s.dev.host.owed + 1, staged := s.dev.host.staged ++ [r] }
  { s with dev := { s.dev with host := host } }

/-- One host command was fetched and refused with a status. -/
def State.denied (s : State) (op : Nat) (h : CmdHdr) (status : Nat) : State := s.answered op h status 0 none []

/-- One host command was fetched and its change accepted for the Plan window of R39: it waits behind the others,
and its OK completion carries that tick (R39, R505). -/
def State.accepted (s : State) (op : Nat) (h : CmdHdr) (what : PendWhat) : State :=
  let p : Pend := { tick := s.ctx.effTick, opcode := op, tag := h.tag, what := what }
  ({ s with dev := { s.dev with pend := s.dev.pend ++ [p] } }).answered op h 0 0 (some s.ctx.effTick) []

/-- One W-marked command was fetched: its output buffer is to be written, its completion follows (R504). -/
def State.outputs (s : State) (op : Nat) (h : CmdHdr) (addr : Nat) (bytes result : Bytes)
    (cap : Option Nat := none) : State :=
  let w : OutWork := { hdr := h, opcode := op, addr := addr, bytes := bytes, result := result, cap := cap }
  let host : HostIf := { s.dev.host with owed := s.dev.host.owed + 1, outs := s.dev.host.outs ++ [w] }
  { s with dev := { s.dev with host := host } }

/-- An input buffer that the device reads without an error: aligned, not empty, long enough, no WCOLL, no
double-bit error (R440, R442, R501). -/
abbrev InBufGood (b : InBuf) (need : Nat) : Prop :=
  b.addr % 4 = 0 ∧ b.len ≠ 0 ∧ need ≤ b.len ∧ b.wcoll = false ∧ b.ecc = false

/-- An output buffer that passes R501: aligned and not empty. -/
abbrev OutBufGood (o : OutBuf) : Prop := o.addr % 4 = 0 ∧ o.len ≠ 0

/-! ## Calibration and evaluations -/

/-- Strand g holds the result of a calibration: RX_OK and TX_OK, failed unless both, and in the store an entry that is
valid where both hold, with the result's temperature (R93, R483). -/
abbrev State.Calibrated (t : State) (res : List StrandCal) (g : Nat) : Prop :=
  let r := calResult res g
  (t.dev.strand g).rxOk = r.rxOk ∧ (t.dev.strand g).txOk = r.txOk ∧ (t.dev.strand g).failed = !(r.rxOk && r.txOk) ∧
    (t.nv.calStore.getD g default).valid = (r.rxOk && r.txOk) ∧
    ((r.rxOk && r.txOk) = true → (t.nv.calStore.getD g default).temp = r.temp)

/-- The grid index up to which an evaluation of the oscillation detector at an offset takes its samples (R210, R211). -/
def State.oscEnd (s : State) (byid sub : Nat) : Nat :=
  min (tapeOf s.dev.tapes (.stage5 byid)).next (firstSample (s.dev.rhoOf byid) (s.ctx.time.at10 sub))

/-! ## Frames -/

/-- Only the device part changed. -/
def State.SameOutside (s t : State) : Prop :=
  t.pending = s.pending ∧ t.ident = s.ident ∧ t.setup = s.setup ∧ t.time = s.time ∧ t.modes = s.modes ∧
    t.nv = s.nv ∧ t.rings = s.rings

end Sys2Proof.Machine
end

