-- ==== Sys2Proof/Certificates/Slice0/Obligations.lean ====
section
/-! DEFINITION. The statements about this model, for the provers: what each command does where it completes, with
what it leaves alone, and what every step keeps. -/

open Sys2Proof Sys2Proof.Machine

/-! ## The whole machine -/

/-- A step takes the command at the front of the queue and runs it on the state with the rest of the queue; on an empty
queue the block idles, which is the model's choice (assumption 1), for the table has no row for the passing of time. -/
def Obligations.StepRunsTheFrontCommand : Prop :=
  (∀ (c : Instr) (rest : List Instr) (s : State), s.pending = c :: rest →
    step s = exec c { s with pending := rest }) ∧
  (∀ s : State, s.pending = [] → step s = .next s)

/-- Every command completes from every state: none faults and none is refused. A command whose condition does not
hold leaves the state as it is, which is the model's choice (assumption 3). -/
def Obligations.EveryCommandCompletes : Prop := ∀ (c : Instr) (s : State), ∃ t, exec c s = .next t

/-- No command changes the queue of waiting commands: exec leaves it as it is, whatever the command and the
state. -/
def Obligations.CommandsLeaveTheQueue : Prop :=
  ∀ (c : Instr) (s t : State), exec c s = .next t → t.pending = s.pending

/-- After reset the module is in BOOT at STAGE 0 with its counters at 0 and the tick grid not yet running
(R44, Tables MOD-9 and MOD-10); SETUP_LOCK is 0 (R527); every ring is disabled and empty (R495); Painter runs free,
no plan is committed and the clock is unset (R265); no mute, subscription, canceller or endpoint record stands. The
ranges that every step keeps hold there. -/
def Obligations.ResetState : Prop :=
  ((State.reset.modes.mode = .boot ∧ State.reset.dev.boot.stage = 0 ∧ State.reset.pending = [] ∧
    State.reset.time.n = 0 ∧ State.reset.time.tif = 0 ∧ State.reset.time.sfn = 0 ∧ State.reset.time.hfc = 0 ∧
    State.reset.time.running = false ∧ State.reset.setup.locked = false ∧
    (∀ k, k < 6 → State.reset.ctx.ringOn k = false ∧ (State.reset.ring k).p = 0 ∧ (State.reset.ring k).c = 0 ∧
      (State.reset.ring k).entries = []) ∧
    State.reset.dev.ptr.st = .freerun ∧ State.reset.dev.ptr.sync = false ∧
    State.reset.dev.plan.committed = none ∧ State.reset.dev.clk.utc = none ∧ State.reset.dev.prt.mutes = [] ∧
    State.reset.dev.pend = [] ∧ State.reset.dev.can.insts = [] ∧ State.reset.dev.book.recs = [] ∧
    State.reset.dev.ldl.subs = [] ∧ State.reset.dev.host.staged = [] ∧ State.reset.dev.stop.firstValid = false)) ∧
  (State.reset.time.InRange ∧ State.reset.RingsOk ∧ State.reset.PinnedOk)

/-- The timing counters stay within the ranges of Table TCK-3, from every state that meets them (R44). -/
def Obligations.CountersStayInRange : Prop :=
  ∀ (s t : State), s.time.InRange → step s = .next t → t.time.InRange

/-- The six rings keep 32-bit indices, and none ever holds more entries than its size, whatever the host writes to
its doorbells and its configuration (R495, R498, R499, R502). -/
def Obligations.RingsStayBounded : Prop :=
  ∀ (s t : State), s.RingsOk → step s = .next t → t.RingsOk

/-- The pinned region never outgrows its 1 MB (R477, Table STP-5). -/
def Obligations.PinnedRegionStaysBounded : Prop :=
  ∀ (s t : State), s.PinnedOk → step s = .next t → t.PinnedOk

/-- LATCHED ends only at power-on: every command but power-good and the losses of power before it leaves the
module in LATCHED, a reset request and a Stopper chip reset included (R404, R430). -/
def Obligations.LatchedUntilPowerOn : Prop :=
  ∀ (c : Instr) (s t : State), s.modes.mode = .latched → cyclesPower c = false → exec c s = .next t →
    t.modes.mode = .latched

/-- SETUP_LOCK: a write sets it with bit 0 and stores no other bit; once it is 1 no command changes any setup
register, SETUP_LOCK itself included, except that the resets of power-on, chip reset and lifecycle change return
all of them to their reset values; a warm reset keeps them (R527). -/
def Obligations.SetupLockHoldsUntilReset : Prop :=
  (∀ (v : Word) (s : State), s.setup.locked = false →
    exec (.setupLock v) s = .next { s with setup := { s.setup with lock := v &&& 1#32 } }) ∧
  (∀ (c : Instr) (s t : State), s.setup.locked = true → exec c s = .next t →
    t.setup = s.setup ∨ (resetsSetup c = true ∧ t.setup = Setup.reset ∧ t.modes.mode = .reset))

/-- A read of BWL_TICK_CNT returns the tick count and latches TIF, SFN and HFC of the same tick into the shadows;
BWL_TICK_POS and BWL_HFC return the shadows; no other command changes them, but a reset of the module (R46). -/
def Obligations.TickCountReadLatchesShadows : Prop :=
  (∀ s : State, ∃ t, exec .tickCntRead s = .next t ∧ t.dev.host.read = s.reg 0x40 ∧
    t = { s with
      time := { s.time with shTif := s.time.tif, shSfn := s.time.sfn, shHfc := s.time.hfc }
      dev := { s.dev with host := { s.dev.host with read := s.reg 0x40 } } }) ∧
  (∀ s : State, s.time.shTif < 32 → s.time.shSfn < 1024 → s.time.shHfc < two32 →
    (s.reg 0x44).field 0 5 = s.time.shTif ∧ (s.reg 0x44).field 5 10 = s.time.shSfn ∧
      (s.reg 0x48).toNat = s.time.shHfc) ∧
  (∀ (c : Instr) (s t : State), readsTickCnt c = false → exec c s = .next t →
    (t.time.shTif = s.time.shTif ∧ t.time.shSfn = s.time.shSfn ∧ t.time.shHfc = s.time.shHfc) ∨
      t.modes.mode = .reset)

/-- The lifecycle state changes only along the transitions of Table STP-11, one at a time: the change is then
pending, and while one is pending no other follows (R484, R485, R488). -/
def Obligations.LifecycleFollowsItsTransitions : Prop :=
  ∀ (c : Instr) (s t : State), exec c s = .next t →
    t.nv.life = s.nv.life ∨
      (s.nv.lifeFrom = none ∧ (lifeTransition s.nv.life t.nv.life).isSome = true ∧ t.nv.lifeFrom = some s.nv.life)

/-- TIME_FLOOR never falls, through every command and every reset (R266). -/
def Obligations.TimeFloorNeverFalls : Prop :=
  ∀ (c : Instr) (s t : State), exec c s = .next t → s.nv.timeFloor ≤ t.nv.timeFloor

/-- Every host command that fits its fields is spelled by a descriptor, and that descriptor spells it back, with
each operand at every value its field admits (R500, Table HST-8). -/
def Obligations.DescriptorsSpellTheirCommands : Prop :=
  ∀ (i : Instr) (d : Descriptor), wellFormed i = true → descriptorOf i = some d →
    dlenOk d.dlen = true ∧ d.args.length = 40 ∧ ∃ cidx, commandOf cidx d = some i

/-! ## Host interface and registers -/

/-- A doorbell write that is valid moves its index and no other, and frees the entries below a new consumer index;
an invalid one, and one to the doorbell of a disabled ring, changes no index, sets DB_ERR and is counted (R498). -/
def Obligations.DoorbellsMoveValidIndices : Prop :=
  (∀ (idx : Nat) (s : State), idx < two32 → s.ctx.ringOn 0 = true →
    sub32 idx (s.ring 0).c ≤ 2 ^ ringLog2 (s.ctx.ringCfg 0) →
    sub32 idx (s.ring 0).p ≤ 2 ^ ringLog2 (s.ctx.ringCfg 0) →
    exec (.doorbellProducer idx) s = .next (s.setRing 0 { s.ring 0 with p := idx })) ∧
  (∀ (k idx : Nat) (s : State), 1 ≤ k → k ≤ 5 → idx < two32 → s.ctx.ringOn k = true →
    sub32 idx (s.ring k).c ≤ sub32 (s.ring k).p (s.ring k).c →
    exec (.doorbellConsumer k idx) s = .next (s.setRing k { s.ring k with
      c := idx
      entries := (s.ring k).entries.filter fun e => decide (sub32 e.1 idx < sub32 (s.ring k).p idx) })) ∧
  (∀ (idx : Nat) (s : State), (s.ctx.ringOn 0 = false ∨
      2 ^ ringLog2 (s.ctx.ringCfg 0) < sub32 idx (s.ring 0).c ∨
      2 ^ ringLog2 (s.ctx.ringCfg 0) < sub32 idx (s.ring 0).p) →
    exec (.doorbellProducer idx) s = .next { s with dev := { s.dev with host := { s.dev.host with
      dbErr := true
      dbErrCnt := min (s.dev.host.dbErrCnt + 1) 255 } } }) ∧
  (∀ (k idx : Nat) (s : State), 1 ≤ k → k ≤ 5 → (s.ctx.ringOn k = false ∨
      sub32 (s.ring k).p (s.ring k).c < sub32 idx (s.ring k).c) →
    exec (.doorbellConsumer k idx) s = .next { s with dev := { s.dev with host := { s.dev.host with
      dbErr := true
      dbErrCnt := min (s.dev.host.dbErrCnt + 1) 255 } } })

/-- A descriptor that the device may fetch advances CMD_C by one, and with no FENCE before it and none of its own is
evaluated at once; without room for its completion it is not fetched, and CMD_STALL says so (R502, R503). -/
def Obligations.CommandFetchTakesOneDescriptor : Prop :=
  (∀ (x : Descriptor) (s : State), s.dev.boot.fwOk = true → s.dev.host.mastering = true → s.ctx.ringOn 0 = true →
    (s.ring 0).used ≠ 0 → s.ctx.ringOn 1 = true →
    (s.ring 1).used + s.dev.host.owed + 1 ≤ 2 ^ ringLog2 (s.ctx.ringCfg 1) → s.dev.host.waiting = [] →
    x.flags % 2 = 0 →
    exec (.commandFetch [x]) s = .next ((evaluate (s.ring 0).c x
      ((s.setRing 0 { s.ring 0 with c := succ32 (s.ring 0).c }).fetched)).writeIndex)) ∧
  (∀ (ds : List Descriptor) (s : State), s.dev.boot.fwOk = true → s.dev.host.mastering = true →
    s.ctx.ringOn 0 = true → (s.ring 0).used ≠ 0 →
    (s.ctx.ringOn 1 = false ∨ 2 ^ ringLog2 (s.ctx.ringCfg 1) < (s.ring 1).used + s.dev.host.owed + 1) →
    s.dev.host.waiting = [] → s.setup.idxBase = 0 →
    exec (.commandFetch ds) s = .next s ∧ (s.reg 0x110C).getLsbD 2 = true)

/-- A descriptor is evaluated as the command it spells; DLEN 0 is a no-op that completes with OK, a DLEN outside
24…64 or not a multiple of 4 and an opcode that Table HST-8 does not list complete with BAD_ARG (R500, R507). -/
def Obligations.DescriptorsAreEvaluated : Prop :=
  (∀ (cidx : Nat) (x : Descriptor) (i : Instr) (s : State), dlenOk x.dlen = true → commandOf cidx x = some i →
    exec i s = .next (evaluate cidx x s.fetched)) ∧
  (∀ (cidx : Nat) (x : Descriptor) (s : State), x.dlen = 0 →
    evaluate cidx x s.fetched = s.answered x.opcode { tag := x.tag, cidx := cidx } 0 0 none []) ∧
  (∀ (cidx : Nat) (x : Descriptor) (s : State), x.dlen ≠ 0 → (dlenOk x.dlen = false ∨ commandOf cidx x = none) →
    evaluate cidx x s.fetched = s.denied x.opcode { tag := x.tag, cidx := cidx } 1)

/-- The oldest staged record of a ring with room takes the next entry: P advances by one and the entry holds the
record; one whose deadline has passed is not written but dropped and counted, and a completion is never dropped; the output
buffer of a command is written before its completion is staged; an interrupt restarts the count of records and
sends the ring's vector (R495, R499, R504, R516, R517). -/
def Obligations.RecordsReachTheirRings : Prop :=
  (∀ (k : Nat) (r : Staged) (rest : List Staged) (s : State), takeStaged k s.dev.host.staged = some (r, rest) →
    s.ctx.ringOn k = true → (s.ring k).used < 2 ^ ringLog2 (s.ctx.ringCfg k) → s.dev.host.mastering = true →
    deadlinePassed s.time r = false → k < s.rings.length → ∃ t, exec (.ringRecordWrite k) s = .next t ∧
      t.ring k = { s.ring k with
        p := succ32 (s.ring k).p
        since := (s.ring k).since + 1
        entries := (s.ring k).entries ++ [((s.ring k).p, finishRecord r s.time.n s.dev.host.lost)] } ∧
      t.dev.host.staged = rest ∧ (∀ j, j ≠ k → t.ring j = s.ring j) ∧
      (k = 1 → t.dev.host.owed = s.dev.host.owed - 1) ∧ (k ≠ 1 → t.dev.host.owed = s.dev.host.owed) ∧
      t.time = s.time ∧ t.modes = s.modes ∧ t.nv = s.nv ∧ t.setup = s.setup ∧
      t.dev = { s.dev with host := t.dev.host }) ∧
  (∀ (k : Nat) (r : Staged) (rest : List Staged) (s : State), takeStaged k s.dev.host.staged = some (r, rest) →
    s.ctx.ringOn k = true → deadlinePassed s.time r = true → exec (.ringRecordWrite k) s = .next s) ∧
  (∀ (k : Nat) (rest : List Staged) (s : State), k ≠ 1 → s.ctx.ringOn k = true →
    takeExpired s.time k s.dev.host.staged = some rest →
    exec (.ringRecordDrop k) s = .next (({ s with dev := { s.dev with host := { s.dev.host with
      staged := rest
      lost := s.dev.host.lost || k == 2 } } }).setRing k
        { s.ring k with drop := min ((s.ring k).drop + 1) 65535 })) ∧
  (∀ s : State, exec (.ringRecordDrop 1) s = .next s) ∧
  (∀ (cidx : Nat) (w : OutWork) (s : State),
    s.dev.host.outs.find? (fun w => w.hdr.cidx = cidx) = some w → s.dev.host.mastering = true →
    exec (.commandOutputDone cidx false) s = .next { s with
      dev := ({ s.dev with host := { s.dev.host with
        outs := s.dev.host.outs.erase w,
        written := some (w.addr, w.bytes) } }).complete w.opcode w.hdr 0 0 none w.result }) ∧
  (∀ (k : Nat) (s : State), 1 ≤ k → k ≤ 5 → (s.ring k).since ≠ 0 → s.ctx.ringOn k = true →
    s.dev.host.mastering = true → s.setup.idxBase ≠ 0 →
    exec (.interruptDue k) s = .next (({ s with dev := { s.dev with host := { s.dev.host with
      idxBlock := indexBlock s.rings s.time.n
      sent := s.dev.host.sent ++ [(s.ctx.ringCfg k).field 8 6] } } }).setRing k { s.ring k with since := 0 }))

/-- While SETUP_LOCK is 0: a base half of a disabled ring is stored, ENTRIES_LOG2 that changes from 0 enables the
ring with both indices 0, a change of one nonzero size into another is not taken; the index-block address moves at
the write of its HI half and takes up the LO half written before, which moves nothing by itself; writes to BWL_PTR_CFG
and REEF_CFG, two registers without a row of their own, store their fields and no reserved bit (R495, R523, R525, R527). -/
def Obligations.SetupWritesAreStored : Prop :=
  (∀ (k : Nat) (v : Word) (s : State), s.setup.locked = false → k ≤ 5 → s.ctx.ringOn k = false →
    exec (.ringCfgWrite k 0 v) s =
      .next { s with setup := { s.setup with ringLo := s.setup.ringLo.set k (v &&& 0xFFFFF000#32) } } ∧
    exec (.ringCfgWrite k 1 v) s = .next { s with setup := { s.setup with ringHi := s.setup.ringHi.set k v } }) ∧
  (∀ (k : Nat) (v : Word) (s : State), s.setup.locked = false → k ≤ 5 → k < s.rings.length →
    k < s.setup.ringCfg.length → s.ctx.ringOn k = false → v.field 0 5 ≠ 0 →
    ∃ t, exec (.ringCfgWrite k 2 v) s = .next t ∧ t.ctx.ringOn k = true ∧ (t.ring k).p = 0 ∧ (t.ring k).c = 0 ∧
      (t.ring k).entries = [] ∧ (∀ j, j ≠ k → t.ring j = s.ring j) ∧
      t.setup = { s.setup with ringCfg := t.setup.ringCfg } ∧ t.time = s.time ∧ t.modes = s.modes ∧ t.nv = s.nv) ∧
  (∀ (k : Nat) (v : Word) (s t : State), s.ctx.ringOn k = true → v.field 0 5 ≠ 0 →
    exec (.ringCfgWrite k 2 v) s = .next t → ringLog2 (t.ctx.ringCfg k) = ringLog2 (s.ctx.ringCfg k)) ∧
  (∀ (v : Word) (s : State), s.setup.locked = false →
    exec (.registerWrite 0x1100 v) s = .next { s with setup := { s.setup with idxLo := v &&& 0xFFFFFFC0#32 } } ∧
    exec (.idxBaseHiWrite v) s = .next { s with setup := { s.setup with
      idxHi := v
      idxBase := v.toNat * 2 ^ 32 + s.setup.idxLo.toNat } }) ∧
  (∀ (v : Word) (s : State), s.setup.locked = false →
    exec (.registerWrite 0x4C v) s = .next { s with setup := { s.setup with ptrCfg := v &&& 0x001FFF1F#32 } } ∧
    exec (.registerWrite 0x5000 v) s = .next { s with setup := { s.setup with reefCfg := v &&& 0x00003FFF#32 } })

/-- Reads and clears: a read of BWL_UTC_LO returns the lower clock half and latches the upper (R296); a register
with cleared-by-read fields returns them and clears them (R524), here BWL_RST_STAT, DROP of a ring and the counts
of STOP_CNT; a write of BWL_HST_STAT clears DB_ERR where its bit 0 is 1 and keeps it where it is 0 (R15); an SMBus
read returns the register and clears nothing (R557); the JTAG codes of IDCODE and SAMPLE, and those of EXTEST, CLAMP
and HIGHZ in the test mode of TEST_N, are taken, and every other code acts as BYPASS (R558). The PCIe link: with
PERST_N high and outside the test mode it comes up; hot reset, link down and PERST_N low clear Bus Master Enable and
D3hot and take the link down, so that bus mastering stops; Bus Master Enable starts it on a link in D0, D3hot stops it;
no other state changes (R493, R552). -/
def Obligations.ReadsFlagsAndLinkEvents : Prop :=
  (∀ s : State, exec .utcLoRead s = .next { s with
    time := { s.time with shUtcHi := s.dev.clk.utc.getD 0 / 2 ^ 32 }
    dev := { s.dev with host := { s.dev.host with read := s.reg 0x9C } } }) ∧
  (∀ s : State, exec (.readClear 0x24) s = .next { s with dev := { s.dev with
    host := { s.dev.host with read := s.reg 0x24 }
    boot := { s.dev.boot with blkCnt := 0 } } }) ∧
  (∀ s : State, exec (.readClear 0x201C) s = .next { s with dev := { s.dev with
    host := { s.dev.host with read := s.reg 0x201C }
    stop := { s.dev.stop with raises := 0, merged := 0 } } }) ∧
  (∀ (k : Nat) (s : State), k < 6 → exec (.readClear (0x1014 + 0x20 * k)) s = .next
    (({ s with dev := { s.dev with host := { s.dev.host with read := s.reg (0x1014 + 0x20 * k) } } }).setRing k
      { s.ring k with drop := 0 })) ∧
  (∀ (v : Word) (s : State), exec (.w1cClear 0x110C v) s = .next { s with dev := { s.dev with
    host := { s.dev.host with dbErr := s.dev.host.dbErr && !v.getLsbD 0 } } }) ∧
  (∀ (off : Nat) (s : State), off < 2 ^ 24 → s.dev.boot.powered = true → exec (.i2cRead off) s =
    .next { s with dev := { s.dev with host := { s.dev.host with i2c := s.reg off } } }) ∧
  (∀ (code : Nat) (s : State), code < 256 → ∃ t, exec (.jtagInstruction code) s = .next t ∧
    t = { s with dev := { s.dev with host := { s.dev.host with jtag := t.dev.host.jtag } } } ∧
    ((code = 1 ∨ code = 2 ∨ (s.ident.testN = false ∧ (code = 0 ∨ code = 4 ∨ code = 5))) →
      t.dev.host.jtag = code) ∧
    (¬(code = 1 ∨ code = 2 ∨ (s.ident.testN = false ∧ (code = 0 ∨ code = 4 ∨ code = 5))) →
      t.dev.host.jtag = 0xFF)) ∧
  (∀ s : State, s.ident.testN = true → s.dev.host.perstLow = false → exec (.pcieLinkEvent .linkUp) s =
    .next { s with dev := { s.dev with host := { s.dev.host with linkUp := true, started := true } } }) ∧
  (∀ (e : PcieEvent) (s : State), e = .hotReset ∨ e = .linkDown ∨ e = .perstLow →
    ∃ t, exec (.pcieLinkEvent e) s = .next t ∧ t.dev.host.mastering = false ∧ t.dev.host.linkUp = false ∧
      t = { s with dev := { s.dev with host := { s.dev.host with
        bme := false, d3hot := false, linkUp := false, perstLow := t.dev.host.perstLow } } }) ∧
  (∀ s : State, s.dev.host.linkUp = true → s.dev.host.d3hot = false →
    ∃ t, exec (.pcieLinkEvent .bmeSet) s = .next t ∧ t.dev.host.mastering = true ∧
      t = { s with dev := { s.dev with host := { s.dev.host with bme := true } } }) ∧
  (∀ s : State, ∃ t, exec (.pcieLinkEvent .d3hotEnter) s = .next t ∧ t.dev.host.mastering = false ∧
      t = { s with dev := { s.dev with host := { s.dev.host with d3hot := true } } })


/-! ## Modes, clocks, plans and mutes -/

/-- MODE.SET: refused BUSY while a mode command waits and BAD_ARG for a MODE that Table MOD-1 does not know; for the
mode in force it completes OK and changes nothing; allowed by Tables MOD-1 and MOD-2 and by the lifecycle, it waits
for the Plan window of R39 and completes with its tick; denied by them, it completes with DENIED (R405 to R407). -/
def Obligations.ModeSetIsJudgedAndWaits : Prop :=
  (∀ (h : CmdHdr) (m : Nat) (t : Mode) (s : State), s.dev.qual.pend = none → modeField m = some t →
    t ≠ s.modes.mode → s.dev.modeDenied s.ctx t = false → s.dev.modeBusy s.ctx t = false →
    exec (.modeSet h m) s = .next (({ s with dev := { s.dev with qual := { s.dev.qual with
      pend := some { opcode := 0x0101, target := t, tick := s.ctx.effTick, tag := h.tag } } } }).answered 0x0101 h 0 0
        (some s.ctx.effTick) [])) ∧
  (∀ (h : CmdHdr) (m : Nat) (s : State), s.dev.qual.pend = none → modeField m = some s.modes.mode →
    exec (.modeSet h m) s = .next (s.answered 0x0101 h 0 0 none [])) ∧
  (∀ (h : CmdHdr) (m : Nat) (s : State), s.dev.qual.pend.isSome = true →
    exec (.modeSet h m) s = .next (s.denied 0x0101 h 2)) ∧
  (∀ (h : CmdHdr) (m : Nat) (s : State), s.dev.qual.pend = none → ¬(m ∈ [2, 3, 4, 5, 6, 7, 10]) →
    exec (.modeSet h m) s = .next (s.denied 0x0101 h 1)) ∧
  (∀ (h : CmdHdr) (m : Nat) (t : Mode) (s : State), s.dev.qual.pend = none → modeField m = some t →
    t ≠ s.modes.mode → s.dev.modeDenied s.ctx t = true → exec (.modeSet h m) s = .next (s.denied 0x0101 h 3))

/-- COIL.ENTER from STANDBY, SURVEY or a relay mode waits for its Plan window with its wake time, and COIL.WAKE in
COIL names the wake tick max(n + 1, e + 2); at T0 of that tick the wake begins, and the hawsers and the tiles power
up, the first eight of those that the member has (R420, R422, R426, R427). -/
def Obligations.CoilIsEnteredAndLeft : Prop :=
  (∀ (h : CmdHdr) (w : Nat) (s : State), s.modes.mode = .standby ∨ s.modes.mode = .survey ∨ isRelay s.modes.mode = true →
    w ≠ 1 → s.dev.qual.pend = none → s.dev.plan.pending = none → s.dev.book.load = none → s.dev.conv.syncPend = none →
    exec (.coilEnter h w) s = .next (({ s with dev := { s.dev with qual := { s.dev.qual with
      pend := some { opcode := 0x0102, target := .coil, tick := s.ctx.effTick, tag := h.tag }
      wakeIn := w } } }).answered 0x0102 h 0 0 (some s.ctx.effTick) [])) ∧
  (∀ (h : CmdHdr) (e : Nat) (s : State), s.modes.mode = .coil → s.dev.qual.pend = none →
    s.dev.qual.coilEntry = some e → s.dev.qual.wakeTick = none →
    exec (.coilWake h) s = .next (({ s with dev := { s.dev with qual := { s.dev.qual with
      pend := some { opcode := 0x0103, target := .coil, tick := laterTick (succ32 s.time.n) ((e + 2) % 2 ^ 32),
                     tag := h.tag } } } }).answered 0x0103 h 0 0
        (some (laterTick (succ32 s.time.n) ((e + 2) % 2 ^ 32))) [])) ∧
  (∀ s : State, s.time.running = true → s.time.window = .plan → s.modes.mode = .coil → s.modes.waking = false →
    s.dev.qual.wakes s.time.n = true →
    exec .coilWakeStart s = .next { s with
      modes := { s.modes with waking := true }
      dev := { s.dev with
        conv := { s.dev.conv with
          power := (List.range 16).map fun t => decide (t < 8) && decide (t < Config.tiles s.ident.member) }
        qual := { s.dev.qual with pend := none, wakeTick := some s.time.n }
        mem := { s.dev.mem with gated := false } } })

/-- The device clock: TIME.SET sets it at once and raises TIME_FLOOR to it, with BAD_ARG for 0 and DENIED in RESET
and LATCHED and below TIME_FLOOR; it advances by a second per 2,000 ticks; every 3,600 s TIME_FLOOR rises to it
(R265, R266). -/
def Obligations.ClockIsSetAndAdvances : Prop :=
  (∀ (h : CmdHdr) (x : Nat) (s : State), x ≠ 0 → s.modes.mode ≠ .reset → s.modes.mode ≠ .latched →
    s.nv.timeFloor ≤ x → exec (.timeSet h x) s = .next (({ s with
      nv := { s.nv with timeFloor := x }
      dev := { s.dev with clk := { utc := some x, ticks := 0, sinceFloor := 0 } } }).answered 0x0104 h 0 0 none [])) ∧
  (∀ (h : CmdHdr) (s : State), exec (.timeSet h 0) s = .next (s.denied 0x0104 h 1)) ∧
  (∀ (h : CmdHdr) (x : Nat) (s : State), x ≠ 0 →
    (s.modes.mode = .reset ∨ s.modes.mode = .latched ∨ x < s.nv.timeFloor) →
    exec (.timeSet h x) s = .next (s.denied 0x0104 h 3)) ∧
  (∀ (u : Nat) (s : State), s.dev.clk.utc = some u → 2000 ≤ s.dev.clk.ticks →
    ∃ t, exec .clockSecond s = .next t ∧ t.dev.clk.utc = some ((u + 1) % 2 ^ 64) ∧
      t.dev.clk.ticks = s.dev.clk.ticks - 2000 ∧ t.dev.clk.sinceFloor = s.dev.clk.sinceFloor + 1 ∧
      s.SameOutside t ∧ t.dev = { s.dev with clk := t.dev.clk, plan := t.dev.plan, host := t.dev.host }) ∧
  (∀ (u : Nat) (s : State), s.dev.clk.utc = some u → 3600 ≤ s.dev.clk.sinceFloor →
    exec .timeFloorRaise s = .next { s with
      nv := { s.nv with timeFloor := max s.nv.timeFloor u }
      dev := { s.dev with clk := { s.dev.clk with sinceFloor := 0 } } })

/-- PLAN.LOAD: a plan that passes the checks of Table PRT-3 waits for the Plan window of R39, and completes with SEG
0xFF; a second one before its commit is BUSY with DETAIL 1; an image that fails a check completes with that check's
status, DETAIL and SEG and changes nothing; and what passes is signed by the key of its slot, at or above the slot's
sequence floor, and valid at the clock (R271, R272). -/
def Obligations.PlanLoadIsCheckedAndWaits : Prop :=
  (∀ (h : CmdHdr) (b : InBuf) (p : Plan) (s : State), s.planDecision b = .good p →
    exec (.planLoad h b) s = .next (({ s with dev := { s.dev with plan := { s.dev.plan with
      pending := some { plan := p, tick := s.ctx.effTick } } } }).answered 0x0201 h 0 0 (some s.ctx.effTick) [0xFF#8])) ∧
  (∀ (h : CmdHdr) (b : InBuf) (s : State), modeAccepts s.modes.mode 0x0201 = true → s.dev.plan.pending.isSome = true →
    exec (.planLoad h b) s = .next (s.answered 0x0201 h 2 1 none [0xFF#8])) ∧
  (∀ (h : CmdHdr) (b : InBuf) (st det seg : Nat) (s : State), s.planDecision b = .bad st det seg →
    exec (.planLoad h b) s = .next (s.answered 0x0201 h st det none (leBytes 1 seg))) ∧
  (∀ (b : InBuf) (p : Plan) (s : State), s.planDecision b = .good p →
    (∃ key, s.nv.key p.slot = some key ∧ planSigned key (b.data.take b.len) = true) ∧
      s.nv.seqFloors.getD p.slot 0 ≤ p.seq ∧ planValidAt s.nv s.dev.clk.utc p = true)

/-- MUTE.SET and MUTE.CLR of a beam yarn, a loop, a strand or the device, each in range, wait for their Plan window with
the scope of Table PRT-7; MUTE.CLR of level 5 is DENIED, and MUTE.SET of a level that there is not BAD_ARG. NET.IND in
RELAY_NETWORK, with its first slot 3 to 2,048 ticks ahead and room for it, is stored with its first tick and its length,
and completes with that tick; fewer than 3 ticks ahead it completes with LATE and counts in NI_LATE. On a running grid
UL.SCHED waits for the first tick, from the one of R39 on, that begins a frame whose SFN is a multiple of its period, and
completes with it (R276, R282, R286, R287, R367). -/
def Obligations.MutesAndIndicationsAreAccepted : Prop :=
  (∀ (h : CmdHdr) (a : MuteArgs) (x : Nat) (s : State),
    ((a.level = 1 ∧ byidBeam a.id < Config.serviceBeams s.ident.member ∧ x = a.id % 2 ^ 15) ∨
      (a.level = 2 ∧ a.bg ≤ 7 ∧ a.dir ≤ 1 ∧ x = loopScope a.bg a.dir) ∨
      (a.level = 3 ∧ a.id < s.ctx.strands ∧ x = a.id) ∨ ((a.level = 4 ∨ a.level = 5) ∧ x = 0)) →
    modeAccepts s.modes.mode 0x0202 = true →
    exec (.muteSet h a) s = .next (s.accepted 0x0202 h (.hostMute a.level x true))) ∧
  (∀ (h : CmdHdr) (a : MuteArgs) (x : Nat) (s : State),
    ((a.level = 1 ∧ byidBeam a.id < Config.serviceBeams s.ident.member ∧ x = a.id % 2 ^ 15) ∨
      (a.level = 2 ∧ a.bg ≤ 7 ∧ a.dir ≤ 1 ∧ x = loopScope a.bg a.dir) ∨
      (a.level = 3 ∧ a.id < s.ctx.strands ∧ x = a.id) ∨ (a.level = 4 ∧ x = 0)) →
    modeAccepts s.modes.mode 0x0203 = true →
    exec (.muteClr h a) s = .next (s.accepted 0x0203 h (.hostMute a.level x false))) ∧
  (∀ (h : CmdHdr) (a : MuteArgs) (s : State), a.level = 5 → exec (.muteClr h a) s = .next (s.denied 0x0203 h 3)) ∧
  (∀ (h : CmdHdr) (a : MuteArgs) (s : State), a.level = 0 ∨ 5 < a.level →
    exec (.muteSet h a) s = .next (s.denied 0x0202 h 1)) ∧
  (∀ (h : CmdHdr) (a : NetIndArgs) (s : State), netIndBad a = false → networkRules s.modes = true →
    2 < niDistance s.ctx.tih a.sfn a.scs a.slot → niDistance s.ctx.tih a.sfn a.scs a.slot ≤ 2048 →
    (a.kind = 1 → (s.dev.beams.mapped a.bg a.beamK).isSome = true) → s.dev.prt.ni.length < 256 →
    ∃ first, first = ((s.time.n : Int) + 2 ^ 32 + niDistance s.ctx.tih a.sfn a.scs a.slot).toNat % 2 ^ 32 ∧
      exec (.netInd h a) s = .next (({ s with dev := { s.dev with prt := { s.dev.prt with
        ni := s.dev.prt.ni ++ [({ kind := a.kind, bg := a.bg, k := a.beamK, on := a.on, first := first,
                                  len := if a.scs = 0 then 2 * a.nslots else a.nslots,
                                  order := s.dev.prt.niNext } : NetInd)]
        niNext := s.dev.prt.niNext + 1 } } }).answered 0x0204 h 0 0 (some first) [])) ∧
  (∀ (h : CmdHdr) (a : NetIndArgs) (s : State), netIndBad a = false → networkRules s.modes = true →
    niDistance s.ctx.tih a.sfn a.scs a.slot ≤ 2 →
    (a.kind = 1 → (s.dev.beams.mapped a.bg a.beamK).isSome = true) →
    exec (.netInd h a) s = .next (({ s with dev := { s.dev with prt := { s.dev.prt with
      niLate := min (s.dev.prt.niLate + 1) 255 } } }).denied 0x0204 h 4)) ∧
  (∀ (h : CmdHdr) (bg p k n : Nat) (b : InBuf) (q : Pend) (s : State), bg ≤ 7 → p ≤ 10 →
    modeAccepts s.modes.mode 0x0205 = true → InBufGood b ((20 * 2 ^ p + 7) / 8) → s.time.running = true →
    k < 20 * 2 ^ p → (s.ctx.tih + sub32 s.ctx.effTick s.time.n + k) % (20 * 2 ^ p) = 0 →
    n = (s.ctx.effTick + k) % 2 ^ 32 →
    q = { tick := n, opcode := 0x0205, tag := h.tag,
          what := .sched true { bg := bg, log2 := p, bits := schedBits p b.data } s.ctx.effTick } →
    exec (.ulSched h bg 1 p b) s = .next (({ s with
      dev := { s.dev with pend := s.dev.pend ++ [q] } }).answered 0x0205 h 0 0 (some n) [])) ∧
  (∀ (h : CmdHdr) (bg p k n : Nat) (b : InBuf) (q : Pend) (s : State), bg ≤ 7 → p ≤ 10 →
    modeAccepts s.modes.mode 0x0205 = true → s.time.running = true →
    k < 20 * 2 ^ p → (s.ctx.tih + sub32 s.ctx.effTick s.time.n + k) % (20 * 2 ^ p) = 0 →
    n = (s.ctx.effTick + k) % 2 ^ 32 →
    q = { tick := n, opcode := 0x0205, tag := h.tag, what := .sched false { bg := bg, log2 := p, bits := [] } s.ctx.effTick } →
    exec (.ulSched h bg 2 p b) s = .next (({ s with
      dev := { s.dev with pend := s.dev.pend ++ [q] } }).answered 0x0205 h 0 0 (some n) []))

/-- MUTE_N low holds the device mute of trigger 14 and, with LYD_CLK running, queues KILL on every enabled Lanyard port;
in RESET only the pin's level is taken. High again, the count of whole high ticks starts anew. A Plan window releases
the mutes whose rule is met and no others, and leaves every mode but MUTED as it is (R277, R278, R281, R550). -/
def Obligations.MuteContactAndRelease : Prop :=
  (∀ (sub : Nat) (s : State), s.modes.mode = .reset → exec (.muteNFall sub) s = .next { s with dev := { s.dev with
    prt := { s.dev.prt with muteNLow := true, muteNHigh := 0, muteNClean := false } } }) ∧
  (∀ (sub : Nat) (s : State), s.modes.mode ≠ .reset → ∃ t, exec (.muteNFall sub) s = .next t ∧
    t.dev.prt.muteNLow = true ∧ t.dev.holds 14 4 0 = true ∧ t.dev.level4 = true ∧
    (s.dev.lyd.clk = true → ∀ p, p ∈ s.dev.ports s.ctx →
      plainFrame p (lydFrame 0 opKill 0 0 0 true) ∈ t.dev.lyd.queue) ∧ s.SameOutside t) ∧
  (∀ s : State, exec .muteNRise s = .next { s with dev := { s.dev with
    prt := { s.dev.prt with muteNLow := false, muteNHigh := 0, muteNClean := false } } }) ∧
  (∀ s : State, s.time.running = true → s.time.window = .plan → ∃ t, exec .muteRelease s = .next t ∧
    (∀ m, m ∈ t.dev.prt.mutes ↔ m ∈ s.dev.prt.mutes ∧ s.dev.released s.ctx m = false) ∧
    t.time = s.time ∧ t.setup = s.setup ∧ t.nv = s.nv ∧ t.rings = s.rings ∧
    (s.modes.mode ≠ .muted → t.modes = s.modes))

/-- Donor loss: 40 ticks without Painter sync declare it, and when the hold ends the device mute of trigger 9 holds;
a committed plan that is no longer valid imposes the device mute of trigger 11; both bring HANK and the relay modes
to MUTED (R274, R280, R283). -/
def Obligations.LossAndExpiryMute : Prop :=
  (∀ s : State, s.time.running = true → s.time.window = .plan → donorLossMode s.modes.mode = true →
    s.dev.use.ptrCfg.field 0 2 ≠ 2 → 40 ≤ s.dev.prt.noSync → s.dev.prt.declared = none →
    s.dev.holds 9 4 0 = false → exec .donorLoss s = .next { s with dev := { s.dev with
      prt := { s.dev.prt with declared := some s.time.n } } }) ∧
  (∀ (t0 : Nat) (s : State), s.time.running = true → s.time.window = .plan → relays s.modes.mode = true →
    s.dev.prt.declared = some t0 → min (s.dev.use.prtCfg.field 0 8) 200 ≤ sub32 s.time.n t0 →
    s.dev.use.ptrCfg.field 0 2 ≠ 2 → s.dev.level5 = false → ∃ t, exec .donorHoldExpiry s = .next t ∧ t.dev.holds 9 4 0 = true ∧
      t.dev.prt.declared = none ∧ t.modes.mode = .muted ∧ t.modes.ret = some s.modes.mode ∧ t.time = s.time ∧
      t.setup = s.setup ∧ t.nv = s.nv ∧ t.rings = s.rings) ∧
  (∀ s : State, s.time.running = true → s.time.window = .plan → relays s.modes.mode = true →
    s.dev.plan.committed.isSome = true → s.dev.plan.valid = false → s.dev.planExpired = false →
    s.dev.level5 = false → ∃ t, exec .planExpiry s = .next t ∧ t.dev.planExpired = true ∧ t.modes.mode = .muted ∧
      t.modes.ret = some s.modes.mode ∧ t.time = s.time ∧ t.setup = s.setup ∧ t.nv = s.nv ∧ t.rings = s.rings)


/-! ## Converters, front ends, beams and cancellers -/

/-- The synthesizer's lock starts the tick grid with tick 0 in its Plan window and powers up the two tiles of wave 0; with
the grid running a lock only ends holdover; the loss of the lock leaves it unlocked and puts trigger 10 before the next
Plan window (R79, R80, R90, R416). SYNC: outside a relay mode the command and an edge on SYNC_IN register one SYNC for tick
n + 2, and a second command keeps the first's tick; in a relay mode an edge counts in SYNC_IGN; at T0 of its tick the
phases and the sample grid start at that instant, no sample is kept, and the output of every running yarn is unsettled
from sample 0 on; the master's message carries the tick to a slave (R86 to R89, R133). -/
def Obligations.SynthesizerAndSync : Prop :=
  (∀ s : State, s.modes.mode ≠ .reset → s.dev.boot.powered = true → s.time.running = false →
    exec .synthLock s = .next { s with
      time := { s.time with n := 0, tif := 0, sfn := 0, hfc := 0, running := true, window := .plan, sub := 0 }
      dev := { s.dev with conv := { s.dev.conv with
        refOk := true
        locked := true
        power := (List.range 16).map fun t => decide (t < 2) && decide (t < Config.tiles s.ident.member) } } }) ∧
  (∀ s : State, s.modes.mode ≠ .reset → s.dev.boot.powered = true → s.time.running = true →
    exec .synthLock s = .next { s with
      dev := { s.dev with conv := { s.dev.conv with refOk := true, locked := true } } }) ∧
  (∀ (lost : Bool) (s : State), s.modes.mode ≠ .reset → s.dev.conv.locked = true → s.dev.holds 10 4 0 = false →
    ∃ t, exec (.synth lost) s = .next t ∧ t.dev.conv.locked = false ∧
      t.dev.conv.refOk = (s.dev.conv.refOk && !lost) ∧
      (∃ w, w ∈ t.dev.prt.due ∧ w.trig = 10 ∧ w.level = 4 ∧ w.scope = 0) ∧ s.SameOutside t ∧
      t.dev = { s.dev with conv := t.dev.conv, prt := t.dev.prt }) ∧
  (∀ (h : CmdHdr) (s : State), modeAccepts s.modes.mode 0x0105 = true → s.dev.isSlave = false → s.dev.qual.bars = false →
    s.dev.conv.syncPend = none → exec (.sync h) s = .next (({ s with dev := { s.dev with
      conv := { s.dev.conv with syncPend := some ((s.time.n + 2) % 2 ^ 32) }
      splice := { s.dev.splice with syncSent := some ((s.time.n + 2) % 2 ^ 32) } } }).answered 0x0105 h 0 0
        (some ((s.time.n + 2) % 2 ^ 32)) [])) ∧
  (∀ (h : CmdHdr) (n : Nat) (s : State), modeAccepts s.modes.mode 0x0105 = true → s.dev.isSlave = false →
    s.dev.qual.bars = false → s.dev.conv.syncPend = some n →
    exec (.sync h) s = .next (s.answered 0x0105 h 0 0 (some n) [])) ∧
  (∀ s : State, s.modes.mode = .standby ∨ s.modes.mode = .survey ∨ s.modes.mode = .maintenance →
    s.dev.isSlave = false → s.dev.qual.bars = false → s.dev.conv.syncPend = none →
    exec .syncInEdge s = .next { s with dev := { s.dev with
      conv := { s.dev.conv with syncPend := some ((s.time.n + 2) % 2 ^ 32) }
      splice := { s.dev.splice with syncSent := some ((s.time.n + 2) % 2 ^ 32) } } }) ∧
  (∀ s : State, isRelay s.modes.mode = true → ∃ t, exec .syncInEdge s = .next t ∧
    t.dev.conv.syncIgn = min (s.dev.conv.syncIgn + 1) 255 ∧ t.dev.conv.syncPend = s.dev.conv.syncPend ∧
    s.SameOutside t) ∧
  (∀ s : State, s.time.running = true → s.time.window = .plan → s.dev.conv.syncPend = some s.time.n →
    ∃ t, exec .syncInstant s = .next t ∧ t.time = { s.time with syncConv := s.time.conv } ∧
      t.dev.conv.syncPend = none ∧ t.dev.conv.lastSync = s.time.n ∧ t.dev.tapes = [] ∧
      (∀ e, e ∈ s.dev.runningYarns s.dev.reef.plan (fun _ => true) →
        (e.1, unsettled e.2.1, firstSample (indexRho e.2.1) 0) ∈ t.dev.conv.uns) ∧
      t.modes = s.modes ∧ t.setup = s.setup ∧ t.nv = s.nv ∧ t.rings = s.rings ∧
      t.dev = { s.dev with conv := t.dev.conv, tapes := [], can := t.dev.can, ldl := t.dev.ldl }) ∧
  (∀ (n : Nat) (s : State), s.dev.isSlave = true → exec (.spliceSyncMessage n) s = .next { s with dev := { s.dev with
    conv := { s.dev.conv with syncPend := some (n % 2 ^ 32), calSyncDue := false } } })

/-- Calibration: in MAINTENANCE a CAL.RUN begins on its strands and owes its completion; a start-up wave that ends leaves
each of its 16 strands with RX_OK and TX_OK of its result, failed unless both hold, and its store entry valid with the
result's temperature or not valid, and the next wave begins; the end of the last wave ends calibration; a group of a
CAL.RUN that ends does the same for its strands and counts them; and a CAL.RUN that ends does it for the strands it has
left, asks a SYNC of a module without peers for the next T0 unless one is pending, and completes with the SYNC's tick and
the strands calibrated and failed (R90, R93, R94, R483, R511). -/
def Obligations.CalibrationRunsAndEnds : Prop :=
  (∀ (h : CmdHdr) (first count : Nat) (s : State), count ≠ 0 → first + count ≤ s.ctx.strands →
    s.modes.mode = .maintenance →
    s.dev.conv.calRun = none → exec (.calRun h first count) s = .next { s with dev := { s.dev with
      conv := { s.dev.conv with
        calRun := some ({ hdr := h, first := first, count := count, good := 0, failed := 0 } : CalRunSt) }
      host := { s.dev.host with owed := s.dev.host.owed + 1 } } }) ∧
  (∀ (res : List StrandCal) (s : State), s.modes.mode = .boot → s.time.running = true → s.dev.boot.calDone = false →
    s.dev.conv.calRun = none → s.dev.conv.strands.length = 128 → s.nv.calStore.length = 128 → s.dev.conv.wave < 8 →
    ∃ t, exec (.calWaveDone res) s = .next t ∧
      (∀ g, g / 16 = s.dev.conv.wave → t.Calibrated res g) ∧
      (∀ g, g / 16 ≠ s.dev.conv.wave → t.dev.strand g = s.dev.strand g ∧
        t.nv.calStore.getD g default = s.nv.calStore.getD g default) ∧
      (s.dev.conv.wave + 1 < s.ctx.hawsers → t.dev.conv.wave = s.dev.conv.wave + 1 ∧ t.dev.boot.calDone = false) ∧
      (s.ctx.hawsers ≤ s.dev.conv.wave + 1 → t.dev.boot.calDone = true) ∧
      t.time = s.time ∧ t.modes = s.modes ∧ t.setup = s.setup ∧ t.rings = s.rings) ∧
  (∀ (w : CalRunSt) (res : List StrandCal) (s : State), s.dev.conv.calRun = some w →
    s.dev.conv.strands.length = 128 → s.nv.calStore.length = 128 → w.first + w.count ≤ 128 →
    ∃ t, exec (.calWaveDone res) s = .next t ∧ (∀ g, g ∈ w.group → t.Calibrated res g) ∧
      t.dev.conv.calRun = some { w with
        good := w.good + w.group.countP (fun g => strandOk (calResult res g))
        failed := w.failed + (w.group.length - w.group.countP (fun g => strandOk (calResult res g))) } ∧
      t.time = s.time ∧ t.modes = s.modes ∧ t.setup = s.setup ∧ t.rings = s.rings) ∧
  (∀ (w : CalRunSt) (res : List StrandCal) (good failed tick : Nat) (s : State), s.dev.conv.calRun = some w →
    s.dev.conv.strands.length = 128 → s.nv.calStore.length = 128 → w.first + w.count ≤ 128 →
    s.dev.isSlave = false → s.dev.splice.peers = [] →
    good = w.good + w.rest.countP (fun g => strandOk (calResult res g)) →
    failed = w.failed + (w.rest.length - w.rest.countP fun g => strandOk (calResult res g)) →
    tick = s.dev.conv.syncPend.getD ((s.time.n + 1) % 2 ^ 32) →
    ∃ t, exec (.calRunDone res) s = .next t ∧ (∀ g, g ∈ w.rest → t.Calibrated res g) ∧ t.dev.conv.calRun = none ∧
      t.dev.conv.syncPend = some tick ∧
      (∃ r, r ∈ t.dev.host.staged ∧ r.ring = 1 ∧
        r.bytes = completionBytes 0x0106 0 0 w.hdr.tag w.hdr.cidx tick (leBytes 2 good ++ leBytes 2 failed)) ∧
      t.time = s.time ∧ t.modes = s.modes ∧ t.setup = s.setup ∧ t.rings = s.rings)

/-- TX.TEST in MAINTENANCE: a start is admitted with one measurement yarn per strand and begins at the Plan window of
R39; KIND 0 brings forward to that window the stop of every running test that would stop later; a test whose stop has
come ends (R415). -/
def Obligations.TxTestsStartAndStop : Prop :=
  (∀ (h : CmdHdr) (a : TxTestArgs) (e : Dev) (s : State), a.kind ≠ 0 → txTestBad s.ctx a = false →
    s.modes.mode = .maintenance → s.dev.txTestDenied a = false →
    (∀ g, g ∈ testStrands a → ∀ x, x ∈ s.dev.conv.tests → x.g = g → x.ended = true) →
    s.dev.fetched.admitAll (testYarns s.ctx.effTick a) = some e →
    exec (.txTest h a) s = .next { s with dev := (e.startTests a s.ctx.effTick).okAt 0x0107 h s.ctx.effTick }) ∧
  (∀ (h : CmdHdr) (a : TxTestArgs) (s : State), a.kind = 0 → s.modes.mode = .maintenance →
    exec (.txTest h a) s = .next (({ s with dev := { s.dev with conv := { s.dev.conv with
      tests := s.dev.conv.tests.map fun x : TxTest =>
        if 0 < dist32 x.stop s.ctx.effTick then { x with stop := s.ctx.effTick } else x } } }).answered 0x0107 h 0 0
        (some s.ctx.effTick) [])) ∧
  (∀ s : State, exec .txTestEnd s = .next { s with dev := { s.dev with conv := { s.dev.conv with
    tests := s.dev.conv.tests.map fun x : TxTest => if 0 ≤ dist32 s.time.n x.stop then { x with ended := true } else x } } })

/-- FE.LOAD replaces the tables of the strands its blocks name and keeps the others; YARN.MAP writes the map entry of
each yarn of its range, in rising order (R114, R144). -/
def Obligations.FrontEndTablesAndYarnMap : Prop :=
  (∀ (h : CmdHdr) (nblk : Nat) (b : InBuf) (ns : List FeNode) (s : State), nblk ≠ 0 → InBufGood b 1 →
    feNodesOf s.ctx.strands nblk (b.data.take b.len) = some ns → (ns.map (·.g)).Nodup →
    modeAccepts s.modes.mode 0x0301 = true → exec (.feLoad h nblk b) s = .next (({ s with dev := { s.dev with
      lyd := { s.dev.lyd with fe := (s.dev.lyd.fe.filter fun f : FeNode => ns.all fun m : FeNode => m.g != f.g) ++ ns } } }).answered
        0x0301 h 0 0 none [])) ∧
  (∀ (h : CmdHdr) (first count : Nat) (o : OutBuf) (s : State), OutBufGood o → count ≠ 0 →
    first + count ≤ Config.yarns s.ident.member → modeAccepts s.modes.mode 0x0302 = true → 16 * count ≤ o.len →
    exec (.yarnMap h first count o) s = .next (s.outputs 0x0302 h o.addr
      ((List.range count).flatMap fun i => s.dev.fetched.mapEntry (first + i)) (leBytes 2 count)))

/-- The Lanyard bus: in BOOT, calibration done, the probed nodes that answer are present and every other one absent;
every 2,000 ticks the absent ones are sent RD of register 0x00, and those that answer join from the next tick; a frame
that fits a free slot goes out in it once; an RSP that agrees with what was commanded clears the miss and counts as good;
for a missing one POLL is queued again ahead of every other frame, and a second one in a row loses the node with trigger 8
(R99, R107 to R109). -/
def Obligations.LanyardNodesAreSupervised : Prop :=
  (∀ (ans : List NodeAnswer) (s : State), s.modes.mode = .boot → s.dev.boot.calDone = true → s.dev.lyd.clk = true →
    s.dev.lyd.discovered = false → ∃ t, exec (.lanyardDiscovery ans) s = .next t ∧ t.dev.lyd.discovered = true ∧
      (∀ g, g < 128 → (t.dev.node g).present = (decide (g ∈ s.dev.probed s.ctx) && ans.any fun a => a.g == g)) ∧
      s.SameOutside t ∧ t.dev = { s.dev with lyd := t.dev.lyd, boot := t.dev.boot }) ∧
  (∀ (ans : List NodeAnswer) (s : State), s.dev.lyd.clk = true → s.dev.lyd.discovered = true → s.time.n % 2000 = 0 →
    s.time.window = .run → ∃ t, exec (.lanyardRediscovery ans) s = .next t ∧
      (∀ g, g < 128 → (t.dev.node g).present = (s.dev.node g).present ∧
        (g ∈ s.dev.probed s.ctx → (s.dev.node g).present = false → (ans.any fun a => a.g == g) = true →
          (t.dev.node g).joining = true)) ∧
      (∀ g, g ∈ s.dev.probed s.ctx → (s.dev.node g).present = false →
        plainFrame (portOf g) (lydFrame (g % 8) opRd 0 0 0 false) ∈ t.dev.lyd.queue) ∧
      s.SameOutside t ∧ t.dev = { s.dev with lyd := t.dev.lyd }) ∧
  (∀ (p k : Nat) (q : QFrame) (rest : List QFrame) (s : State), s.dev.lyd.clk = true → s.dev.portOn s.ctx p = true →
    s.slotFree p k = true → takeFrame p k s.dev.lyd.queue = some (q, rest) →
    exec (.lanyardFrameSend ⟨p, k⟩) s = .next { s with dev := { s.dev with lyd := { s.dev.lyd with
      queue := rest
      last := s.dev.lyd.last.set p (q.inSlot k)
      nextSlot := s.dev.lyd.nextSlot.set p (k + slotsTaken (q.inSlot k)) } } }) ∧
  (∀ (a : RspArgs) (pa tr lna : Nat) (s : State), s.dev.lyd.clk = true → a.g < s.ctx.strands → (s.dev.node a.g).present = true →
    a.g < s.dev.lyd.nodes.length →
    pa = a.status % 16 → tr = a.status / 16 % 16 →
    (s.dev.node a.g).commandedAt (s.dev.lydEdge s.ctx (10000 * (a.sub : Int))) = (pa, tr, lna) →
    a.status / 256 % 16 = 0 → maskBit a.status 13 = false →
    (a.status % 16 = 0 ∨ ∀ m, m ∈ s.dev.prt.mutes → m.level < 4) →
    ∃ t, exec (.lanyardRsp a) s = .next t ∧ (t.dev.node a.g).miss = 0 ∧
      (t.dev.node a.g).good = (s.dev.node a.g).good + 1 ∧ s.SameOutside t ∧
      t.dev = { s.dev with lyd := t.dev.lyd, prt := t.dev.prt }) ∧
  (∀ (g : Nat) (crc : Bool) (s : State), s.dev.lyd.clk = true → g < s.ctx.strands → (s.dev.node g).present = true →
    g < s.dev.lyd.nodes.length → (s.dev.node g).miss = 0 → ∃ t, exec (.lanyardRspMissing g crc) s = .next t ∧
      (t.dev.node g).miss = 1 ∧
      t.dev.lyd.queue = plainFrame (portOf g) (lydFrame (g % 8) opPoll 0 0 0 false) :: s.dev.lyd.queue ∧
      t.dev.lyd.crcErr = (if crc then min (s.dev.lyd.crcErr + 1) 65535 else s.dev.lyd.crcErr) ∧
      s.SameOutside t ∧ t.dev = { s.dev with lyd := t.dev.lyd }) ∧
  (∀ (g : Nat) (crc : Bool) (s : State), s.dev.lyd.clk = true → g < s.ctx.strands → (s.dev.node g).present = true →
    g < s.dev.lyd.nodes.length → (s.dev.node g).miss ≠ 0 → s.dev.holds 8 3 g = false →
    ∃ t, exec (.lanyardRspMissing g crc) s = .next t ∧ (t.dev.node g).miss = 0 ∧ (t.dev.node g).good = 0 ∧
      (∃ w, w ∈ t.dev.prt.due ∧ w.trig = 8 ∧ w.level = 3 ∧ w.scope = g) ∧ s.SameOutside t ∧
      t.dev = { s.dev with lyd := t.dev.lyd, prt := t.dev.prt })

/-- A TDD boundary, at which one direction of a segment ends at E and the other begins at B at the front end of a strand:
a path that serves both and leaves transmit steps through PA off at E, the T/R switch PA_OFF later and LNA on with the gain
state of GAIN.SET the switch's settling after that; one that leaves receive through LNA off at E and, not before 100 ns
after E, the T/R switch and then, where the PA is allowed, PA on, which is to be settled at B. The direction that begins
counts as late where its front end has not settled by B. A boundary that the committed plan does not give the strand's
path steps nothing (R59, R110 to R112). -/
def Obligations.TddBoundariesStepTheirPaths : Prop :=
  (∀ (a : SwitchArgs) (seg : Seg) (p : FePath) (dir e b : Nat) (E B : Int) (s : State),
    s.switchOf a = some (seg, p, dir, e, b) → s.dev.lyd.clk = true → dir ≤ 1 → s.dev.side a.g = txSide dir →
    p.serves (serveDir (s.dev.side a.g) dir) = true → p.serves (serveDir (s.dev.side a.g) (1 - dir)) = true →
    E = seg.edgePs p (s.dev.side a.g) dir e → B = seg.edgePs p (s.dev.side a.g) (1 - dir) b →
    ∃ t, exec (.tddSwitch a) s = .next t ∧
      t.dev.lyd.steps = [{ op := opPa, data := 0, ps := E }, { op := opTrx, data := 0, ps := E + 1000 * p.paOff },
        { op := opLna, data := 4 + (s.dev.bel.set seg.bg (if s.dev.side a.g = 1 then 0 else 1)).lna,
          ps := E + 1000 * p.paOff + 1000 * p.swSettle }] ∧
      t.dev.lyd.lateSw = (if B < E + 1000 * p.paOff + 1000 * p.swSettle + 1000 * p.lnaSettle then
        min (s.dev.lyd.lateSw + 1) 65535 else s.dev.lyd.lateSw) ∧
      s.SameOutside t ∧ t.dev = { s.dev with lyd := t.dev.lyd }) ∧
  (∀ (a : SwitchArgs) (seg : Seg) (p : FePath) (dir e b : Nat) (E B T : Int) (s : State),
    s.switchOf a = some (seg, p, dir, e, b) → s.dev.lyd.clk = true → dir ≤ 1 → s.dev.side a.g ≠ txSide dir →
    p.serves (serveDir (s.dev.side a.g) dir) = true → p.serves (serveDir (s.dev.side a.g) (1 - dir)) = true →
    E = seg.edgePs p (s.dev.side a.g) dir e → B = seg.edgePs p (s.dev.side a.g) (1 - dir) b →
    T = max (E + 100000) (B - 1000 * p.paOn - 1000 * p.swSettle) →
    ∃ t, exec (.tddSwitch a) s = .next t ∧
      t.dev.lyd.steps = [{ op := opLna, data := 0, ps := E }, { op := opTrx, data := 1, ps := T }] ++
        (if maskBit (s.dev.tddAllowed s.modes.mode a.g) a.path then
          [({ op := opPa, data := 1, ps := T + 1000 * p.swSettle } : SwitchStep)] else []) ∧
      t.dev.lyd.lateSw = (if B < T + 1000 * p.swSettle + 1000 * p.paOn then
        min (s.dev.lyd.lateSw + 1) 65535 else s.dev.lyd.lateSw) ∧
      s.SameOutside t ∧ t.dev = { s.dev with lyd := t.dev.lyd }) ∧
  (∀ (a : SwitchArgs) (s : State), s.switchOf a = none → exec (.tddSwitch a) s = .next s) ∧
  (∀ (a : SwitchArgs) (s : State), s.dev.side a.g = 0 → exec (.tddSwitch a) s = .next s)

/-- BEAM.SET, CANC.SET and TRC.SCAN: a vector, a codebook, a count or an NCR entry in range and a binding that R180
allows wait for their Plan window; the watch list and the full search are taken at once (R157, R179, R214). -/
def Obligations.BeamAndCancellerCommands : Prop :=
  (∀ (h : CmdHdr) (a : BeamSetArgs) (b : InBuf) (s : State), beamBad s.ident.member s.dev a = false →
    (beamBytes a = 0 ∨ InBufGood b (beamBytes a)) →
    (∀ v, v ∈ beamVectors a (b.data.take b.len) →
      vecBad s.dev.plan.loaded (if a.target = 2 then 1 else 2) v = false) →
    modeAccepts s.modes.mode 0x0303 = true →
    exec (.beamSet h a b) s = .next (s.accepted 0x0303 h (.beam a (beamVectors a (b.data.take b.len))))) ∧
  (∀ (h : CmdHdr) (a : CancArgs) (s : State), s.dev.fetched.cancBad s.ctx a = false →
    modeAccepts s.modes.mode 0x0305 = true → (a.vkind ≠ 0 → s.dev.importsOver a = false) →
    exec (.cancSet h a) s = .next (({ s with dev := { s.dev with
      free := if a.vkind ≠ 0 ∧ importsOf a ≠ [] then s.dev.free + 1 else s.dev.free } }).accepted 0x0305 h (.canc a (s.dev.victimRho (victim a))))) ∧
  (∀ (h : CmdHdr) (all nids : Nat) (b : InBuf) (s : State), all ≤ 1 → nids ≤ 32 →
    (nids = 0 ∨ InBufGood b (2 * nids)) →
    (∀ i, i < nids → fieldAt (b.data.take b.len) (2 * i) 2 ≤ 4095) → modeAccepts s.modes.mode 0x0307 = true →
    exec (.trcScan h all nids b) s = .next (({ s with dev := { s.dev with can := { s.dev.can with
      watch := (List.range nids).map fun i => fieldAt (b.data.take b.len) (2 * i) 2
      scanAll := all == 1
      scanNext := 0 } } }).answered 0x0307 h 0 0 none []))

/-- ARRAY.CAL in SURVEY or MAINTENANCE admits one measurement yarn per strand of its side, in rising order, and owes its
completion; after its integration length the results of all strands of that side are written in that order, 0 for a strand without
one, its yarns end, and it completes with their number (R162, R163, R504). -/
def Obligations.ArrayCalibration : Prop :=
  (∀ (h : CmdHdr) (a : ArrayCalArgs) (o : OutBuf) (e : Dev) (s : State), OutBufGood o → 1 ≤ a.side → a.side ≤ 2 →
    1 ≤ a.rho → a.rho ≤ 8 → 1 ≤ a.ticks → a.ticks ≤ 64 → a.gRef ∈ sideStrands s.dev.plan.loaded a.side →
    inSegment s.dev.plan.loaded a.centreKhz = true → (s.modes.mode = .survey ∨ s.modes.mode = .maintenance) →
    s.dev.beams.arrayCal = none → 16 * (sideStrands s.dev.plan.loaded a.side).length ≤ o.len →
    s.dev.fetched.admitAll ((sideStrands s.dev.plan.loaded a.side).map fun g =>
      mkYarn 4 0 s.ctx.effTick g a.centreKhz a.rho 0) = some e →
    exec (.arrayCal h a o) s = .next { s with dev := { e with
      beams := { e.beams with arrayCal := some {
        gs := sideStrands s.dev.plan.loaded a.side, start := s.ctx.effTick, done := 0, hdr := h, a := a, addr := o.addr } } } }) ∧
  (∀ (w : ArrayCalSt) (rs out : List ArrayRes) (s : State), s.dev.beams.arrayCal = some w →
    s.dev.host.mastering = true → w.a.ticks ≤ w.done →
    out = w.gs.map (fun g => (rs.find? fun r => r.g == g).getD { g := g, tau := 0, phase := 0, ampl := 0, qual := 0 }) →
    exec (.arrayCalDone rs) s = .next { s with
      dev := ({ s.dev with
        beams := { s.dev.beams with arrayCal := none }
        ldl := { s.dev.ldl with
          myarns := s.dev.ldl.myarns.map fun m : MYarn =>
            if m.owner == 4 && m.tag == 0 then { m with ended := true } else m }
        host := { s.dev.host with written := some (w.addr, out.flatMap arrayResult) } }).complete 0x0304 w.hdr 0 0
          none (leBytes 2 out.length) }) ∧
  (∀ (w : ArrayCalSt) (rs : List ArrayRes) (s : State), s.dev.beams.arrayCal = some w → w.done < w.a.ticks →
    exec (.arrayCalDone rs) s = .next s)

/-- ENTRY.LEARN in SURVEY or a relay mode starts at its first entry; an entry that has learned for LEARN_TICKS gets its
isolation record with VALID, the time of its learning and stored coefficients, and the learning goes on to the next (the samples
before it change only the relay path); past its last entry the command completes with the entries learned; a record of the named entry that is older than ENTRY_AGE
loses VALID, and no other part of the codebook changes (R203 to R205). -/
def Obligations.EntriesAreLearnedAndAge : Prop :=
  (∀ (h : CmdHdr) (a : LearnArgs) (s : State), a.bg ≤ 7 → a.n ≠ 0 → a.e + a.n ≤ 4096 → 16 ≤ a.learnTicks →
    a.learnTicks ≤ 1024 → 1 ≤ a.ltaps → a.ltaps ≤ 256 → a.ltaps ≤ s.dev.learnBudget a.bg →
    (s.modes.mode = .survey ∨ isRelay s.modes.mode = true) → (∀ l, s.dev.can.learn = some l → l.host = false) →
    exec (.entryLearn h a) s = .next { s with dev := { s.dev with
      can := { s.dev.can with
        learn := some { host := true, hdr := h, a := a, at_ := a.e, done := 0, ticks := 0, ests := [] }
        learnTicks := a.learnTicks }
      host := { s.dev.host with owed := s.dev.host.owed + 1 } } }) ∧
  (∀ (l : LearnSt) (x : Samples) (u s : State), u = s.feed x → u.dev.can.learn = some l → l.host = true →
    l.a.learnTicks ≤ l.ticks → l.at_ < l.a.e + l.a.n → ∃ t r, exec (.entryLearned x) s = .next t ∧
      t.dev.can.learn = some { l with at_ := l.at_ + 1, done := l.done + 1, ticks := 0, ests := [] } ∧
      t.dev.beams.code = u.dev.beams.code.map (fun x =>
        if x.bg == l.a.bg && x.e == l.at_ then { x with iso := some r } else x) ∧
      r.valid = true ∧ r.ltaps = l.a.ltaps ∧ r.hfc = u.time.hfc ∧ r.tih = 20 * u.time.sfn + u.time.tif ∧
      r.tick = u.time.n ∧ r.ul = (u.dev.learned u.ctx l 1).map (·.2.2) ∧ r.dl = (u.dev.learned u.ctx l 0).map (·.2.2) ∧
      u.SameOutside t ∧ t.dev = { u.dev with
        beams := { u.dev.beams with code := t.dev.beams.code }
        can := { u.dev.can with learn := t.dev.can.learn }
        free := u.dev.free + 1 }) ∧
  (∀ (l : LearnSt) (s : State), s.dev.can.learn = some l → l.host = true → l.a.e + l.a.n ≤ l.at_ →
    exec .entryLearnDone s = .next { s with
      dev := ({ s.dev with can := { s.dev.can with learn := none } }).complete 0x0306 l.hdr 0 0 none
        (leBytes 2 l.done) }) ∧
  (∀ (bg e : Nat) (s : State), s.dev.use.entryAge ≠ 0 → exec (.entryAged bg e) s = .next { s with
    dev := { s.dev with beams := { s.dev.beams with code := s.dev.beams.code.map fun x =>
      if x.bg == bg && x.e == e then { x with iso := x.iso.map fun r =>
        if s.dev.use.entryAge * 120000 < sub32 s.time.n r.tick then { r with valid := false } else r } else x } } })

/-- The oscillation detector: a relayed beam yarn whose loop-gain estimate exceeds -1 dB for the third evaluation in
a row trips its loop with a level 2 mute; one at or below it, with no bin grown, ends the run. The imported streams that a
module's frame carries are lost where it is missing, and restored once they have been good for 20 ticks (R210, R212, R221). -/
def Obligations.OscillationAndImports : Prop :=
  (∀ (a : OscArgs) (r : OscRun) (g : Int) (u s : State), u = s.feed a.samples → relays u.modes.mode = true →
    a.byid ∈ u.dev.formedNow u.ctx → u.dev.yarnMuted a.byid = false →
    ¬(byidOwner u.ctx.hawsers a.byid ∈ u.dev.boot.blkRun) →
    u.dev.osc.find? (fun o => o.byid == a.byid) = some r → 2 ≤ r.a →
    u.dev.loopGain u.ctx (u.dev.rhoOf a.byid) a.byid (u.oscEnd a.byid a.sub) = some g → -dB < g →
    ∃ t, exec (.oscEvaluate a) s = .next t ∧
      t.dev.holds 1 2 (loopScope (byidBg a.byid) (byidDir a.byid)) = true ∧ s.SameOutside t) ∧
  (∀ (a : OscArgs) (r : OscRun) (g : Int) (bins : List Rat) (runs : List Nat) (u s : State), u = s.feed a.samples →
    relays u.modes.mode = true → a.byid ∈ u.dev.formedNow u.ctx → u.dev.yarnMuted a.byid = false →
    ¬(byidOwner u.ctx.hawsers a.byid ∈ u.dev.boot.blkRun) →
    u.dev.osc.find? (fun o => o.byid == a.byid) = some r →
    u.dev.loopGain u.ctx (u.dev.rhoOf a.byid) a.byid (u.oscEnd a.byid a.sub) = some g → g ≤ -dB →
    bins = u.dev.oscSpectrum (u.dev.rhoOf a.byid) a.byid (u.oscEnd a.byid a.sub) →
    runs = binRises r.bins bins r.rises → lineGrows bins runs = false →
    exec (.oscEvaluate a) s = .next { u with dev := { u.dev with
      osc := (u.dev.osc.filter fun o => o.byid != a.byid) ++
        [{ byid := a.byid, a := 0, bins := bins, rises := runs }] } }) ∧
  (∀ (r : SpliceFrame) (s : State), ∃ t, exec (.spliceRefLoss r) s = .next t ∧
    t.dev.can = { s.dev.can with imports := s.dev.can.imports.map fun y =>
      if y.modId = r.modId ∧ y.key ∈ r.streams then { y with lost := true, good := 0, bad := true } else y } ∧
    s.SameOutside t) ∧
  (∀ (r : SpliceFrame) (s : State), exec (.spliceRefRestore r) s = .next { s with dev := { s.dev with
    can := { s.dev.can with imports := s.dev.can.imports.map fun y =>
      if y.modId = r.modId ∧ y.key ∈ r.streams ∧ y.lost = true ∧ 20 ≤ y.good then { y with lost := false } else y } } })

/-! ## Belay, the book and Leadline -/

/-- GAIN.SET for a band group, direction and beam that the member has, with its selected values in their ranges, waits
for its Plan window; one that selects nothing is a no-op; any other is BAD_ARG. BEL.BANK with XFADE from 1 to 64 and no
bank of two zero gains waits for its Plan window; any other is BAD_ARG. BEL.READ of 1 to 256 identifiers writes their
records (R257 to R259). REEF.CAP waits for its Plan window, and more than 560 W is BAD_ARG; THM.CLR of a target that the
member has waits for the next sample, and an action other than 1 and 2 is BAD_ARG; a VIN sample goes before the others
of the draft's window (R359, R360, R393, R398). -/
def Obligations.GainAndPowerCommands : Prop :=
  (∀ (h : CmdHdr) (a : GainArgs) (s : State), a.mask % 32 = 0 → modeAccepts s.modes.mode 0x0401 = true →
    exec (.gainSet h a) s = .next (s.answered 0x0401 h 0 0 none [])) ∧
  (∀ (h : CmdHdr) (a : GainArgs) (s : State), a.mask % 32 ≠ 0 → a.bg ≤ 7 → a.dir ≤ 1 →
    (a.dir = 1 → a.beam < Config.serviceBeams s.ident.member ∨ a.beam = 0xFE ∨ a.beam = 0xFF) →
    (maskBit a.mask 0 = true → 480 ≤ a.target ∧ a.target ≤ 1840) → (maskBit a.mask 1 = true → a.pmax ≤ 960) →
    (maskBit a.mask 2 = true →
      a.vlim ≤ 4000 ∧ 1 ≤ a.alim ∧ a.alim ≤ 1000 ∧ 1 ≤ a.jlim ∧ a.jlim ≤ 1000) →
    (maskBit a.mask 4 = true → a.lnaSt ≤ 3 ∧ a.pagSt ≤ 3) → modeAccepts s.modes.mode 0x0401 = true →
    exec (.gainSet h a) s = .next (s.accepted 0x0401 h (.gain a))) ∧
  (∀ (h : CmdHdr) (a : GainArgs) (s : State), a.mask % 32 ≠ 0 →
    gainBad s.ident.member a = true →
    exec (.gainSet h a) s = .next (s.denied 0x0401 h 1)) ∧
  (∀ (h : CmdHdr) (xfade : Nat) (kp ki : List Nat) (s : State), 1 ≤ xfade → xfade ≤ 64 →
    (∀ i, i < 8 → kp.getD i 0 % 65536 ≠ 0 ∨ ki.getD i 0 % 65536 ≠ 0) → modeAccepts s.modes.mode 0x0402 = true →
    exec (.belBank h xfade kp ki) s = .next (s.accepted 0x0402 h (.bank xfade kp ki))) ∧
  (∀ (h : CmdHdr) (xfade : Nat) (kp ki : List Nat) (s : State),
    (xfade = 0 ∨ 64 < xfade ∨ ∃ i, i < 8 ∧ kp.getD i 0 % 65536 = 0 ∧ ki.getD i 0 % 65536 = 0) →
    exec (.belBank h xfade kp ki) s = .next (s.denied 0x0402 h 1)) ∧
  (∀ (h : CmdHdr) (first count : Nat) (o : OutBuf) (rs : List Bytes) (s : State), OutBufGood o → 1 ≤ count →
    count ≤ 256 → modeAccepts s.modes.mode 0x0403 = true →
    rs = s.dev.belRecords s.modes.mode (first % 32768) count → 32 * rs.length ≤ o.len →
    exec (.belRead h first count o) s = .next (s.outputs 0x0403 h o.addr rs.flatten (leBytes 2 rs.length))) ∧
  (∀ (h : CmdHdr) (w : Nat) (s : State), w ≤ 560 → modeAccepts s.modes.mode 0x0701 = true →
    exec (.reefCap h w) s = .next (s.accepted 0x0701 h (.cap w))) ∧
  (∀ (h : CmdHdr) (w : Nat) (s : State), 560 < w → exec (.reefCap h w) s = .next (s.denied 0x0701 h 1)) ∧
  (∀ (h : CmdHdr) (action target : Nat) (s : State), thmTargetBad s.ident.member action target = false →
    modeAccepts s.modes.mode 0x0702 = true → exec (.thmClr h action target) s = .next (({ s with dev := { s.dev with
      thm := { s.dev.thm with pend := s.dev.thm.pend ++ [(action, target)] } } }).answered 0x0702 h 0 0 none [])) ∧
  (∀ (h : CmdHdr) (action target : Nat) (s : State), action = 0 ∨ 2 < action →
    exec (.thmClr h action target) s = .next (s.denied 0x0702 h 1)) ∧
  (∀ (mv : Nat) (s : State), exec (.vinSample mv) s = .next { s with dev := { s.dev with
    reef := { s.dev.reef with vin := (mv :: s.dev.reef.vin).take draftSamples } } })

/-- Decay: a beam yarn whose 20 ticks of freeze-hold have passed goes to Decay, with its applied gain as it was and a
next gain code that does not rise; the state of every other beam yarn that is left (a block reset that the fault starts
drops those of its hawser) is as it was (R251, R253). -/
def Obligations.FeedbackDecayNeverRaisesAGain : Prop :=
  ∀ (byid : Nat) (y : BelYarn) (s : State), s.dev.bel.yarns.find? (fun y => y.byid == byid) = some y →
    y.fb.st = .hold → y.fb.decayDue = true → ∃ t, exec (.feedbackDecay byid) s = .next t ∧
      (∀ z, z ∈ t.dev.bel.yarns → z.byid = byid → z.fb.st = .decay ∧ z.fb.decayDue = false ∧
        z.nextCode ≤ y.nextCode ∧ z.code = y.code ∧ z.appl = y.appl) ∧
      (∀ z, z ∈ t.dev.bel.yarns → z.byid ≠ byid → z ∈ s.dev.bel.yarns) ∧ s.SameOutside t

/-- A steering slot. At its switch instant, the first uplink symbol start of the Run window from 4 us after the match on,
it takes its endpoint's entry with the recorded coefficients, and at each position of the segment the gain
min(C, G_guard + OFFSET); nothing else changes but the count of switches. Once its burst has closed, it is released at
the next such start of the Run window: it is gone, and its instances' coefficients are zero. The samples before the
instant change only the relay path and its counts of TX words saturated (R168 to R170, R207). -/
def Obligations.SteeringSlotsSwitchAndRelease : Prop :=
  (∀ (bg slot sub : Nat) (x : Samples) (w : Slot) (r : EntryRec) (g : Int) (u s : State), u = s.feed x →
    u.dev.beams.slot bg slot = some w → w.on = false → w.closed = false → u.dev.slotMuted w = false →
    u.time.window = .run → u.firstStart bg w.t0 w.at10 sub = true → u.dev.slotFormed u.modes.mode w = true →
    u.dev.slotGain w w.pos = some g → u.dev.beams.entryIso bg w.entry = some r →
    exec (.weightSwitch bg slot ⟨sub, x⟩) s = .next { u with dev := { u.dev with
      beams := u.dev.beams.onSlot bg slot fun y =>
        { y with on := true, vec := u.dev.beams.entryVec bg w.entry, gains := u.dev.slotGains w }
      can := { u.dev.can with insts := u.dev.can.insts.map fun i =>
        if i.a.vkind = 3 ∧ i.a.bg = bg ∧ i.a.beam = slot then i.load r.ul else i }
      hwsA := u.dev.hwsA.modify ((bg + slot) % u.ctx.hawsers) fun h =>
        { h with steerSw := min (h.steerSw + 1) 255 } } }) ∧
  (∀ (w : Slot) (q : Seg) (p : Nat) (c g : Int) (d : Dev), d.seg w.bg 1 = some q → p < q.ycount →
    d.belGain (16384 + mkByid 1 w.bg 0 p) = some c → d.belGain (mkByid 1 w.bg 0 p) = some g →
    (p, min c (g + w.offset * dB16)) ∈ d.slotGains w) ∧
  (∀ (bg slot sub : Nat) (x : Samples) (w : Slot) (u s : State), u = s.feed x →
    u.dev.beams.slot bg slot = some w → w.closed = true →
    u.time.window = .run → u.firstStart bg u.time.n w.shut sub = true →
    ∃ t, exec (.slotRelease bg slot ⟨sub, x⟩) s = .next t ∧
      t.dev.beams = { u.dev.beams with slots := u.dev.beams.slots.erase w } ∧
      t.dev.can = { u.dev.can with insts := u.dev.can.insts.map fun i =>
        if i.a.vkind = 3 ∧ i.a.bg = w.bg ∧ i.a.beam = w.idx then { i with coefs := zeroCoefs i.a } else i } ∧
      u.SameOutside t ∧
      t.dev = { u.dev with beams := t.dev.beams, can := t.dev.can, hwsA := t.dev.hwsA }) ∧
  (∀ (x : Samples) (s : State), s.feed x = { s with dev := { s.dev with
    tapes := (s.feed x).dev.tapes
    conv := { s.dev.conv with strands := (s.feed x).dev.conv.strands } } }) ∧
  (∀ (x : Samples) (g : Nat) (s : State), g < s.dev.conv.strands.length →
    (s.feed x).dev.strand g = { s.dev.strand g with txClip := ((s.feed x).dev.strand g).txClip })

/-- Book commands: a basis for a band group without records, a change of a record and a deletion wait for their Plan
window; BOOK.READ writes the header and the records of its range in rising order and, asked to, clears their DIRTY
flags, or where its buffer is too small completes with NO_ROOM and the length that it needs; PARTNER.READ writes the
donors or the neighbours in order of index (R298, R325 to R327, R332). -/
def Obligations.BookCommands : Prop :=
  (∀ (h : CmdHdr) (bg basisId : Nat) (b : InBuf) (vs : List Vec) (s : State), bg ≤ 7 → InBufGood b 16384 →
    vs = (List.range 32).map (fun i => vecOf (b.data.take b.len) (512 * i)) →
    (∀ v, v ∈ vs → vecBad s.dev.plan.loaded 2 v = false) → basisId ≠ 0 → modeAccepts s.modes.mode 0x0501 = true →
    (∀ r, r ∈ s.dev.book.recs → r.bg ≠ bg) → s.dev.book.load = none →
    exec (.bookBasis h bg basisId b) s = .next (s.accepted 0x0501 h (.basis bg basisId vs))) ∧
  (∀ (h : CmdHdr) (a : BookSetArgs) (r : Rec) (s : State), a.mask % 8 ≠ 0 → s.dev.book.rec? a.eid = some r →
    (maskBit a.mask 1 = true → a.widx ≤ 4095 ∨ a.widx = 0xFFFF) →
    (maskBit a.mask 2 = true → -320 ≤ a.offset ∧ a.offset ≤ 320) → modeAccepts s.modes.mode 0x0504 = true →
    exec (.bookSet h a) s = .next (s.accepted 0x0504 h (.bookSet a))) ∧
  (∀ (h : CmdHdr) (a : BookSetArgs) (s : State), a.mask % 8 = 0 → modeAccepts s.modes.mode 0x0504 = true →
    exec (.bookSet h a) s = .next (s.answered 0x0504 h 0 0 none [])) ∧
  (∀ (h : CmdHdr) (first count mask : Nat) (s : State), count ≠ 0 → mask % 4 ≠ 0 → first + count ≤ 262144 →
    modeAccepts s.modes.mode 0x0505 = true →
    exec (.bookDel h first count mask) s = .next (s.accepted 0x0505 h (.bookDel first count (mask % 4)))) ∧
  (∀ (h : CmdHdr) (first count dirtyOnly clean : Nat) (o : OutBuf) (mine : Rec → Bool) (rs : List Rec) (s : State),
    OutBufGood o → count ≠ 0 → first + count ≤ 262144 → dirtyOnly ≤ 1 → clean ≤ 1 → bookReads s.modes.mode = true →
    mine = (fun r => decide (first ≤ r.eid) && decide (r.eid < first + count) &&
      (dirtyOnly == 0 || maskBit r.flags 3)) →
    rs = sortBy (fun a b => decide (a.eid ≤ b.eid)) (s.dev.book.recs.filter mine) →
    (64 + 256 * rs.length ≤ o.len → exec (.bookRead h first count dirtyOnly clean o) s =
      .next (({ s with dev := { s.dev with book := { s.dev.book with
          recs := if clean = 0 then s.dev.book.recs
            else s.dev.book.recs.map fun r => if mine r then { r with flags := setBit r.flags 3 0 } else r } }
        }).outputs 0x0503 h o.addr
          (s.dev.imageHeader s.ctx rs.length (rs.flatMap Rec.bytes) ++ rs.flatMap Rec.bytes)
          (leBytes 4 (64 + 256 * rs.length) ++ leBytes 4 rs.length ++ leBytes 4 (64 + 256 * rs.length)))) ∧
    (o.len < 64 + 256 * rs.length → exec (.bookRead h first count dirtyOnly clean o) s =
      .next (s.answered 0x0503 h stNoRoom 0 none
        (leBytes 4 0 ++ leBytes 4 0 ++ leBytes 4 (64 + 256 * rs.length))))) ∧
  (∀ (h : CmdHdr) (o : OutBuf) (xs : List Cand) (s : State), OutBufGood o → bookReads s.modes.mode = true →
    xs = sortBy (fun a b => decide (a.idx ≤ b.idx)) s.dev.ptr.cands → 32 * xs.length ≤ o.len →
    exec (.partnerRead h 1 o) s =
      .next (s.outputs 0x0506 h o.addr (xs.map s.dev.donorEntry).flatten (leBytes 1 xs.length))) ∧
  (∀ (h : CmdHdr) (o : OutBuf) (xs : List Nbr) (s : State), OutBufGood o → bookReads s.modes.mode = true →
    xs = sortBy (fun a b => decide (a.idx ≤ b.idx)) s.dev.book.nbrs → 32 * xs.length ≤ o.len →
    exec (.partnerRead h 2 o) s =
      .next (s.outputs 0x0506 h o.addr (xs.map s.dev.nbrEntry).flatten (leBytes 1 xs.length)))

/-- BOOK.LOAD: without a load in progress and without an enrolled record, an image that passes the checks of Table EPB-7
waits, its completion owed, and one that fails completes with its status and the record that failed; a second one
meanwhile is BUSY. At a Plan window for which no basis waits the image replaces every record but the enrolled ones that it does not name, the
cache keeps the records that stay, no match is in flight, the frame count is the image's where it carries no time, and
the command completes with the records taken and skipped (R307, R323, R324). -/
def Obligations.BookLoadIsCheckedAndInstalled : Prop :=
  (∀ (h : CmdHdr) (b : InBuf) (k : ImageCheck) (s : State), InBufGood b 64 → bookLoads s.modes.mode = true →
    s.dev.book.load = none → (∀ r, r ∈ s.dev.book.recs → r.state ≠ 2) →
    k = s.dev.checkImage s.ctx (b.data.take b.len) → k.status = 0 →
    exec (.bookLoad h b) s = .next { s with dev := { s.dev with
      book := { s.dev.book with load := some (
        { hdr := h, recs := k.recs, skipped := k.skipped, exportBhf := fieldAt (b.data.take b.len) 16 4,
          exportUtc := fieldAt (b.data.take b.len) 24 8, deadline := (s.time.n + 400) % 2 ^ 32 } : BookLoadSt) }
      host := { s.dev.host with owed := s.dev.host.owed + 1 } } }) ∧
  (∀ (h : CmdHdr) (b : InBuf) (k : ImageCheck) (s : State), InBufGood b 64 → bookLoads s.modes.mode = true →
    s.dev.book.load = none → (∀ r, r ∈ s.dev.book.recs → r.state ≠ 2) →
    k = s.dev.checkImage s.ctx (b.data.take b.len) → k.status ≠ 0 →
    exec (.bookLoad h b) s = .next (s.answered 0x0502 h k.status 0 none (zeros 8 ++ leBytes 4 k.failRec))) ∧
  (∀ (h : CmdHdr) (b : InBuf) (s : State), bookLoads s.modes.mode = true →
    s.dev.book.load.isSome = true → exec (.bookLoad h b) s = .next (s.denied 0x0502 h stBusy)) ∧
  (∀ (l : BookLoadSt) (s : State), s.dev.book.load = some l → s.time.running = true → s.time.window = .plan →
    s.dev.basisWaits = false → ∃ t, exec .bookLoadCommit s = .next t ∧ t.dev.book.load = none ∧ t.dev.book.pend = [] ∧
      (∀ r, r ∈ t.dev.book.recs ↔ (r ∈ s.dev.book.recs ∧ r.state = 2 ∧ ∀ q, q ∈ l.recs → q.eid ≠ r.eid) ∨
        ∃ q, q ∈ l.recs ∧ r = { q with flags := setBit q.flags 3 0 }) ∧
      (∀ e, e ∈ t.dev.book.cache ↔ e ∈ s.dev.book.cache ∧
        ∃ r, r ∈ s.dev.book.recs ∧ r.state = 2 ∧ r.eid = e.1 ∧ ∀ q, q ∈ l.recs → q.eid ≠ r.eid) ∧
      (∀ x, x ∈ t.dev.book.bursts → x.done = true ∨ s.dev.book.basis x.bg = none) ∧
      (l.exportUtc = 0 → t.dev.book.bhf = l.exportBhf % 2 ^ 32) ∧
      (∃ r, r ∈ t.dev.host.staged ∧ r.ring = 1 ∧ r.bytes = completionBytes 0x0502 0 0 l.hdr.tag l.hdr.cidx s.time.n
        (leBytes 4 l.recs.length ++ leBytes 4 l.skipped)) ∧ s.SameOutside t ∧
      t.dev = { s.dev with book := t.dev.book, host := t.dev.host, hwsB := t.dev.hwsB })

/-- Uplink bursts: an onset opens a burst on a position that has none; an end drops a burst shorter than 16 us and counts
it, and leaves a longer one to its match, its slot to its release; either keeps its span. A signature is kept until its
match. A match that finds one record enters the sighting into it and leaves the other records; one that finds none
creates a provisional record where there is room; a late match is given up and counted; a write-back clears the mark of
its record in the cache (R300 to R302, R305, R307, R308, R310, R311, R320, R340). -/
def Obligations.BurstsAreMatchedToRecords : Prop :=
  (∀ (bg pos sub back : Nat) (x : Samples) (u s : State), u = s.feed x →
    u.dev.onsetTick u.ctx bg pos sub = some back → ¬(u.ctx.matcher bg ∈ u.dev.boot.blkRun) →
    u.dev.matcherOut (u.ctx.matcher bg) = false → u.dev.book.burst bg pos = none →
    exec (.burstOnset bg pos ⟨sub, x⟩) s = .next { u with dev := { u.dev with book := { u.dev.book with
      bursts := u.dev.book.bursts ++ [(
        { bg := bg, pos := pos, onTick := (u.time.n + 2 ^ 32 - back) % 2 ^ 32, on10 := sub,
          onBhf := if u.ctx.tih < back then (u.dev.book.bhf + 2 ^ 32 - 1) % 2 ^ 32 else u.dev.book.bhf,
          onTih := (u.ctx.tih + 20480 - back) % 20480,
          isOpen := true, done := false, sig := none } : Burst)] } } }) ∧
  (∀ (bg pos sub back n : Nat) (x : Samples) (b : Burst) (u s : State), u = s.feed x → u.dev.book.burst bg pos = some b →
    u.dev.endTickOf u.ctx bg pos sub = some back → n = (u.time.n + 2 ^ 32 - back) % 2 ^ 32 →
    elapsed10 b.onTick b.on10 n sub < 1600 →
    u.dev.beams.slots.filter (fun w => w.bg == bg && w.pos == pos) = [] →
    exec (.burstClose bg pos ⟨sub, x⟩) s = .next { u with dev := { u.dev with
      book := { u.dev.book with
        bursts := u.dev.book.bursts.filter fun y => !y.same b
        spans := u.dev.book.spans ++ [(
          { bg := bg, pos := pos, onTick := b.onTick, on10 := b.on10, endTick := n, end10 := sub } : BurstSpan)] }
      hwsB := u.dev.hwsB.modify (bg % u.ctx.hawsers) fun w => { w with short := min (w.short + 1) 255 } } }) ∧
  (∀ (bg pos sub back n : Nat) (x : Samples) (b : Burst) (w : Slot) (u s : State), u = s.feed x →
    u.dev.book.burst bg pos = some b → u.dev.endTickOf u.ctx bg pos sub = some back →
    n = (u.time.n + 2 ^ 32 - back) % 2 ^ 32 → 1600 ≤ elapsed10 b.onTick b.on10 n sub → b.done = false → (u.dev.book.basis bg).isSome = true →
    u.dev.beams.slots.filter (fun w => w.bg == bg && w.pos == pos) = [w] → w.on = true →
    exec (.burstClose bg pos ⟨sub, x⟩) s = .next { u with dev := { u.dev with
      book := { u.dev.book.putBurst { b with isOpen := false } with
        spans := u.dev.book.spans ++ [(
          { bg := bg, pos := pos, onTick := b.onTick, on10 := b.on10, endTick := n, end10 := sub } : BurstSpan)] }
      beams := u.dev.beams.onSlot w.bg w.idx fun y => { y with closed := true, shut := if back = 0 then sub else 0 } } }) ∧
  (∀ (bg pos : Nat) (x : Samples) (b : Burst) (f : BurstSig) (u s : State), u = s.feed x → u.time.running = true →
    u.dev.book.bursts.find? (fun x => x.bg == bg && x.pos == pos && !x.done && x.sig.isNone) = some b →
    u.dev.signature u.ctx b = some f →
    exec (.signatureReady ⟨bg, pos, x⟩) s = .next { u with dev := { u.dev with
      book := u.dev.book.putBurst { b with sig := some f }, free := u.dev.free + 1 } }) ∧
  (∀ (bg pos sub code : Nat) (lost : List Nat) (x : Burst) (f : BurstSig) (r : Rec) (s : State),
    s.dev.book.inMatch bg pos = some x → x.sig = some f →
    elapsed10 x.onTick x.on10 s.time.n sub ≤ 5000 → bookRuns s.modes.mode = true →
    s.dev.matcherOut (s.ctx.matcher x.bg) = false →
    sigCollides f s.dev.use = false →
    verdict s.dev.use (s.dev.candidates s.ctx x.bg (keyOf f.sig) lost fun q => scoreOf q f.sig) = .hit r code →
    ∃ t, exec (.matchComplete bg pos sub lost) s = .next t ∧
      (∀ q, q ∈ t.dev.book.recs → q.eid = r.eid → q.sightings = min (r.sightings + 1) (2 ^ 32 - 1) ∧
        q.lastRho = code ∧ q.lastPwr = f.power ∧ q.lastTih = x.onTih ∧ q.lastBhf = x.onBhf ∧
        maskBit q.flags 3 = true) ∧
      (∀ q, q.eid ≠ r.eid → (q ∈ t.dev.book.recs ↔ q ∈ s.dev.book.recs)) ∧ s.SameOutside t ∧
      t.dev = { s.dev with
        book := t.dev.book, beams := t.dev.beams, host := t.dev.host, hwsA := t.dev.hwsA, hwsB := t.dev.hwsB }) ∧
  (∀ (bg pos sub eid : Nat) (lost : List Nat) (x : Burst) (f : BurstSig) (s : State),
    s.dev.book.inMatch bg pos = some x → x.sig = some f →
    elapsed10 x.onTick x.on10 s.time.n sub ≤ 5000 → bookRuns s.modes.mode = true →
    s.dev.matcherOut (s.ctx.matcher x.bg) = false →
    sigCollides f s.dev.use = false →
    verdict s.dev.use (s.dev.candidates s.ctx x.bg (keyOf f.sig) lost fun q => scoreOf q f.sig) = .miss →
    s.dev.reef.plan.bookShed = false → 16 * (s.dev.use.sigSnrMin : Int) ≤ f.quality →
    s.dev.book.freeEid = some eid → (s.dev.book.bucket s.ctx.hawsers x.bg (keyOf f.sig)).length < 64 →
    ∃ t r, exec (.matchComplete bg pos sub lost) s = .next t ∧ t.dev.book.recs = s.dev.book.recs ++ [r] ∧
      r.eid = eid ∧ r.state = 1 ∧ r.bg = x.bg ∧ r.pos = x.pos ∧ r.key = keyOf f.sig ∧ r.sig = f.sig ∧
      r.sightings = 1 ∧ r.widx = 0xFFFF ∧ s.SameOutside t ∧
      t.dev = { s.dev with book := t.dev.book, host := t.dev.host, hwsB := t.dev.hwsB }) ∧
  (∀ (bg pos : Nat) (x : Burst) (s : State), s.dev.book.inMatch bg pos = some x →
    (s.dev.book.basis bg).isSome = true → exec (.matchLate bg pos) s = .next { s with dev := { s.dev with
      book := if x.isOpen = true then s.dev.book.putBurst { x with done := true } else s.dev.book.dropBurst x
      hwsB := s.dev.hwsB.modify (bg % s.ctx.hawsers) fun w => { w with late := min (w.late + 1) 255 } } }) ∧
  (∀ (eid : Nat) (s : State), exec (.endpointWriteback eid) s = .next { s with dev := { s.dev with
    book := { s.dev.book with cache := s.dev.book.cache.map fun e => if e.1 = eid then (e.1, false) else e } } })

/-- Tracer epochs: at T0 of every 64th tick of the hyperframe, unless one has started there, the epoch ends and is
counted and the next one starts, and so it does where a reload of SFN is due; no neighbour that was not sighted within the
last 1,875 epochs stays present, and the book's records stay. In an empty table a sighting that the device searches for
becomes entry 0. At T0 of any other tick nothing happens (R187, R214, R215, R331). -/
def Obligations.TracerEpochsKeepTheNeighbourTable : Prop :=
  (∀ (ss : List Sighting) (s : State), s.time.running = true → s.time.window = .plan →
    (s.ctx.tih % 64 = 0 ∨ s.reloadSfn ≠ none) → s.dev.can.epochConv ≠ s.time.conv → ∃ t, exec (.tracerEpoch ss) s = .next t ∧
      t.dev.can.epochs = s.dev.can.epochs + 1 ∧ t.dev.can.epochConv = s.time.conv ∧
      (∀ x, x ∈ t.dev.book.nbrs → x.present = true → t.dev.can.epochs ≤ x.epoch + 1875) ∧
      t.dev.book.recs = s.dev.book.recs ∧ s.SameOutside t ∧
      t.dev = { s.dev with can := t.dev.can, book := t.dev.book, host := t.dev.host }) ∧
  (∀ (x : Sighting) (s : State), s.time.running = true → s.time.window = .plan → s.ctx.tih % 64 = 0 →
    s.dev.can.epochConv ≠ s.time.conv → s.dev.searches s.ctx x = true → s.dev.book.nbrs = [] →
    ∃ t y, exec (.tracerEpoch [x]) s = .next t ∧ t.dev.book.nbrs = [y] ∧ y.idx = 0 ∧ y.tracer = x.tracer ∧
      y.tile = x.tile ∧ y.present = true ∧ y.sight = 1 ∧ y.pwr = x.power ∧ y.lag = x.lag ∧
      y.lastTih = s.ctx.tih) ∧
  (∀ (ss : List Sighting) (s : State), s.time.running = true → s.time.window = .plan → s.ctx.tih % 64 = 0 →
    s.dev.can.epochConv = s.time.conv → exec (.tracerEpoch ss) s = .next s) ∧
  (∀ (ss : List Sighting) (s : State), s.ctx.tih % 64 ≠ 0 → s.reloadSfn = none → exec (.tracerEpoch ss) s = .next s)

/-- Measurement commands in their ranges: MEAS.SUB and CAPTURE.ARM take up their measurement yarns and wait for their
Plan window, the first with the delay of its chain in its result, the second within its rates and room; a capture of no
source waits for it without a buffer. SPEC.SNAP takes up its yarn and completes; an output buffer of less than 16,384
bytes is NO_ROOM. CAPTURE.READ writes the bytes of a HELD buffer and is DENIED for any other (R348, R351, R353 to R355,
R512). -/
def Obligations.MeasurementCommands : Prop :=
  (∀ (h : CmdHdr) (a : MeasArgs) (e : Dev) (g : Nat) (s : State), s.dev.fetched.measBad s.ident.member a = false →
    modeAccepts s.modes.mode 0x0601 = true →
    (a.action = 1 → s.dev.fetched.subsFull s.ctx.hawsers a = false) →
    s.dev.fetched.admitAll (subYarns s.ctx.effTick a) = some e →
    (if a.action = 2 then g = 0 else s.dev.fetched.gdelay a = some g) →
    exec (.measSub h a) s = .next { s with
      dev := ({ e with pend := e.pend ++
        [({ tick := s.ctx.effTick, opcode := 0x0601, tag := h.tag, what := .sub a } : Pend)] }).complete 0x0601 h 0 0
          (some s.ctx.effTick) (leBytes 4 g) }) ∧
  (∀ (h : CmdHdr) (a : SnapArgs) (o : OutBuf) (e : Dev) (s : State), OutBufGood o → a.strand < s.ctx.strands →
    centreOk a.centreKhz = true → 1 ≤ a.rho → a.rho ≤ 8 → a.mresp ≤ 5 → 1 ≤ a.avg → a.avg ≤ 64 →
    modeAccepts s.modes.mode 0x0602 = true → 16384 ≤ o.len →
    s.dev.fetched.admitAll [mkYarn 3 (s.dev.fetched.snapKey a.tag) s.ctx.effTick a.strand a.centreKhz a.rho a.mresp] = some e →
    exec (.specSnap h a o) s = .next { s with
      dev := ({ e with ldl := { e.ldl with
        snaps := e.ldl.snaps ++ [({ key := s.dev.fetched.snapKey a.tag, mark := 0, words := [], a := a, addr := o.addr, shed := 0 } : Snap)] } }).ok
          0x0602 h }) ∧
  (∀ (h : CmdHdr) (a : SnapArgs) (o : OutBuf) (s : State), OutBufGood o → a.strand < s.ctx.strands →
    centreOk a.centreKhz = true → 1 ≤ a.rho → a.rho ≤ 8 → a.mresp ≤ 5 → 1 ≤ a.avg → a.avg ≤ 64 →
    modeAccepts s.modes.mode 0x0602 = true → o.len < 16384 →
    exec (.specSnap h a o) s = .next (s.denied 0x0602 h stNoRoom)) ∧
  (∀ (h : CmdHdr) (a : CapArgs) (b : InBuf) (s : State), a.nsrc = 0 → a.bufc ≤ 15 →
    modeAccepts s.modes.mode 0x0603 = true →
    exec (.captureArm h a b) s = .next (s.accepted 0x0603 h (.arm a [] 0 0))) ∧
  (∀ (h : CmdHdr) (a : CapArgs) (b : InBuf) (es : List Bytes) (rates : List Nat) (e : Dev) (s : State), a.nsrc ≠ 0 →
    capArmBad s.ident.member s.dev.mem.dens a = false → InBufGood b (16 * a.nsrc) →
    es = capEntries a.nsrc (b.data.take b.len) →
    (∀ x, x ∈ es → s.dev.fetched.capSrcBad s.ident.member (capSrcOf x) = false) →
    rates = es.map (fun x => s.dev.fetched.capRate a.format (capSrcOf x)) →
    (∀ r, r ∈ rates → r * (a.preUs + a.postUs) ≤ 8000000 * subRing a.sizeMb a.nsrc) →
    modeAccepts s.modes.mode 0x0603 = true → (s.dev.ldl.caps.getD a.bufc default).state ≠ 1 →
    (s.dev.ldl.caps.getD a.bufc default).state ≠ 2 → (∀ m, m ∈ s.dev.mem.march → m.a.die ≠ 8 ∨ m.a.mode ≠ 2) →
    s.dev.capRates + rates.sum ≤ 2000000000000 →
    s.dev.capMbOthers a.bufc + a.sizeMb ≤ captureMb s.dev.mem.dens →
    s.dev.fetched.admitAll (capYarns s.ctx.effTick a.bufc (es.map capSrcOf)) = some e →
    exec (.captureArm h a b) s = .next { s with
      dev := e.planned s.ctx 0x0603 h (.arm a es rates.sum (subRing a.sizeMb a.nsrc)) }) ∧
  (∀ (h : CmdHdr) (bufc offset : Nat) (o : OutBuf) (b : Cap) (s : State), OutBufGood o → bufc ≤ 15 →
    offset % 4 = 0 → o.len % 4 = 0 → modeAccepts s.modes.mode 0x0604 = true →
    b = s.dev.ldl.caps.getD bufc default →
    (b.state = 3 → offset + o.len ≤ b.srcs.length * b.subRing →
      exec (.captureRead h bufc offset o) s = .next (s.outputs 0x0604 h o.addr
        ((List.range o.len).map fun i => b.byte (offset + i)) (leBytes 4 o.len) (some bufc))) ∧
    (b.state ≠ 3 → exec (.captureRead h bufc offset o) s = .next (s.denied 0x0604 h 3)))

/-- Snapshots and captures: a snapshot that has all its samples writes its bins and posts its record, and one that was
stopped posts its record alone and is counted; the trigger of an armed buffer sets its end; a buffer whose end has come
is HELD, and its measurement yarns end; a HELD buffer's record is posted once, due 64 ticks after the end, and what it
kept becomes its contents. Samples that come with a snapshot's or a record's end are taken first (R352, R353, R356,
R357). -/
def Obligations.SnapshotsAndCapturesEnd : Prop :=
  (∀ (tag : Nat) (w : Samples) (x : Snap) (u s : State), u = (s.feed w).onDev (fun c d => d.fillSnaps c (c.time.at10 c.time.sub)) →
    u.dev.snapReady tag = some x → x.shed = 0 →
    exec (.specSnapDone tag w) s = .next { u with
      dev := ({ u.dev with
        free := u.dev.free + 1
        ldl := { u.dev.ldl with snaps := u.dev.ldl.snaps.map fun z : Snap => if z.key = x.key then { x with shed := 3, words := [] } else z }
        host := { u.dev.host with written := some (x.addr, x.bins u.dev.free) } }).record u.ctx 4
          (snapRecord x u.modes.mode u.time.n) ((u.time.n + 1) % 2 ^ 32) }) ∧
  (∀ (tag : Nat) (w : Samples) (x : Snap) (u s : State), u = (s.feed w).onDev (fun c d => d.fillSnaps c (c.time.at10 c.time.sub)) →
    u.dev.snapReady tag = some x → x.shed ≠ 0 →
    exec (.specSnapDone tag w) s = .next { u with
      dev := ({ u.dev with
        free := u.dev.free + 1
        ldl := { u.dev.ldl with
          snaps := u.dev.ldl.snaps.map fun z : Snap => if z.key = x.key then { x with shed := 3, words := [] } else z
          snapShed := min (u.dev.ldl.snapShed + 1) 255 } }).record u.ctx 4
          (snapRecord x u.modes.mode u.time.n) ((u.time.n + 1) % 2 ^ 32) }) ∧
  (∀ (c sub : Nat) (b : Cap) (s : State), s.dev.ldl.caps[c]? = some b → b.state = 1 → s.capFires b sub = true →
    ∃ t b', exec (.captureTrigger c sub) s = .next t ∧ t.dev.ldl.caps[c]? = some b' ∧ b'.state = 2 ∧
      b'.trigTick = s.time.n ∧ b'.trigSub = sub ∧ b'.cause = b.a.trig ∧
      (b'.endTick, b'.endSub) = laterUs s.time.n sub b.a.postUs ∧
      t.dev.ldl.trigCnt = min (s.dev.ldl.trigCnt + 1) 255 ∧ (∀ k, k ≠ c → t.dev.ldl.caps[k]? = s.dev.ldl.caps[k]?) ∧
      s.SameOutside t ∧ t.dev = { s.dev with ldl := t.dev.ldl }) ∧
  (∀ (c sub : Nat) (b : Cap) (s : State), s.dev.ldl.caps[c]? = some b → b.state = 2 →
    0 ≤ elapsed10 b.endTick b.endSub s.time.n sub →
    exec (.captureEnd c sub) s = .next { s with dev := { s.dev with ldl := { s.dev.ldl with
      caps := s.dev.ldl.caps.set c { b with state := 3, recDue := true }
      myarns := s.dev.ldl.myarns.map fun m =>
        if m.owner == 2 && m.tag == c then { m with ended := true } else m } } }) ∧
  (∀ (c : Nat) (till : Int) (w : Samples) (b b' y : Cap) (u s : State), u = s.feed w → u.dev.ldl.caps[c]? = some b →
    b.state = 3 → b.recDue = true → u.dev.sampledTo u.ctx (u.time.at10 u.time.sub) = some till →
    b' = u.dev.fillCap u.ctx till c b →
    y = { b'.startFirst u.ctx with
      recDue := false, rings := [], marks := [], data := (List.range b'.srcs.length).map fun i => b'.held u.ctx i } →
    exec (.captureRecord c w) s = .next { u with
      dev := ({ u.dev with ldl := { u.dev.ldl with caps := u.dev.ldl.caps.set c y } }).record u.ctx 5 (y.record c)
        ((b'.endTick + 64) % 2 ^ 32) })

/-! ## Power, temperature and memory -/

/-- The thermal manager: a sample of a powered module is counted, uses up the waiting THM.CLR actions, leaves the reported
step at or above the computed one and every freeze's floor, and changes no setup register, time, store or ring; a tripped
comparator of a fitted die latches a powered module at once, with its hawsers and tiles gated and the DRAM in self-refresh, and changes none of these
either; without power it does nothing (R389, R392, R395, R396). -/
def Obligations.TemperatureSetsTheStep : Prop :=
  (∀ (rs : List Reading) (sub : Nat) (s : State), s.dev.boot.powered = true →
    ∃ t, exec (.thermalSample rs sub) s = .next t ∧ t.dev.thm.samples = s.dev.thm.samples + 1 ∧
      t.dev.thm.computed ≤ t.dev.thm.reported ∧
      (∀ f, f ∈ t.dev.thm.freezes → f.floor ≤ t.dev.thm.reported) ∧ t.dev.thm.pend = [] ∧ t.setup = s.setup ∧
      t.time = s.time ∧ t.nv = s.nv ∧ t.rings = s.rings) ∧
  (∀ (die sub : Nat) (s : State), s.dev.boot.powered = true → s.modes.mode ≠ .reset → s.dev.thm.latched = false →
    (die = 8 ∨ die < s.ctx.hawsers ∨ (9 ≤ die ∧ die < 9 + Config.tiles s.ident.member)) →
    ∃ t, exec (.thermalCritical die sub) s = .next t ∧ t.modes.mode = .latched ∧ t.dev.thm.latched = true ∧
      t.dev.mem.gated = true ∧ t.dev.mem.selfRefresh = true ∧ (∀ x, x ∈ t.dev.conv.power → x = false) ∧
      t.dev.level5 = true ∧ t.setup = s.setup ∧ t.time = s.time ∧ t.nv = s.nv ∧
      t.rings = s.rings) ∧
  (∀ (die sub : Nat) (s : State), s.dev.boot.powered = false → exec (.thermalCritical die sub) s = .next s)

/-- Memory tests: an allowed MARCH.RUN of a die without a test waits for its start, its completion owed; a window that was
tested moves the engine on and counts, with its failing words, and one of the first pass that port A touches is counted
and tested again after the range; a test that is over leaves its die free, and a preserving one that found nothing does no
more than to complete with its result (R444 to R449). -/
def Obligations.MarchTestsRunWindowByWindow : Prop :=
  (∀ (h : CmdHdr) (a : MarchArgs) (s : State), marchBad s.ident.member a = false →
    modeAccepts s.modes.mode 0x0703 = true → s.dev.marchDenied s.ctx a = false →
    (∀ m, m ∈ s.dev.mem.march → m.a.die ≠ marchDie a.die) →
    exec (.marchRun h a) s = .next { s with dev := { s.dev with
      mem := { s.dev.mem with march := s.dev.mem.march ++ [(
        { hdr := h, a := { a with die := marchDie a.die }, started := false, next := 0, tested := 0, touched := 0,
          fails := 0, firstFail := 0, retry := [], untested := 0, partial_ := false, here := 0 } : March)] }
      host := { s.dev.host with owed := s.dev.host.owed + 1 } } }) ∧
  (∀ (die w : Nat) (fails : List Nat) (m : March) (s : State), s.dev.mem.test die = some m → m.borrows = true →
    m.window = some w → (m.a.die = 8 ∨ s.time.window = .run) → m.here < m.pace → ∃ t m', exec (.marchWindow die fails) s = .next t ∧
      t = { s with dev := { s.dev with mem := s.dev.mem.putTest m' } } ∧ m'.tested = m.tested + 1 ∧
      m'.fails = min (m.fails + fails.length) 65535 ∧ m'.a = m.a ∧ m'.touched = m.touched ∧ m'.here = m.here + 1 ∧
      (m.next < m.windows → m'.next = m.next + 1 ∧ m'.retry = m.retry) ∧
      (m.windows ≤ m.next → m'.next = m.next ∧ m'.retry = m.retry.tail)) ∧
  (∀ (die offset : Nat) (m : March) (s : State), s.dev.mem.test die = some m → m.borrows = true →
    m.next < m.windows → offset / 4096 = m.a.offs / 4096 + m.next → (m.a.die = 8 ∨ s.time.window = .run) →
    m.here < m.pace →
    exec (.portATouch die offset) s = .next { s with dev := { s.dev with mem := s.dev.mem.putTest { m with
      next := m.next + 1
      touched := m.touched + 1
      here := m.here + 1
      retry := m.retry ++ [(m.next, 1)] } } }) ∧
  (∀ (die : Nat) (fails : List Nat) (m : March) (s : State), s.dev.mem.test die = some m → m.over = true →
    m.a.mode = 1 → m.fails = 0 → exec (.marchDone die fails) s = .next { s with
      dev := ({ s.dev with mem := { s.dev.mem with
        march := s.dev.mem.march.filter fun x => x.a.die != die } }).complete 0x0703 m.hdr 0 0 none m.result }) ∧
  (∀ (die : Nat) (fails : List Nat) (m : March) (s : State), s.dev.mem.test die = some m → m.over = true →
    ∃ t, exec (.marchDone die fails) s = .next t ∧ t.dev.mem.test die = none ∧ s.SameOutside t)

/-- Start-up: reset is released into BOOT, or into LATCHED where a shutdown came in RESET, and completes a pending
lifecycle change; a clean SRAM wipe begins the firmware load, a failing bank or a failing firmware check holds BOOT; a
good firmware is running and writes its Start record; eight channels of one density train the DRAM, and a failing
channel holds BOOT (R411, R416, R451, R455, R488, R552). -/
def Obligations.StartUpStages : Prop :=
  (∀ s : State, s.modes.mode = .reset → s.dev.boot.powered = true → s.ident.testN = true →
    ∃ t, exec .resetRelease s = .next t ∧
      (s.dev.level5 = false → t.modes = { mode := .boot, ret := none, prior := none, waking := false }) ∧
      (s.dev.level5 = true → t.modes.mode = .latched) ∧ t.nv = s.nv.finishLife ∧ t.nv.lifeFrom = none ∧
      (s.dev.prt.muteNLow = true → t.dev.level4 = true) ∧ t.time = s.time ∧ t.setup = s.setup ∧ t.rings = s.rings) ∧
  (∀ s : State, s.ident.testN = false → exec .resetRelease s = .next s) ∧
  (∀ s : State, s.modes.mode = .boot → s.dev.boot.stage = 0 → exec (.sramWipeDone []) s = .next { s with
    dev := { s.dev with boot := { s.dev.boot with sramOk := true, stage := 1 } } }) ∧
  (∀ (fails : List (Nat × Nat)) (s : State), fails ≠ [] → s.modes.mode = .boot → s.dev.boot.stage = 0 →
    ∃ t, exec (.sramWipeDone fails) s = .next t ∧ t.dev.boot.stage = 5 ∧ t.dev.boot.sramOk = false ∧
      s.SameOutside t) ∧
  (∀ (v : Nat) (s : State), s.modes.mode = .boot → s.dev.boot.stage = 1 →
    ∃ t x, exec (.firmwareLoaded true v) s = .next t ∧ t.dev.boot.fwOk = true ∧ t.dev.boot.fwVer = v % 2 ^ 24 ∧
      t.dev.boot.stage = 2 ∧ t.dev.log.staged = s.dev.log.staged ++ [x] ∧ x.typ = 0x0010 ∧ s.SameOutside t ∧
      t.dev = { s.dev with boot := t.dev.boot, log := t.dev.log }) ∧
  (∀ (v : Nat) (s : State), s.modes.mode = .boot → s.dev.boot.stage = 1 →
    ∃ t, exec (.firmwareLoaded false v) s = .next t ∧ t.dev.boot.stage = 5 ∧ t.dev.boot.fwOk = s.dev.boot.fwOk ∧
      s.SameOutside t) ∧
  (∀ (x : Nat) (s : State), 1 ≤ x → x ≤ 4 → s.modes.mode = .boot → s.dev.boot.fwOk = true →
    s.dev.boot.dramOk = false → s.dev.mem.failed = 0 → exec (.dramTrained (List.replicate 8 x)) s = .next { s with
      dev := { s.dev with
        mem := { s.dev.mem with dens := x, trained := 255, failed := 0, wiped := true, key := s.dev.mem.key + 1 }
        log := { s.dev.log with mirrorOk := true }
        boot := { s.dev.boot with dramOk := true } } }) ∧
  (∀ (dens : List Nat) (ch : Nat) (s : State), ch < 8 → dens.getD ch 0 = 0 → s.modes.mode = .boot →
    s.dev.boot.fwOk = true → s.dev.boot.dramOk = false → s.dev.mem.failed = 0 →
    ∃ t, exec (.dramTrained dens) s = .next t ∧ t.dev.boot.dramOk = false ∧ t.dev.boot.stage = 5 ∧
      maskBit t.dev.mem.failed ch = true ∧ maskBit t.dev.mem.trained ch = false ∧ s.SameOutside t)

/-! ## Faults and the Logline -/

/-- The Stopper: a raise of a fitted source outside a block reset sets its bit, severity and tick and no other source's
and, being the first, STOP_FIRST; at a level set to 2 or less it reaches no further than its records, at level 3 the
hawser that it names is in block reset, and at level 4 the chip reset is due. Acknowledged bits fall and no others;
STOP_FIRST unlatches where bit 31 is written and clears OVF where bit 30 is; after its hold FAULT_N is low where a source
holds it; a block reset that ends takes its hawser off the list and is counted. Marline links: an uncorrectable frame in
a second consecutive tick takes its link down, a corrected one changes no link; a link of MARLINE_P that passes 20 ticks
without one is up again, and no other link is touched (R431, R434, R461 to R469). -/
def Obligations.FaultsAreRaisedAndAcknowledged : Prop :=
  (∀ (src sev unit sub : Nat) (s : State), src ≤ 95 → sev ≤ 5 → s.modes.mode ≠ .reset →
    sourceFits s.ident.member src unit = true → (∀ x, namedHawser src unit = some x → ¬(x ∈ s.dev.boot.blkRun)) →
    src < s.dev.stop.srcs.length → (s.dev.stop.src src).bit = false →
    ∃ t, exec (.stopperRaise src sev unit sub) s = .next t ∧ (t.dev.stop.src src).bit = true ∧
      (t.dev.stop.src src).maxSev = sev ∧ (t.dev.stop.src src).lastTick = s.time.n ∧
      (∀ j, j ≠ src → t.dev.stop.src j = s.dev.stop.src j) ∧
      (s.dev.stop.firstValid = false → t.dev.stop.firstValid = true ∧ t.dev.stop.firstSrc = src ∧
        t.dev.stop.firstSev = sev ∧ t.dev.stop.firstUnit = unit ∧ t.dev.stop.firstTick = s.time.n) ∧
      s.SameOutside t ∧
      (s.setup.level src ≤ 2 → t.dev = { s.dev with
        stop := t.dev.stop, log := t.dev.log, host := t.dev.host, free := t.dev.free }) ∧
      (∀ x, s.setup.level src = 3 → namedHawser src unit = some x → s.modes.mode ≠ .coil → s.modes.mode ≠ .latched →
        x ∈ t.dev.boot.blkRun) ∧
      (s.setup.level src = 4 → s.modes.mode ≠ .latched → t.dev.boot.due = some 2)) ∧
  (∀ (k : Nat) (v : Word) (s : State), k ≤ 2 →
    ∃ t, exec (.stopperAcknowledge k v) s = .next t ∧
      (∀ i, i < 32 → v.bit i = true → (t.dev.stop.src (32 * k + i)).bit = false) ∧
      (∀ i, i < 32 → v.bit i = false → t.dev.stop.src (32 * k + i) = s.dev.stop.src (32 * k + i)) ∧
      (∀ j, j < 32 * k ∨ 32 * k + 32 ≤ j → t.dev.stop.src j = s.dev.stop.src j) ∧ s.SameOutside t ∧
      t.dev = { s.dev with stop := t.dev.stop, log := t.dev.log }) ∧
  (∀ (v : Word) (s : State), exec (.stopFirstUnlatch v) s = .next { s with dev := { s.dev with
    stop := { s.dev.stop with
      firstValid := s.dev.stop.firstValid && !v.bit 31
      firstAt := if v.bit 31 = true then none else s.dev.stop.firstAt
      firstOvf := s.dev.stop.firstOvf && !v.bit 30 } } }) ∧
  (∀ s : State, ∃ t, exec .faultNHoldEnd s = .next t ∧
    (t.dev.stop.faultLow = true ↔ ∃ x, x ∈ s.dev.stop.srcs ∧ x.bit = true ∧ x.fault = true) ∧
    t = { s with dev := { s.dev with stop := { s.dev.stop with
      faultHold := false, faultLow := t.dev.stop.faultLow } } }) ∧
  (∀ (x : Nat) (s : State), x ∈ s.dev.boot.blkRun → ∃ t, exec (.blockResetDone x) s = .next t ∧
    t.dev.boot = { s.dev.boot with
      blkRun := s.dev.boot.blkRun.erase x, blkCnt := min (s.dev.boot.blkCnt + 1) 255, blkLast := x,
      blkDone := true } ∧ s.SameOutside t ∧
    t.dev = { s.dev with
      boot := t.dev.boot, stop := { s.dev.stop with links := t.dev.stop.links }, host := t.dev.host }) ∧
  (∀ (src : Nat) (l : Nat × Nat × Nat × Bool) (s : State), 60 ≤ src → src ≤ 95 →
    sourceFits s.ident.member src 0 = true → s.dev.stop.link src = some l → (l.2.1 + 1) % 2 ^ 32 = s.time.n →
    l.2.1 ≠ s.time.n → 1 ≤ l.2.2.1 → ∃ t l', exec (.marlineFrame src true) s = .next t ∧
      t.dev.stop.link src = some l' ∧ l'.2.2.2 = true ∧ s.SameOutside t) ∧
  (∀ (src : Nat) (s : State), 60 ≤ src → src ≤ 95 → sourceFits s.ident.member src 0 = true →
    ∃ t, exec (.marlineFrame src false) s = .next t ∧ t.dev.stop.links = s.dev.stop.links ∧ s.SameOutside t) ∧
  (∀ (src : Nat) (l : Nat × Nat × Nat × Bool) (s : State), 68 ≤ src → s.dev.stop.link src = some l →
    l.2.2.2 = true → 20 < sub32 s.time.n l.2.1 → ∃ t, exec (.marlineLinkRestore src) s = .next t ∧
      t.dev.stop.link src = none ∧ (∀ k, k ≠ src → t.dev.stop.link k = s.dev.stop.link k) ∧
      t = { s with dev := { s.dev with stop := { s.dev.stop with links := t.dev.stop.links } } })

/-- Logline records, while no clear runs: the oldest staged record goes, a pinned one where there is room into the pinned
region with the next SEQ, any other into the ring; one whose tries both fail leaves the store as it is, with source 1
raised. Once 60 s have passed OPTIME is saved, and not before; LOG.READ writes the whole records from a SEQ on that fit
its buffer (R473 to R479). -/
def Obligations.LoglineRecordsAreWrittenAndRead : Prop :=
  (∀ (r : StagedLog) (rest : List StagedLog) (s : State), s.dev.log.staged = r :: rest → s.dev.log.clear = none →
    r.pinned = true → s.nv.pinRoom (16 + r.payload.length) = true →
    exec (.loglineRecordWrite true) s = .next { s with
      nv := { s.nv with
        pinned := s.nv.pinned ++ [({ seq := s.nv.seq, typ := r.typ, optime := s.dev.log.optime, pcc := s.nv.pcc,
                                     payload := r.payload } : LogRec)]
        seq := (s.nv.seq + 1) % 2 ^ 32 }
      dev := { s.dev with log := { s.dev.log with staged := rest } } }) ∧
  (∀ (r : StagedLog) (rest : List StagedLog) (s : State), s.dev.log.staged = r :: rest → s.dev.log.clear = none →
    r.pinned = false → r.payload.length ≤ 1024 → ∃ t x, exec (.loglineRecordWrite true) s = .next t ∧ x ∈ t.nv.ring ∧ x.typ = r.typ ∧
      x.payload = r.payload ∧ x.optime = s.dev.log.optime ∧ t.nv.pinned = s.nv.pinned ∧ t.nv.keys = s.nv.keys ∧
      t.nv.life = s.nv.life ∧ t.dev = { s.dev with log := { s.dev.log with staged := rest } } ∧
      t.modes = s.modes ∧ t.time = s.time ∧ t.setup = s.setup ∧ t.rings = s.rings) ∧
  (∀ (r : StagedLog) (rest : List StagedLog) (s : State), s.dev.log.staged = r :: rest → s.dev.log.clear = none →
    s.modes.mode ≠ .reset → s.dev.stop.srcs.length = 96 → ∃ t, exec (.loglineRecordWrite false) s = .next t ∧
      (t.dev.stop.src 1).bit = true ∧ s.SameOutside t) ∧
  (∀ s : State, s.nv.optime + 60 ≤ s.dev.log.optime →
    exec .optimeSave s = .next { s with nv := { s.nv with optime := s.dev.log.optime } }) ∧
  (∀ s : State, s.dev.log.optime < s.nv.optime + 60 → exec .optimeSave s = .next s) ∧
  (∀ (h : CmdHdr) (region fromSeq : Nat) (o : OutBuf) (items : List (Nat × Bytes)) (out : List Bytes) (s : State),
    OutBufGood o → o.len % 4 = 0 → 1 ≤ region → region ≤ 4 → modeAccepts s.modes.mode 0x0801 = true →
    items = s.logItems region fromSeq → out = takeWhole o.len (items.map (·.2)) → (items = [] ∨ out ≠ []) →
    exec (.logRead h region fromSeq o) s = .next (s.outputs 0x0801 h o.addr out.flatten
      (leBytes 4 out.flatten.length ++ leBytes 4 out.length ++ leBytes 4
        (((items[out.length]?).map (·.1)).getD (if region = 4 then 0 else s.nv.seq)))))

/-- The nonce and the clear: LOG.NONCE gives a fresh nonce with the module's serial number and power-cycle count;
LOG.CLEAR with a good token begins the clear of its scope up to its SEQ, with a bad one it is DENIED, and either spends
the nonce; a clear that ends keeps the clear, lifecycle and key records of the pinned region, leaves the ring, its own
record aside, only records of another scope or behind its SEQ, and completes (R480 to R482). -/
def Obligations.ClearingNeedsAToken : Prop :=
  (∀ (h : CmdHdr) (o : OutBuf) (nonce : Nat) (s : State), OutBufGood o → 96 ≤ o.len →
    modeAccepts s.modes.mode 0x0802 = true → nonce = (Config.freeNonce s.dev.free).toNat →
    ∃ sig, exec (.logNonce h o) s = .next (({ s with dev := { s.dev with
      free := s.dev.free + 1
      log := { s.dev.log with nonce := some nonce } } }).outputs 0x0802 h o.addr
        (leBytes 16 nonce ++ leBytes 8 s.ident.serial ++ leBytes 4 s.nv.pcc ++ zeros 4 ++ sig) []) ∧
      sig.length = 64) ∧
  (∀ (h : CmdHdr) (b : InBuf) (t : Bytes) (s : State), InBufGood b 144 → t = b.data.take b.len →
    1 ≤ fieldAt t 6 2 → fieldAt t 6 2 ≤ 3 → modeAccepts s.modes.mode 0x0803 = true → s.dev.log.clear = none →
    tokenOk s.nv s.ident.serial s.dev.log.nonce t 1 (fieldAt t 6 2) (fieldAt t 40 4) (zeros 32) = true →
    exec (.logClear h b) s = .next { s with dev := { s.dev with
      log := { s.dev.log with nonce := none, clear := some { hdr := h, scope := fieldAt t 6 2, slot := byteAt t 5, upto := fieldAt t 40 4 } }
      host := { s.dev.host with owed := s.dev.host.owed + 1 } } }) ∧
  (∀ (h : CmdHdr) (b : InBuf) (t : Bytes) (s : State), InBufGood b 144 → t = b.data.take b.len →
    1 ≤ fieldAt t 6 2 → fieldAt t 6 2 ≤ 3 → modeAccepts s.modes.mode 0x0803 = true →
    tokenOk s.nv s.ident.serial s.dev.log.nonce t 1 (fieldAt t 6 2) (fieldAt t 40 4) (zeros 32) = false →
    exec (.logClear h b) s = .next (({ s with dev := { s.dev with
      log := { s.dev.log with nonce := none } } }).denied 0x0803 h 3)) ∧
  (∀ (w : LogClearSt) (s : State), s.dev.log.clear = some w → ∃ t, exec .logClearDone s = .next t ∧
    t.dev.log.clear = none ∧
    (∀ r, r ∈ s.nv.pinned → (r.typ = 0x0001 ∨ r.typ = 0x0300 ∨ r.typ = 0x0301) → r ∈ t.nv.pinned) ∧
    (∀ r, r ∈ t.nv.ring → 2 ≤ r.typ → r ∈ s.nv.ring ∧ (w.scope = 2 ∨ (w.upto ≠ 0xFFFFFFFF ∧ 0 < dist32 r.seq w.upto))) ∧
    (∃ r, r ∈ t.dev.host.staged ∧ r.ring = 1 ∧ fieldAt r.bytes 0 2 = 0x0803 ∧ fieldAt r.bytes 2 1 = 0) ∧
    t.nv.life = s.nv.life ∧ t.nv.keys = s.nv.keys ∧ t.time = s.time ∧ t.modes = s.modes ∧ t.setup = s.setup ∧
    t.rings = s.rings)

/-- LIFE.SET: a transition of Table STP-11 that needs no token, or whose token is good, takes effect at once and calls
its reset, and from BLANK it stores the first key and the group; one that the table does not have is DENIED; a bad token
is DENIED and spends the nonce. KEY.SET in PROVISIONED stores a key of any slot and removes one of slots 1 to 3 without a
token, and in BLANK and RETIRED it is DENIED (R485, R486, R488, Table STP-12). -/
def Obligations.LifecycleAndKeys : Prop :=
  (∀ (h : CmdHdr) (state group : Nat) (b : InBuf) (new : Life) (s : State), lifeOfId state = some new →
    firstFail (lifeChecks s (some new) group b) = none → s.nv.lifeFrom = none →
    (lifeTransition s.nv.life new = some false ∨
      tokenOk s.nv s.ident.serial s.dev.log.nonce (b.data.take b.len) 2 state 0 (zeros 32) = true) →
    ∃ t, exec (.lifeSet h state group b) s = .next t ∧ t.nv.life = new ∧ t.nv.lifeFrom = some s.nv.life ∧
      t.dev.boot.lifeDue = true ∧
      (s.nv.life = .blank → new = .provisioned → t.nv.group = group ∧
        t.nv.keys = s.nv.keys.set 0 (some (b.data.take 64))) ∧
      (¬(s.nv.life = .blank ∧ new = .provisioned) → t.nv.group = s.nv.group ∧ t.nv.keys = s.nv.keys) ∧
      t.dev.host.owed = s.dev.host.owed + 1 ∧ t.time = s.time ∧ t.modes = s.modes ∧ t.setup = s.setup ∧
      t.rings = s.rings) ∧
  (∀ (h : CmdHdr) (state group : Nat) (b : InBuf) (new : Life) (s : State), lifeOfId state = some new →
    lifeTransition s.nv.life new = none → exec (.lifeSet h state group b) s = .next (s.denied 0x0804 h 3)) ∧
  (∀ (h : CmdHdr) (state group : Nat) (b : InBuf) (new : Life) (s : State), lifeOfId state = some new →
    firstFail (lifeChecks s (some new) group b) = none → lifeTransition s.nv.life new = some true →
    tokenOk s.nv s.ident.serial s.dev.log.nonce (b.data.take b.len) 2 state 0 (zeros 32) = false →
    exec (.lifeSet h state group b) s = .next (({ s with dev := { s.dev with
      log := { s.dev.log with nonce := none } } }).denied 0x0804 h 3)) ∧
  (∀ (h : CmdHdr) (slot : Nat) (b : InBuf) (s : State), s.nv.life = .provisioned → slot ≤ 3 → InBufGood b 64 →
    keyOk (b.data.take 64) = true → modeAccepts s.modes.mode 0x0805 = true →
    ∃ t, exec (.keySet h slot 1 b) s = .next t ∧
      t.nv.keys = s.nv.keys.set slot (some ((b.data.take b.len).take 64)) ∧ t.nv.life = s.nv.life ∧
      t.dev.host.owed = s.dev.host.owed + 1 ∧ t.time = s.time ∧ t.modes = s.modes ∧ t.setup = s.setup ∧
      t.rings = s.rings) ∧
  (∀ (h : CmdHdr) (slot : Nat) (b : InBuf) (s : State), s.nv.life = .provisioned → 1 ≤ slot → slot ≤ 3 →
    modeAccepts s.modes.mode 0x0805 = true → ∃ t, exec (.keySet h slot 2 b) s = .next t ∧
      t.nv.keys = s.nv.keys.set slot none ∧ t.nv.life = s.nv.life ∧ t.time = s.time ∧ t.modes = s.modes ∧
      t.setup = s.setup ∧ t.rings = s.rings) ∧
  (∀ (h : CmdHdr) (slot action : Nat) (b : InBuf) (s : State), s.nv.life = .blank ∨ s.nv.life = .retired → slot ≤ 3 →
    (action = 2 ∨ (action = 1 ∧ InBufGood b 64 ∧ keyOk (b.data.take 64) = true)) →
    exec (.keySet h slot action b) s = .next (s.denied 0x0805 h 3))

/-! ## Resets -/

/-- A power-good counts the power cycle, samples the contacts and takes everything volatile to its reset values, with OPTIME
as it was saved and the mute of a low MUTE_N; a brown-out and a held current limit do the same with the power gone, and
keep the record on its way to the store; without power they do nothing. The store changes by that count alone, and what
lies outside the module (PERST_N and what was sent) stays (R429, R474, R543 to R546, R550, Table MOD-9). -/
def Obligations.PowerCyclesResetTheModule : Prop :=
  (∀ (a : PowerGoodArgs) (s : State), exec (.powerGood a) s = .next { s with
    ident := { s.ident with
      modId := (if a.modId0 then 1 else 0) + 2 * (if a.modId1 then 1 else 0), testN := a.testN, ilim := ilimOf a.rIlim }
    setup := Setup.reset
    time := TimeSt.reset
    modes := { mode := .reset, ret := none, prior := none, waking := false }
    nv := { s.nv with pcc := (s.nv.pcc + 1) % 2 ^ 32 }
    rings := List.replicate 6 Ring.reset
    dev := { Dev.reset with
      prt := { (default : Protect) with muteNLow := !a.muteN }
      conv := { Conv.reset with refOk := a.refValid }
      mem := { Memory.reset with key := s.dev.mem.key }
      log := { (default : Logline) with optime := s.nv.optime }
      host := { HostIf.reset with
        perstLow := s.dev.host.perstLow, written := s.dev.host.written, sent := s.dev.host.sent,
        idxBlock := s.dev.host.idxBlock }
      free := s.dev.free } }) ∧
  (∀ (i : Instr) (s : State), i = .brownOut ∨ i = .ilimHold → s.dev.boot.powered = true → exec i s = .next { s with
    setup := Setup.reset
    time := TimeSt.reset
    modes := { mode := .reset, ret := none, prior := none, waking := false }
    rings := List.replicate 6 Ring.reset
    dev := { Dev.reset with
      prt := { (default : Protect) with muteNLow := s.dev.prt.muteNLow }
      mem := { Memory.reset with key := s.dev.mem.key }
      log := { (default : Logline) with optime := s.dev.log.optime, staged := s.dev.log.staged.take 1 }
      host := { HostIf.reset with
        perstLow := s.dev.host.perstLow, written := s.dev.host.written, sent := s.dev.host.sent,
        idxBlock := s.dev.host.idxBlock, jtag := s.dev.host.jtag }
      boot := { Boot.reset with powered := false }
      free := s.dev.free } }) ∧
  (∀ (i : Instr) (s : State), i = .brownOut ∨ i = .ilimHold → s.dev.boot.powered = false → exec i s = .next s)

/-- A chip reset, asked for at BWL_RST_CTL, called by the Stopper once its records are safe, or by a lifecycle change,
returns the setup registers and everything volatile to their reset values, but for the records on their way to the store,
OPTIME and the 1 ms of FAULT_N; a warm reset keeps the setup registers, the temperatures, the Stopper's status and the
PCIe link besides; CAUSE tells them apart; the store stays. In LATCHED, and under a shutdown that came in RESET, none is taken, and without the key or with both
or none of the bits nothing happens (R430, R432, R434, R435, R465, R476, R488, Table MOD-9). -/
def Obligations.ResetsKeepWhatTheirKindKeeps : Prop :=
  (∀ (i : Instr) (cause : Nat) (s : State), s.modes.mode ≠ .latched → s.dev.level5 = false →
    ((∃ v, i = .chipResetRequest v ∧ v.field 8 8 = 0xA5 ∧ v.bit 0 = false ∧ v.bit 1 = true ∧ cause = 1) ∨
      (i = .chipResetBegin ∧ s.dev.boot.due = some 2 ∧ s.secured = true ∧ cause = 2) ∨
      (i = .lifecycleReset ∧ s.dev.boot.lifeDue = true ∧ cause = 4)) →
    exec i s = .next { s with
      setup := Setup.reset
      time := TimeSt.reset
      modes := { mode := .reset, ret := none, prior := none, waking := false }
      rings := List.replicate 6 Ring.reset
      dev := { Dev.reset with
        prt := { (default : Protect) with muteNLow := s.dev.prt.muteNLow }
        mem := { Memory.reset with key := s.dev.mem.key }
        stop := { Stopper.reset with faultHold := s.dev.stop.faultHold, faultLow := s.dev.stop.faultHold }
        log := { (default : Logline) with
          staged := s.dev.log.staged, optime := s.dev.log.optime, pinRaised := s.dev.log.pinRaised }
        host := { HostIf.reset with
          perstLow := s.dev.host.perstLow, written := s.dev.host.written, sent := s.dev.host.sent,
          idxBlock := s.dev.host.idxBlock, jtag := s.dev.host.jtag }
        boot := { Boot.reset with cause := cause }
        free := s.dev.free } }) ∧
  (∀ (v : Word) (s : State), s.modes.mode ≠ .latched → s.dev.level5 = false → v.field 8 8 = 0xA5 → v.bit 0 = true → v.bit 1 = false →
    exec (.warmResetRequest v) s = .next { s with
      time := TimeSt.reset
      modes := { mode := .reset, ret := none, prior := none, waking := false }
      rings := List.replicate 6 Ring.reset
      dev := { Dev.reset with
        use := s.setup
        prt := { (default : Protect) with muteNLow := s.dev.prt.muteNLow }
        thm := s.dev.thm
        mem := { Memory.reset with key := s.dev.mem.key }
        stop := { s.dev.stop with raises := 0, merged := 0, links := [] }
        log := { (default : Logline) with
          staged := s.dev.log.staged, optime := s.dev.log.optime, pinRaised := s.dev.log.pinRaised }
        host := { HostIf.reset with
          perstLow := s.dev.host.perstLow, started := s.dev.host.started, bme := s.dev.host.bme,
          d3hot := s.dev.host.d3hot, linkUp := s.dev.host.linkUp, written := s.dev.host.written,
          sent := s.dev.host.sent, idxBlock := s.dev.host.idxBlock, jtag := s.dev.host.jtag }
        boot := { Boot.reset with cause := 3 }
        free := s.dev.free } }) ∧
  (∀ (v : Word) (s : State), s.modes.mode = .latched ∨ s.dev.level5 = true → exec (.warmResetRequest v) s = .next s ∧
    exec (.chipResetRequest v) s = .next s ∧ exec .lifecycleReset s = .next s) ∧
  (∀ (v : Word) (s : State), v.field 8 8 ≠ 0xA5 ∨ v.bit 0 = v.bit 1 → exec (.warmResetRequest v) s = .next s ∧
    exec (.chipResetRequest v) s = .next s)

/-! ## Ticks, timing sources and spliced modules -/

/-- T0 of a tick: n counts modulo 2^32, TIF modulo 20, SFN at each TIF 0 modulo 1,024, HFC at each SFN 0 modulo 2^32; the
Plan window begins; no setup register, ring, key or Logline record changes (R16, R44). In RESET and before the grid
starts nothing happens. -/
def Obligations.TickEdgeAdvancesTheCounters : Prop :=
  (∀ (env : TickEnv) (s : State), s.time.running = true → s.modes.mode ≠ .reset →
    ∃ t, exec (.tickEdge env) s = .next t ∧ t.time.n = (s.time.n + 1) % 2 ^ 32 ∧
      t.time.tif = (s.time.tif + 1) % 20 ∧
      t.time.sfn = (if (s.time.tif + 1) % 20 = 0 then (s.time.sfn + 1) % 1024 else s.time.sfn) ∧
      t.time.hfc = (if (s.time.tif + 1) % 20 = 0 ∧ (s.time.sfn + 1) % 1024 = 0 then (s.time.hfc + 1) % 2 ^ 32
        else s.time.hfc) ∧
      t.time.window = .plan ∧ t.time.running = true ∧ t.setup = s.setup ∧ t.ident = s.ident ∧ t.rings = s.rings ∧
      t.nv.keys = s.nv.keys ∧ t.nv.life = s.nv.life ∧ t.nv.pinned = s.nv.pinned ∧ t.nv.ring = s.nv.ring) ∧
  (∀ (env : TickEnv) (s : State), s.time.running = false ∨ s.modes.mode = .reset →
    exec (.tickEdge env) s = .next s)

/-- The Run window begins 24 us after T0, the Close window 476 us after it or later by what a step adds to the tick; neither
changes a mode, a setup register, a ring or the store. In COIL and LATCHED nothing closes: samples reach their buffers,
the DRAM meter is read and the book's scan goes on, and in a waking COIL the other tiles power up. The lock qualifies
after its 3,000 ticks (R16, R55, R312, R408, R422). -/
def Obligations.WindowsFollowEachOther : Prop :=
  (∀ s : State, s.time.running = true → s.time.window = .plan → ∃ t, exec .runStart s = .next t ∧
    t.time = { s.time with window := .run, sub := 2400 } ∧ t.modes = s.modes ∧ t.setup = s.setup ∧ t.nv = s.nv ∧
    t.rings = s.rings ∧ t.ident = s.ident) ∧
  (∀ (env : CloseEnv) (s : State), s.time.running = true → s.time.window = .run →
    ∃ t, exec (.closeStart env) s = .next t ∧ t.time = { s.time with window := .close, sub := s.time.closeSub } ∧
      (s.time.periods = 6250000 → s.time.closeSub = 47600) ∧
      t.modes = s.modes ∧ t.setup = s.setup ∧ t.nv = s.nv ∧ t.rings = s.rings ∧ t.ident = s.ident ∧
      (s.modes.mode = .coil ∨ s.modes.mode = .latched → t.dev = { s.dev with
        tapes := t.dev.tapes, ldl := t.dev.ldl, reef := { s.dev.reef with dramBytes := env.dramBytes }
        conv := { s.dev.conv with strands := t.dev.conv.strands, power := t.dev.conv.power }
        mem := { s.dev.mem with retained := t.dev.mem.retained }
        book := { s.dev.book with scan := (s.dev.book.scan + 64) % 262144, aged := t.dev.book.aged } }) ∧
      (s.modes.mode = .coil ∨ s.modes.mode = .latched → s.modes.waking = false →
        t.dev.conv.power = s.dev.conv.power ∧ t.dev.mem = s.dev.mem)) ∧
  (∀ s : State, 3000 ≤ (if s.dev.srcPrio = 2 then s.dev.qual.standbyTicks else s.dev.qual.lockTicks) → exec .lockQual s = .next { s with dev := { s.dev with
    qual := { s.dev.qual with lockQual := true } } })

/-- A work item that misses its deadline raises its die's source, unless its hawser is in block reset; its result is
discarded: a draft, the late solutions of a hawser, the late records of a ring (R41, Table TCK-2). -/
def Obligations.OverrunsDiscardTheirResult : Prop :=
  (∀ (item : WorkItem) (s : State), s.time.running = true → s.modes.mode ≠ .reset →
    sourceFits s.ident.member (overrunSource item) 0 = true →
    (∀ x, namedHawser (overrunSource item) 0 = some x → ¬(x ∈ s.dev.boot.blkRun)) →
    overrunSource item < s.dev.stop.srcs.length → ∃ t, exec (.tickOverrun item) s = .next t ∧
      (t.dev.stop.src (overrunSource item)).bit = true ∧ t.time = s.time ∧ t.modes = s.modes ∧
      t.setup = s.setup ∧ t.nv = s.nv) ∧
  (∀ s : State, s.time.running = true → s.modes.mode ≠ .reset → ∃ t, exec (.tickOverrun .draft) s = .next t ∧
    t.dev.reef.draft = none ∧ s.SameOutside t) ∧
  (∀ (x : Nat) (late : List Nat) (s : State), s.time.running = true → s.modes.mode ≠ .reset →
    ∃ t, exec (.tickOverrun (.solve x late)) s = .next t ∧
      (∀ i, i ∈ t.dev.can.insts → i.a.inst / 64 = x → i.a.inst ∈ late → i.next = none) ∧ s.SameOutside t) ∧
  (∀ (k : Nat) (s : State), s.time.running = true → s.modes.mode ≠ .reset → 3 ≤ k → k ≤ 5 →
    ∃ t, exec (.tickOverrun (.records k)) s = .next t ∧
      (∀ r, r ∈ t.dev.host.staged → r.ring = k → deadlinePassed s.time r = false) ∧
      (∀ j, j ≠ k → t.ring j = s.ring j))

/-- Painter's sources: a third PPS_IN edge of the selected kind in spacing makes PPS_IN valid, one out of spacing or 1.1 s
without one makes it invalid, and Painter leaves LOCKED_PPS; an edge of the other kind does nothing; 4,000 ticks of
SEARCH end in FREERUN; a cell not received for 2,000 ticks leaves the list and is no timing donor; a miss ends the run of
a candidate that the module itself received; n, SFN and HFC stay (R45, R50, R54, R57, R58, R330). -/
def Obligations.PainterFollowsItsSources : Prop :=
  (∀ (k : Bool) (sp ph : Nat) (s : State), s.time.running = true → s.modes.mode ≠ .reset →
    k = !s.dev.use.ptrCfg.bit 2 → 999999000 ≤ sp → sp ≤ 1000001000 →
    2 ≤ s.dev.ptr.ppsRun → ∃ t, exec (.ppsInEdge ⟨k, sp⟩ ph) s = .next t ∧ t.dev.ptr.ppsValid = true ∧
      t.time.n = s.time.n ∧ t.time.sfn = s.time.sfn ∧ t.time.hfc = s.time.hfc ∧ t.modes = s.modes ∧
      t.setup = s.setup ∧ t.nv = s.nv ∧ t.rings = s.rings) ∧
  (∀ (k : Bool) (sp ph : Nat) (s : State), s.time.running = true → s.modes.mode ≠ .reset →
    k = !s.dev.use.ptrCfg.bit 2 → sp < 999999000 ∨ 1000001000 < sp →
    ∃ t, exec (.ppsInEdge ⟨k, sp⟩ ph) s = .next t ∧ t.dev.ptr.ppsValid = false ∧ t.dev.ptr.ppsRun = 1 ∧
      t.dev.ptr.st ≠ .lockedPps ∧ s.SameOutside t ∧
      t.dev = { s.dev with ptr := t.dev.ptr, prt := t.dev.prt, host := t.dev.host }) ∧
  (∀ (k : Bool) (sp ph : Nat) (s : State), k = s.dev.use.ptrCfg.bit 2 → exec (.ppsInEdge ⟨k, sp⟩ ph) s = .next s) ∧
  (∀ s : State, ∃ t, exec .ppsInTimeout s = .next t ∧ t.dev.ptr.ppsValid = false ∧ t.dev.ptr.ppsRun = 0 ∧
    (s.dev.ptr.st = .lockedPps → t.dev.ptr.st = .holdover) ∧
    (s.dev.ptr.st ≠ .lockedPps → t.dev.ptr.st = s.dev.ptr.st) ∧ s.SameOutside t ∧
    t.dev = { s.dev with ptr := t.dev.ptr, prt := t.dev.prt, host := t.dev.host }) ∧
  (∀ s : State, s.dev.ptr.st = .search → 4000 ≤ s.dev.ptr.searchTicks → ∃ t, exec .searchTimeout s = .next t ∧
    t.dev.ptr.st = .freerun ∧ t.dev.ptr.donor = none ∧ t.dev.ptr.cands = s.dev.ptr.cands ∧ s.SameOutside t ∧
    t.dev = { s.dev with ptr := t.dev.ptr, host := t.dev.host }) ∧
  (∀ (idx : Nat) (x : Cand) (s : State), s.dev.ptr.cands.find? (fun x => x.idx == idx) = some x →
    2000 ≤ x.missTicks → ∃ t, exec (.candidateExpire idx) s = .next t ∧
      t.dev.ptr.cands = s.dev.ptr.cands.erase x ∧ t.dev.ptr.donor ≠ some (x.rat, x.pci) ∧ s.SameOutside t ∧
      t.dev = { s.dev with ptr := t.dev.ptr, prt := t.dev.prt, host := t.dev.host }) ∧
  (∀ (o : Occasion) (x : Cand) (s : State), s.time.running = true → occasionMode s.modes.mode = true →
    s.dev.srcPrio ≠ 2 → s.dev.plan.committed.isSome = true → s.dev.ptr.cand o.rat o.pci = some x →
    x.src = none → occasionHit o = false → ∃ t y, exec (.syncOccasion o) s = .next t ∧ t.dev.ptr.cand o.rat o.pci = some y ∧
      y.run = 0 ∧ y.missed = x.missed + 1 ∧ t.time.n = s.time.n ∧ t.time.tif = s.time.tif ∧
      t.time.sfn = s.time.sfn ∧ t.time.hfc = s.time.hfc ∧ t.modes = s.modes ∧ t.setup = s.setup ∧ t.nv = s.nv ∧
      t.rings = s.rings ∧ t.dev = { s.dev with ptr := t.dev.ptr, prt := t.dev.prt, host := t.dev.host })

/-- The timing donor: in LOCKED_DONOR a candidate 6 dB stronger for 200 ticks that lies within 1 us of the grid takes the
place of a donor that is not preferred; SFN and TIF are reloaded at the donor's frame boundary, n and HFC are not, and the
tracer epoch ends unless one has started with this tick (R45, R52, R55, R187). -/
def Obligations.TheDonorIsReplacedAndReloaded : Prop :=
  (∀ (cur x : Cand) (s : State), s.dev.ptr.donorCand = some cur → s.dev.ptr.st = .lockedDonor →
    s.dev.preferred cur = false →
    strongest (s.dev.ptr.cands.filter fun x => x.eligible s.modes.mode && decide (200 ≤ x.strong)) = some x →
    -12500 ≤ tickPhase x.timing → tickPhase x.timing ≤ 12500 → ∃ t, exec .donorReplace s = .next t ∧
      t.dev.ptr.donor = some (x.rat, x.pci) ∧ t.dev.ptr.st = .lockedDonor ∧ t.dev.ptr.misses = 0 ∧
      t.dev.ptr.phaseErr = tickPhase x.timing ∧ s.SameOutside t ∧
      t.dev = { s.dev with ptr := t.dev.ptr, prt := t.dev.prt, host := t.dev.host }) ∧
  (∀ (x : Cand) (new : Nat) (s : State), s.dev.ptr.donorCand = some x → s.time.running = true →
    s.time.window = .plan → s.dev.ptr.reload = true → s.dev.ptr.st = .lockedDonor →
    (s.time.tif : Int) * tickPeriods - x.timing - cellFrames s.time.tif x.timing * framePeriods < 3125000 →
    new = sfnMod ((s.time.sfn : Int) + cellFrames s.time.tif x.timing + x.sfnOffs) →
    ∃ t, exec .sfnReload s = .next t ∧ t.time = { s.time with tif := 0, sfn := new } ∧
      t.dev.ptr.reload = false ∧ t.dev.can.epochConv = s.time.conv ∧
      (s.dev.can.epochConv ≠ s.time.conv → t.dev.can.epochs = s.dev.can.epochs + 1) ∧
      t.modes = s.modes ∧ t.setup = s.setup ∧ t.nv = s.nv ∧ t.rings = s.rings ∧
      t.dev = { s.dev with
        reef := { s.dev.reef with sched := t.dev.reef.sched }
        pend := t.dev.pend, ptr := t.dev.ptr, plan := t.dev.plan, can := t.dev.can, book := t.dev.book,
        host := t.dev.host })

/-- Spliced modules: a link brings its peer into view; without one that ranks below it the module becomes timing master
at the election, and a slave at a takeover and when the master is lost, with n as it was; a slave takes T0, n, TIF,
SFN and HFC from the master's message; a port that stays down loses its peers, one that retrains none; the master takes a
slave's new candidate and its calibration report (R63 to R66, R419, R463). -/
def Obligations.SplicedModulesShareTheirTiming : Prop :=
  (∀ (port modId serial tracer : Nat) (s : State), port ≤ 3 → port < s.dev.splice.linkUp.length →
    s.modes.mode ≠ .reset → ∃ t p, exec (.spliceLinkUp port modId serial tracer) s = .next t ∧
      p ∈ t.dev.splice.peers ∧ p.modId = modId % 4 ∧ p.serial = serial ∧ p.tracer = tracer ∧ p.port = port ∧
      t.dev.splice.linkUp.getD port false = true ∧ s.SameOutside t) ∧
  (∀ s : State, s.time.running = true → 400 ≤ s.time.n → s.dev.splice.elected = false →
    s.dev.hasLower s.ctx = false → ∃ t, exec .electionTimeout s = .next t ∧ t.dev.splice.master = true ∧
      t.dev.splice.elected = true ∧ t.dev.splice.masterId = s.ident.modId ∧ t.modes = s.modes ∧
      t.setup = s.setup ∧ t.nv = s.nv ∧ t.rings = s.rings) ∧
  (∀ (i : Instr) (s : State), s.dev.isSlave = true → s.dev.hasLower s.ctx = false →
    ((i = .masterTakeover ∧ s.time.running = true ∧ s.time.window = .plan) ∨
      (i = .masterLost ∧ 3 ≤ s.dev.splice.lost)) →
    ∃ t, exec i s = .next t ∧ t.dev.splice.master = true ∧ t.dev.splice.masterId = s.ident.modId ∧
      t.dev.isSlave = false ∧ t.time.n = s.time.n ∧ t.modes = s.modes ∧ t.setup = s.setup ∧ t.nv = s.nv ∧
      t.rings = s.rings) ∧
  (∀ (t0 : MasterTick) (tif sfn hfc : Nat) (s : State), s.time.running = true → s.modes.mode ≠ .reset → s.dev.isSlave = true →
    s.dev.splice.master = false → ∃ t, exec (.spliceTimingMessage t0 tif sfn hfc) s = .next t ∧
      t.time = { s.time with
        conv := ((s.time.conv : Int) + t0.after).toNat, n := t0.n % 2 ^ 32, tif := tif % 20, sfn := sfn % 1024, hfc := hfc % 2 ^ 32 } ∧
      t.modes = s.modes ∧ t.setup = s.setup ∧ t.nv = s.nv ∧ t.rings = s.rings ∧
      t.dev = { s.dev with
        reef := { s.dev.reef with sched := t.dev.reef.sched }
        pend := t.dev.pend, ptr := t.dev.ptr, plan := t.dev.plan, splice := { s.dev.splice with lost := 0 } }) ∧
  (∀ (port : Nat) (s : State), port ≤ 3 → s.dev.splice.linkUp.getD port false = true →
    ∃ t, exec (.splicePortDown port true) s = .next t ∧
      (∀ p, p ∈ t.dev.splice.peers ↔ p ∈ s.dev.splice.peers ∧ p.port ≠ port) ∧
      t.dev.splice.linkUp.getD port false = false ∧ s.SameOutside t) ∧
  (∀ (port : Nat) (s : State), port ≤ 3 → s.dev.splice.linkUp.getD port false = true →
    ∃ t, exec (.splicePortDown port false) s = .next t ∧ t.dev.splice = s.dev.splice ∧ s.SameOutside t) ∧
  (∀ (m : Nat) (r : CandReport) (i : Nat) (s : State), s.time.running = true → s.dev.splice.master = true →
    s.dev.ptr.cand r.rat r.pci = none → s.dev.ptr.freeIdx = some i →
    ∃ t x, exec (.spliceCandidateReport ⟨m, [r]⟩) s = .next t ∧ x ∈ t.dev.ptr.cands ∧ x.src = some m ∧ x.rat = r.rat ∧ x.pci = r.pci ∧
      x.idx = i ∧ x.power = r.power ∧ t.time.n = s.time.n ∧ t.modes = s.modes ∧ t.setup = s.setup ∧ t.nv = s.nv ∧
      t.rings = s.rings) ∧
  (∀ (modId : Nat) (s : State), s.dev.splice.master = true → ∃ t, exec (.spliceCalReport modId) s = .next t ∧
    (∀ p, p ∈ t.dev.splice.peers → p.modId = modId → p.calDone = true) ∧ s.SameOutside t ∧
    t.dev = { s.dev with
      splice := t.dev.splice, conv := { s.dev.conv with
        syncPend := t.dev.conv.syncPend, calSyncDue := t.dev.conv.calSyncDue } })
end

