-- ==== Sys2Proof/Laws/State.lean ====
section
/-! SUPPORT. What the named updates of the state leave alone: one lemma for each field and update, true by rfl. -/

namespace Sys2Proof.Machine

/-! ### onDev -/

@[simp] theorem State.onDev_pending (s : State) (f : Ctx → Dev → Dev) : (s.onDev f).pending = s.pending := rfl
@[simp] theorem State.onDev_ident (s : State) (f : Ctx → Dev → Dev) : (s.onDev f).ident = s.ident := rfl
@[simp] theorem State.onDev_setup (s : State) (f : Ctx → Dev → Dev) : (s.onDev f).setup = s.setup := rfl
@[simp] theorem State.onDev_time (s : State) (f : Ctx → Dev → Dev) : (s.onDev f).time = s.time := rfl
@[simp] theorem State.onDev_modes (s : State) (f : Ctx → Dev → Dev) : (s.onDev f).modes = s.modes := rfl
@[simp] theorem State.onDev_nv (s : State) (f : Ctx → Dev → Dev) : (s.onDev f).nv = s.nv := rfl
@[simp] theorem State.onDev_rings (s : State) (f : Ctx → Dev → Dev) : (s.onDev f).rings = s.rings := rfl
@[simp] theorem State.onDev_dev (s : State) (f : Ctx → Dev → Dev) : (s.onDev f).dev = f s.ctx s.dev := rfl

/-! ### fetched -/

@[simp] theorem State.fetched_pending (s : State) : (s.fetched).pending = s.pending := rfl
@[simp] theorem State.fetched_ident (s : State) : (s.fetched).ident = s.ident := rfl
@[simp] theorem State.fetched_setup (s : State) : (s.fetched).setup = s.setup := rfl
@[simp] theorem State.fetched_time (s : State) : (s.fetched).time = s.time := rfl
@[simp] theorem State.fetched_modes (s : State) : (s.fetched).modes = s.modes := rfl
@[simp] theorem State.fetched_nv (s : State) : (s.fetched).nv = s.nv := rfl
@[simp] theorem State.fetched_rings (s : State) : (s.fetched).rings = s.rings := rfl
@[simp] theorem State.fetched_dev (s : State) : (s.fetched).dev = s.dev.fetched := rfl

/-! ### setRing -/

@[simp] theorem State.setRing_pending (s : State) (k : Nat) (r : Ring) : (s.setRing k r).pending = s.pending := rfl
@[simp] theorem State.setRing_ident (s : State) (k : Nat) (r : Ring) : (s.setRing k r).ident = s.ident := rfl
@[simp] theorem State.setRing_setup (s : State) (k : Nat) (r : Ring) : (s.setRing k r).setup = s.setup := rfl
@[simp] theorem State.setRing_time (s : State) (k : Nat) (r : Ring) : (s.setRing k r).time = s.time := rfl
@[simp] theorem State.setRing_modes (s : State) (k : Nat) (r : Ring) : (s.setRing k r).modes = s.modes := rfl
@[simp] theorem State.setRing_nv (s : State) (k : Nat) (r : Ring) : (s.setRing k r).nv = s.nv := rfl
@[simp] theorem State.setRing_rings (s : State) (k : Nat) (r : Ring) : (s.setRing k r).rings = s.rings.set k r := rfl
@[simp] theorem State.setRing_dev (s : State) (k : Nat) (r : Ring) : (s.setRing k r).dev = s.dev := rfl

/-! ### returns -/

@[simp] theorem State.returns_pending (s : State) (w : Word) : (s.returns w).pending = s.pending := rfl
@[simp] theorem State.returns_ident (s : State) (w : Word) : (s.returns w).ident = s.ident := rfl
@[simp] theorem State.returns_setup (s : State) (w : Word) : (s.returns w).setup = s.setup := rfl
@[simp] theorem State.returns_time (s : State) (w : Word) : (s.returns w).time = s.time := rfl
@[simp] theorem State.returns_modes (s : State) (w : Word) : (s.returns w).modes = s.modes := rfl
@[simp] theorem State.returns_nv (s : State) (w : Word) : (s.returns w).nv = s.nv := rfl
@[simp] theorem State.returns_rings (s : State) (w : Word) : (s.returns w).rings = s.rings := rfl

/-! ### latchTick -/

@[simp] theorem State.latchTick_pending (s : State) : (s.latchTick).pending = s.pending := rfl
@[simp] theorem State.latchTick_ident (s : State) : (s.latchTick).ident = s.ident := rfl
@[simp] theorem State.latchTick_setup (s : State) : (s.latchTick).setup = s.setup := rfl
@[simp] theorem State.latchTick_modes (s : State) : (s.latchTick).modes = s.modes := rfl
@[simp] theorem State.latchTick_nv (s : State) : (s.latchTick).nv = s.nv := rfl
@[simp] theorem State.latchTick_rings (s : State) : (s.latchTick).rings = s.rings := rfl
@[simp] theorem State.latchTick_dev (s : State) : (s.latchTick).dev = s.dev := rfl

/-! ### latchUtc -/

@[simp] theorem State.latchUtc_pending (s : State) : (s.latchUtc).pending = s.pending := rfl
@[simp] theorem State.latchUtc_ident (s : State) : (s.latchUtc).ident = s.ident := rfl
@[simp] theorem State.latchUtc_setup (s : State) : (s.latchUtc).setup = s.setup := rfl
@[simp] theorem State.latchUtc_modes (s : State) : (s.latchUtc).modes = s.modes := rfl
@[simp] theorem State.latchUtc_nv (s : State) : (s.latchUtc).nv = s.nv := rfl
@[simp] theorem State.latchUtc_rings (s : State) : (s.latchUtc).rings = s.rings := rfl
@[simp] theorem State.latchUtc_dev (s : State) : (s.latchUtc).dev = s.dev := rfl

/-! ### stage -/

@[simp] theorem Dev.stage_use (d : Dev) (r : Staged) : (d.stage r).use = d.use := rfl
@[simp] theorem Dev.stage_pend (d : Dev) (r : Staged) : (d.stage r).pend = d.pend := rfl
@[simp] theorem Dev.stage_ptr (d : Dev) (r : Staged) : (d.stage r).ptr = d.ptr := rfl
@[simp] theorem Dev.stage_conv (d : Dev) (r : Staged) : (d.stage r).conv = d.conv := rfl
@[simp] theorem Dev.stage_lyd (d : Dev) (r : Staged) : (d.stage r).lyd = d.lyd := rfl
@[simp] theorem Dev.stage_plan (d : Dev) (r : Staged) : (d.stage r).plan = d.plan := rfl
@[simp] theorem Dev.stage_clk (d : Dev) (r : Staged) : (d.stage r).clk = d.clk := rfl
@[simp] theorem Dev.stage_prt (d : Dev) (r : Staged) : (d.stage r).prt = d.prt := rfl
@[simp] theorem Dev.stage_beams (d : Dev) (r : Staged) : (d.stage r).beams = d.beams := rfl
@[simp] theorem Dev.stage_can (d : Dev) (r : Staged) : (d.stage r).can = d.can := rfl
@[simp] theorem Dev.stage_osc (d : Dev) (r : Staged) : (d.stage r).osc = d.osc := rfl
@[simp] theorem Dev.stage_bel (d : Dev) (r : Staged) : (d.stage r).bel = d.bel := rfl
@[simp] theorem Dev.stage_book (d : Dev) (r : Staged) : (d.stage r).book = d.book := rfl
@[simp] theorem Dev.stage_ldl (d : Dev) (r : Staged) : (d.stage r).ldl = d.ldl := rfl
@[simp] theorem Dev.stage_reef (d : Dev) (r : Staged) : (d.stage r).reef = d.reef := rfl
@[simp] theorem Dev.stage_thm (d : Dev) (r : Staged) : (d.stage r).thm = d.thm := rfl
@[simp] theorem Dev.stage_mem (d : Dev) (r : Staged) : (d.stage r).mem = d.mem := rfl
@[simp] theorem Dev.stage_stop (d : Dev) (r : Staged) : (d.stage r).stop = d.stop := rfl
@[simp] theorem Dev.stage_log (d : Dev) (r : Staged) : (d.stage r).log = d.log := rfl
@[simp] theorem Dev.stage_host (d : Dev) (r : Staged) : (d.stage r).host = { d.host with staged := d.host.staged ++ [r] } := rfl
@[simp] theorem Dev.stage_qual (d : Dev) (r : Staged) : (d.stage r).qual = d.qual := rfl
@[simp] theorem Dev.stage_boot (d : Dev) (r : Staged) : (d.stage r).boot = d.boot := rfl
@[simp] theorem Dev.stage_splice (d : Dev) (r : Staged) : (d.stage r).splice = d.splice := rfl
@[simp] theorem Dev.stage_tapes (d : Dev) (r : Staged) : (d.stage r).tapes = d.tapes := rfl
@[simp] theorem Dev.stage_hwsA (d : Dev) (r : Staged) : (d.stage r).hwsA = d.hwsA := rfl
@[simp] theorem Dev.stage_hwsB (d : Dev) (r : Staged) : (d.stage r).hwsB = d.hwsB := rfl
@[simp] theorem Dev.stage_free (d : Dev) (r : Staged) : (d.stage r).free = d.free := rfl

/-! ### logRec -/

@[simp] theorem Dev.logRec_use (d : Dev) (typ : Nat) (pinned : Bool) (payload : Bytes) : (d.logRec typ pinned payload).use = d.use := rfl
@[simp] theorem Dev.logRec_pend (d : Dev) (typ : Nat) (pinned : Bool) (payload : Bytes) : (d.logRec typ pinned payload).pend = d.pend := rfl
@[simp] theorem Dev.logRec_ptr (d : Dev) (typ : Nat) (pinned : Bool) (payload : Bytes) : (d.logRec typ pinned payload).ptr = d.ptr := rfl
@[simp] theorem Dev.logRec_conv (d : Dev) (typ : Nat) (pinned : Bool) (payload : Bytes) : (d.logRec typ pinned payload).conv = d.conv := rfl
@[simp] theorem Dev.logRec_lyd (d : Dev) (typ : Nat) (pinned : Bool) (payload : Bytes) : (d.logRec typ pinned payload).lyd = d.lyd := rfl
@[simp] theorem Dev.logRec_plan (d : Dev) (typ : Nat) (pinned : Bool) (payload : Bytes) : (d.logRec typ pinned payload).plan = d.plan := rfl
@[simp] theorem Dev.logRec_clk (d : Dev) (typ : Nat) (pinned : Bool) (payload : Bytes) : (d.logRec typ pinned payload).clk = d.clk := rfl
@[simp] theorem Dev.logRec_prt (d : Dev) (typ : Nat) (pinned : Bool) (payload : Bytes) : (d.logRec typ pinned payload).prt = d.prt := rfl
@[simp] theorem Dev.logRec_beams (d : Dev) (typ : Nat) (pinned : Bool) (payload : Bytes) : (d.logRec typ pinned payload).beams = d.beams := rfl
@[simp] theorem Dev.logRec_can (d : Dev) (typ : Nat) (pinned : Bool) (payload : Bytes) : (d.logRec typ pinned payload).can = d.can := rfl
@[simp] theorem Dev.logRec_osc (d : Dev) (typ : Nat) (pinned : Bool) (payload : Bytes) : (d.logRec typ pinned payload).osc = d.osc := rfl
@[simp] theorem Dev.logRec_bel (d : Dev) (typ : Nat) (pinned : Bool) (payload : Bytes) : (d.logRec typ pinned payload).bel = d.bel := rfl
@[simp] theorem Dev.logRec_book (d : Dev) (typ : Nat) (pinned : Bool) (payload : Bytes) : (d.logRec typ pinned payload).book = d.book := rfl
@[simp] theorem Dev.logRec_ldl (d : Dev) (typ : Nat) (pinned : Bool) (payload : Bytes) : (d.logRec typ pinned payload).ldl = d.ldl := rfl
@[simp] theorem Dev.logRec_reef (d : Dev) (typ : Nat) (pinned : Bool) (payload : Bytes) : (d.logRec typ pinned payload).reef = d.reef := rfl
@[simp] theorem Dev.logRec_thm (d : Dev) (typ : Nat) (pinned : Bool) (payload : Bytes) : (d.logRec typ pinned payload).thm = d.thm := rfl
@[simp] theorem Dev.logRec_mem (d : Dev) (typ : Nat) (pinned : Bool) (payload : Bytes) : (d.logRec typ pinned payload).mem = d.mem := rfl
@[simp] theorem Dev.logRec_stop (d : Dev) (typ : Nat) (pinned : Bool) (payload : Bytes) : (d.logRec typ pinned payload).stop = d.stop := rfl
@[simp] theorem Dev.logRec_host (d : Dev) (typ : Nat) (pinned : Bool) (payload : Bytes) : (d.logRec typ pinned payload).host = d.host := rfl
@[simp] theorem Dev.logRec_qual (d : Dev) (typ : Nat) (pinned : Bool) (payload : Bytes) : (d.logRec typ pinned payload).qual = d.qual := rfl
@[simp] theorem Dev.logRec_boot (d : Dev) (typ : Nat) (pinned : Bool) (payload : Bytes) : (d.logRec typ pinned payload).boot = d.boot := rfl
@[simp] theorem Dev.logRec_splice (d : Dev) (typ : Nat) (pinned : Bool) (payload : Bytes) : (d.logRec typ pinned payload).splice = d.splice := rfl
@[simp] theorem Dev.logRec_tapes (d : Dev) (typ : Nat) (pinned : Bool) (payload : Bytes) : (d.logRec typ pinned payload).tapes = d.tapes := rfl
@[simp] theorem Dev.logRec_hwsA (d : Dev) (typ : Nat) (pinned : Bool) (payload : Bytes) : (d.logRec typ pinned payload).hwsA = d.hwsA := rfl
@[simp] theorem Dev.logRec_hwsB (d : Dev) (typ : Nat) (pinned : Bool) (payload : Bytes) : (d.logRec typ pinned payload).hwsB = d.hwsB := rfl
@[simp] theorem Dev.logRec_free (d : Dev) (typ : Nat) (pinned : Bool) (payload : Bytes) : (d.logRec typ pinned payload).free = d.free := rfl

/-! ### fetched -/

@[simp] theorem Dev.fetched_use (d : Dev) : (d.fetched).use = d.use := rfl
@[simp] theorem Dev.fetched_pend (d : Dev) : (d.fetched).pend = d.pend := rfl
@[simp] theorem Dev.fetched_ptr (d : Dev) : (d.fetched).ptr = d.ptr := rfl
@[simp] theorem Dev.fetched_conv (d : Dev) : (d.fetched).conv = d.conv := rfl
@[simp] theorem Dev.fetched_lyd (d : Dev) : (d.fetched).lyd = d.lyd := rfl
@[simp] theorem Dev.fetched_plan (d : Dev) : (d.fetched).plan = d.plan := rfl
@[simp] theorem Dev.fetched_clk (d : Dev) : (d.fetched).clk = d.clk := rfl
@[simp] theorem Dev.fetched_prt (d : Dev) : (d.fetched).prt = d.prt := rfl
@[simp] theorem Dev.fetched_beams (d : Dev) : (d.fetched).beams = d.beams := rfl
@[simp] theorem Dev.fetched_can (d : Dev) : (d.fetched).can = d.can := rfl
@[simp] theorem Dev.fetched_osc (d : Dev) : (d.fetched).osc = d.osc := rfl
@[simp] theorem Dev.fetched_bel (d : Dev) : (d.fetched).bel = d.bel := rfl
@[simp] theorem Dev.fetched_book (d : Dev) : (d.fetched).book = d.book := rfl
@[simp] theorem Dev.fetched_ldl (d : Dev) : (d.fetched).ldl = d.ldl := rfl
@[simp] theorem Dev.fetched_reef (d : Dev) : (d.fetched).reef = d.reef := rfl
@[simp] theorem Dev.fetched_thm (d : Dev) : (d.fetched).thm = d.thm := rfl
@[simp] theorem Dev.fetched_mem (d : Dev) : (d.fetched).mem = d.mem := rfl
@[simp] theorem Dev.fetched_stop (d : Dev) : (d.fetched).stop = d.stop := rfl
@[simp] theorem Dev.fetched_log (d : Dev) : (d.fetched).log = d.log := rfl
@[simp] theorem Dev.fetched_host (d : Dev) : (d.fetched).host = { d.host with owed := d.host.owed + 1 } := rfl
@[simp] theorem Dev.fetched_qual (d : Dev) : (d.fetched).qual = d.qual := rfl
@[simp] theorem Dev.fetched_boot (d : Dev) : (d.fetched).boot = d.boot := rfl
@[simp] theorem Dev.fetched_splice (d : Dev) : (d.fetched).splice = d.splice := rfl
@[simp] theorem Dev.fetched_tapes (d : Dev) : (d.fetched).tapes = d.tapes := rfl
@[simp] theorem Dev.fetched_hwsA (d : Dev) : (d.fetched).hwsA = d.hwsA := rfl
@[simp] theorem Dev.fetched_hwsB (d : Dev) : (d.fetched).hwsB = d.hwsB := rfl
@[simp] theorem Dev.fetched_free (d : Dev) : (d.fetched).free = d.free := rfl

/-! ### queueFrames -/

@[simp] theorem Dev.queueFrames_use (d : Dev) (fs : List QFrame) : (d.queueFrames fs).use = d.use := rfl
@[simp] theorem Dev.queueFrames_pend (d : Dev) (fs : List QFrame) : (d.queueFrames fs).pend = d.pend := rfl
@[simp] theorem Dev.queueFrames_ptr (d : Dev) (fs : List QFrame) : (d.queueFrames fs).ptr = d.ptr := rfl
@[simp] theorem Dev.queueFrames_conv (d : Dev) (fs : List QFrame) : (d.queueFrames fs).conv = d.conv := rfl
@[simp] theorem Dev.queueFrames_plan (d : Dev) (fs : List QFrame) : (d.queueFrames fs).plan = d.plan := rfl
@[simp] theorem Dev.queueFrames_clk (d : Dev) (fs : List QFrame) : (d.queueFrames fs).clk = d.clk := rfl
@[simp] theorem Dev.queueFrames_prt (d : Dev) (fs : List QFrame) : (d.queueFrames fs).prt = d.prt := rfl
@[simp] theorem Dev.queueFrames_beams (d : Dev) (fs : List QFrame) : (d.queueFrames fs).beams = d.beams := rfl
@[simp] theorem Dev.queueFrames_can (d : Dev) (fs : List QFrame) : (d.queueFrames fs).can = d.can := rfl
@[simp] theorem Dev.queueFrames_osc (d : Dev) (fs : List QFrame) : (d.queueFrames fs).osc = d.osc := rfl
@[simp] theorem Dev.queueFrames_bel (d : Dev) (fs : List QFrame) : (d.queueFrames fs).bel = d.bel := rfl
@[simp] theorem Dev.queueFrames_book (d : Dev) (fs : List QFrame) : (d.queueFrames fs).book = d.book := rfl
@[simp] theorem Dev.queueFrames_ldl (d : Dev) (fs : List QFrame) : (d.queueFrames fs).ldl = d.ldl := rfl
@[simp] theorem Dev.queueFrames_reef (d : Dev) (fs : List QFrame) : (d.queueFrames fs).reef = d.reef := rfl
@[simp] theorem Dev.queueFrames_thm (d : Dev) (fs : List QFrame) : (d.queueFrames fs).thm = d.thm := rfl
@[simp] theorem Dev.queueFrames_mem (d : Dev) (fs : List QFrame) : (d.queueFrames fs).mem = d.mem := rfl
@[simp] theorem Dev.queueFrames_stop (d : Dev) (fs : List QFrame) : (d.queueFrames fs).stop = d.stop := rfl
@[simp] theorem Dev.queueFrames_log (d : Dev) (fs : List QFrame) : (d.queueFrames fs).log = d.log := rfl
@[simp] theorem Dev.queueFrames_host (d : Dev) (fs : List QFrame) : (d.queueFrames fs).host = d.host := rfl
@[simp] theorem Dev.queueFrames_qual (d : Dev) (fs : List QFrame) : (d.queueFrames fs).qual = d.qual := rfl
@[simp] theorem Dev.queueFrames_boot (d : Dev) (fs : List QFrame) : (d.queueFrames fs).boot = d.boot := rfl
@[simp] theorem Dev.queueFrames_splice (d : Dev) (fs : List QFrame) : (d.queueFrames fs).splice = d.splice := rfl
@[simp] theorem Dev.queueFrames_tapes (d : Dev) (fs : List QFrame) : (d.queueFrames fs).tapes = d.tapes := rfl
@[simp] theorem Dev.queueFrames_hwsA (d : Dev) (fs : List QFrame) : (d.queueFrames fs).hwsA = d.hwsA := rfl
@[simp] theorem Dev.queueFrames_hwsB (d : Dev) (fs : List QFrame) : (d.queueFrames fs).hwsB = d.hwsB := rfl
@[simp] theorem Dev.queueFrames_free (d : Dev) (fs : List QFrame) : (d.queueFrames fs).free = d.free := rfl

/-! ### onHwsA -/

@[simp] theorem Dev.onHwsA_use (d : Dev) (h : Nat) (f : HwsA → HwsA) : (d.onHwsA h f).use = d.use := rfl
@[simp] theorem Dev.onHwsA_pend (d : Dev) (h : Nat) (f : HwsA → HwsA) : (d.onHwsA h f).pend = d.pend := rfl
@[simp] theorem Dev.onHwsA_ptr (d : Dev) (h : Nat) (f : HwsA → HwsA) : (d.onHwsA h f).ptr = d.ptr := rfl
@[simp] theorem Dev.onHwsA_conv (d : Dev) (h : Nat) (f : HwsA → HwsA) : (d.onHwsA h f).conv = d.conv := rfl
@[simp] theorem Dev.onHwsA_lyd (d : Dev) (h : Nat) (f : HwsA → HwsA) : (d.onHwsA h f).lyd = d.lyd := rfl
@[simp] theorem Dev.onHwsA_plan (d : Dev) (h : Nat) (f : HwsA → HwsA) : (d.onHwsA h f).plan = d.plan := rfl
@[simp] theorem Dev.onHwsA_clk (d : Dev) (h : Nat) (f : HwsA → HwsA) : (d.onHwsA h f).clk = d.clk := rfl
@[simp] theorem Dev.onHwsA_prt (d : Dev) (h : Nat) (f : HwsA → HwsA) : (d.onHwsA h f).prt = d.prt := rfl
@[simp] theorem Dev.onHwsA_beams (d : Dev) (h : Nat) (f : HwsA → HwsA) : (d.onHwsA h f).beams = d.beams := rfl
@[simp] theorem Dev.onHwsA_can (d : Dev) (h : Nat) (f : HwsA → HwsA) : (d.onHwsA h f).can = d.can := rfl
@[simp] theorem Dev.onHwsA_osc (d : Dev) (h : Nat) (f : HwsA → HwsA) : (d.onHwsA h f).osc = d.osc := rfl
@[simp] theorem Dev.onHwsA_bel (d : Dev) (h : Nat) (f : HwsA → HwsA) : (d.onHwsA h f).bel = d.bel := rfl
@[simp] theorem Dev.onHwsA_book (d : Dev) (h : Nat) (f : HwsA → HwsA) : (d.onHwsA h f).book = d.book := rfl
@[simp] theorem Dev.onHwsA_ldl (d : Dev) (h : Nat) (f : HwsA → HwsA) : (d.onHwsA h f).ldl = d.ldl := rfl
@[simp] theorem Dev.onHwsA_reef (d : Dev) (h : Nat) (f : HwsA → HwsA) : (d.onHwsA h f).reef = d.reef := rfl
@[simp] theorem Dev.onHwsA_thm (d : Dev) (h : Nat) (f : HwsA → HwsA) : (d.onHwsA h f).thm = d.thm := rfl
@[simp] theorem Dev.onHwsA_mem (d : Dev) (h : Nat) (f : HwsA → HwsA) : (d.onHwsA h f).mem = d.mem := rfl
@[simp] theorem Dev.onHwsA_stop (d : Dev) (h : Nat) (f : HwsA → HwsA) : (d.onHwsA h f).stop = d.stop := rfl
@[simp] theorem Dev.onHwsA_log (d : Dev) (h : Nat) (f : HwsA → HwsA) : (d.onHwsA h f).log = d.log := rfl
@[simp] theorem Dev.onHwsA_host (d : Dev) (h : Nat) (f : HwsA → HwsA) : (d.onHwsA h f).host = d.host := rfl
@[simp] theorem Dev.onHwsA_qual (d : Dev) (h : Nat) (f : HwsA → HwsA) : (d.onHwsA h f).qual = d.qual := rfl
@[simp] theorem Dev.onHwsA_boot (d : Dev) (h : Nat) (f : HwsA → HwsA) : (d.onHwsA h f).boot = d.boot := rfl
@[simp] theorem Dev.onHwsA_splice (d : Dev) (h : Nat) (f : HwsA → HwsA) : (d.onHwsA h f).splice = d.splice := rfl
@[simp] theorem Dev.onHwsA_tapes (d : Dev) (h : Nat) (f : HwsA → HwsA) : (d.onHwsA h f).tapes = d.tapes := rfl
@[simp] theorem Dev.onHwsA_hwsA (d : Dev) (h : Nat) (f : HwsA → HwsA) : (d.onHwsA h f).hwsA = d.hwsA.modify h f := rfl
@[simp] theorem Dev.onHwsA_hwsB (d : Dev) (h : Nat) (f : HwsA → HwsA) : (d.onHwsA h f).hwsB = d.hwsB := rfl
@[simp] theorem Dev.onHwsA_free (d : Dev) (h : Nat) (f : HwsA → HwsA) : (d.onHwsA h f).free = d.free := rfl

/-! ### onHwsB -/

@[simp] theorem Dev.onHwsB_use (d : Dev) (h : Nat) (f : HwsB → HwsB) : (d.onHwsB h f).use = d.use := rfl
@[simp] theorem Dev.onHwsB_pend (d : Dev) (h : Nat) (f : HwsB → HwsB) : (d.onHwsB h f).pend = d.pend := rfl
@[simp] theorem Dev.onHwsB_ptr (d : Dev) (h : Nat) (f : HwsB → HwsB) : (d.onHwsB h f).ptr = d.ptr := rfl
@[simp] theorem Dev.onHwsB_conv (d : Dev) (h : Nat) (f : HwsB → HwsB) : (d.onHwsB h f).conv = d.conv := rfl
@[simp] theorem Dev.onHwsB_lyd (d : Dev) (h : Nat) (f : HwsB → HwsB) : (d.onHwsB h f).lyd = d.lyd := rfl
@[simp] theorem Dev.onHwsB_plan (d : Dev) (h : Nat) (f : HwsB → HwsB) : (d.onHwsB h f).plan = d.plan := rfl
@[simp] theorem Dev.onHwsB_clk (d : Dev) (h : Nat) (f : HwsB → HwsB) : (d.onHwsB h f).clk = d.clk := rfl
@[simp] theorem Dev.onHwsB_prt (d : Dev) (h : Nat) (f : HwsB → HwsB) : (d.onHwsB h f).prt = d.prt := rfl
@[simp] theorem Dev.onHwsB_beams (d : Dev) (h : Nat) (f : HwsB → HwsB) : (d.onHwsB h f).beams = d.beams := rfl
@[simp] theorem Dev.onHwsB_can (d : Dev) (h : Nat) (f : HwsB → HwsB) : (d.onHwsB h f).can = d.can := rfl
@[simp] theorem Dev.onHwsB_osc (d : Dev) (h : Nat) (f : HwsB → HwsB) : (d.onHwsB h f).osc = d.osc := rfl
@[simp] theorem Dev.onHwsB_bel (d : Dev) (h : Nat) (f : HwsB → HwsB) : (d.onHwsB h f).bel = d.bel := rfl
@[simp] theorem Dev.onHwsB_book (d : Dev) (h : Nat) (f : HwsB → HwsB) : (d.onHwsB h f).book = d.book := rfl
@[simp] theorem Dev.onHwsB_ldl (d : Dev) (h : Nat) (f : HwsB → HwsB) : (d.onHwsB h f).ldl = d.ldl := rfl
@[simp] theorem Dev.onHwsB_reef (d : Dev) (h : Nat) (f : HwsB → HwsB) : (d.onHwsB h f).reef = d.reef := rfl
@[simp] theorem Dev.onHwsB_thm (d : Dev) (h : Nat) (f : HwsB → HwsB) : (d.onHwsB h f).thm = d.thm := rfl
@[simp] theorem Dev.onHwsB_mem (d : Dev) (h : Nat) (f : HwsB → HwsB) : (d.onHwsB h f).mem = d.mem := rfl
@[simp] theorem Dev.onHwsB_stop (d : Dev) (h : Nat) (f : HwsB → HwsB) : (d.onHwsB h f).stop = d.stop := rfl
@[simp] theorem Dev.onHwsB_log (d : Dev) (h : Nat) (f : HwsB → HwsB) : (d.onHwsB h f).log = d.log := rfl
@[simp] theorem Dev.onHwsB_host (d : Dev) (h : Nat) (f : HwsB → HwsB) : (d.onHwsB h f).host = d.host := rfl
@[simp] theorem Dev.onHwsB_qual (d : Dev) (h : Nat) (f : HwsB → HwsB) : (d.onHwsB h f).qual = d.qual := rfl
@[simp] theorem Dev.onHwsB_boot (d : Dev) (h : Nat) (f : HwsB → HwsB) : (d.onHwsB h f).boot = d.boot := rfl
@[simp] theorem Dev.onHwsB_splice (d : Dev) (h : Nat) (f : HwsB → HwsB) : (d.onHwsB h f).splice = d.splice := rfl
@[simp] theorem Dev.onHwsB_tapes (d : Dev) (h : Nat) (f : HwsB → HwsB) : (d.onHwsB h f).tapes = d.tapes := rfl
@[simp] theorem Dev.onHwsB_hwsA (d : Dev) (h : Nat) (f : HwsB → HwsB) : (d.onHwsB h f).hwsA = d.hwsA := rfl
@[simp] theorem Dev.onHwsB_hwsB (d : Dev) (h : Nat) (f : HwsB → HwsB) : (d.onHwsB h f).hwsB = d.hwsB.modify h f := rfl
@[simp] theorem Dev.onHwsB_free (d : Dev) (h : Nat) (f : HwsB → HwsB) : (d.onHwsB h f).free = d.free := rfl

end Sys2Proof.Machine
end

