-- ==== Sys2Proof/Laws/Frame.lean ====
section
/-! SUPPORT. What the operations on a whole state leave alone: the queue, the identity, the setup registers, and
where they keep them the time, the modes, the stores and the rings. -/

namespace Sys2Proof.Machine

/-! ### writeIndex -/

@[simp] theorem State.writeIndex_pending (s : State) : s.writeIndex.pending = s.pending := by
  unfold State.writeIndex; (try dsimp only); (repeat' split) <;> simp
@[simp] theorem State.writeIndex_ident (s : State) : s.writeIndex.ident = s.ident := by
  unfold State.writeIndex; (try dsimp only); (repeat' split) <;> simp
@[simp] theorem State.writeIndex_setup (s : State) : s.writeIndex.setup = s.setup := by
  unfold State.writeIndex; (try dsimp only); (repeat' split) <;> simp
@[simp] theorem State.writeIndex_time (s : State) : s.writeIndex.time = s.time := by
  unfold State.writeIndex; (try dsimp only); (repeat' split) <;> simp
@[simp] theorem State.writeIndex_modes (s : State) : s.writeIndex.modes = s.modes := by
  unfold State.writeIndex; (try dsimp only); (repeat' split) <;> simp
@[simp] theorem State.writeIndex_nv (s : State) : s.writeIndex.nv = s.nv := by
  unfold State.writeIndex; (try dsimp only); (repeat' split) <;> simp
@[simp] theorem State.writeIndex_rings (s : State) : s.writeIndex.rings = s.rings := by
  unfold State.writeIndex; (try dsimp only); (repeat' split) <;> simp

/-! ### settleMutesAt -/

@[simp] theorem State.settleMutesAt_pending (s : State) (sub : Nat) : (s.settleMutesAt sub).pending = s.pending := by
  unfold State.settleMutesAt; (try dsimp only); (repeat' split) <;> simp
@[simp] theorem State.settleMutesAt_ident (s : State) (sub : Nat) : (s.settleMutesAt sub).ident = s.ident := by
  unfold State.settleMutesAt; (try dsimp only); (repeat' split) <;> simp
@[simp] theorem State.settleMutesAt_setup (s : State) (sub : Nat) : (s.settleMutesAt sub).setup = s.setup := by
  unfold State.settleMutesAt; (try dsimp only); (repeat' split) <;> simp
@[simp] theorem State.settleMutesAt_time (s : State) (sub : Nat) : (s.settleMutesAt sub).time = s.time := by
  unfold State.settleMutesAt; (try dsimp only); (repeat' split) <;> simp
@[simp] theorem State.settleMutesAt_nv (s : State) (sub : Nat) : (s.settleMutesAt sub).nv = s.nv := by
  unfold State.settleMutesAt; (try dsimp only); (repeat' split) <;> simp
@[simp] theorem State.settleMutesAt_rings (s : State) (sub : Nat) : (s.settleMutesAt sub).rings = s.rings := by
  unfold State.settleMutesAt; (try dsimp only); (repeat' split) <;> simp

/-! ### settleMutes -/

@[simp] theorem State.settleMutes_pending (s : State) : s.settleMutes.pending = s.pending := by
  simp [State.settleMutes]
@[simp] theorem State.settleMutes_ident (s : State) : s.settleMutes.ident = s.ident := by simp [State.settleMutes]
@[simp] theorem State.settleMutes_setup (s : State) : s.settleMutes.setup = s.setup := by simp [State.settleMutes]
@[simp] theorem State.settleMutes_time (s : State) : s.settleMutes.time = s.time := by simp [State.settleMutes]
@[simp] theorem State.settleMutes_nv (s : State) : s.settleMutes.nv = s.nv := by simp [State.settleMutes]
@[simp] theorem State.settleMutes_rings (s : State) : s.settleMutes.rings = s.rings := by simp [State.settleMutes]

/-! ### leaveMuted -/

@[simp] theorem State.leaveMuted_pending (s : State) : s.leaveMuted.pending = s.pending := by
  unfold State.leaveMuted; (try dsimp only); (repeat' split) <;> simp
@[simp] theorem State.leaveMuted_ident (s : State) : s.leaveMuted.ident = s.ident := by
  unfold State.leaveMuted; (try dsimp only); (repeat' split) <;> simp
@[simp] theorem State.leaveMuted_setup (s : State) : s.leaveMuted.setup = s.setup := by
  unfold State.leaveMuted; (try dsimp only); (repeat' split) <;> simp
@[simp] theorem State.leaveMuted_time (s : State) : s.leaveMuted.time = s.time := by
  unfold State.leaveMuted; (try dsimp only); (repeat' split) <;> simp
@[simp] theorem State.leaveMuted_nv (s : State) : s.leaveMuted.nv = s.nv := by
  unfold State.leaveMuted; (try dsimp only); (repeat' split) <;> simp
@[simp] theorem State.leaveMuted_rings (s : State) : s.leaveMuted.rings = s.rings := by
  unfold State.leaveMuted; (try dsimp only); (repeat' split) <;> simp

/-! ### feed -/

@[simp] theorem State.feed_pending (s : State) (x : Samples) : (s.feed x).pending = s.pending := by
  unfold State.feed; (try dsimp only); (repeat' split) <;> simp
@[simp] theorem State.feed_ident (s : State) (x : Samples) : (s.feed x).ident = s.ident := by
  unfold State.feed; (try dsimp only); (repeat' split) <;> simp
@[simp] theorem State.feed_setup (s : State) (x : Samples) : (s.feed x).setup = s.setup := by
  unfold State.feed; (try dsimp only); (repeat' split) <;> simp
@[simp] theorem State.feed_time (s : State) (x : Samples) : (s.feed x).time = s.time := by
  unfold State.feed; (try dsimp only); (repeat' split) <;> simp
@[simp] theorem State.feed_modes (s : State) (x : Samples) : (s.feed x).modes = s.modes := by
  unfold State.feed; (try dsimp only); (repeat' split) <;> simp
@[simp] theorem State.feed_nv (s : State) (x : Samples) : (s.feed x).nv = s.nv := by
  unfold State.feed; (try dsimp only); (repeat' split) <;> simp
@[simp] theorem State.feed_rings (s : State) (x : Samples) : (s.feed x).rings = s.rings := by
  unfold State.feed; (try dsimp only); (repeat' split) <;> simp

/-! ### switchWeights -/

@[simp] theorem State.switchWeights_pending (s : State) (bg slot sub : Nat) :
    (s.switchWeights bg slot sub).pending = s.pending := by
  unfold State.switchWeights; (try dsimp only); (repeat' split) <;> simp
@[simp] theorem State.switchWeights_ident (s : State) (bg slot sub : Nat) :
    (s.switchWeights bg slot sub).ident = s.ident := by
  unfold State.switchWeights; (try dsimp only); (repeat' split) <;> simp
@[simp] theorem State.switchWeights_setup (s : State) (bg slot sub : Nat) :
    (s.switchWeights bg slot sub).setup = s.setup := by
  unfold State.switchWeights; (try dsimp only); (repeat' split) <;> simp
@[simp] theorem State.switchWeights_time (s : State) (bg slot sub : Nat) :
    (s.switchWeights bg slot sub).time = s.time := by
  unfold State.switchWeights; (try dsimp only); (repeat' split) <;> simp
@[simp] theorem State.switchWeights_modes (s : State) (bg slot sub : Nat) :
    (s.switchWeights bg slot sub).modes = s.modes := by
  unfold State.switchWeights; (try dsimp only); (repeat' split) <;> simp
@[simp] theorem State.switchWeights_nv (s : State) (bg slot sub : Nat) : (s.switchWeights bg slot sub).nv = s.nv := by
  unfold State.switchWeights; (try dsimp only); (repeat' split) <;> simp
@[simp] theorem State.switchWeights_rings (s : State) (bg slot sub : Nat) :
    (s.switchWeights bg slot sub).rings = s.rings := by
  unfold State.switchWeights; (try dsimp only); (repeat' split) <;> simp

/-! ### dropSlot -/

@[simp] theorem State.dropSlot_pending (s : State) (bg slot sub : Nat) :
    (s.dropSlot bg slot sub).pending = s.pending := by
  unfold State.dropSlot; (try dsimp only); (repeat' split) <;> simp
@[simp] theorem State.dropSlot_ident (s : State) (bg slot sub : Nat) : (s.dropSlot bg slot sub).ident = s.ident := by
  unfold State.dropSlot; (try dsimp only); (repeat' split) <;> simp
@[simp] theorem State.dropSlot_setup (s : State) (bg slot sub : Nat) : (s.dropSlot bg slot sub).setup = s.setup := by
  unfold State.dropSlot; (try dsimp only); (repeat' split) <;> simp
@[simp] theorem State.dropSlot_time (s : State) (bg slot sub : Nat) : (s.dropSlot bg slot sub).time = s.time := by
  unfold State.dropSlot; (try dsimp only); (repeat' split) <;> simp
@[simp] theorem State.dropSlot_modes (s : State) (bg slot sub : Nat) : (s.dropSlot bg slot sub).modes = s.modes := by
  unfold State.dropSlot; (try dsimp only); (repeat' split) <;> simp
@[simp] theorem State.dropSlot_nv (s : State) (bg slot sub : Nat) : (s.dropSlot bg slot sub).nv = s.nv := by
  unfold State.dropSlot; (try dsimp only); (repeat' split) <;> simp
@[simp] theorem State.dropSlot_rings (s : State) (bg slot sub : Nat) : (s.dropSlot bg slot sub).rings = s.rings := by
  unfold State.dropSlot; (try dsimp only); (repeat' split) <;> simp

/-! ### openBurst -/

@[simp] theorem State.openBurst_pending (s : State) (bg pos sub : Nat) :
    (s.openBurst bg pos sub).pending = s.pending := by
  unfold State.openBurst; (try dsimp only); (repeat' split) <;> simp
@[simp] theorem State.openBurst_ident (s : State) (bg pos sub : Nat) : (s.openBurst bg pos sub).ident = s.ident := by
  unfold State.openBurst; (try dsimp only); (repeat' split) <;> simp
@[simp] theorem State.openBurst_setup (s : State) (bg pos sub : Nat) : (s.openBurst bg pos sub).setup = s.setup := by
  unfold State.openBurst; (try dsimp only); (repeat' split) <;> simp
@[simp] theorem State.openBurst_time (s : State) (bg pos sub : Nat) : (s.openBurst bg pos sub).time = s.time := by
  unfold State.openBurst; (try dsimp only); (repeat' split) <;> simp
@[simp] theorem State.openBurst_modes (s : State) (bg pos sub : Nat) : (s.openBurst bg pos sub).modes = s.modes := by
  unfold State.openBurst; (try dsimp only); (repeat' split) <;> simp
@[simp] theorem State.openBurst_nv (s : State) (bg pos sub : Nat) : (s.openBurst bg pos sub).nv = s.nv := by
  unfold State.openBurst; (try dsimp only); (repeat' split) <;> simp
@[simp] theorem State.openBurst_rings (s : State) (bg pos sub : Nat) : (s.openBurst bg pos sub).rings = s.rings := by
  unfold State.openBurst; (try dsimp only); (repeat' split) <;> simp

/-! ### signBurst -/

@[simp] theorem State.signBurst_pending (s : State) (bg pos : Nat) : (s.signBurst bg pos).pending = s.pending := by
  unfold State.signBurst; (try dsimp only); (repeat' split) <;> simp
@[simp] theorem State.signBurst_ident (s : State) (bg pos : Nat) : (s.signBurst bg pos).ident = s.ident := by
  unfold State.signBurst; (try dsimp only); (repeat' split) <;> simp
@[simp] theorem State.signBurst_setup (s : State) (bg pos : Nat) : (s.signBurst bg pos).setup = s.setup := by
  unfold State.signBurst; (try dsimp only); (repeat' split) <;> simp
@[simp] theorem State.signBurst_time (s : State) (bg pos : Nat) : (s.signBurst bg pos).time = s.time := by
  unfold State.signBurst; (try dsimp only); (repeat' split) <;> simp
@[simp] theorem State.signBurst_modes (s : State) (bg pos : Nat) : (s.signBurst bg pos).modes = s.modes := by
  unfold State.signBurst; (try dsimp only); (repeat' split) <;> simp
@[simp] theorem State.signBurst_nv (s : State) (bg pos : Nat) : (s.signBurst bg pos).nv = s.nv := by
  unfold State.signBurst; (try dsimp only); (repeat' split) <;> simp
@[simp] theorem State.signBurst_rings (s : State) (bg pos : Nat) : (s.signBurst bg pos).rings = s.rings := by
  unfold State.signBurst; (try dsimp only); (repeat' split) <;> simp

/-! ### putLog -/

@[simp] theorem State.putLog_pending (s : State) (typ : Nat) (pinned : Bool) (payload : Bytes) :
    (s.putLog typ pinned payload).pending = s.pending := by
  unfold State.putLog; (try dsimp only); (repeat' split) <;> simp
@[simp] theorem State.putLog_ident (s : State) (typ : Nat) (pinned : Bool) (payload : Bytes) :
    (s.putLog typ pinned payload).ident = s.ident := by
  unfold State.putLog; (try dsimp only); (repeat' split) <;> simp
@[simp] theorem State.putLog_setup (s : State) (typ : Nat) (pinned : Bool) (payload : Bytes) :
    (s.putLog typ pinned payload).setup = s.setup := by
  unfold State.putLog; (try dsimp only); (repeat' split) <;> simp
@[simp] theorem State.putLog_time (s : State) (typ : Nat) (pinned : Bool) (payload : Bytes) :
    (s.putLog typ pinned payload).time = s.time := by unfold State.putLog; (try dsimp only); (repeat' split) <;> simp
@[simp] theorem State.putLog_modes (s : State) (typ : Nat) (pinned : Bool) (payload : Bytes) :
    (s.putLog typ pinned payload).modes = s.modes := by
  unfold State.putLog; (try dsimp only); (repeat' split) <;> simp
@[simp] theorem State.putLog_rings (s : State) (typ : Nat) (pinned : Bool) (payload : Bytes) :
    (s.putLog typ pinned payload).rings = s.rings := by
  unfold State.putLog; (try dsimp only); (repeat' split) <;> simp

/-! ### logNow -/

@[simp] theorem State.logNow_pending (s : State) (typ : Nat) (pinned : Bool) (payload : Bytes) :
    (s.logNow typ pinned payload).pending = s.pending := by
  unfold State.logNow; (try dsimp only); (repeat' split) <;> simp
@[simp] theorem State.logNow_ident (s : State) (typ : Nat) (pinned : Bool) (payload : Bytes) :
    (s.logNow typ pinned payload).ident = s.ident := by
  unfold State.logNow; (try dsimp only); (repeat' split) <;> simp
@[simp] theorem State.logNow_setup (s : State) (typ : Nat) (pinned : Bool) (payload : Bytes) :
    (s.logNow typ pinned payload).setup = s.setup := by
  unfold State.logNow; (try dsimp only); (repeat' split) <;> simp
@[simp] theorem State.logNow_time (s : State) (typ : Nat) (pinned : Bool) (payload : Bytes) :
    (s.logNow typ pinned payload).time = s.time := by unfold State.logNow; (try dsimp only); (repeat' split) <;> simp
@[simp] theorem State.logNow_modes (s : State) (typ : Nat) (pinned : Bool) (payload : Bytes) :
    (s.logNow typ pinned payload).modes = s.modes := by
  unfold State.logNow; (try dsimp only); (repeat' split) <;> simp
@[simp] theorem State.logNow_rings (s : State) (typ : Nat) (pinned : Bool) (payload : Bytes) :
    (s.logNow typ pinned payload).rings = s.rings := by
  unfold State.logNow; (try dsimp only); (repeat' split) <;> simp

/-! ### spendNonce -/

@[simp] theorem State.spendNonce_pending (s : State) : s.spendNonce.pending = s.pending := by simp [State.spendNonce]
@[simp] theorem State.spendNonce_ident (s : State) : s.spendNonce.ident = s.ident := by simp [State.spendNonce]
@[simp] theorem State.spendNonce_setup (s : State) : s.spendNonce.setup = s.setup := by simp [State.spendNonce]
@[simp] theorem State.spendNonce_time (s : State) : s.spendNonce.time = s.time := by simp [State.spendNonce]
@[simp] theorem State.spendNonce_modes (s : State) : s.spendNonce.modes = s.modes := by simp [State.spendNonce]
@[simp] theorem State.spendNonce_nv (s : State) : s.spendNonce.nv = s.nv := by simp [State.spendNonce]
@[simp] theorem State.spendNonce_rings (s : State) : s.spendNonce.rings = s.rings := by simp [State.spendNonce]

/-! ### thermalShutdown -/

@[simp] theorem State.thermalShutdown_pending (s : State) (sub : Nat) :
    (s.thermalShutdown sub).pending = s.pending := by
  unfold State.thermalShutdown; (try dsimp only); (repeat' split) <;> simp
@[simp] theorem State.thermalShutdown_ident (s : State) (sub : Nat) : (s.thermalShutdown sub).ident = s.ident := by
  unfold State.thermalShutdown; (try dsimp only); (repeat' split) <;> simp
@[simp] theorem State.thermalShutdown_setup (s : State) (sub : Nat) : (s.thermalShutdown sub).setup = s.setup := by
  unfold State.thermalShutdown; (try dsimp only); (repeat' split) <;> simp
@[simp] theorem State.thermalShutdown_time (s : State) (sub : Nat) : (s.thermalShutdown sub).time = s.time := by
  unfold State.thermalShutdown; (try dsimp only); (repeat' split) <;> simp
@[simp] theorem State.thermalShutdown_nv (s : State) (sub : Nat) : (s.thermalShutdown sub).nv = s.nv := by
  unfold State.thermalShutdown; (try dsimp only); (repeat' split) <;> simp
@[simp] theorem State.thermalShutdown_rings (s : State) (sub : Nat) : (s.thermalShutdown sub).rings = s.rings := by
  unfold State.thermalShutdown; (try dsimp only); (repeat' split) <;> simp

/-! ### commitPlan -/

@[simp] theorem State.commitPlan_pending (s : State) : s.commitPlan.pending = s.pending := by
  unfold State.commitPlan; (try dsimp only); (repeat' split) <;> simp
@[simp] theorem State.commitPlan_ident (s : State) : s.commitPlan.ident = s.ident := by
  unfold State.commitPlan; (try dsimp only); (repeat' split) <;> simp
@[simp] theorem State.commitPlan_setup (s : State) : s.commitPlan.setup = s.setup := by
  unfold State.commitPlan; (try dsimp only); (repeat' split) <;> simp
@[simp] theorem State.commitPlan_time (s : State) : s.commitPlan.time = s.time := by
  unfold State.commitPlan; (try dsimp only); (repeat' split) <;> simp
@[simp] theorem State.commitPlan_modes (s : State) : s.commitPlan.modes = s.modes := by
  unfold State.commitPlan; (try dsimp only); (repeat' split) <;> simp
@[simp] theorem State.commitPlan_rings (s : State) : s.commitPlan.rings = s.rings := by
  unfold State.commitPlan; (try dsimp only); (repeat' split) <;> simp

/-! ### step55 -/

@[simp] theorem State.step55_pending (s : State) (delta : Int) : (s.step55 delta).pending = s.pending := by
  unfold State.step55; (try dsimp only); (repeat' split) <;> simp
@[simp] theorem State.step55_ident (s : State) (delta : Int) : (s.step55 delta).ident = s.ident := by
  unfold State.step55; (try dsimp only); (repeat' split) <;> simp
@[simp] theorem State.step55_setup (s : State) (delta : Int) : (s.step55 delta).setup = s.setup := by
  unfold State.step55; (try dsimp only); (repeat' split) <;> simp
@[simp] theorem State.step55_modes (s : State) (delta : Int) : (s.step55 delta).modes = s.modes := by
  unfold State.step55; (try dsimp only); (repeat' split) <;> simp
@[simp] theorem State.step55_nv (s : State) (delta : Int) : (s.step55 delta).nv = s.nv := by
  unfold State.step55; (try dsimp only); (repeat' split) <;> simp
@[simp] theorem State.step55_rings (s : State) (delta : Int) : (s.step55 delta).rings = s.rings := by
  unfold State.step55; (try dsimp only); (repeat' split) <;> simp

/-! ### adopt -/

@[simp] theorem State.adopt_pending (s : State) (x : Cand) (freq : Int) : (s.adopt x freq).pending = s.pending := by
  unfold State.adopt; (try dsimp only); (repeat' split) <;> simp
@[simp] theorem State.adopt_ident (s : State) (x : Cand) (freq : Int) : (s.adopt x freq).ident = s.ident := by
  unfold State.adopt; (try dsimp only); (repeat' split) <;> simp
@[simp] theorem State.adopt_setup (s : State) (x : Cand) (freq : Int) : (s.adopt x freq).setup = s.setup := by
  unfold State.adopt; (try dsimp only); (repeat' split) <;> simp
@[simp] theorem State.adopt_modes (s : State) (x : Cand) (freq : Int) : (s.adopt x freq).modes = s.modes := by
  unfold State.adopt; (try dsimp only); (repeat' split) <;> simp
@[simp] theorem State.adopt_nv (s : State) (x : Cand) (freq : Int) : (s.adopt x freq).nv = s.nv := by
  unfold State.adopt; (try dsimp only); (repeat' split) <;> simp
@[simp] theorem State.adopt_rings (s : State) (x : Cand) (freq : Int) : (s.adopt x freq).rings = s.rings := by
  unfold State.adopt; (try dsimp only); (repeat' split) <;> simp

/-! ### settleSync -/

@[simp] theorem State.settleSync_pending (s : State) : s.settleSync.pending = s.pending := by simp [State.settleSync]
@[simp] theorem State.settleSync_ident (s : State) : s.settleSync.ident = s.ident := by simp [State.settleSync]
@[simp] theorem State.settleSync_setup (s : State) : s.settleSync.setup = s.setup := by simp [State.settleSync]
@[simp] theorem State.settleSync_time (s : State) : s.settleSync.time = s.time := by simp [State.settleSync]
@[simp] theorem State.settleSync_modes (s : State) : s.settleSync.modes = s.modes := by simp [State.settleSync]
@[simp] theorem State.settleSync_nv (s : State) : s.settleSync.nv = s.nv := by simp [State.settleSync]
@[simp] theorem State.settleSync_rings (s : State) : s.settleSync.rings = s.rings := by simp [State.settleSync]

/-! ### settleLock -/

@[simp] theorem State.settleLock_pending (s : State) (o : Option Occasion) :
    (s.settleLock o).pending = s.pending := by unfold State.settleLock; (try dsimp only); (repeat' split) <;> simp
@[simp] theorem State.settleLock_ident (s : State) (o : Option Occasion) : (s.settleLock o).ident = s.ident := by
  unfold State.settleLock; (try dsimp only); (repeat' split) <;> simp
@[simp] theorem State.settleLock_setup (s : State) (o : Option Occasion) : (s.settleLock o).setup = s.setup := by
  unfold State.settleLock; (try dsimp only); (repeat' split) <;> simp
@[simp] theorem State.settleLock_modes (s : State) (o : Option Occasion) : (s.settleLock o).modes = s.modes := by
  unfold State.settleLock; (try dsimp only); (repeat' split) <;> simp
@[simp] theorem State.settleLock_nv (s : State) (o : Option Occasion) : (s.settleLock o).nv = s.nv := by
  unfold State.settleLock; (try dsimp only); (repeat' split) <;> simp
@[simp] theorem State.settleLock_rings (s : State) (o : Option Occasion) : (s.settleLock o).rings = s.rings := by
  unfold State.settleLock; (try dsimp only); (repeat' split) <;> simp

/-! ### settleNear -/

@[simp] theorem State.settleNear_pending (s : State) : s.settleNear.pending = s.pending := by
  unfold State.settleNear; (try dsimp only); (repeat' split) <;> simp
@[simp] theorem State.settleNear_ident (s : State) : s.settleNear.ident = s.ident := by
  unfold State.settleNear; (try dsimp only); (repeat' split) <;> simp
@[simp] theorem State.settleNear_setup (s : State) : s.settleNear.setup = s.setup := by
  unfold State.settleNear; (try dsimp only); (repeat' split) <;> simp
@[simp] theorem State.settleNear_time (s : State) : s.settleNear.time = s.time := by
  unfold State.settleNear; (try dsimp only); (repeat' split) <;> simp
@[simp] theorem State.settleNear_modes (s : State) : s.settleNear.modes = s.modes := by
  unfold State.settleNear; (try dsimp only); (repeat' split) <;> simp
@[simp] theorem State.settleNear_nv (s : State) : s.settleNear.nv = s.nv := by
  unfold State.settleNear; (try dsimp only); (repeat' split) <;> simp
@[simp] theorem State.settleNear_rings (s : State) : s.settleNear.rings = s.rings := by
  unfold State.settleNear; (try dsimp only); (repeat' split) <;> simp

/-! ### renumber -/

@[simp] theorem State.renumber_pending (s : State) (tif sfn : Nat) : (s.renumber tif sfn).pending = s.pending := by
  simp [State.renumber]
@[simp] theorem State.renumber_ident (s : State) (tif sfn : Nat) : (s.renumber tif sfn).ident = s.ident := by
  simp [State.renumber]
@[simp] theorem State.renumber_setup (s : State) (tif sfn : Nat) : (s.renumber tif sfn).setup = s.setup := by
  simp [State.renumber]
@[simp] theorem State.renumber_modes (s : State) (tif sfn : Nat) : (s.renumber tif sfn).modes = s.modes := by
  simp [State.renumber]
@[simp] theorem State.renumber_nv (s : State) (tif sfn : Nat) : (s.renumber tif sfn).nv = s.nv := by
  simp [State.renumber]
@[simp] theorem State.renumber_rings (s : State) (tif sfn : Nat) : (s.renumber tif sfn).rings = s.rings := by
  simp [State.renumber]

/-! ### ppsTick -/

@[simp] theorem State.ppsTick_pending (s : State) (phase : Int) : (s.ppsTick phase).pending = s.pending := by
  simp [State.ppsTick]
@[simp] theorem State.ppsTick_ident (s : State) (phase : Int) : (s.ppsTick phase).ident = s.ident := by
  simp [State.ppsTick]
@[simp] theorem State.ppsTick_setup (s : State) (phase : Int) : (s.ppsTick phase).setup = s.setup := by
  simp [State.ppsTick]
@[simp] theorem State.ppsTick_modes (s : State) (phase : Int) : (s.ppsTick phase).modes = s.modes := by
  simp [State.ppsTick]
@[simp] theorem State.ppsTick_nv (s : State) (phase : Int) : (s.ppsTick phase).nv = s.nv := by simp [State.ppsTick]
@[simp] theorem State.ppsTick_rings (s : State) (phase : Int) : (s.ppsTick phase).rings = s.rings := by
  simp [State.ppsTick]

/-! ### ppsEnter -/

@[simp] theorem State.ppsEnter_pending (s : State) (ph err freq : Int) :
    (s.ppsEnter ph err freq).pending = s.pending := by simp [State.ppsEnter]
@[simp] theorem State.ppsEnter_ident (s : State) (ph err freq : Int) : (s.ppsEnter ph err freq).ident = s.ident := by
  simp [State.ppsEnter]
@[simp] theorem State.ppsEnter_setup (s : State) (ph err freq : Int) : (s.ppsEnter ph err freq).setup = s.setup := by
  simp [State.ppsEnter]
@[simp] theorem State.ppsEnter_modes (s : State) (ph err freq : Int) : (s.ppsEnter ph err freq).modes = s.modes := by
  simp [State.ppsEnter]
@[simp] theorem State.ppsEnter_nv (s : State) (ph err freq : Int) : (s.ppsEnter ph err freq).nv = s.nv := by
  simp [State.ppsEnter]
@[simp] theorem State.ppsEnter_rings (s : State) (ph err freq : Int) : (s.ppsEnter ph err freq).rings = s.rings := by
  simp [State.ppsEnter]

/-! ### ppsLock -/

@[simp] theorem State.ppsLock_pending (s : State) (phase : Nat) (freq : Int) :
    (s.ppsLock phase freq).pending = s.pending := by unfold State.ppsLock; (try dsimp only); (repeat' split) <;> simp
@[simp] theorem State.ppsLock_ident (s : State) (phase : Nat) (freq : Int) :
    (s.ppsLock phase freq).ident = s.ident := by unfold State.ppsLock; (try dsimp only); (repeat' split) <;> simp
@[simp] theorem State.ppsLock_setup (s : State) (phase : Nat) (freq : Int) :
    (s.ppsLock phase freq).setup = s.setup := by unfold State.ppsLock; (try dsimp only); (repeat' split) <;> simp
@[simp] theorem State.ppsLock_modes (s : State) (phase : Nat) (freq : Int) :
    (s.ppsLock phase freq).modes = s.modes := by unfold State.ppsLock; (try dsimp only); (repeat' split) <;> simp
@[simp] theorem State.ppsLock_nv (s : State) (phase : Nat) (freq : Int) : (s.ppsLock phase freq).nv = s.nv := by
  unfold State.ppsLock; (try dsimp only); (repeat' split) <;> simp
@[simp] theorem State.ppsLock_rings (s : State) (phase : Nat) (freq : Int) :
    (s.ppsLock phase freq).rings = s.rings := by unfold State.ppsLock; (try dsimp only); (repeat' split) <;> simp

/-! ### markPps -/

@[simp] theorem State.markPps_pending (s : State) : s.markPps.pending = s.pending := by
  unfold State.markPps; (try dsimp only); (repeat' split) <;> simp
@[simp] theorem State.markPps_ident (s : State) : s.markPps.ident = s.ident := by
  unfold State.markPps; (try dsimp only); (repeat' split) <;> simp
@[simp] theorem State.markPps_setup (s : State) : s.markPps.setup = s.setup := by
  unfold State.markPps; (try dsimp only); (repeat' split) <;> simp
@[simp] theorem State.markPps_time (s : State) : s.markPps.time = s.time := by
  unfold State.markPps; (try dsimp only); (repeat' split) <;> simp
@[simp] theorem State.markPps_modes (s : State) : s.markPps.modes = s.modes := by
  unfold State.markPps; (try dsimp only); (repeat' split) <;> simp
@[simp] theorem State.markPps_nv (s : State) : s.markPps.nv = s.nv := by
  unfold State.markPps; (try dsimp only); (repeat' split) <;> simp
@[simp] theorem State.markPps_rings (s : State) : s.markPps.rings = s.rings := by
  unfold State.markPps; (try dsimp only); (repeat' split) <;> simp

/-! ### calibrate -/

@[simp] theorem State.calibrate_pending (s : State) (gs : List Nat) (res : List StrandCal) :
    (s.calibrate gs res).pending = s.pending := by simp [State.calibrate]
@[simp] theorem State.calibrate_ident (s : State) (gs : List Nat) (res : List StrandCal) :
    (s.calibrate gs res).ident = s.ident := by simp [State.calibrate]
@[simp] theorem State.calibrate_setup (s : State) (gs : List Nat) (res : List StrandCal) :
    (s.calibrate gs res).setup = s.setup := by simp [State.calibrate]
@[simp] theorem State.calibrate_time (s : State) (gs : List Nat) (res : List StrandCal) :
    (s.calibrate gs res).time = s.time := by simp [State.calibrate]
@[simp] theorem State.calibrate_modes (s : State) (gs : List Nat) (res : List StrandCal) :
    (s.calibrate gs res).modes = s.modes := by simp [State.calibrate]
@[simp] theorem State.calibrate_rings (s : State) (gs : List Nat) (res : List StrandCal) :
    (s.calibrate gs res).rings = s.rings := by simp [State.calibrate]

/-! ### nextWave -/

@[simp] theorem State.nextWave_pending (s : State) (wave : Nat) : (s.nextWave wave).pending = s.pending := by
  unfold State.nextWave; (try dsimp only); (repeat' split) <;> simp
@[simp] theorem State.nextWave_ident (s : State) (wave : Nat) : (s.nextWave wave).ident = s.ident := by
  unfold State.nextWave; (try dsimp only); (repeat' split) <;> simp
@[simp] theorem State.nextWave_setup (s : State) (wave : Nat) : (s.nextWave wave).setup = s.setup := by
  unfold State.nextWave; (try dsimp only); (repeat' split) <;> simp
@[simp] theorem State.nextWave_time (s : State) (wave : Nat) : (s.nextWave wave).time = s.time := by
  unfold State.nextWave; (try dsimp only); (repeat' split) <;> simp
@[simp] theorem State.nextWave_modes (s : State) (wave : Nat) : (s.nextWave wave).modes = s.modes := by
  unfold State.nextWave; (try dsimp only); (repeat' split) <;> simp
@[simp] theorem State.nextWave_nv (s : State) (wave : Nat) : (s.nextWave wave).nv = s.nv := by
  unfold State.nextWave; (try dsimp only); (repeat' split) <;> simp
@[simp] theorem State.nextWave_rings (s : State) (wave : Nat) : (s.nextWave wave).rings = s.rings := by
  unfold State.nextWave; (try dsimp only); (repeat' split) <;> simp

/-! ### setCalRun -/

@[simp] theorem State.setCalRun_pending (s : State) (w : CalRunSt) : (s.setCalRun w).pending = s.pending := by
  simp [State.setCalRun]
@[simp] theorem State.setCalRun_ident (s : State) (w : CalRunSt) : (s.setCalRun w).ident = s.ident := by
  simp [State.setCalRun]
@[simp] theorem State.setCalRun_setup (s : State) (w : CalRunSt) : (s.setCalRun w).setup = s.setup := by
  simp [State.setCalRun]
@[simp] theorem State.setCalRun_time (s : State) (w : CalRunSt) : (s.setCalRun w).time = s.time := by
  simp [State.setCalRun]
@[simp] theorem State.setCalRun_modes (s : State) (w : CalRunSt) : (s.setCalRun w).modes = s.modes := by
  simp [State.setCalRun]
@[simp] theorem State.setCalRun_nv (s : State) (w : CalRunSt) : (s.setCalRun w).nv = s.nv := by simp [State.setCalRun]
@[simp] theorem State.setCalRun_rings (s : State) (w : CalRunSt) : (s.setCalRun w).rings = s.rings := by
  simp [State.setCalRun]

/-! ### becomeMaster -/

@[simp] theorem State.becomeMaster_pending (s : State) : s.becomeMaster.pending = s.pending := by
  simp [State.becomeMaster]
@[simp] theorem State.becomeMaster_ident (s : State) : s.becomeMaster.ident = s.ident := by simp [State.becomeMaster]
@[simp] theorem State.becomeMaster_setup (s : State) : s.becomeMaster.setup = s.setup := by simp [State.becomeMaster]
@[simp] theorem State.becomeMaster_time (s : State) : s.becomeMaster.time = s.time := by simp [State.becomeMaster]
@[simp] theorem State.becomeMaster_modes (s : State) : s.becomeMaster.modes = s.modes := by simp [State.becomeMaster]
@[simp] theorem State.becomeMaster_nv (s : State) : s.becomeMaster.nv = s.nv := by simp [State.becomeMaster]
@[simp] theorem State.becomeMaster_rings (s : State) : s.becomeMaster.rings = s.rings := by simp [State.becomeMaster]

/-! ### moveT0 -/

@[simp] theorem State.moveT0_pending (s : State) (by_ : Int) : (s.moveT0 by_).pending = s.pending := by
  simp [State.moveT0]
@[simp] theorem State.moveT0_ident (s : State) (by_ : Int) : (s.moveT0 by_).ident = s.ident := by simp [State.moveT0]
@[simp] theorem State.moveT0_setup (s : State) (by_ : Int) : (s.moveT0 by_).setup = s.setup := by simp [State.moveT0]
@[simp] theorem State.moveT0_modes (s : State) (by_ : Int) : (s.moveT0 by_).modes = s.modes := by simp [State.moveT0]
@[simp] theorem State.moveT0_nv (s : State) (by_ : Int) : (s.moveT0 by_).nv = s.nv := by simp [State.moveT0]
@[simp] theorem State.moveT0_rings (s : State) (by_ : Int) : (s.moveT0 by_).rings = s.rings := by simp [State.moveT0]

/-! ### enterMode -/

@[simp] theorem State.enterMode_pending (s : State) (m : ModeSt) (cause tag : Nat) :
    (s.enterMode m cause tag).pending = s.pending := by
  unfold State.enterMode; (try dsimp only); (repeat' split) <;> simp
@[simp] theorem State.enterMode_ident (s : State) (m : ModeSt) (cause tag : Nat) :
    (s.enterMode m cause tag).ident = s.ident := by unfold State.enterMode; (try dsimp only); (repeat' split) <;> simp
@[simp] theorem State.enterMode_setup (s : State) (m : ModeSt) (cause tag : Nat) :
    (s.enterMode m cause tag).setup = s.setup := by unfold State.enterMode; (try dsimp only); (repeat' split) <;> simp
@[simp] theorem State.enterMode_time (s : State) (m : ModeSt) (cause tag : Nat) :
    (s.enterMode m cause tag).time = s.time := by unfold State.enterMode; (try dsimp only); (repeat' split) <;> simp
@[simp] theorem State.enterMode_nv (s : State) (m : ModeSt) (cause tag : Nat) :
    (s.enterMode m cause tag).nv = s.nv := by unfold State.enterMode; (try dsimp only); (repeat' split) <;> simp
@[simp] theorem State.enterMode_rings (s : State) (m : ModeSt) (cause tag : Nat) :
    (s.enterMode m cause tag).rings = s.rings := by unfold State.enterMode; (try dsimp only); (repeat' split) <;> simp

/-! ### applyMode -/

@[simp] theorem State.applyMode_pending (s : State) : s.applyMode.pending = s.pending := by
  unfold State.applyMode; (try dsimp only); (repeat' split) <;> simp
@[simp] theorem State.applyMode_ident (s : State) : s.applyMode.ident = s.ident := by
  unfold State.applyMode; (try dsimp only); (repeat' split) <;> simp
@[simp] theorem State.applyMode_setup (s : State) : s.applyMode.setup = s.setup := by
  unfold State.applyMode; (try dsimp only); (repeat' split) <;> simp
@[simp] theorem State.applyMode_time (s : State) : s.applyMode.time = s.time := by
  unfold State.applyMode; (try dsimp only); (repeat' split) <;> simp
@[simp] theorem State.applyMode_nv (s : State) : s.applyMode.nv = s.nv := by
  unfold State.applyMode; (try dsimp only); (repeat' split) <;> simp
@[simp] theorem State.applyMode_rings (s : State) : s.applyMode.rings = s.rings := by
  unfold State.applyMode; (try dsimp only); (repeat' split) <;> simp

/-! ### endWake -/

@[simp] theorem State.endWake_pending (s : State) : s.endWake.pending = s.pending := by
  unfold State.endWake; (try dsimp only); (repeat' split) <;> simp
@[simp] theorem State.endWake_ident (s : State) : s.endWake.ident = s.ident := by
  unfold State.endWake; (try dsimp only); (repeat' split) <;> simp
@[simp] theorem State.endWake_setup (s : State) : s.endWake.setup = s.setup := by
  unfold State.endWake; (try dsimp only); (repeat' split) <;> simp
@[simp] theorem State.endWake_time (s : State) : s.endWake.time = s.time := by
  unfold State.endWake; (try dsimp only); (repeat' split) <;> simp
@[simp] theorem State.endWake_nv (s : State) : s.endWake.nv = s.nv := by
  unfold State.endWake; (try dsimp only); (repeat' split) <;> simp
@[simp] theorem State.endWake_rings (s : State) : s.endWake.rings = s.rings := by
  unfold State.endWake; (try dsimp only); (repeat' split) <;> simp

/-! ### autoMode -/

@[simp] theorem State.autoMode_pending (s : State) : s.autoMode.pending = s.pending := by
  unfold State.autoMode; (try dsimp only); (repeat' split) <;> simp
@[simp] theorem State.autoMode_ident (s : State) : s.autoMode.ident = s.ident := by
  unfold State.autoMode; (try dsimp only); (repeat' split) <;> simp
@[simp] theorem State.autoMode_setup (s : State) : s.autoMode.setup = s.setup := by
  unfold State.autoMode; (try dsimp only); (repeat' split) <;> simp
@[simp] theorem State.autoMode_time (s : State) : s.autoMode.time = s.time := by
  unfold State.autoMode; (try dsimp only); (repeat' split) <;> simp
@[simp] theorem State.autoMode_nv (s : State) : s.autoMode.nv = s.nv := by
  unfold State.autoMode; (try dsimp only); (repeat' split) <;> simp
@[simp] theorem State.autoMode_rings (s : State) : s.autoMode.rings = s.rings := by
  unfold State.autoMode; (try dsimp only); (repeat' split) <;> simp

/-! ### resetModule -/

@[simp] theorem State.resetModule_pending (s : State) (cause : Nat) : (s.resetModule cause).pending = s.pending := by
  simp [State.resetModule]
@[simp] theorem State.resetModule_ident (s : State) (cause : Nat) : (s.resetModule cause).ident = s.ident := by
  simp [State.resetModule]
@[simp] theorem State.resetModule_nv (s : State) (cause : Nat) : (s.resetModule cause).nv = s.nv := by
  simp [State.resetModule]

/-! ### powerDown -/

@[simp] theorem State.powerDown_pending (s : State) : s.powerDown.pending = s.pending := by simp [State.powerDown]
@[simp] theorem State.powerDown_ident (s : State) : s.powerDown.ident = s.ident := by simp [State.powerDown]
@[simp] theorem State.powerDown_nv (s : State) : s.powerDown.nv = s.nv := by simp [State.powerDown]

/-! ### resetUnlessLatched -/

@[simp] theorem State.resetUnlessLatched_pending (s : State) (cause : Nat) :
    (s.resetUnlessLatched cause).pending = s.pending := by
  unfold State.resetUnlessLatched; (try dsimp only); (repeat' split) <;> simp
@[simp] theorem State.resetUnlessLatched_ident (s : State) (cause : Nat) :
    (s.resetUnlessLatched cause).ident = s.ident := by
  unfold State.resetUnlessLatched; (try dsimp only); (repeat' split) <;> simp
@[simp] theorem State.resetUnlessLatched_nv (s : State) (cause : Nat) : (s.resetUnlessLatched cause).nv = s.nv := by
  unfold State.resetUnlessLatched; (try dsimp only); (repeat' split) <;> simp

/-! ### readClears -/

@[simp] theorem State.readClears_pending (s : State) (off : Nat) : (s.readClears off).pending = s.pending := by
  unfold State.readClears; (try dsimp only); (repeat' split) <;> simp
@[simp] theorem State.readClears_ident (s : State) (off : Nat) : (s.readClears off).ident = s.ident := by
  unfold State.readClears; (try dsimp only); (repeat' split) <;> simp
@[simp] theorem State.readClears_setup (s : State) (off : Nat) : (s.readClears off).setup = s.setup := by
  unfold State.readClears; (try dsimp only); (repeat' split) <;> simp
@[simp] theorem State.readClears_time (s : State) (off : Nat) : (s.readClears off).time = s.time := by
  unfold State.readClears; (try dsimp only); (repeat' split) <;> simp
@[simp] theorem State.readClears_modes (s : State) (off : Nat) : (s.readClears off).modes = s.modes := by
  unfold State.readClears; (try dsimp only); (repeat' split) <;> simp
@[simp] theorem State.readClears_nv (s : State) (off : Nat) : (s.readClears off).nv = s.nv := by
  unfold State.readClears; (try dsimp only); (repeat' split) <;> simp

/-! ### openTick -/

@[simp] theorem State.openTick_pending (s : State) : s.openTick.pending = s.pending := by simp [State.openTick]
@[simp] theorem State.openTick_ident (s : State) : s.openTick.ident = s.ident := by simp [State.openTick]
@[simp] theorem State.openTick_setup (s : State) : s.openTick.setup = s.setup := by simp [State.openTick]
@[simp] theorem State.openTick_modes (s : State) : s.openTick.modes = s.modes := by simp [State.openTick]
@[simp] theorem State.openTick_nv (s : State) : s.openTick.nv = s.nv := by simp [State.openTick]
@[simp] theorem State.openTick_rings (s : State) : s.openTick.rings = s.rings := by simp [State.openTick]

/-! ### countPlan -/

@[simp] theorem State.countPlan_pending (s : State) : s.countPlan.pending = s.pending := by
  unfold State.countPlan; (try dsimp only); (repeat' split) <;> simp
@[simp] theorem State.countPlan_ident (s : State) : s.countPlan.ident = s.ident := by
  unfold State.countPlan; (try dsimp only); (repeat' split) <;> simp
@[simp] theorem State.countPlan_setup (s : State) : s.countPlan.setup = s.setup := by
  unfold State.countPlan; (try dsimp only); (repeat' split) <;> simp
@[simp] theorem State.countPlan_time (s : State) : s.countPlan.time = s.time := by
  unfold State.countPlan; (try dsimp only); (repeat' split) <;> simp
@[simp] theorem State.countPlan_modes (s : State) : s.countPlan.modes = s.modes := by
  unfold State.countPlan; (try dsimp only); (repeat' split) <;> simp
@[simp] theorem State.countPlan_rings (s : State) : s.countPlan.rings = s.rings := by
  unfold State.countPlan; (try dsimp only); (repeat' split) <;> simp

/-! ### planWindow -/

@[simp] theorem State.planWindow_pending (s : State) : s.planWindow.pending = s.pending := by
  unfold State.planWindow; (try dsimp only); (repeat' split) <;> simp
@[simp] theorem State.planWindow_ident (s : State) : s.planWindow.ident = s.ident := by
  unfold State.planWindow; (try dsimp only); (repeat' split) <;> simp
@[simp] theorem State.planWindow_setup (s : State) : s.planWindow.setup = s.setup := by
  unfold State.planWindow; (try dsimp only); (repeat' split) <;> simp
@[simp] theorem State.planWindow_time (s : State) : s.planWindow.time = s.time := by
  unfold State.planWindow; (try dsimp only); (repeat' split) <;> simp
@[simp] theorem State.planWindow_modes (s : State) : s.planWindow.modes = s.modes := by
  unfold State.planWindow; (try dsimp only); (repeat' split) <;> simp
@[simp] theorem State.planWindow_rings (s : State) : s.planWindow.rings = s.rings := by
  unfold State.planWindow; (try dsimp only); (repeat' split) <;> simp

/-! ### applyPending -/

@[simp] theorem State.applyPending_pending (s : State) (m : ModeSt) : (s.applyPending m).pending = s.pending := by
  simp [State.applyPending]
@[simp] theorem State.applyPending_ident (s : State) (m : ModeSt) : (s.applyPending m).ident = s.ident := by
  simp [State.applyPending]
@[simp] theorem State.applyPending_setup (s : State) (m : ModeSt) : (s.applyPending m).setup = s.setup := by
  simp [State.applyPending]
@[simp] theorem State.applyPending_time (s : State) (m : ModeSt) : (s.applyPending m).time = s.time := by
  simp [State.applyPending]
@[simp] theorem State.applyPending_modes (s : State) (m : ModeSt) : (s.applyPending m).modes = s.modes := by
  simp [State.applyPending]
@[simp] theorem State.applyPending_nv (s : State) (m : ModeSt) : (s.applyPending m).nv = s.nv := by
  simp [State.applyPending]
@[simp] theorem State.applyPending_rings (s : State) (m : ModeSt) : (s.applyPending m).rings = s.rings := by
  simp [State.applyPending]

/-! ### hostMutes -/

@[simp] theorem State.hostMutes_pending (s : State) (l : List (Nat × Nat × Bool)) :
    (s.hostMutes l).pending = s.pending := by simp [State.hostMutes]
@[simp] theorem State.hostMutes_ident (s : State) (l : List (Nat × Nat × Bool)) :
    (s.hostMutes l).ident = s.ident := by simp [State.hostMutes]
@[simp] theorem State.hostMutes_setup (s : State) (l : List (Nat × Nat × Bool)) :
    (s.hostMutes l).setup = s.setup := by simp [State.hostMutes]
@[simp] theorem State.hostMutes_time (s : State) (l : List (Nat × Nat × Bool)) : (s.hostMutes l).time = s.time := by
  simp [State.hostMutes]
@[simp] theorem State.hostMutes_modes (s : State) (l : List (Nat × Nat × Bool)) :
    (s.hostMutes l).modes = s.modes := by simp [State.hostMutes]
@[simp] theorem State.hostMutes_nv (s : State) (l : List (Nat × Nat × Bool)) : (s.hostMutes l).nv = s.nv := by
  simp [State.hostMutes]
@[simp] theorem State.hostMutes_rings (s : State) (l : List (Nat × Nat × Bool)) :
    (s.hostMutes l).rings = s.rings := by simp [State.hostMutes]

/-! ### changeMode -/

@[simp] theorem State.changeMode_pending (s : State) : s.changeMode.pending = s.pending := by
  unfold State.changeMode; (try dsimp only); (repeat' split) <;> simp
@[simp] theorem State.changeMode_ident (s : State) : s.changeMode.ident = s.ident := by
  unfold State.changeMode; (try dsimp only); (repeat' split) <;> simp
@[simp] theorem State.changeMode_setup (s : State) : s.changeMode.setup = s.setup := by
  unfold State.changeMode; (try dsimp only); (repeat' split) <;> simp
@[simp] theorem State.changeMode_time (s : State) : s.changeMode.time = s.time := by
  unfold State.changeMode; (try dsimp only); (repeat' split) <;> simp
@[simp] theorem State.changeMode_nv (s : State) : s.changeMode.nv = s.nv := by
  unfold State.changeMode; (try dsimp only); (repeat' split) <;> simp
@[simp] theorem State.changeMode_rings (s : State) : s.changeMode.rings = s.rings := by
  unfold State.changeMode; (try dsimp only); (repeat' split) <;> simp

/-! ### triggerWindow -/

@[simp] theorem State.triggerWindow_pending (s : State) : s.triggerWindow.pending = s.pending := by
  simp [State.triggerWindow]
@[simp] theorem State.triggerWindow_ident (s : State) : s.triggerWindow.ident = s.ident := by
  simp [State.triggerWindow]
@[simp] theorem State.triggerWindow_setup (s : State) : s.triggerWindow.setup = s.setup := by
  simp [State.triggerWindow]
@[simp] theorem State.triggerWindow_time (s : State) : s.triggerWindow.time = s.time := by simp [State.triggerWindow]
@[simp] theorem State.triggerWindow_nv (s : State) : s.triggerWindow.nv = s.nv := by simp [State.triggerWindow]
@[simp] theorem State.triggerWindow_rings (s : State) : s.triggerWindow.rings = s.rings := by
  simp [State.triggerWindow]

/-! ### modeWindow -/

@[simp] theorem State.modeWindow_pending (s : State) (host : List (Nat × Nat × Bool)) :
    (s.modeWindow host).pending = s.pending := by simp [State.modeWindow]
@[simp] theorem State.modeWindow_ident (s : State) (host : List (Nat × Nat × Bool)) :
    (s.modeWindow host).ident = s.ident := by simp [State.modeWindow]
@[simp] theorem State.modeWindow_setup (s : State) (host : List (Nat × Nat × Bool)) :
    (s.modeWindow host).setup = s.setup := by simp [State.modeWindow]
@[simp] theorem State.modeWindow_time (s : State) (host : List (Nat × Nat × Bool)) :
    (s.modeWindow host).time = s.time := by simp [State.modeWindow]
@[simp] theorem State.modeWindow_nv (s : State) (host : List (Nat × Nat × Bool)) : (s.modeWindow host).nv = s.nv := by
  simp [State.modeWindow]
@[simp] theorem State.modeWindow_rings (s : State) (host : List (Nat × Nat × Bool)) :
    (s.modeWindow host).rings = s.rings := by simp [State.modeWindow]

/-! ### changeWindow -/

@[simp] theorem State.changeWindow_pending (s : State) (s0 : State) : (s.changeWindow s0).pending = s.pending := by
  simp [State.changeWindow]
@[simp] theorem State.changeWindow_ident (s : State) (s0 : State) : (s.changeWindow s0).ident = s.ident := by
  simp [State.changeWindow]
@[simp] theorem State.changeWindow_setup (s : State) (s0 : State) : (s.changeWindow s0).setup = s.setup := by
  simp [State.changeWindow]
@[simp] theorem State.changeWindow_rings (s : State) (s0 : State) : (s.changeWindow s0).rings = s.rings := by
  simp [State.changeWindow]

/-! ### planWork -/

@[simp] theorem State.planWork_pending (s : State) (env : TickEnv) (s0 : State) :
    (s.planWork env s0).pending = s.pending := by simp [State.planWork]
@[simp] theorem State.planWork_ident (s : State) (env : TickEnv) (s0 : State) :
    (s.planWork env s0).ident = s.ident := by simp [State.planWork]
@[simp] theorem State.planWork_setup (s : State) (env : TickEnv) (s0 : State) :
    (s.planWork env s0).setup = s.setup := by simp [State.planWork]
@[simp] theorem State.planWork_rings (s : State) (env : TickEnv) (s0 : State) :
    (s.planWork env s0).rings = s.rings := by simp [State.planWork]

/-! ### endTick -/

@[simp] theorem State.endTick_pending (s : State) (env : TickEnv) : (s.endTick env).pending = s.pending := by
  simp [State.endTick]
@[simp] theorem State.endTick_ident (s : State) (env : TickEnv) : (s.endTick env).ident = s.ident := by
  simp [State.endTick]
@[simp] theorem State.endTick_setup (s : State) (env : TickEnv) : (s.endTick env).setup = s.setup := by
  simp [State.endTick]
@[simp] theorem State.endTick_time (s : State) (env : TickEnv) : (s.endTick env).time = s.time := by
  simp [State.endTick]
@[simp] theorem State.endTick_modes (s : State) (env : TickEnv) : (s.endTick env).modes = s.modes := by
  simp [State.endTick]
@[simp] theorem State.endTick_nv (s : State) (env : TickEnv) : (s.endTick env).nv = s.nv := by simp [State.endTick]
@[simp] theorem State.endTick_rings (s : State) (env : TickEnv) : (s.endTick env).rings = s.rings := by
  simp [State.endTick]

/-! ### dropLate -/

@[simp] theorem State.dropLate_pending (s : State) (k : Nat) : (s.dropLate k).pending = s.pending := by
  unfold State.dropLate; (try dsimp only); (repeat' split) <;> simp
@[simp] theorem State.dropLate_ident (s : State) (k : Nat) : (s.dropLate k).ident = s.ident := by
  unfold State.dropLate; (try dsimp only); (repeat' split) <;> simp
@[simp] theorem State.dropLate_setup (s : State) (k : Nat) : (s.dropLate k).setup = s.setup := by
  unfold State.dropLate; (try dsimp only); (repeat' split) <;> simp
@[simp] theorem State.dropLate_time (s : State) (k : Nat) : (s.dropLate k).time = s.time := by
  unfold State.dropLate; (try dsimp only); (repeat' split) <;> simp
@[simp] theorem State.dropLate_modes (s : State) (k : Nat) : (s.dropLate k).modes = s.modes := by
  unfold State.dropLate; (try dsimp only); (repeat' split) <;> simp
@[simp] theorem State.dropLate_nv (s : State) (k : Nat) : (s.dropLate k).nv = s.nv := by
  unfold State.dropLate; (try dsimp only); (repeat' split) <;> simp

/-! ### overrun -/

@[simp] theorem State.overrun_pending (s : State) (item : WorkItem) : (s.overrun item).pending = s.pending := by
  unfold State.overrun; (try dsimp only); (repeat' split) <;> simp
@[simp] theorem State.overrun_ident (s : State) (item : WorkItem) : (s.overrun item).ident = s.ident := by
  unfold State.overrun; (try dsimp only); (repeat' split) <;> simp
@[simp] theorem State.overrun_setup (s : State) (item : WorkItem) : (s.overrun item).setup = s.setup := by
  unfold State.overrun; (try dsimp only); (repeat' split) <;> simp
@[simp] theorem State.overrun_time (s : State) (item : WorkItem) : (s.overrun item).time = s.time := by
  unfold State.overrun; (try dsimp only); (repeat' split) <;> simp
@[simp] theorem State.overrun_modes (s : State) (item : WorkItem) : (s.overrun item).modes = s.modes := by
  unfold State.overrun; (try dsimp only); (repeat' split) <;> simp
@[simp] theorem State.overrun_nv (s : State) (item : WorkItem) : (s.overrun item).nv = s.nv := by
  unfold State.overrun; (try dsimp only); (repeat' split) <;> simp

end Sys2Proof.Machine
end

