-- ==== Sys2Proof/Laws/Ops.lean ====
section
/-! SUPPORT. The shared operations in the form that proofs use: what the context of a state reads, what a guarded
command answers, and which parts of the device each operation leaves alone. -/

namespace Sys2Proof.Machine

/-! ### The context -/

@[simp] theorem State.ctx_ident (s : State) : s.ctx.ident = s.ident := rfl
@[simp] theorem State.ctx_setup (s : State) : s.ctx.setup = s.setup := rfl
@[simp] theorem State.ctx_time (s : State) : s.ctx.time = s.time := rfl
@[simp] theorem State.ctx_modes (s : State) : s.ctx.modes = s.modes := rfl
@[simp] theorem State.ctx_nv (s : State) : s.ctx.nv = s.nv := rfl
@[simp] theorem State.ctx_rings (s : State) : s.ctx.rings = s.rings := rfl
@[simp] theorem State.ctx_mode (s : State) : s.ctx.mode = s.modes.mode := rfl
@[simp] theorem State.ctx_n (s : State) : s.ctx.n = s.time.n := rfl
@[simp] theorem State.ctx_dev (s : State) (d : Dev) : ({ s with dev := d } : State).ctx = s.ctx := rfl
@[simp] theorem State.ctx_fetched (s : State) : s.fetched.ctx = s.ctx := rfl

/-! ### What a guarded command answers -/

@[simp] theorem firstFail_nil : firstFail [] = none := rfl
@[simp] theorem firstFail_true (st : Nat) (l : List (Bool × Nat)) : firstFail ((true, st) :: l) = some st := rfl
@[simp] theorem firstFail_false (st : Nat) (l : List (Bool × Nat)) :
    firstFail ((false, st) :: l) = firstFail l := rfl

/-- No check fails exactly where each check is false. -/
theorem firstFail_eq_none_iff (l : List (Bool × Nat)) : firstFail l = none ↔ ∀ e, e ∈ l → e.1 = false := by
  induction l with
  | nil => simp
  | cons x l ih =>
    obtain ⟨b, st⟩ := x
    cases b <;> simp [ih]

/-- A command all of whose checks pass acts. -/
theorem guarded_accept {op : Nat} {h : CmdHdr} {l : List (Bool × Nat)} {f : Dev → Dev} {d : Dev}
    (hl : firstFail l = none) : guarded op h l f d = f d := by
  simp only [guarded, hl]

/-- A command is refused with the status of the first check that fails. -/
theorem guarded_refuse {op : Nat} {h : CmdHdr} {l : List (Bool × Nat)} {f : Dev → Dev} {d : Dev} {st : Nat}
    (hl : firstFail l = some st) : guarded op h l f d = d.reject op h st := by
  simp only [guarded, hl]

/-! ### complete -/

@[simp] theorem Dev.complete_use (d : Dev) (op : Nat) (h : CmdHdr) (status detail : Nat) (tick : Option Nat) (result : Bytes) :
    (d.complete op h status detail tick result).use = d.use := by simp [Dev.complete]
@[simp] theorem Dev.complete_pend (d : Dev) (op : Nat) (h : CmdHdr) (status detail : Nat) (tick : Option Nat) (result : Bytes) :
    (d.complete op h status detail tick result).pend = d.pend := by simp [Dev.complete]
@[simp] theorem Dev.complete_ptr (d : Dev) (op : Nat) (h : CmdHdr) (status detail : Nat) (tick : Option Nat) (result : Bytes) :
    (d.complete op h status detail tick result).ptr = d.ptr := by simp [Dev.complete]
@[simp] theorem Dev.complete_conv (d : Dev) (op : Nat) (h : CmdHdr) (status detail : Nat) (tick : Option Nat) (result : Bytes) :
    (d.complete op h status detail tick result).conv = d.conv := by simp [Dev.complete]
@[simp] theorem Dev.complete_lyd (d : Dev) (op : Nat) (h : CmdHdr) (status detail : Nat) (tick : Option Nat) (result : Bytes) :
    (d.complete op h status detail tick result).lyd = d.lyd := by simp [Dev.complete]
@[simp] theorem Dev.complete_plan (d : Dev) (op : Nat) (h : CmdHdr) (status detail : Nat) (tick : Option Nat) (result : Bytes) :
    (d.complete op h status detail tick result).plan = d.plan := by simp [Dev.complete]
@[simp] theorem Dev.complete_clk (d : Dev) (op : Nat) (h : CmdHdr) (status detail : Nat) (tick : Option Nat) (result : Bytes) :
    (d.complete op h status detail tick result).clk = d.clk := by simp [Dev.complete]
@[simp] theorem Dev.complete_prt (d : Dev) (op : Nat) (h : CmdHdr) (status detail : Nat) (tick : Option Nat) (result : Bytes) :
    (d.complete op h status detail tick result).prt = d.prt := by simp [Dev.complete]
@[simp] theorem Dev.complete_beams (d : Dev) (op : Nat) (h : CmdHdr) (status detail : Nat) (tick : Option Nat) (result : Bytes) :
    (d.complete op h status detail tick result).beams = d.beams := by simp [Dev.complete]
@[simp] theorem Dev.complete_can (d : Dev) (op : Nat) (h : CmdHdr) (status detail : Nat) (tick : Option Nat) (result : Bytes) :
    (d.complete op h status detail tick result).can = d.can := by simp [Dev.complete]
@[simp] theorem Dev.complete_osc (d : Dev) (op : Nat) (h : CmdHdr) (status detail : Nat) (tick : Option Nat) (result : Bytes) :
    (d.complete op h status detail tick result).osc = d.osc := by simp [Dev.complete]
@[simp] theorem Dev.complete_bel (d : Dev) (op : Nat) (h : CmdHdr) (status detail : Nat) (tick : Option Nat) (result : Bytes) :
    (d.complete op h status detail tick result).bel = d.bel := by simp [Dev.complete]
@[simp] theorem Dev.complete_book (d : Dev) (op : Nat) (h : CmdHdr) (status detail : Nat) (tick : Option Nat) (result : Bytes) :
    (d.complete op h status detail tick result).book = d.book := by simp [Dev.complete]
@[simp] theorem Dev.complete_ldl (d : Dev) (op : Nat) (h : CmdHdr) (status detail : Nat) (tick : Option Nat) (result : Bytes) :
    (d.complete op h status detail tick result).ldl = d.ldl := by simp [Dev.complete]
@[simp] theorem Dev.complete_reef (d : Dev) (op : Nat) (h : CmdHdr) (status detail : Nat) (tick : Option Nat) (result : Bytes) :
    (d.complete op h status detail tick result).reef = d.reef := by simp [Dev.complete]
@[simp] theorem Dev.complete_thm (d : Dev) (op : Nat) (h : CmdHdr) (status detail : Nat) (tick : Option Nat) (result : Bytes) :
    (d.complete op h status detail tick result).thm = d.thm := by simp [Dev.complete]
@[simp] theorem Dev.complete_mem (d : Dev) (op : Nat) (h : CmdHdr) (status detail : Nat) (tick : Option Nat) (result : Bytes) :
    (d.complete op h status detail tick result).mem = d.mem := by simp [Dev.complete]
@[simp] theorem Dev.complete_stop (d : Dev) (op : Nat) (h : CmdHdr) (status detail : Nat) (tick : Option Nat) (result : Bytes) :
    (d.complete op h status detail tick result).stop = d.stop := by simp [Dev.complete]
@[simp] theorem Dev.complete_log (d : Dev) (op : Nat) (h : CmdHdr) (status detail : Nat) (tick : Option Nat) (result : Bytes) :
    (d.complete op h status detail tick result).log = d.log := by simp [Dev.complete]
@[simp] theorem Dev.complete_qual (d : Dev) (op : Nat) (h : CmdHdr) (status detail : Nat) (tick : Option Nat) (result : Bytes) :
    (d.complete op h status detail tick result).qual = d.qual := by simp [Dev.complete]
@[simp] theorem Dev.complete_boot (d : Dev) (op : Nat) (h : CmdHdr) (status detail : Nat) (tick : Option Nat) (result : Bytes) :
    (d.complete op h status detail tick result).boot = d.boot := by simp [Dev.complete]
@[simp] theorem Dev.complete_splice (d : Dev) (op : Nat) (h : CmdHdr) (status detail : Nat) (tick : Option Nat) (result : Bytes) :
    (d.complete op h status detail tick result).splice = d.splice := by simp [Dev.complete]
@[simp] theorem Dev.complete_tapes (d : Dev) (op : Nat) (h : CmdHdr) (status detail : Nat) (tick : Option Nat) (result : Bytes) :
    (d.complete op h status detail tick result).tapes = d.tapes := by simp [Dev.complete]
@[simp] theorem Dev.complete_hwsA (d : Dev) (op : Nat) (h : CmdHdr) (status detail : Nat) (tick : Option Nat) (result : Bytes) :
    (d.complete op h status detail tick result).hwsA = d.hwsA := by simp [Dev.complete]
@[simp] theorem Dev.complete_hwsB (d : Dev) (op : Nat) (h : CmdHdr) (status detail : Nat) (tick : Option Nat) (result : Bytes) :
    (d.complete op h status detail tick result).hwsB = d.hwsB := by simp [Dev.complete]
@[simp] theorem Dev.complete_free (d : Dev) (op : Nat) (h : CmdHdr) (status detail : Nat) (tick : Option Nat) (result : Bytes) :
    (d.complete op h status detail tick result).free = d.free := by simp [Dev.complete]

/-! ### event -/

@[simp] theorem Dev.event_use (d : Dev) (c : Ctx) (kind a sub b cc : Nat) (dd : Bytes) :
    (d.event c kind a sub b cc dd).use = d.use := by unfold Dev.event; (try dsimp only); (repeat' split) <;> simp
@[simp] theorem Dev.event_pend (d : Dev) (c : Ctx) (kind a sub b cc : Nat) (dd : Bytes) :
    (d.event c kind a sub b cc dd).pend = d.pend := by unfold Dev.event; (try dsimp only); (repeat' split) <;> simp
@[simp] theorem Dev.event_ptr (d : Dev) (c : Ctx) (kind a sub b cc : Nat) (dd : Bytes) :
    (d.event c kind a sub b cc dd).ptr = d.ptr := by unfold Dev.event; (try dsimp only); (repeat' split) <;> simp
@[simp] theorem Dev.event_conv (d : Dev) (c : Ctx) (kind a sub b cc : Nat) (dd : Bytes) :
    (d.event c kind a sub b cc dd).conv = d.conv := by unfold Dev.event; (try dsimp only); (repeat' split) <;> simp
@[simp] theorem Dev.event_lyd (d : Dev) (c : Ctx) (kind a sub b cc : Nat) (dd : Bytes) :
    (d.event c kind a sub b cc dd).lyd = d.lyd := by unfold Dev.event; (try dsimp only); (repeat' split) <;> simp
@[simp] theorem Dev.event_plan (d : Dev) (c : Ctx) (kind a sub b cc : Nat) (dd : Bytes) :
    (d.event c kind a sub b cc dd).plan = d.plan := by unfold Dev.event; (try dsimp only); (repeat' split) <;> simp
@[simp] theorem Dev.event_clk (d : Dev) (c : Ctx) (kind a sub b cc : Nat) (dd : Bytes) :
    (d.event c kind a sub b cc dd).clk = d.clk := by unfold Dev.event; (try dsimp only); (repeat' split) <;> simp
@[simp] theorem Dev.event_prt (d : Dev) (c : Ctx) (kind a sub b cc : Nat) (dd : Bytes) :
    (d.event c kind a sub b cc dd).prt = d.prt := by unfold Dev.event; (try dsimp only); (repeat' split) <;> simp
@[simp] theorem Dev.event_beams (d : Dev) (c : Ctx) (kind a sub b cc : Nat) (dd : Bytes) :
    (d.event c kind a sub b cc dd).beams = d.beams := by unfold Dev.event; (try dsimp only); (repeat' split) <;> simp
@[simp] theorem Dev.event_can (d : Dev) (c : Ctx) (kind a sub b cc : Nat) (dd : Bytes) :
    (d.event c kind a sub b cc dd).can = d.can := by unfold Dev.event; (try dsimp only); (repeat' split) <;> simp
@[simp] theorem Dev.event_osc (d : Dev) (c : Ctx) (kind a sub b cc : Nat) (dd : Bytes) :
    (d.event c kind a sub b cc dd).osc = d.osc := by unfold Dev.event; (try dsimp only); (repeat' split) <;> simp
@[simp] theorem Dev.event_bel (d : Dev) (c : Ctx) (kind a sub b cc : Nat) (dd : Bytes) :
    (d.event c kind a sub b cc dd).bel = d.bel := by unfold Dev.event; (try dsimp only); (repeat' split) <;> simp
@[simp] theorem Dev.event_book (d : Dev) (c : Ctx) (kind a sub b cc : Nat) (dd : Bytes) :
    (d.event c kind a sub b cc dd).book = d.book := by unfold Dev.event; (try dsimp only); (repeat' split) <;> simp
@[simp] theorem Dev.event_ldl (d : Dev) (c : Ctx) (kind a sub b cc : Nat) (dd : Bytes) :
    (d.event c kind a sub b cc dd).ldl = d.ldl := by unfold Dev.event; (try dsimp only); (repeat' split) <;> simp
@[simp] theorem Dev.event_reef (d : Dev) (c : Ctx) (kind a sub b cc : Nat) (dd : Bytes) :
    (d.event c kind a sub b cc dd).reef = d.reef := by unfold Dev.event; (try dsimp only); (repeat' split) <;> simp
@[simp] theorem Dev.event_thm (d : Dev) (c : Ctx) (kind a sub b cc : Nat) (dd : Bytes) :
    (d.event c kind a sub b cc dd).thm = d.thm := by unfold Dev.event; (try dsimp only); (repeat' split) <;> simp
@[simp] theorem Dev.event_mem (d : Dev) (c : Ctx) (kind a sub b cc : Nat) (dd : Bytes) :
    (d.event c kind a sub b cc dd).mem = d.mem := by unfold Dev.event; (try dsimp only); (repeat' split) <;> simp
@[simp] theorem Dev.event_stop (d : Dev) (c : Ctx) (kind a sub b cc : Nat) (dd : Bytes) :
    (d.event c kind a sub b cc dd).stop = d.stop := by unfold Dev.event; (try dsimp only); (repeat' split) <;> simp
@[simp] theorem Dev.event_log (d : Dev) (c : Ctx) (kind a sub b cc : Nat) (dd : Bytes) :
    (d.event c kind a sub b cc dd).log = d.log := by unfold Dev.event; (try dsimp only); (repeat' split) <;> simp
@[simp] theorem Dev.event_qual (d : Dev) (c : Ctx) (kind a sub b cc : Nat) (dd : Bytes) :
    (d.event c kind a sub b cc dd).qual = d.qual := by unfold Dev.event; (try dsimp only); (repeat' split) <;> simp
@[simp] theorem Dev.event_boot (d : Dev) (c : Ctx) (kind a sub b cc : Nat) (dd : Bytes) :
    (d.event c kind a sub b cc dd).boot = d.boot := by unfold Dev.event; (try dsimp only); (repeat' split) <;> simp
@[simp] theorem Dev.event_splice (d : Dev) (c : Ctx) (kind a sub b cc : Nat) (dd : Bytes) :
    (d.event c kind a sub b cc dd).splice = d.splice := by
  unfold Dev.event; (try dsimp only); (repeat' split) <;> simp
@[simp] theorem Dev.event_tapes (d : Dev) (c : Ctx) (kind a sub b cc : Nat) (dd : Bytes) :
    (d.event c kind a sub b cc dd).tapes = d.tapes := by unfold Dev.event; (try dsimp only); (repeat' split) <;> simp
@[simp] theorem Dev.event_hwsA (d : Dev) (c : Ctx) (kind a sub b cc : Nat) (dd : Bytes) :
    (d.event c kind a sub b cc dd).hwsA = d.hwsA := by unfold Dev.event; (try dsimp only); (repeat' split) <;> simp
@[simp] theorem Dev.event_hwsB (d : Dev) (c : Ctx) (kind a sub b cc : Nat) (dd : Bytes) :
    (d.event c kind a sub b cc dd).hwsB = d.hwsB := by unfold Dev.event; (try dsimp only); (repeat' split) <;> simp
@[simp] theorem Dev.event_free (d : Dev) (c : Ctx) (kind a sub b cc : Nat) (dd : Bytes) :
    (d.event c kind a sub b cc dd).free = d.free := by unfold Dev.event; (try dsimp only); (repeat' split) <;> simp

/-! ### record -/

@[simp] theorem Dev.record_use (d : Dev) (c : Ctx) (k : Nat) (bytes : Bytes) (deadline : Nat) :
    (d.record c k bytes deadline).use = d.use := by unfold Dev.record; (try dsimp only); (repeat' split) <;> simp
@[simp] theorem Dev.record_pend (d : Dev) (c : Ctx) (k : Nat) (bytes : Bytes) (deadline : Nat) :
    (d.record c k bytes deadline).pend = d.pend := by unfold Dev.record; (try dsimp only); (repeat' split) <;> simp
@[simp] theorem Dev.record_ptr (d : Dev) (c : Ctx) (k : Nat) (bytes : Bytes) (deadline : Nat) :
    (d.record c k bytes deadline).ptr = d.ptr := by unfold Dev.record; (try dsimp only); (repeat' split) <;> simp
@[simp] theorem Dev.record_conv (d : Dev) (c : Ctx) (k : Nat) (bytes : Bytes) (deadline : Nat) :
    (d.record c k bytes deadline).conv = d.conv := by unfold Dev.record; (try dsimp only); (repeat' split) <;> simp
@[simp] theorem Dev.record_lyd (d : Dev) (c : Ctx) (k : Nat) (bytes : Bytes) (deadline : Nat) :
    (d.record c k bytes deadline).lyd = d.lyd := by unfold Dev.record; (try dsimp only); (repeat' split) <;> simp
@[simp] theorem Dev.record_plan (d : Dev) (c : Ctx) (k : Nat) (bytes : Bytes) (deadline : Nat) :
    (d.record c k bytes deadline).plan = d.plan := by unfold Dev.record; (try dsimp only); (repeat' split) <;> simp
@[simp] theorem Dev.record_clk (d : Dev) (c : Ctx) (k : Nat) (bytes : Bytes) (deadline : Nat) :
    (d.record c k bytes deadline).clk = d.clk := by unfold Dev.record; (try dsimp only); (repeat' split) <;> simp
@[simp] theorem Dev.record_prt (d : Dev) (c : Ctx) (k : Nat) (bytes : Bytes) (deadline : Nat) :
    (d.record c k bytes deadline).prt = d.prt := by unfold Dev.record; (try dsimp only); (repeat' split) <;> simp
@[simp] theorem Dev.record_beams (d : Dev) (c : Ctx) (k : Nat) (bytes : Bytes) (deadline : Nat) :
    (d.record c k bytes deadline).beams = d.beams := by unfold Dev.record; (try dsimp only); (repeat' split) <;> simp
@[simp] theorem Dev.record_can (d : Dev) (c : Ctx) (k : Nat) (bytes : Bytes) (deadline : Nat) :
    (d.record c k bytes deadline).can = d.can := by unfold Dev.record; (try dsimp only); (repeat' split) <;> simp
@[simp] theorem Dev.record_osc (d : Dev) (c : Ctx) (k : Nat) (bytes : Bytes) (deadline : Nat) :
    (d.record c k bytes deadline).osc = d.osc := by unfold Dev.record; (try dsimp only); (repeat' split) <;> simp
@[simp] theorem Dev.record_bel (d : Dev) (c : Ctx) (k : Nat) (bytes : Bytes) (deadline : Nat) :
    (d.record c k bytes deadline).bel = d.bel := by unfold Dev.record; (try dsimp only); (repeat' split) <;> simp
@[simp] theorem Dev.record_book (d : Dev) (c : Ctx) (k : Nat) (bytes : Bytes) (deadline : Nat) :
    (d.record c k bytes deadline).book = d.book := by unfold Dev.record; (try dsimp only); (repeat' split) <;> simp
@[simp] theorem Dev.record_ldl (d : Dev) (c : Ctx) (k : Nat) (bytes : Bytes) (deadline : Nat) :
    (d.record c k bytes deadline).ldl = d.ldl := by unfold Dev.record; (try dsimp only); (repeat' split) <;> simp
@[simp] theorem Dev.record_reef (d : Dev) (c : Ctx) (k : Nat) (bytes : Bytes) (deadline : Nat) :
    (d.record c k bytes deadline).reef = d.reef := by unfold Dev.record; (try dsimp only); (repeat' split) <;> simp
@[simp] theorem Dev.record_thm (d : Dev) (c : Ctx) (k : Nat) (bytes : Bytes) (deadline : Nat) :
    (d.record c k bytes deadline).thm = d.thm := by unfold Dev.record; (try dsimp only); (repeat' split) <;> simp
@[simp] theorem Dev.record_mem (d : Dev) (c : Ctx) (k : Nat) (bytes : Bytes) (deadline : Nat) :
    (d.record c k bytes deadline).mem = d.mem := by unfold Dev.record; (try dsimp only); (repeat' split) <;> simp
@[simp] theorem Dev.record_stop (d : Dev) (c : Ctx) (k : Nat) (bytes : Bytes) (deadline : Nat) :
    (d.record c k bytes deadline).stop = d.stop := by unfold Dev.record; (try dsimp only); (repeat' split) <;> simp
@[simp] theorem Dev.record_log (d : Dev) (c : Ctx) (k : Nat) (bytes : Bytes) (deadline : Nat) :
    (d.record c k bytes deadline).log = d.log := by unfold Dev.record; (try dsimp only); (repeat' split) <;> simp
@[simp] theorem Dev.record_qual (d : Dev) (c : Ctx) (k : Nat) (bytes : Bytes) (deadline : Nat) :
    (d.record c k bytes deadline).qual = d.qual := by unfold Dev.record; (try dsimp only); (repeat' split) <;> simp
@[simp] theorem Dev.record_boot (d : Dev) (c : Ctx) (k : Nat) (bytes : Bytes) (deadline : Nat) :
    (d.record c k bytes deadline).boot = d.boot := by unfold Dev.record; (try dsimp only); (repeat' split) <;> simp
@[simp] theorem Dev.record_splice (d : Dev) (c : Ctx) (k : Nat) (bytes : Bytes) (deadline : Nat) :
    (d.record c k bytes deadline).splice = d.splice := by
  unfold Dev.record; (try dsimp only); (repeat' split) <;> simp
@[simp] theorem Dev.record_tapes (d : Dev) (c : Ctx) (k : Nat) (bytes : Bytes) (deadline : Nat) :
    (d.record c k bytes deadline).tapes = d.tapes := by unfold Dev.record; (try dsimp only); (repeat' split) <;> simp
@[simp] theorem Dev.record_hwsA (d : Dev) (c : Ctx) (k : Nat) (bytes : Bytes) (deadline : Nat) :
    (d.record c k bytes deadline).hwsA = d.hwsA := by unfold Dev.record; (try dsimp only); (repeat' split) <;> simp
@[simp] theorem Dev.record_hwsB (d : Dev) (c : Ctx) (k : Nat) (bytes : Bytes) (deadline : Nat) :
    (d.record c k bytes deadline).hwsB = d.hwsB := by unfold Dev.record; (try dsimp only); (repeat' split) <;> simp
@[simp] theorem Dev.record_free (d : Dev) (c : Ctx) (k : Nat) (bytes : Bytes) (deadline : Nat) :
    (d.record c k bytes deadline).free = d.free := by unfold Dev.record; (try dsimp only); (repeat' split) <;> simp

/-! ### msi -/

@[simp] theorem Dev.msi_use (d : Dev) (v : Nat) : (d.msi v).use = d.use := by
  unfold Dev.msi; (try dsimp only); (repeat' split) <;> simp
@[simp] theorem Dev.msi_pend (d : Dev) (v : Nat) : (d.msi v).pend = d.pend := by
  unfold Dev.msi; (try dsimp only); (repeat' split) <;> simp
@[simp] theorem Dev.msi_ptr (d : Dev) (v : Nat) : (d.msi v).ptr = d.ptr := by
  unfold Dev.msi; (try dsimp only); (repeat' split) <;> simp
@[simp] theorem Dev.msi_conv (d : Dev) (v : Nat) : (d.msi v).conv = d.conv := by
  unfold Dev.msi; (try dsimp only); (repeat' split) <;> simp
@[simp] theorem Dev.msi_lyd (d : Dev) (v : Nat) : (d.msi v).lyd = d.lyd := by
  unfold Dev.msi; (try dsimp only); (repeat' split) <;> simp
@[simp] theorem Dev.msi_plan (d : Dev) (v : Nat) : (d.msi v).plan = d.plan := by
  unfold Dev.msi; (try dsimp only); (repeat' split) <;> simp
@[simp] theorem Dev.msi_clk (d : Dev) (v : Nat) : (d.msi v).clk = d.clk := by
  unfold Dev.msi; (try dsimp only); (repeat' split) <;> simp
@[simp] theorem Dev.msi_prt (d : Dev) (v : Nat) : (d.msi v).prt = d.prt := by
  unfold Dev.msi; (try dsimp only); (repeat' split) <;> simp
@[simp] theorem Dev.msi_beams (d : Dev) (v : Nat) : (d.msi v).beams = d.beams := by
  unfold Dev.msi; (try dsimp only); (repeat' split) <;> simp
@[simp] theorem Dev.msi_can (d : Dev) (v : Nat) : (d.msi v).can = d.can := by
  unfold Dev.msi; (try dsimp only); (repeat' split) <;> simp
@[simp] theorem Dev.msi_osc (d : Dev) (v : Nat) : (d.msi v).osc = d.osc := by
  unfold Dev.msi; (try dsimp only); (repeat' split) <;> simp
@[simp] theorem Dev.msi_bel (d : Dev) (v : Nat) : (d.msi v).bel = d.bel := by
  unfold Dev.msi; (try dsimp only); (repeat' split) <;> simp
@[simp] theorem Dev.msi_book (d : Dev) (v : Nat) : (d.msi v).book = d.book := by
  unfold Dev.msi; (try dsimp only); (repeat' split) <;> simp
@[simp] theorem Dev.msi_ldl (d : Dev) (v : Nat) : (d.msi v).ldl = d.ldl := by
  unfold Dev.msi; (try dsimp only); (repeat' split) <;> simp
@[simp] theorem Dev.msi_reef (d : Dev) (v : Nat) : (d.msi v).reef = d.reef := by
  unfold Dev.msi; (try dsimp only); (repeat' split) <;> simp
@[simp] theorem Dev.msi_thm (d : Dev) (v : Nat) : (d.msi v).thm = d.thm := by
  unfold Dev.msi; (try dsimp only); (repeat' split) <;> simp
@[simp] theorem Dev.msi_mem (d : Dev) (v : Nat) : (d.msi v).mem = d.mem := by
  unfold Dev.msi; (try dsimp only); (repeat' split) <;> simp
@[simp] theorem Dev.msi_stop (d : Dev) (v : Nat) : (d.msi v).stop = d.stop := by
  unfold Dev.msi; (try dsimp only); (repeat' split) <;> simp
@[simp] theorem Dev.msi_log (d : Dev) (v : Nat) : (d.msi v).log = d.log := by
  unfold Dev.msi; (try dsimp only); (repeat' split) <;> simp
@[simp] theorem Dev.msi_qual (d : Dev) (v : Nat) : (d.msi v).qual = d.qual := by
  unfold Dev.msi; (try dsimp only); (repeat' split) <;> simp
@[simp] theorem Dev.msi_boot (d : Dev) (v : Nat) : (d.msi v).boot = d.boot := by
  unfold Dev.msi; (try dsimp only); (repeat' split) <;> simp
@[simp] theorem Dev.msi_splice (d : Dev) (v : Nat) : (d.msi v).splice = d.splice := by
  unfold Dev.msi; (try dsimp only); (repeat' split) <;> simp
@[simp] theorem Dev.msi_tapes (d : Dev) (v : Nat) : (d.msi v).tapes = d.tapes := by
  unfold Dev.msi; (try dsimp only); (repeat' split) <;> simp
@[simp] theorem Dev.msi_hwsA (d : Dev) (v : Nat) : (d.msi v).hwsA = d.hwsA := by
  unfold Dev.msi; (try dsimp only); (repeat' split) <;> simp
@[simp] theorem Dev.msi_hwsB (d : Dev) (v : Nat) : (d.msi v).hwsB = d.hwsB := by
  unfold Dev.msi; (try dsimp only); (repeat' split) <;> simp
@[simp] theorem Dev.msi_free (d : Dev) (v : Nat) : (d.msi v).free = d.free := by
  unfold Dev.msi; (try dsimp only); (repeat' split) <;> simp

/-! ### modeEvent -/

@[simp] theorem Dev.modeEvent_use (d : Dev) (c : Ctx) (old new : Mode) (sub cause tag : Nat) :
    (d.modeEvent c old new sub cause tag).use = d.use := by simp [Dev.modeEvent]
@[simp] theorem Dev.modeEvent_pend (d : Dev) (c : Ctx) (old new : Mode) (sub cause tag : Nat) :
    (d.modeEvent c old new sub cause tag).pend = d.pend := by simp [Dev.modeEvent]
@[simp] theorem Dev.modeEvent_ptr (d : Dev) (c : Ctx) (old new : Mode) (sub cause tag : Nat) :
    (d.modeEvent c old new sub cause tag).ptr = d.ptr := by simp [Dev.modeEvent]
@[simp] theorem Dev.modeEvent_conv (d : Dev) (c : Ctx) (old new : Mode) (sub cause tag : Nat) :
    (d.modeEvent c old new sub cause tag).conv = d.conv := by simp [Dev.modeEvent]
@[simp] theorem Dev.modeEvent_lyd (d : Dev) (c : Ctx) (old new : Mode) (sub cause tag : Nat) :
    (d.modeEvent c old new sub cause tag).lyd = d.lyd := by simp [Dev.modeEvent]
@[simp] theorem Dev.modeEvent_plan (d : Dev) (c : Ctx) (old new : Mode) (sub cause tag : Nat) :
    (d.modeEvent c old new sub cause tag).plan = d.plan := by simp [Dev.modeEvent]
@[simp] theorem Dev.modeEvent_clk (d : Dev) (c : Ctx) (old new : Mode) (sub cause tag : Nat) :
    (d.modeEvent c old new sub cause tag).clk = d.clk := by simp [Dev.modeEvent]
@[simp] theorem Dev.modeEvent_prt (d : Dev) (c : Ctx) (old new : Mode) (sub cause tag : Nat) :
    (d.modeEvent c old new sub cause tag).prt = d.prt := by simp [Dev.modeEvent]
@[simp] theorem Dev.modeEvent_beams (d : Dev) (c : Ctx) (old new : Mode) (sub cause tag : Nat) :
    (d.modeEvent c old new sub cause tag).beams = d.beams := by simp [Dev.modeEvent]
@[simp] theorem Dev.modeEvent_can (d : Dev) (c : Ctx) (old new : Mode) (sub cause tag : Nat) :
    (d.modeEvent c old new sub cause tag).can = d.can := by simp [Dev.modeEvent]
@[simp] theorem Dev.modeEvent_osc (d : Dev) (c : Ctx) (old new : Mode) (sub cause tag : Nat) :
    (d.modeEvent c old new sub cause tag).osc = d.osc := by simp [Dev.modeEvent]
@[simp] theorem Dev.modeEvent_bel (d : Dev) (c : Ctx) (old new : Mode) (sub cause tag : Nat) :
    (d.modeEvent c old new sub cause tag).bel = d.bel := by simp [Dev.modeEvent]
@[simp] theorem Dev.modeEvent_book (d : Dev) (c : Ctx) (old new : Mode) (sub cause tag : Nat) :
    (d.modeEvent c old new sub cause tag).book = d.book := by simp [Dev.modeEvent]
@[simp] theorem Dev.modeEvent_ldl (d : Dev) (c : Ctx) (old new : Mode) (sub cause tag : Nat) :
    (d.modeEvent c old new sub cause tag).ldl = d.ldl := by simp [Dev.modeEvent]
@[simp] theorem Dev.modeEvent_reef (d : Dev) (c : Ctx) (old new : Mode) (sub cause tag : Nat) :
    (d.modeEvent c old new sub cause tag).reef = d.reef := by simp [Dev.modeEvent]
@[simp] theorem Dev.modeEvent_thm (d : Dev) (c : Ctx) (old new : Mode) (sub cause tag : Nat) :
    (d.modeEvent c old new sub cause tag).thm = d.thm := by simp [Dev.modeEvent]
@[simp] theorem Dev.modeEvent_mem (d : Dev) (c : Ctx) (old new : Mode) (sub cause tag : Nat) :
    (d.modeEvent c old new sub cause tag).mem = d.mem := by simp [Dev.modeEvent]
@[simp] theorem Dev.modeEvent_stop (d : Dev) (c : Ctx) (old new : Mode) (sub cause tag : Nat) :
    (d.modeEvent c old new sub cause tag).stop = d.stop := by simp [Dev.modeEvent]
@[simp] theorem Dev.modeEvent_log (d : Dev) (c : Ctx) (old new : Mode) (sub cause tag : Nat) :
    (d.modeEvent c old new sub cause tag).log = d.log := by simp [Dev.modeEvent]
@[simp] theorem Dev.modeEvent_qual (d : Dev) (c : Ctx) (old new : Mode) (sub cause tag : Nat) :
    (d.modeEvent c old new sub cause tag).qual = d.qual := by simp [Dev.modeEvent]
@[simp] theorem Dev.modeEvent_boot (d : Dev) (c : Ctx) (old new : Mode) (sub cause tag : Nat) :
    (d.modeEvent c old new sub cause tag).boot = d.boot := by simp [Dev.modeEvent]
@[simp] theorem Dev.modeEvent_splice (d : Dev) (c : Ctx) (old new : Mode) (sub cause tag : Nat) :
    (d.modeEvent c old new sub cause tag).splice = d.splice := by simp [Dev.modeEvent]
@[simp] theorem Dev.modeEvent_tapes (d : Dev) (c : Ctx) (old new : Mode) (sub cause tag : Nat) :
    (d.modeEvent c old new sub cause tag).tapes = d.tapes := by simp [Dev.modeEvent]
@[simp] theorem Dev.modeEvent_hwsA (d : Dev) (c : Ctx) (old new : Mode) (sub cause tag : Nat) :
    (d.modeEvent c old new sub cause tag).hwsA = d.hwsA := by simp [Dev.modeEvent]
@[simp] theorem Dev.modeEvent_hwsB (d : Dev) (c : Ctx) (old new : Mode) (sub cause tag : Nat) :
    (d.modeEvent c old new sub cause tag).hwsB = d.hwsB := by simp [Dev.modeEvent]
@[simp] theorem Dev.modeEvent_free (d : Dev) (c : Ctx) (old new : Mode) (sub cause tag : Nat) :
    (d.modeEvent c old new sub cause tag).free = d.free := by simp [Dev.modeEvent]

/-! ### discardEvent -/

@[simp] theorem Dev.discardEvent_use (d : Dev) (c : Ctx) (sub opcode tag : Nat) :
    (d.discardEvent c sub opcode tag).use = d.use := by simp [Dev.discardEvent]
@[simp] theorem Dev.discardEvent_pend (d : Dev) (c : Ctx) (sub opcode tag : Nat) :
    (d.discardEvent c sub opcode tag).pend = d.pend := by simp [Dev.discardEvent]
@[simp] theorem Dev.discardEvent_ptr (d : Dev) (c : Ctx) (sub opcode tag : Nat) :
    (d.discardEvent c sub opcode tag).ptr = d.ptr := by simp [Dev.discardEvent]
@[simp] theorem Dev.discardEvent_conv (d : Dev) (c : Ctx) (sub opcode tag : Nat) :
    (d.discardEvent c sub opcode tag).conv = d.conv := by simp [Dev.discardEvent]
@[simp] theorem Dev.discardEvent_lyd (d : Dev) (c : Ctx) (sub opcode tag : Nat) :
    (d.discardEvent c sub opcode tag).lyd = d.lyd := by simp [Dev.discardEvent]
@[simp] theorem Dev.discardEvent_plan (d : Dev) (c : Ctx) (sub opcode tag : Nat) :
    (d.discardEvent c sub opcode tag).plan = d.plan := by simp [Dev.discardEvent]
@[simp] theorem Dev.discardEvent_clk (d : Dev) (c : Ctx) (sub opcode tag : Nat) :
    (d.discardEvent c sub opcode tag).clk = d.clk := by simp [Dev.discardEvent]
@[simp] theorem Dev.discardEvent_prt (d : Dev) (c : Ctx) (sub opcode tag : Nat) :
    (d.discardEvent c sub opcode tag).prt = d.prt := by simp [Dev.discardEvent]
@[simp] theorem Dev.discardEvent_beams (d : Dev) (c : Ctx) (sub opcode tag : Nat) :
    (d.discardEvent c sub opcode tag).beams = d.beams := by simp [Dev.discardEvent]
@[simp] theorem Dev.discardEvent_can (d : Dev) (c : Ctx) (sub opcode tag : Nat) :
    (d.discardEvent c sub opcode tag).can = d.can := by simp [Dev.discardEvent]
@[simp] theorem Dev.discardEvent_osc (d : Dev) (c : Ctx) (sub opcode tag : Nat) :
    (d.discardEvent c sub opcode tag).osc = d.osc := by simp [Dev.discardEvent]
@[simp] theorem Dev.discardEvent_bel (d : Dev) (c : Ctx) (sub opcode tag : Nat) :
    (d.discardEvent c sub opcode tag).bel = d.bel := by simp [Dev.discardEvent]
@[simp] theorem Dev.discardEvent_book (d : Dev) (c : Ctx) (sub opcode tag : Nat) :
    (d.discardEvent c sub opcode tag).book = d.book := by simp [Dev.discardEvent]
@[simp] theorem Dev.discardEvent_ldl (d : Dev) (c : Ctx) (sub opcode tag : Nat) :
    (d.discardEvent c sub opcode tag).ldl = d.ldl := by simp [Dev.discardEvent]
@[simp] theorem Dev.discardEvent_reef (d : Dev) (c : Ctx) (sub opcode tag : Nat) :
    (d.discardEvent c sub opcode tag).reef = d.reef := by simp [Dev.discardEvent]
@[simp] theorem Dev.discardEvent_thm (d : Dev) (c : Ctx) (sub opcode tag : Nat) :
    (d.discardEvent c sub opcode tag).thm = d.thm := by simp [Dev.discardEvent]
@[simp] theorem Dev.discardEvent_mem (d : Dev) (c : Ctx) (sub opcode tag : Nat) :
    (d.discardEvent c sub opcode tag).mem = d.mem := by simp [Dev.discardEvent]
@[simp] theorem Dev.discardEvent_stop (d : Dev) (c : Ctx) (sub opcode tag : Nat) :
    (d.discardEvent c sub opcode tag).stop = d.stop := by simp [Dev.discardEvent]
@[simp] theorem Dev.discardEvent_log (d : Dev) (c : Ctx) (sub opcode tag : Nat) :
    (d.discardEvent c sub opcode tag).log = d.log := by simp [Dev.discardEvent]
@[simp] theorem Dev.discardEvent_qual (d : Dev) (c : Ctx) (sub opcode tag : Nat) :
    (d.discardEvent c sub opcode tag).qual = d.qual := by simp [Dev.discardEvent]
@[simp] theorem Dev.discardEvent_boot (d : Dev) (c : Ctx) (sub opcode tag : Nat) :
    (d.discardEvent c sub opcode tag).boot = d.boot := by simp [Dev.discardEvent]
@[simp] theorem Dev.discardEvent_splice (d : Dev) (c : Ctx) (sub opcode tag : Nat) :
    (d.discardEvent c sub opcode tag).splice = d.splice := by simp [Dev.discardEvent]
@[simp] theorem Dev.discardEvent_tapes (d : Dev) (c : Ctx) (sub opcode tag : Nat) :
    (d.discardEvent c sub opcode tag).tapes = d.tapes := by simp [Dev.discardEvent]
@[simp] theorem Dev.discardEvent_hwsA (d : Dev) (c : Ctx) (sub opcode tag : Nat) :
    (d.discardEvent c sub opcode tag).hwsA = d.hwsA := by simp [Dev.discardEvent]
@[simp] theorem Dev.discardEvent_hwsB (d : Dev) (c : Ctx) (sub opcode tag : Nat) :
    (d.discardEvent c sub opcode tag).hwsB = d.hwsB := by simp [Dev.discardEvent]
@[simp] theorem Dev.discardEvent_free (d : Dev) (c : Ctx) (sub opcode tag : Nat) :
    (d.discardEvent c sub opcode tag).free = d.free := by simp [Dev.discardEvent]

/-! ### chooseDefaults -/

@[simp] theorem Dev.chooseDefaults_use (d : Dev) (m : Mode) : (d.chooseDefaults m).use = d.use := by
  simp [Dev.chooseDefaults]
@[simp] theorem Dev.chooseDefaults_pend (d : Dev) (m : Mode) : (d.chooseDefaults m).pend = d.pend := by
  simp [Dev.chooseDefaults]
@[simp] theorem Dev.chooseDefaults_ptr (d : Dev) (m : Mode) : (d.chooseDefaults m).ptr = d.ptr := by
  simp [Dev.chooseDefaults]
@[simp] theorem Dev.chooseDefaults_conv (d : Dev) (m : Mode) : (d.chooseDefaults m).conv = d.conv := by
  simp [Dev.chooseDefaults]
@[simp] theorem Dev.chooseDefaults_lyd (d : Dev) (m : Mode) : (d.chooseDefaults m).lyd = d.lyd := by
  simp [Dev.chooseDefaults]
@[simp] theorem Dev.chooseDefaults_plan (d : Dev) (m : Mode) : (d.chooseDefaults m).plan = d.plan := by
  simp [Dev.chooseDefaults]
@[simp] theorem Dev.chooseDefaults_clk (d : Dev) (m : Mode) : (d.chooseDefaults m).clk = d.clk := by
  simp [Dev.chooseDefaults]
@[simp] theorem Dev.chooseDefaults_prt (d : Dev) (m : Mode) : (d.chooseDefaults m).prt = d.prt := by
  simp [Dev.chooseDefaults]
@[simp] theorem Dev.chooseDefaults_can (d : Dev) (m : Mode) : (d.chooseDefaults m).can = d.can := by
  simp [Dev.chooseDefaults]
@[simp] theorem Dev.chooseDefaults_osc (d : Dev) (m : Mode) : (d.chooseDefaults m).osc = d.osc := by
  simp [Dev.chooseDefaults]
@[simp] theorem Dev.chooseDefaults_bel (d : Dev) (m : Mode) : (d.chooseDefaults m).bel = d.bel := by
  simp [Dev.chooseDefaults]
@[simp] theorem Dev.chooseDefaults_book (d : Dev) (m : Mode) : (d.chooseDefaults m).book = d.book := by
  simp [Dev.chooseDefaults]
@[simp] theorem Dev.chooseDefaults_ldl (d : Dev) (m : Mode) : (d.chooseDefaults m).ldl = d.ldl := by
  simp [Dev.chooseDefaults]
@[simp] theorem Dev.chooseDefaults_reef (d : Dev) (m : Mode) : (d.chooseDefaults m).reef = d.reef := by
  simp [Dev.chooseDefaults]
@[simp] theorem Dev.chooseDefaults_thm (d : Dev) (m : Mode) : (d.chooseDefaults m).thm = d.thm := by
  simp [Dev.chooseDefaults]
@[simp] theorem Dev.chooseDefaults_mem (d : Dev) (m : Mode) : (d.chooseDefaults m).mem = d.mem := by
  simp [Dev.chooseDefaults]
@[simp] theorem Dev.chooseDefaults_stop (d : Dev) (m : Mode) : (d.chooseDefaults m).stop = d.stop := by
  simp [Dev.chooseDefaults]
@[simp] theorem Dev.chooseDefaults_log (d : Dev) (m : Mode) : (d.chooseDefaults m).log = d.log := by
  simp [Dev.chooseDefaults]
@[simp] theorem Dev.chooseDefaults_host (d : Dev) (m : Mode) : (d.chooseDefaults m).host = d.host := by
  simp [Dev.chooseDefaults]
@[simp] theorem Dev.chooseDefaults_qual (d : Dev) (m : Mode) : (d.chooseDefaults m).qual = d.qual := by
  simp [Dev.chooseDefaults]
@[simp] theorem Dev.chooseDefaults_boot (d : Dev) (m : Mode) : (d.chooseDefaults m).boot = d.boot := by
  simp [Dev.chooseDefaults]
@[simp] theorem Dev.chooseDefaults_splice (d : Dev) (m : Mode) : (d.chooseDefaults m).splice = d.splice := by
  simp [Dev.chooseDefaults]
@[simp] theorem Dev.chooseDefaults_tapes (d : Dev) (m : Mode) : (d.chooseDefaults m).tapes = d.tapes := by
  simp [Dev.chooseDefaults]
@[simp] theorem Dev.chooseDefaults_hwsA (d : Dev) (m : Mode) : (d.chooseDefaults m).hwsA = d.hwsA := by
  simp [Dev.chooseDefaults]
@[simp] theorem Dev.chooseDefaults_hwsB (d : Dev) (m : Mode) : (d.chooseDefaults m).hwsB = d.hwsB := by
  simp [Dev.chooseDefaults]
@[simp] theorem Dev.chooseDefaults_free (d : Dev) (m : Mode) : (d.chooseDefaults m).free = d.free := by
  simp [Dev.chooseDefaults]

/-! ### discardMode -/

@[simp] theorem Dev.discardMode_use (d : Dev) (c : Ctx) (sub : Nat) : (d.discardMode c sub).use = d.use := by
  unfold Dev.discardMode; (try dsimp only); (repeat' split) <;> simp
@[simp] theorem Dev.discardMode_pend (d : Dev) (c : Ctx) (sub : Nat) : (d.discardMode c sub).pend = d.pend := by
  unfold Dev.discardMode; (try dsimp only); (repeat' split) <;> simp
@[simp] theorem Dev.discardMode_ptr (d : Dev) (c : Ctx) (sub : Nat) : (d.discardMode c sub).ptr = d.ptr := by
  unfold Dev.discardMode; (try dsimp only); (repeat' split) <;> simp
@[simp] theorem Dev.discardMode_conv (d : Dev) (c : Ctx) (sub : Nat) : (d.discardMode c sub).conv = d.conv := by
  unfold Dev.discardMode; (try dsimp only); (repeat' split) <;> simp
@[simp] theorem Dev.discardMode_lyd (d : Dev) (c : Ctx) (sub : Nat) : (d.discardMode c sub).lyd = d.lyd := by
  unfold Dev.discardMode; (try dsimp only); (repeat' split) <;> simp
@[simp] theorem Dev.discardMode_plan (d : Dev) (c : Ctx) (sub : Nat) : (d.discardMode c sub).plan = d.plan := by
  unfold Dev.discardMode; (try dsimp only); (repeat' split) <;> simp
@[simp] theorem Dev.discardMode_clk (d : Dev) (c : Ctx) (sub : Nat) : (d.discardMode c sub).clk = d.clk := by
  unfold Dev.discardMode; (try dsimp only); (repeat' split) <;> simp
@[simp] theorem Dev.discardMode_prt (d : Dev) (c : Ctx) (sub : Nat) : (d.discardMode c sub).prt = d.prt := by
  unfold Dev.discardMode; (try dsimp only); (repeat' split) <;> simp
@[simp] theorem Dev.discardMode_beams (d : Dev) (c : Ctx) (sub : Nat) : (d.discardMode c sub).beams = d.beams := by
  unfold Dev.discardMode; (try dsimp only); (repeat' split) <;> simp
@[simp] theorem Dev.discardMode_can (d : Dev) (c : Ctx) (sub : Nat) : (d.discardMode c sub).can = d.can := by
  unfold Dev.discardMode; (try dsimp only); (repeat' split) <;> simp
@[simp] theorem Dev.discardMode_osc (d : Dev) (c : Ctx) (sub : Nat) : (d.discardMode c sub).osc = d.osc := by
  unfold Dev.discardMode; (try dsimp only); (repeat' split) <;> simp
@[simp] theorem Dev.discardMode_bel (d : Dev) (c : Ctx) (sub : Nat) : (d.discardMode c sub).bel = d.bel := by
  unfold Dev.discardMode; (try dsimp only); (repeat' split) <;> simp
@[simp] theorem Dev.discardMode_book (d : Dev) (c : Ctx) (sub : Nat) : (d.discardMode c sub).book = d.book := by
  unfold Dev.discardMode; (try dsimp only); (repeat' split) <;> simp
@[simp] theorem Dev.discardMode_ldl (d : Dev) (c : Ctx) (sub : Nat) : (d.discardMode c sub).ldl = d.ldl := by
  unfold Dev.discardMode; (try dsimp only); (repeat' split) <;> simp
@[simp] theorem Dev.discardMode_reef (d : Dev) (c : Ctx) (sub : Nat) : (d.discardMode c sub).reef = d.reef := by
  unfold Dev.discardMode; (try dsimp only); (repeat' split) <;> simp
@[simp] theorem Dev.discardMode_thm (d : Dev) (c : Ctx) (sub : Nat) : (d.discardMode c sub).thm = d.thm := by
  unfold Dev.discardMode; (try dsimp only); (repeat' split) <;> simp
@[simp] theorem Dev.discardMode_mem (d : Dev) (c : Ctx) (sub : Nat) : (d.discardMode c sub).mem = d.mem := by
  unfold Dev.discardMode; (try dsimp only); (repeat' split) <;> simp
@[simp] theorem Dev.discardMode_stop (d : Dev) (c : Ctx) (sub : Nat) : (d.discardMode c sub).stop = d.stop := by
  unfold Dev.discardMode; (try dsimp only); (repeat' split) <;> simp
@[simp] theorem Dev.discardMode_log (d : Dev) (c : Ctx) (sub : Nat) : (d.discardMode c sub).log = d.log := by
  unfold Dev.discardMode; (try dsimp only); (repeat' split) <;> simp
@[simp] theorem Dev.discardMode_boot (d : Dev) (c : Ctx) (sub : Nat) : (d.discardMode c sub).boot = d.boot := by
  unfold Dev.discardMode; (try dsimp only); (repeat' split) <;> simp
@[simp] theorem Dev.discardMode_splice (d : Dev) (c : Ctx) (sub : Nat) : (d.discardMode c sub).splice = d.splice := by
  unfold Dev.discardMode; (try dsimp only); (repeat' split) <;> simp
@[simp] theorem Dev.discardMode_tapes (d : Dev) (c : Ctx) (sub : Nat) : (d.discardMode c sub).tapes = d.tapes := by
  unfold Dev.discardMode; (try dsimp only); (repeat' split) <;> simp
@[simp] theorem Dev.discardMode_hwsA (d : Dev) (c : Ctx) (sub : Nat) : (d.discardMode c sub).hwsA = d.hwsA := by
  unfold Dev.discardMode; (try dsimp only); (repeat' split) <;> simp
@[simp] theorem Dev.discardMode_hwsB (d : Dev) (c : Ctx) (sub : Nat) : (d.discardMode c sub).hwsB = d.hwsB := by
  unfold Dev.discardMode; (try dsimp only); (repeat' split) <;> simp
@[simp] theorem Dev.discardMode_free (d : Dev) (c : Ctx) (sub : Nat) : (d.discardMode c sub).free = d.free := by
  unfold Dev.discardMode; (try dsimp only); (repeat' split) <;> simp

/-! ### discardBook -/

@[simp] theorem Dev.discardBook_use (d : Dev) (c : Ctx) (sub : Nat) : (d.discardBook c sub).use = d.use := by
  unfold Dev.discardBook; (try dsimp only); (repeat' split) <;> simp
@[simp] theorem Dev.discardBook_pend (d : Dev) (c : Ctx) (sub : Nat) : (d.discardBook c sub).pend = d.pend := by
  unfold Dev.discardBook; (try dsimp only); (repeat' split) <;> simp
@[simp] theorem Dev.discardBook_ptr (d : Dev) (c : Ctx) (sub : Nat) : (d.discardBook c sub).ptr = d.ptr := by
  unfold Dev.discardBook; (try dsimp only); (repeat' split) <;> simp
@[simp] theorem Dev.discardBook_conv (d : Dev) (c : Ctx) (sub : Nat) : (d.discardBook c sub).conv = d.conv := by
  unfold Dev.discardBook; (try dsimp only); (repeat' split) <;> simp
@[simp] theorem Dev.discardBook_lyd (d : Dev) (c : Ctx) (sub : Nat) : (d.discardBook c sub).lyd = d.lyd := by
  unfold Dev.discardBook; (try dsimp only); (repeat' split) <;> simp
@[simp] theorem Dev.discardBook_plan (d : Dev) (c : Ctx) (sub : Nat) : (d.discardBook c sub).plan = d.plan := by
  unfold Dev.discardBook; (try dsimp only); (repeat' split) <;> simp
@[simp] theorem Dev.discardBook_clk (d : Dev) (c : Ctx) (sub : Nat) : (d.discardBook c sub).clk = d.clk := by
  unfold Dev.discardBook; (try dsimp only); (repeat' split) <;> simp
@[simp] theorem Dev.discardBook_prt (d : Dev) (c : Ctx) (sub : Nat) : (d.discardBook c sub).prt = d.prt := by
  unfold Dev.discardBook; (try dsimp only); (repeat' split) <;> simp
@[simp] theorem Dev.discardBook_beams (d : Dev) (c : Ctx) (sub : Nat) : (d.discardBook c sub).beams = d.beams := by
  unfold Dev.discardBook; (try dsimp only); (repeat' split) <;> simp
@[simp] theorem Dev.discardBook_can (d : Dev) (c : Ctx) (sub : Nat) : (d.discardBook c sub).can = d.can := by
  unfold Dev.discardBook; (try dsimp only); (repeat' split) <;> simp
@[simp] theorem Dev.discardBook_osc (d : Dev) (c : Ctx) (sub : Nat) : (d.discardBook c sub).osc = d.osc := by
  unfold Dev.discardBook; (try dsimp only); (repeat' split) <;> simp
@[simp] theorem Dev.discardBook_bel (d : Dev) (c : Ctx) (sub : Nat) : (d.discardBook c sub).bel = d.bel := by
  unfold Dev.discardBook; (try dsimp only); (repeat' split) <;> simp
@[simp] theorem Dev.discardBook_book (d : Dev) (c : Ctx) (sub : Nat) : (d.discardBook c sub).book = d.book := by
  unfold Dev.discardBook; (try dsimp only); (repeat' split) <;> simp
@[simp] theorem Dev.discardBook_ldl (d : Dev) (c : Ctx) (sub : Nat) : (d.discardBook c sub).ldl = d.ldl := by
  unfold Dev.discardBook; (try dsimp only); (repeat' split) <;> simp
@[simp] theorem Dev.discardBook_reef (d : Dev) (c : Ctx) (sub : Nat) : (d.discardBook c sub).reef = d.reef := by
  unfold Dev.discardBook; (try dsimp only); (repeat' split) <;> simp
@[simp] theorem Dev.discardBook_thm (d : Dev) (c : Ctx) (sub : Nat) : (d.discardBook c sub).thm = d.thm := by
  unfold Dev.discardBook; (try dsimp only); (repeat' split) <;> simp
@[simp] theorem Dev.discardBook_mem (d : Dev) (c : Ctx) (sub : Nat) : (d.discardBook c sub).mem = d.mem := by
  unfold Dev.discardBook; (try dsimp only); (repeat' split) <;> simp
@[simp] theorem Dev.discardBook_stop (d : Dev) (c : Ctx) (sub : Nat) : (d.discardBook c sub).stop = d.stop := by
  unfold Dev.discardBook; (try dsimp only); (repeat' split) <;> simp
@[simp] theorem Dev.discardBook_log (d : Dev) (c : Ctx) (sub : Nat) : (d.discardBook c sub).log = d.log := by
  unfold Dev.discardBook; (try dsimp only); (repeat' split) <;> simp
@[simp] theorem Dev.discardBook_qual (d : Dev) (c : Ctx) (sub : Nat) : (d.discardBook c sub).qual = d.qual := by
  unfold Dev.discardBook; (try dsimp only); (repeat' split) <;> simp
@[simp] theorem Dev.discardBook_boot (d : Dev) (c : Ctx) (sub : Nat) : (d.discardBook c sub).boot = d.boot := by
  unfold Dev.discardBook; (try dsimp only); (repeat' split) <;> simp
@[simp] theorem Dev.discardBook_splice (d : Dev) (c : Ctx) (sub : Nat) : (d.discardBook c sub).splice = d.splice := by
  unfold Dev.discardBook; (try dsimp only); (repeat' split) <;> simp
@[simp] theorem Dev.discardBook_tapes (d : Dev) (c : Ctx) (sub : Nat) : (d.discardBook c sub).tapes = d.tapes := by
  unfold Dev.discardBook; (try dsimp only); (repeat' split) <;> simp
@[simp] theorem Dev.discardBook_hwsA (d : Dev) (c : Ctx) (sub : Nat) : (d.discardBook c sub).hwsA = d.hwsA := by
  unfold Dev.discardBook; (try dsimp only); (repeat' split) <;> simp
@[simp] theorem Dev.discardBook_hwsB (d : Dev) (c : Ctx) (sub : Nat) : (d.discardBook c sub).hwsB = d.hwsB := by
  unfold Dev.discardBook; (try dsimp only); (repeat' split) <;> simp
@[simp] theorem Dev.discardBook_free (d : Dev) (c : Ctx) (sub : Nat) : (d.discardBook c sub).free = d.free := by
  unfold Dev.discardBook; (try dsimp only); (repeat' split) <;> simp

/-! ### acknowledge -/

@[simp] theorem Dev.acknowledge_use (d : Dev) (c : Ctx) (src sub : Nat) : (d.acknowledge c src sub).use = d.use := by
  unfold Dev.acknowledge; (try dsimp only); (repeat' split) <;> simp
@[simp] theorem Dev.acknowledge_pend (d : Dev) (c : Ctx) (src sub : Nat) :
    (d.acknowledge c src sub).pend = d.pend := by unfold Dev.acknowledge; (try dsimp only); (repeat' split) <;> simp
@[simp] theorem Dev.acknowledge_ptr (d : Dev) (c : Ctx) (src sub : Nat) : (d.acknowledge c src sub).ptr = d.ptr := by
  unfold Dev.acknowledge; (try dsimp only); (repeat' split) <;> simp
@[simp] theorem Dev.acknowledge_conv (d : Dev) (c : Ctx) (src sub : Nat) :
    (d.acknowledge c src sub).conv = d.conv := by unfold Dev.acknowledge; (try dsimp only); (repeat' split) <;> simp
@[simp] theorem Dev.acknowledge_lyd (d : Dev) (c : Ctx) (src sub : Nat) : (d.acknowledge c src sub).lyd = d.lyd := by
  unfold Dev.acknowledge; (try dsimp only); (repeat' split) <;> simp
@[simp] theorem Dev.acknowledge_plan (d : Dev) (c : Ctx) (src sub : Nat) :
    (d.acknowledge c src sub).plan = d.plan := by unfold Dev.acknowledge; (try dsimp only); (repeat' split) <;> simp
@[simp] theorem Dev.acknowledge_clk (d : Dev) (c : Ctx) (src sub : Nat) : (d.acknowledge c src sub).clk = d.clk := by
  unfold Dev.acknowledge; (try dsimp only); (repeat' split) <;> simp
@[simp] theorem Dev.acknowledge_prt (d : Dev) (c : Ctx) (src sub : Nat) : (d.acknowledge c src sub).prt = d.prt := by
  unfold Dev.acknowledge; (try dsimp only); (repeat' split) <;> simp
@[simp] theorem Dev.acknowledge_beams (d : Dev) (c : Ctx) (src sub : Nat) :
    (d.acknowledge c src sub).beams = d.beams := by unfold Dev.acknowledge; (try dsimp only); (repeat' split) <;> simp
@[simp] theorem Dev.acknowledge_can (d : Dev) (c : Ctx) (src sub : Nat) : (d.acknowledge c src sub).can = d.can := by
  unfold Dev.acknowledge; (try dsimp only); (repeat' split) <;> simp
@[simp] theorem Dev.acknowledge_osc (d : Dev) (c : Ctx) (src sub : Nat) : (d.acknowledge c src sub).osc = d.osc := by
  unfold Dev.acknowledge; (try dsimp only); (repeat' split) <;> simp
@[simp] theorem Dev.acknowledge_bel (d : Dev) (c : Ctx) (src sub : Nat) : (d.acknowledge c src sub).bel = d.bel := by
  unfold Dev.acknowledge; (try dsimp only); (repeat' split) <;> simp
@[simp] theorem Dev.acknowledge_book (d : Dev) (c : Ctx) (src sub : Nat) :
    (d.acknowledge c src sub).book = d.book := by unfold Dev.acknowledge; (try dsimp only); (repeat' split) <;> simp
@[simp] theorem Dev.acknowledge_ldl (d : Dev) (c : Ctx) (src sub : Nat) : (d.acknowledge c src sub).ldl = d.ldl := by
  unfold Dev.acknowledge; (try dsimp only); (repeat' split) <;> simp
@[simp] theorem Dev.acknowledge_reef (d : Dev) (c : Ctx) (src sub : Nat) :
    (d.acknowledge c src sub).reef = d.reef := by unfold Dev.acknowledge; (try dsimp only); (repeat' split) <;> simp
@[simp] theorem Dev.acknowledge_thm (d : Dev) (c : Ctx) (src sub : Nat) : (d.acknowledge c src sub).thm = d.thm := by
  unfold Dev.acknowledge; (try dsimp only); (repeat' split) <;> simp
@[simp] theorem Dev.acknowledge_mem (d : Dev) (c : Ctx) (src sub : Nat) : (d.acknowledge c src sub).mem = d.mem := by
  unfold Dev.acknowledge; (try dsimp only); (repeat' split) <;> simp
@[simp] theorem Dev.acknowledge_host (d : Dev) (c : Ctx) (src sub : Nat) :
    (d.acknowledge c src sub).host = d.host := by unfold Dev.acknowledge; (try dsimp only); (repeat' split) <;> simp
@[simp] theorem Dev.acknowledge_qual (d : Dev) (c : Ctx) (src sub : Nat) :
    (d.acknowledge c src sub).qual = d.qual := by unfold Dev.acknowledge; (try dsimp only); (repeat' split) <;> simp
@[simp] theorem Dev.acknowledge_boot (d : Dev) (c : Ctx) (src sub : Nat) :
    (d.acknowledge c src sub).boot = d.boot := by unfold Dev.acknowledge; (try dsimp only); (repeat' split) <;> simp
@[simp] theorem Dev.acknowledge_splice (d : Dev) (c : Ctx) (src sub : Nat) :
    (d.acknowledge c src sub).splice = d.splice := by
  unfold Dev.acknowledge; (try dsimp only); (repeat' split) <;> simp
@[simp] theorem Dev.acknowledge_tapes (d : Dev) (c : Ctx) (src sub : Nat) :
    (d.acknowledge c src sub).tapes = d.tapes := by unfold Dev.acknowledge; (try dsimp only); (repeat' split) <;> simp
@[simp] theorem Dev.acknowledge_hwsA (d : Dev) (c : Ctx) (src sub : Nat) :
    (d.acknowledge c src sub).hwsA = d.hwsA := by unfold Dev.acknowledge; (try dsimp only); (repeat' split) <;> simp
@[simp] theorem Dev.acknowledge_hwsB (d : Dev) (c : Ctx) (src sub : Nat) :
    (d.acknowledge c src sub).hwsB = d.hwsB := by unfold Dev.acknowledge; (try dsimp only); (repeat' split) <;> simp
@[simp] theorem Dev.acknowledge_free (d : Dev) (c : Ctx) (src sub : Nat) :
    (d.acknowledge c src sub).free = d.free := by unfold Dev.acknowledge; (try dsimp only); (repeat' split) <;> simp

/-! ### queueFirst -/

@[simp] theorem Dev.queueFirst_use (d : Dev) (fs : List QFrame) : (d.queueFirst fs).use = d.use := by
  simp [Dev.queueFirst]
@[simp] theorem Dev.queueFirst_pend (d : Dev) (fs : List QFrame) : (d.queueFirst fs).pend = d.pend := by
  simp [Dev.queueFirst]
@[simp] theorem Dev.queueFirst_ptr (d : Dev) (fs : List QFrame) : (d.queueFirst fs).ptr = d.ptr := by
  simp [Dev.queueFirst]
@[simp] theorem Dev.queueFirst_conv (d : Dev) (fs : List QFrame) : (d.queueFirst fs).conv = d.conv := by
  simp [Dev.queueFirst]
@[simp] theorem Dev.queueFirst_plan (d : Dev) (fs : List QFrame) : (d.queueFirst fs).plan = d.plan := by
  simp [Dev.queueFirst]
@[simp] theorem Dev.queueFirst_clk (d : Dev) (fs : List QFrame) : (d.queueFirst fs).clk = d.clk := by
  simp [Dev.queueFirst]
@[simp] theorem Dev.queueFirst_prt (d : Dev) (fs : List QFrame) : (d.queueFirst fs).prt = d.prt := by
  simp [Dev.queueFirst]
@[simp] theorem Dev.queueFirst_beams (d : Dev) (fs : List QFrame) : (d.queueFirst fs).beams = d.beams := by
  simp [Dev.queueFirst]
@[simp] theorem Dev.queueFirst_can (d : Dev) (fs : List QFrame) : (d.queueFirst fs).can = d.can := by
  simp [Dev.queueFirst]
@[simp] theorem Dev.queueFirst_osc (d : Dev) (fs : List QFrame) : (d.queueFirst fs).osc = d.osc := by
  simp [Dev.queueFirst]
@[simp] theorem Dev.queueFirst_bel (d : Dev) (fs : List QFrame) : (d.queueFirst fs).bel = d.bel := by
  simp [Dev.queueFirst]
@[simp] theorem Dev.queueFirst_book (d : Dev) (fs : List QFrame) : (d.queueFirst fs).book = d.book := by
  simp [Dev.queueFirst]
@[simp] theorem Dev.queueFirst_ldl (d : Dev) (fs : List QFrame) : (d.queueFirst fs).ldl = d.ldl := by
  simp [Dev.queueFirst]
@[simp] theorem Dev.queueFirst_reef (d : Dev) (fs : List QFrame) : (d.queueFirst fs).reef = d.reef := by
  simp [Dev.queueFirst]
@[simp] theorem Dev.queueFirst_thm (d : Dev) (fs : List QFrame) : (d.queueFirst fs).thm = d.thm := by
  simp [Dev.queueFirst]
@[simp] theorem Dev.queueFirst_mem (d : Dev) (fs : List QFrame) : (d.queueFirst fs).mem = d.mem := by
  simp [Dev.queueFirst]
@[simp] theorem Dev.queueFirst_stop (d : Dev) (fs : List QFrame) : (d.queueFirst fs).stop = d.stop := by
  simp [Dev.queueFirst]
@[simp] theorem Dev.queueFirst_log (d : Dev) (fs : List QFrame) : (d.queueFirst fs).log = d.log := by
  simp [Dev.queueFirst]
@[simp] theorem Dev.queueFirst_host (d : Dev) (fs : List QFrame) : (d.queueFirst fs).host = d.host := by
  simp [Dev.queueFirst]
@[simp] theorem Dev.queueFirst_qual (d : Dev) (fs : List QFrame) : (d.queueFirst fs).qual = d.qual := by
  simp [Dev.queueFirst]
@[simp] theorem Dev.queueFirst_boot (d : Dev) (fs : List QFrame) : (d.queueFirst fs).boot = d.boot := by
  simp [Dev.queueFirst]
@[simp] theorem Dev.queueFirst_splice (d : Dev) (fs : List QFrame) : (d.queueFirst fs).splice = d.splice := by
  simp [Dev.queueFirst]
@[simp] theorem Dev.queueFirst_tapes (d : Dev) (fs : List QFrame) : (d.queueFirst fs).tapes = d.tapes := by
  simp [Dev.queueFirst]
@[simp] theorem Dev.queueFirst_hwsA (d : Dev) (fs : List QFrame) : (d.queueFirst fs).hwsA = d.hwsA := by
  simp [Dev.queueFirst]
@[simp] theorem Dev.queueFirst_hwsB (d : Dev) (fs : List QFrame) : (d.queueFirst fs).hwsB = d.hwsB := by
  simp [Dev.queueFirst]
@[simp] theorem Dev.queueFirst_free (d : Dev) (fs : List QFrame) : (d.queueFirst fs).free = d.free := by
  simp [Dev.queueFirst]

/-! ### onNode -/

@[simp] theorem Dev.onNode_use (d : Dev) (g : Nat) (f : Node → Node) : (d.onNode g f).use = d.use := by
  simp [Dev.onNode]
@[simp] theorem Dev.onNode_pend (d : Dev) (g : Nat) (f : Node → Node) : (d.onNode g f).pend = d.pend := by
  simp [Dev.onNode]
@[simp] theorem Dev.onNode_ptr (d : Dev) (g : Nat) (f : Node → Node) : (d.onNode g f).ptr = d.ptr := by
  simp [Dev.onNode]
@[simp] theorem Dev.onNode_conv (d : Dev) (g : Nat) (f : Node → Node) : (d.onNode g f).conv = d.conv := by
  simp [Dev.onNode]
@[simp] theorem Dev.onNode_plan (d : Dev) (g : Nat) (f : Node → Node) : (d.onNode g f).plan = d.plan := by
  simp [Dev.onNode]
@[simp] theorem Dev.onNode_clk (d : Dev) (g : Nat) (f : Node → Node) : (d.onNode g f).clk = d.clk := by
  simp [Dev.onNode]
@[simp] theorem Dev.onNode_prt (d : Dev) (g : Nat) (f : Node → Node) : (d.onNode g f).prt = d.prt := by
  simp [Dev.onNode]
@[simp] theorem Dev.onNode_beams (d : Dev) (g : Nat) (f : Node → Node) : (d.onNode g f).beams = d.beams := by
  simp [Dev.onNode]
@[simp] theorem Dev.onNode_can (d : Dev) (g : Nat) (f : Node → Node) : (d.onNode g f).can = d.can := by
  simp [Dev.onNode]
@[simp] theorem Dev.onNode_osc (d : Dev) (g : Nat) (f : Node → Node) : (d.onNode g f).osc = d.osc := by
  simp [Dev.onNode]
@[simp] theorem Dev.onNode_bel (d : Dev) (g : Nat) (f : Node → Node) : (d.onNode g f).bel = d.bel := by
  simp [Dev.onNode]
@[simp] theorem Dev.onNode_book (d : Dev) (g : Nat) (f : Node → Node) : (d.onNode g f).book = d.book := by
  simp [Dev.onNode]
@[simp] theorem Dev.onNode_ldl (d : Dev) (g : Nat) (f : Node → Node) : (d.onNode g f).ldl = d.ldl := by
  simp [Dev.onNode]
@[simp] theorem Dev.onNode_reef (d : Dev) (g : Nat) (f : Node → Node) : (d.onNode g f).reef = d.reef := by
  simp [Dev.onNode]
@[simp] theorem Dev.onNode_thm (d : Dev) (g : Nat) (f : Node → Node) : (d.onNode g f).thm = d.thm := by
  simp [Dev.onNode]
@[simp] theorem Dev.onNode_mem (d : Dev) (g : Nat) (f : Node → Node) : (d.onNode g f).mem = d.mem := by
  simp [Dev.onNode]
@[simp] theorem Dev.onNode_stop (d : Dev) (g : Nat) (f : Node → Node) : (d.onNode g f).stop = d.stop := by
  simp [Dev.onNode]
@[simp] theorem Dev.onNode_log (d : Dev) (g : Nat) (f : Node → Node) : (d.onNode g f).log = d.log := by
  simp [Dev.onNode]
@[simp] theorem Dev.onNode_host (d : Dev) (g : Nat) (f : Node → Node) : (d.onNode g f).host = d.host := by
  simp [Dev.onNode]
@[simp] theorem Dev.onNode_qual (d : Dev) (g : Nat) (f : Node → Node) : (d.onNode g f).qual = d.qual := by
  simp [Dev.onNode]
@[simp] theorem Dev.onNode_boot (d : Dev) (g : Nat) (f : Node → Node) : (d.onNode g f).boot = d.boot := by
  simp [Dev.onNode]
@[simp] theorem Dev.onNode_splice (d : Dev) (g : Nat) (f : Node → Node) : (d.onNode g f).splice = d.splice := by
  simp [Dev.onNode]
@[simp] theorem Dev.onNode_tapes (d : Dev) (g : Nat) (f : Node → Node) : (d.onNode g f).tapes = d.tapes := by
  simp [Dev.onNode]
@[simp] theorem Dev.onNode_hwsA (d : Dev) (g : Nat) (f : Node → Node) : (d.onNode g f).hwsA = d.hwsA := by
  simp [Dev.onNode]
@[simp] theorem Dev.onNode_hwsB (d : Dev) (g : Nat) (f : Node → Node) : (d.onNode g f).hwsB = d.hwsB := by
  simp [Dev.onNode]
@[simp] theorem Dev.onNode_free (d : Dev) (g : Nat) (f : Node → Node) : (d.onNode g f).free = d.free := by
  simp [Dev.onNode]

/-! ### dropPaOn -/

@[simp] theorem Dev.dropPaOn_use (d : Dev) (sel : Nat → Bool) : (d.dropPaOn sel).use = d.use := by simp [Dev.dropPaOn]
@[simp] theorem Dev.dropPaOn_pend (d : Dev) (sel : Nat → Bool) : (d.dropPaOn sel).pend = d.pend := by
  simp [Dev.dropPaOn]
@[simp] theorem Dev.dropPaOn_ptr (d : Dev) (sel : Nat → Bool) : (d.dropPaOn sel).ptr = d.ptr := by simp [Dev.dropPaOn]
@[simp] theorem Dev.dropPaOn_conv (d : Dev) (sel : Nat → Bool) : (d.dropPaOn sel).conv = d.conv := by
  simp [Dev.dropPaOn]
@[simp] theorem Dev.dropPaOn_plan (d : Dev) (sel : Nat → Bool) : (d.dropPaOn sel).plan = d.plan := by
  simp [Dev.dropPaOn]
@[simp] theorem Dev.dropPaOn_clk (d : Dev) (sel : Nat → Bool) : (d.dropPaOn sel).clk = d.clk := by simp [Dev.dropPaOn]
@[simp] theorem Dev.dropPaOn_prt (d : Dev) (sel : Nat → Bool) : (d.dropPaOn sel).prt = d.prt := by simp [Dev.dropPaOn]
@[simp] theorem Dev.dropPaOn_beams (d : Dev) (sel : Nat → Bool) : (d.dropPaOn sel).beams = d.beams := by
  simp [Dev.dropPaOn]
@[simp] theorem Dev.dropPaOn_can (d : Dev) (sel : Nat → Bool) : (d.dropPaOn sel).can = d.can := by simp [Dev.dropPaOn]
@[simp] theorem Dev.dropPaOn_osc (d : Dev) (sel : Nat → Bool) : (d.dropPaOn sel).osc = d.osc := by simp [Dev.dropPaOn]
@[simp] theorem Dev.dropPaOn_bel (d : Dev) (sel : Nat → Bool) : (d.dropPaOn sel).bel = d.bel := by simp [Dev.dropPaOn]
@[simp] theorem Dev.dropPaOn_book (d : Dev) (sel : Nat → Bool) : (d.dropPaOn sel).book = d.book := by
  simp [Dev.dropPaOn]
@[simp] theorem Dev.dropPaOn_ldl (d : Dev) (sel : Nat → Bool) : (d.dropPaOn sel).ldl = d.ldl := by simp [Dev.dropPaOn]
@[simp] theorem Dev.dropPaOn_reef (d : Dev) (sel : Nat → Bool) : (d.dropPaOn sel).reef = d.reef := by
  simp [Dev.dropPaOn]
@[simp] theorem Dev.dropPaOn_thm (d : Dev) (sel : Nat → Bool) : (d.dropPaOn sel).thm = d.thm := by simp [Dev.dropPaOn]
@[simp] theorem Dev.dropPaOn_mem (d : Dev) (sel : Nat → Bool) : (d.dropPaOn sel).mem = d.mem := by simp [Dev.dropPaOn]
@[simp] theorem Dev.dropPaOn_stop (d : Dev) (sel : Nat → Bool) : (d.dropPaOn sel).stop = d.stop := by
  simp [Dev.dropPaOn]
@[simp] theorem Dev.dropPaOn_log (d : Dev) (sel : Nat → Bool) : (d.dropPaOn sel).log = d.log := by simp [Dev.dropPaOn]
@[simp] theorem Dev.dropPaOn_host (d : Dev) (sel : Nat → Bool) : (d.dropPaOn sel).host = d.host := by
  simp [Dev.dropPaOn]
@[simp] theorem Dev.dropPaOn_qual (d : Dev) (sel : Nat → Bool) : (d.dropPaOn sel).qual = d.qual := by
  simp [Dev.dropPaOn]
@[simp] theorem Dev.dropPaOn_boot (d : Dev) (sel : Nat → Bool) : (d.dropPaOn sel).boot = d.boot := by
  simp [Dev.dropPaOn]
@[simp] theorem Dev.dropPaOn_splice (d : Dev) (sel : Nat → Bool) : (d.dropPaOn sel).splice = d.splice := by
  simp [Dev.dropPaOn]
@[simp] theorem Dev.dropPaOn_tapes (d : Dev) (sel : Nat → Bool) : (d.dropPaOn sel).tapes = d.tapes := by
  simp [Dev.dropPaOn]
@[simp] theorem Dev.dropPaOn_hwsA (d : Dev) (sel : Nat → Bool) : (d.dropPaOn sel).hwsA = d.hwsA := by
  simp [Dev.dropPaOn]
@[simp] theorem Dev.dropPaOn_hwsB (d : Dev) (sel : Nat → Bool) : (d.dropPaOn sel).hwsB = d.hwsB := by
  simp [Dev.dropPaOn]
@[simp] theorem Dev.dropPaOn_free (d : Dev) (sel : Nat → Bool) : (d.dropPaOn sel).free = d.free := by
  simp [Dev.dropPaOn]

/-! ### kill -/

@[simp] theorem Dev.kill_use (d : Dev) (c : Ctx) : (d.kill c).use = d.use := by
  unfold Dev.kill; (try dsimp only); (repeat' split) <;> simp
@[simp] theorem Dev.kill_pend (d : Dev) (c : Ctx) : (d.kill c).pend = d.pend := by
  unfold Dev.kill; (try dsimp only); (repeat' split) <;> simp
@[simp] theorem Dev.kill_ptr (d : Dev) (c : Ctx) : (d.kill c).ptr = d.ptr := by
  unfold Dev.kill; (try dsimp only); (repeat' split) <;> simp
@[simp] theorem Dev.kill_conv (d : Dev) (c : Ctx) : (d.kill c).conv = d.conv := by
  unfold Dev.kill; (try dsimp only); (repeat' split) <;> simp
@[simp] theorem Dev.kill_plan (d : Dev) (c : Ctx) : (d.kill c).plan = d.plan := by
  unfold Dev.kill; (try dsimp only); (repeat' split) <;> simp
@[simp] theorem Dev.kill_clk (d : Dev) (c : Ctx) : (d.kill c).clk = d.clk := by
  unfold Dev.kill; (try dsimp only); (repeat' split) <;> simp
@[simp] theorem Dev.kill_prt (d : Dev) (c : Ctx) : (d.kill c).prt = d.prt := by
  unfold Dev.kill; (try dsimp only); (repeat' split) <;> simp
@[simp] theorem Dev.kill_beams (d : Dev) (c : Ctx) : (d.kill c).beams = d.beams := by
  unfold Dev.kill; (try dsimp only); (repeat' split) <;> simp
@[simp] theorem Dev.kill_can (d : Dev) (c : Ctx) : (d.kill c).can = d.can := by
  unfold Dev.kill; (try dsimp only); (repeat' split) <;> simp
@[simp] theorem Dev.kill_osc (d : Dev) (c : Ctx) : (d.kill c).osc = d.osc := by
  unfold Dev.kill; (try dsimp only); (repeat' split) <;> simp
@[simp] theorem Dev.kill_bel (d : Dev) (c : Ctx) : (d.kill c).bel = d.bel := by
  unfold Dev.kill; (try dsimp only); (repeat' split) <;> simp
@[simp] theorem Dev.kill_book (d : Dev) (c : Ctx) : (d.kill c).book = d.book := by
  unfold Dev.kill; (try dsimp only); (repeat' split) <;> simp
@[simp] theorem Dev.kill_ldl (d : Dev) (c : Ctx) : (d.kill c).ldl = d.ldl := by
  unfold Dev.kill; (try dsimp only); (repeat' split) <;> simp
@[simp] theorem Dev.kill_reef (d : Dev) (c : Ctx) : (d.kill c).reef = d.reef := by
  unfold Dev.kill; (try dsimp only); (repeat' split) <;> simp
@[simp] theorem Dev.kill_thm (d : Dev) (c : Ctx) : (d.kill c).thm = d.thm := by
  unfold Dev.kill; (try dsimp only); (repeat' split) <;> simp
@[simp] theorem Dev.kill_mem (d : Dev) (c : Ctx) : (d.kill c).mem = d.mem := by
  unfold Dev.kill; (try dsimp only); (repeat' split) <;> simp
@[simp] theorem Dev.kill_stop (d : Dev) (c : Ctx) : (d.kill c).stop = d.stop := by
  unfold Dev.kill; (try dsimp only); (repeat' split) <;> simp
@[simp] theorem Dev.kill_log (d : Dev) (c : Ctx) : (d.kill c).log = d.log := by
  unfold Dev.kill; (try dsimp only); (repeat' split) <;> simp
@[simp] theorem Dev.kill_host (d : Dev) (c : Ctx) : (d.kill c).host = d.host := by
  unfold Dev.kill; (try dsimp only); (repeat' split) <;> simp
@[simp] theorem Dev.kill_qual (d : Dev) (c : Ctx) : (d.kill c).qual = d.qual := by
  unfold Dev.kill; (try dsimp only); (repeat' split) <;> simp
@[simp] theorem Dev.kill_boot (d : Dev) (c : Ctx) : (d.kill c).boot = d.boot := by
  unfold Dev.kill; (try dsimp only); (repeat' split) <;> simp
@[simp] theorem Dev.kill_splice (d : Dev) (c : Ctx) : (d.kill c).splice = d.splice := by
  unfold Dev.kill; (try dsimp only); (repeat' split) <;> simp
@[simp] theorem Dev.kill_tapes (d : Dev) (c : Ctx) : (d.kill c).tapes = d.tapes := by
  unfold Dev.kill; (try dsimp only); (repeat' split) <;> simp
@[simp] theorem Dev.kill_hwsA (d : Dev) (c : Ctx) : (d.kill c).hwsA = d.hwsA := by
  unfold Dev.kill; (try dsimp only); (repeat' split) <;> simp
@[simp] theorem Dev.kill_hwsB (d : Dev) (c : Ctx) : (d.kill c).hwsB = d.hwsB := by
  unfold Dev.kill; (try dsimp only); (repeat' split) <;> simp
@[simp] theorem Dev.kill_free (d : Dev) (c : Ctx) : (d.kill c).free = d.free := by
  unfold Dev.kill; (try dsimp only); (repeat' split) <;> simp

/-! ### paOff -/

@[simp] theorem Dev.paOff_use (d : Dev) (c : Ctx) (g : Nat) : (d.paOff c g).use = d.use := by
  unfold Dev.paOff; (try dsimp only); (repeat' split) <;> simp
@[simp] theorem Dev.paOff_pend (d : Dev) (c : Ctx) (g : Nat) : (d.paOff c g).pend = d.pend := by
  unfold Dev.paOff; (try dsimp only); (repeat' split) <;> simp
@[simp] theorem Dev.paOff_ptr (d : Dev) (c : Ctx) (g : Nat) : (d.paOff c g).ptr = d.ptr := by
  unfold Dev.paOff; (try dsimp only); (repeat' split) <;> simp
@[simp] theorem Dev.paOff_conv (d : Dev) (c : Ctx) (g : Nat) : (d.paOff c g).conv = d.conv := by
  unfold Dev.paOff; (try dsimp only); (repeat' split) <;> simp
@[simp] theorem Dev.paOff_plan (d : Dev) (c : Ctx) (g : Nat) : (d.paOff c g).plan = d.plan := by
  unfold Dev.paOff; (try dsimp only); (repeat' split) <;> simp
@[simp] theorem Dev.paOff_clk (d : Dev) (c : Ctx) (g : Nat) : (d.paOff c g).clk = d.clk := by
  unfold Dev.paOff; (try dsimp only); (repeat' split) <;> simp
@[simp] theorem Dev.paOff_prt (d : Dev) (c : Ctx) (g : Nat) : (d.paOff c g).prt = d.prt := by
  unfold Dev.paOff; (try dsimp only); (repeat' split) <;> simp
@[simp] theorem Dev.paOff_beams (d : Dev) (c : Ctx) (g : Nat) : (d.paOff c g).beams = d.beams := by
  unfold Dev.paOff; (try dsimp only); (repeat' split) <;> simp
@[simp] theorem Dev.paOff_can (d : Dev) (c : Ctx) (g : Nat) : (d.paOff c g).can = d.can := by
  unfold Dev.paOff; (try dsimp only); (repeat' split) <;> simp
@[simp] theorem Dev.paOff_osc (d : Dev) (c : Ctx) (g : Nat) : (d.paOff c g).osc = d.osc := by
  unfold Dev.paOff; (try dsimp only); (repeat' split) <;> simp
@[simp] theorem Dev.paOff_bel (d : Dev) (c : Ctx) (g : Nat) : (d.paOff c g).bel = d.bel := by
  unfold Dev.paOff; (try dsimp only); (repeat' split) <;> simp
@[simp] theorem Dev.paOff_book (d : Dev) (c : Ctx) (g : Nat) : (d.paOff c g).book = d.book := by
  unfold Dev.paOff; (try dsimp only); (repeat' split) <;> simp
@[simp] theorem Dev.paOff_ldl (d : Dev) (c : Ctx) (g : Nat) : (d.paOff c g).ldl = d.ldl := by
  unfold Dev.paOff; (try dsimp only); (repeat' split) <;> simp
@[simp] theorem Dev.paOff_reef (d : Dev) (c : Ctx) (g : Nat) : (d.paOff c g).reef = d.reef := by
  unfold Dev.paOff; (try dsimp only); (repeat' split) <;> simp
@[simp] theorem Dev.paOff_thm (d : Dev) (c : Ctx) (g : Nat) : (d.paOff c g).thm = d.thm := by
  unfold Dev.paOff; (try dsimp only); (repeat' split) <;> simp
@[simp] theorem Dev.paOff_mem (d : Dev) (c : Ctx) (g : Nat) : (d.paOff c g).mem = d.mem := by
  unfold Dev.paOff; (try dsimp only); (repeat' split) <;> simp
@[simp] theorem Dev.paOff_stop (d : Dev) (c : Ctx) (g : Nat) : (d.paOff c g).stop = d.stop := by
  unfold Dev.paOff; (try dsimp only); (repeat' split) <;> simp
@[simp] theorem Dev.paOff_log (d : Dev) (c : Ctx) (g : Nat) : (d.paOff c g).log = d.log := by
  unfold Dev.paOff; (try dsimp only); (repeat' split) <;> simp
@[simp] theorem Dev.paOff_host (d : Dev) (c : Ctx) (g : Nat) : (d.paOff c g).host = d.host := by
  unfold Dev.paOff; (try dsimp only); (repeat' split) <;> simp
@[simp] theorem Dev.paOff_qual (d : Dev) (c : Ctx) (g : Nat) : (d.paOff c g).qual = d.qual := by
  unfold Dev.paOff; (try dsimp only); (repeat' split) <;> simp
@[simp] theorem Dev.paOff_boot (d : Dev) (c : Ctx) (g : Nat) : (d.paOff c g).boot = d.boot := by
  unfold Dev.paOff; (try dsimp only); (repeat' split) <;> simp
@[simp] theorem Dev.paOff_splice (d : Dev) (c : Ctx) (g : Nat) : (d.paOff c g).splice = d.splice := by
  unfold Dev.paOff; (try dsimp only); (repeat' split) <;> simp
@[simp] theorem Dev.paOff_tapes (d : Dev) (c : Ctx) (g : Nat) : (d.paOff c g).tapes = d.tapes := by
  unfold Dev.paOff; (try dsimp only); (repeat' split) <;> simp
@[simp] theorem Dev.paOff_hwsA (d : Dev) (c : Ctx) (g : Nat) : (d.paOff c g).hwsA = d.hwsA := by
  unfold Dev.paOff; (try dsimp only); (repeat' split) <;> simp
@[simp] theorem Dev.paOff_hwsB (d : Dev) (c : Ctx) (g : Nat) : (d.paOff c g).hwsB = d.hwsB := by
  unfold Dev.paOff; (try dsimp only); (repeat' split) <;> simp
@[simp] theorem Dev.paOff_free (d : Dev) (c : Ctx) (g : Nat) : (d.paOff c g).free = d.free := by
  unfold Dev.paOff; (try dsimp only); (repeat' split) <;> simp

/-! ### lydClk -/

@[simp] theorem Dev.lydClk_use (d : Dev) (conv : Nat) (on : Bool) : (d.lydClk conv on).use = d.use := by
  unfold Dev.lydClk; (try dsimp only); (repeat' split) <;> simp
@[simp] theorem Dev.lydClk_pend (d : Dev) (conv : Nat) (on : Bool) : (d.lydClk conv on).pend = d.pend := by
  unfold Dev.lydClk; (try dsimp only); (repeat' split) <;> simp
@[simp] theorem Dev.lydClk_ptr (d : Dev) (conv : Nat) (on : Bool) : (d.lydClk conv on).ptr = d.ptr := by
  unfold Dev.lydClk; (try dsimp only); (repeat' split) <;> simp
@[simp] theorem Dev.lydClk_conv (d : Dev) (conv : Nat) (on : Bool) : (d.lydClk conv on).conv = d.conv := by
  unfold Dev.lydClk; (try dsimp only); (repeat' split) <;> simp
@[simp] theorem Dev.lydClk_plan (d : Dev) (conv : Nat) (on : Bool) : (d.lydClk conv on).plan = d.plan := by
  unfold Dev.lydClk; (try dsimp only); (repeat' split) <;> simp
@[simp] theorem Dev.lydClk_clk (d : Dev) (conv : Nat) (on : Bool) : (d.lydClk conv on).clk = d.clk := by
  unfold Dev.lydClk; (try dsimp only); (repeat' split) <;> simp
@[simp] theorem Dev.lydClk_prt (d : Dev) (conv : Nat) (on : Bool) : (d.lydClk conv on).prt = d.prt := by
  unfold Dev.lydClk; (try dsimp only); (repeat' split) <;> simp
@[simp] theorem Dev.lydClk_beams (d : Dev) (conv : Nat) (on : Bool) : (d.lydClk conv on).beams = d.beams := by
  unfold Dev.lydClk; (try dsimp only); (repeat' split) <;> simp
@[simp] theorem Dev.lydClk_can (d : Dev) (conv : Nat) (on : Bool) : (d.lydClk conv on).can = d.can := by
  unfold Dev.lydClk; (try dsimp only); (repeat' split) <;> simp
@[simp] theorem Dev.lydClk_osc (d : Dev) (conv : Nat) (on : Bool) : (d.lydClk conv on).osc = d.osc := by
  unfold Dev.lydClk; (try dsimp only); (repeat' split) <;> simp
@[simp] theorem Dev.lydClk_bel (d : Dev) (conv : Nat) (on : Bool) : (d.lydClk conv on).bel = d.bel := by
  unfold Dev.lydClk; (try dsimp only); (repeat' split) <;> simp
@[simp] theorem Dev.lydClk_book (d : Dev) (conv : Nat) (on : Bool) : (d.lydClk conv on).book = d.book := by
  unfold Dev.lydClk; (try dsimp only); (repeat' split) <;> simp
@[simp] theorem Dev.lydClk_ldl (d : Dev) (conv : Nat) (on : Bool) : (d.lydClk conv on).ldl = d.ldl := by
  unfold Dev.lydClk; (try dsimp only); (repeat' split) <;> simp
@[simp] theorem Dev.lydClk_reef (d : Dev) (conv : Nat) (on : Bool) : (d.lydClk conv on).reef = d.reef := by
  unfold Dev.lydClk; (try dsimp only); (repeat' split) <;> simp
@[simp] theorem Dev.lydClk_thm (d : Dev) (conv : Nat) (on : Bool) : (d.lydClk conv on).thm = d.thm := by
  unfold Dev.lydClk; (try dsimp only); (repeat' split) <;> simp
@[simp] theorem Dev.lydClk_mem (d : Dev) (conv : Nat) (on : Bool) : (d.lydClk conv on).mem = d.mem := by
  unfold Dev.lydClk; (try dsimp only); (repeat' split) <;> simp
@[simp] theorem Dev.lydClk_stop (d : Dev) (conv : Nat) (on : Bool) : (d.lydClk conv on).stop = d.stop := by
  unfold Dev.lydClk; (try dsimp only); (repeat' split) <;> simp
@[simp] theorem Dev.lydClk_log (d : Dev) (conv : Nat) (on : Bool) : (d.lydClk conv on).log = d.log := by
  unfold Dev.lydClk; (try dsimp only); (repeat' split) <;> simp
@[simp] theorem Dev.lydClk_host (d : Dev) (conv : Nat) (on : Bool) : (d.lydClk conv on).host = d.host := by
  unfold Dev.lydClk; (try dsimp only); (repeat' split) <;> simp
@[simp] theorem Dev.lydClk_qual (d : Dev) (conv : Nat) (on : Bool) : (d.lydClk conv on).qual = d.qual := by
  unfold Dev.lydClk; (try dsimp only); (repeat' split) <;> simp
@[simp] theorem Dev.lydClk_boot (d : Dev) (conv : Nat) (on : Bool) : (d.lydClk conv on).boot = d.boot := by
  unfold Dev.lydClk; (try dsimp only); (repeat' split) <;> simp
@[simp] theorem Dev.lydClk_splice (d : Dev) (conv : Nat) (on : Bool) : (d.lydClk conv on).splice = d.splice := by
  unfold Dev.lydClk; (try dsimp only); (repeat' split) <;> simp
@[simp] theorem Dev.lydClk_tapes (d : Dev) (conv : Nat) (on : Bool) : (d.lydClk conv on).tapes = d.tapes := by
  unfold Dev.lydClk; (try dsimp only); (repeat' split) <;> simp
@[simp] theorem Dev.lydClk_hwsA (d : Dev) (conv : Nat) (on : Bool) : (d.lydClk conv on).hwsA = d.hwsA := by
  unfold Dev.lydClk; (try dsimp only); (repeat' split) <;> simp
@[simp] theorem Dev.lydClk_hwsB (d : Dev) (conv : Nat) (on : Bool) : (d.lydClk conv on).hwsB = d.hwsB := by
  unfold Dev.lydClk; (try dsimp only); (repeat' split) <;> simp
@[simp] theorem Dev.lydClk_free (d : Dev) (conv : Nat) (on : Bool) : (d.lydClk conv on).free = d.free := by
  unfold Dev.lydClk; (try dsimp only); (repeat' split) <;> simp

/-! ### triggerCaps -/

@[simp] theorem Dev.triggerCaps_use (d : Dev) (sel : Cap → Bool) (cause mute tick sub : Nat) :
    (d.triggerCaps sel cause mute tick sub).use = d.use := by simp [Dev.triggerCaps]
@[simp] theorem Dev.triggerCaps_pend (d : Dev) (sel : Cap → Bool) (cause mute tick sub : Nat) :
    (d.triggerCaps sel cause mute tick sub).pend = d.pend := by simp [Dev.triggerCaps]
@[simp] theorem Dev.triggerCaps_ptr (d : Dev) (sel : Cap → Bool) (cause mute tick sub : Nat) :
    (d.triggerCaps sel cause mute tick sub).ptr = d.ptr := by simp [Dev.triggerCaps]
@[simp] theorem Dev.triggerCaps_conv (d : Dev) (sel : Cap → Bool) (cause mute tick sub : Nat) :
    (d.triggerCaps sel cause mute tick sub).conv = d.conv := by simp [Dev.triggerCaps]
@[simp] theorem Dev.triggerCaps_lyd (d : Dev) (sel : Cap → Bool) (cause mute tick sub : Nat) :
    (d.triggerCaps sel cause mute tick sub).lyd = d.lyd := by simp [Dev.triggerCaps]
@[simp] theorem Dev.triggerCaps_plan (d : Dev) (sel : Cap → Bool) (cause mute tick sub : Nat) :
    (d.triggerCaps sel cause mute tick sub).plan = d.plan := by simp [Dev.triggerCaps]
@[simp] theorem Dev.triggerCaps_clk (d : Dev) (sel : Cap → Bool) (cause mute tick sub : Nat) :
    (d.triggerCaps sel cause mute tick sub).clk = d.clk := by simp [Dev.triggerCaps]
@[simp] theorem Dev.triggerCaps_prt (d : Dev) (sel : Cap → Bool) (cause mute tick sub : Nat) :
    (d.triggerCaps sel cause mute tick sub).prt = d.prt := by simp [Dev.triggerCaps]
@[simp] theorem Dev.triggerCaps_beams (d : Dev) (sel : Cap → Bool) (cause mute tick sub : Nat) :
    (d.triggerCaps sel cause mute tick sub).beams = d.beams := by simp [Dev.triggerCaps]
@[simp] theorem Dev.triggerCaps_can (d : Dev) (sel : Cap → Bool) (cause mute tick sub : Nat) :
    (d.triggerCaps sel cause mute tick sub).can = d.can := by simp [Dev.triggerCaps]
@[simp] theorem Dev.triggerCaps_osc (d : Dev) (sel : Cap → Bool) (cause mute tick sub : Nat) :
    (d.triggerCaps sel cause mute tick sub).osc = d.osc := by simp [Dev.triggerCaps]
@[simp] theorem Dev.triggerCaps_bel (d : Dev) (sel : Cap → Bool) (cause mute tick sub : Nat) :
    (d.triggerCaps sel cause mute tick sub).bel = d.bel := by simp [Dev.triggerCaps]
@[simp] theorem Dev.triggerCaps_book (d : Dev) (sel : Cap → Bool) (cause mute tick sub : Nat) :
    (d.triggerCaps sel cause mute tick sub).book = d.book := by simp [Dev.triggerCaps]
@[simp] theorem Dev.triggerCaps_reef (d : Dev) (sel : Cap → Bool) (cause mute tick sub : Nat) :
    (d.triggerCaps sel cause mute tick sub).reef = d.reef := by simp [Dev.triggerCaps]
@[simp] theorem Dev.triggerCaps_thm (d : Dev) (sel : Cap → Bool) (cause mute tick sub : Nat) :
    (d.triggerCaps sel cause mute tick sub).thm = d.thm := by simp [Dev.triggerCaps]
@[simp] theorem Dev.triggerCaps_mem (d : Dev) (sel : Cap → Bool) (cause mute tick sub : Nat) :
    (d.triggerCaps sel cause mute tick sub).mem = d.mem := by simp [Dev.triggerCaps]
@[simp] theorem Dev.triggerCaps_stop (d : Dev) (sel : Cap → Bool) (cause mute tick sub : Nat) :
    (d.triggerCaps sel cause mute tick sub).stop = d.stop := by simp [Dev.triggerCaps]
@[simp] theorem Dev.triggerCaps_log (d : Dev) (sel : Cap → Bool) (cause mute tick sub : Nat) :
    (d.triggerCaps sel cause mute tick sub).log = d.log := by simp [Dev.triggerCaps]
@[simp] theorem Dev.triggerCaps_host (d : Dev) (sel : Cap → Bool) (cause mute tick sub : Nat) :
    (d.triggerCaps sel cause mute tick sub).host = d.host := by simp [Dev.triggerCaps]
@[simp] theorem Dev.triggerCaps_qual (d : Dev) (sel : Cap → Bool) (cause mute tick sub : Nat) :
    (d.triggerCaps sel cause mute tick sub).qual = d.qual := by simp [Dev.triggerCaps]
@[simp] theorem Dev.triggerCaps_boot (d : Dev) (sel : Cap → Bool) (cause mute tick sub : Nat) :
    (d.triggerCaps sel cause mute tick sub).boot = d.boot := by simp [Dev.triggerCaps]
@[simp] theorem Dev.triggerCaps_splice (d : Dev) (sel : Cap → Bool) (cause mute tick sub : Nat) :
    (d.triggerCaps sel cause mute tick sub).splice = d.splice := by simp [Dev.triggerCaps]
@[simp] theorem Dev.triggerCaps_tapes (d : Dev) (sel : Cap → Bool) (cause mute tick sub : Nat) :
    (d.triggerCaps sel cause mute tick sub).tapes = d.tapes := by simp [Dev.triggerCaps]
@[simp] theorem Dev.triggerCaps_hwsA (d : Dev) (sel : Cap → Bool) (cause mute tick sub : Nat) :
    (d.triggerCaps sel cause mute tick sub).hwsA = d.hwsA := by simp [Dev.triggerCaps]
@[simp] theorem Dev.triggerCaps_hwsB (d : Dev) (sel : Cap → Bool) (cause mute tick sub : Nat) :
    (d.triggerCaps sel cause mute tick sub).hwsB = d.hwsB := by simp [Dev.triggerCaps]
@[simp] theorem Dev.triggerCaps_free (d : Dev) (sel : Cap → Bool) (cause mute tick sub : Nat) :
    (d.triggerCaps sel cause mute tick sub).free = d.free := by simp [Dev.triggerCaps]

/-! ### curtailCaps -/

@[simp] theorem Dev.curtailCaps_use (d : Dev) (tick sub : Nat) : (d.curtailCaps tick sub).use = d.use := by
  simp [Dev.curtailCaps]
@[simp] theorem Dev.curtailCaps_pend (d : Dev) (tick sub : Nat) : (d.curtailCaps tick sub).pend = d.pend := by
  simp [Dev.curtailCaps]
@[simp] theorem Dev.curtailCaps_ptr (d : Dev) (tick sub : Nat) : (d.curtailCaps tick sub).ptr = d.ptr := by
  simp [Dev.curtailCaps]
@[simp] theorem Dev.curtailCaps_conv (d : Dev) (tick sub : Nat) : (d.curtailCaps tick sub).conv = d.conv := by
  simp [Dev.curtailCaps]
@[simp] theorem Dev.curtailCaps_lyd (d : Dev) (tick sub : Nat) : (d.curtailCaps tick sub).lyd = d.lyd := by
  simp [Dev.curtailCaps]
@[simp] theorem Dev.curtailCaps_plan (d : Dev) (tick sub : Nat) : (d.curtailCaps tick sub).plan = d.plan := by
  simp [Dev.curtailCaps]
@[simp] theorem Dev.curtailCaps_clk (d : Dev) (tick sub : Nat) : (d.curtailCaps tick sub).clk = d.clk := by
  simp [Dev.curtailCaps]
@[simp] theorem Dev.curtailCaps_prt (d : Dev) (tick sub : Nat) : (d.curtailCaps tick sub).prt = d.prt := by
  simp [Dev.curtailCaps]
@[simp] theorem Dev.curtailCaps_beams (d : Dev) (tick sub : Nat) : (d.curtailCaps tick sub).beams = d.beams := by
  simp [Dev.curtailCaps]
@[simp] theorem Dev.curtailCaps_can (d : Dev) (tick sub : Nat) : (d.curtailCaps tick sub).can = d.can := by
  simp [Dev.curtailCaps]
@[simp] theorem Dev.curtailCaps_osc (d : Dev) (tick sub : Nat) : (d.curtailCaps tick sub).osc = d.osc := by
  simp [Dev.curtailCaps]
@[simp] theorem Dev.curtailCaps_bel (d : Dev) (tick sub : Nat) : (d.curtailCaps tick sub).bel = d.bel := by
  simp [Dev.curtailCaps]
@[simp] theorem Dev.curtailCaps_book (d : Dev) (tick sub : Nat) : (d.curtailCaps tick sub).book = d.book := by
  simp [Dev.curtailCaps]
@[simp] theorem Dev.curtailCaps_reef (d : Dev) (tick sub : Nat) : (d.curtailCaps tick sub).reef = d.reef := by
  simp [Dev.curtailCaps]
@[simp] theorem Dev.curtailCaps_thm (d : Dev) (tick sub : Nat) : (d.curtailCaps tick sub).thm = d.thm := by
  simp [Dev.curtailCaps]
@[simp] theorem Dev.curtailCaps_mem (d : Dev) (tick sub : Nat) : (d.curtailCaps tick sub).mem = d.mem := by
  simp [Dev.curtailCaps]
@[simp] theorem Dev.curtailCaps_stop (d : Dev) (tick sub : Nat) : (d.curtailCaps tick sub).stop = d.stop := by
  simp [Dev.curtailCaps]
@[simp] theorem Dev.curtailCaps_log (d : Dev) (tick sub : Nat) : (d.curtailCaps tick sub).log = d.log := by
  simp [Dev.curtailCaps]
@[simp] theorem Dev.curtailCaps_host (d : Dev) (tick sub : Nat) : (d.curtailCaps tick sub).host = d.host := by
  simp [Dev.curtailCaps]
@[simp] theorem Dev.curtailCaps_qual (d : Dev) (tick sub : Nat) : (d.curtailCaps tick sub).qual = d.qual := by
  simp [Dev.curtailCaps]
@[simp] theorem Dev.curtailCaps_boot (d : Dev) (tick sub : Nat) : (d.curtailCaps tick sub).boot = d.boot := by
  simp [Dev.curtailCaps]
@[simp] theorem Dev.curtailCaps_splice (d : Dev) (tick sub : Nat) : (d.curtailCaps tick sub).splice = d.splice := by
  simp [Dev.curtailCaps]
@[simp] theorem Dev.curtailCaps_tapes (d : Dev) (tick sub : Nat) : (d.curtailCaps tick sub).tapes = d.tapes := by
  simp [Dev.curtailCaps]
@[simp] theorem Dev.curtailCaps_hwsA (d : Dev) (tick sub : Nat) : (d.curtailCaps tick sub).hwsA = d.hwsA := by
  simp [Dev.curtailCaps]
@[simp] theorem Dev.curtailCaps_hwsB (d : Dev) (tick sub : Nat) : (d.curtailCaps tick sub).hwsB = d.hwsB := by
  simp [Dev.curtailCaps]
@[simp] theorem Dev.curtailCaps_free (d : Dev) (tick sub : Nat) : (d.curtailCaps tick sub).free = d.free := by
  simp [Dev.curtailCaps]

/-! ### stopTests -/

@[simp] theorem Dev.stopTests_use (d : Dev) : d.stopTests.use = d.use := by simp [Dev.stopTests]
@[simp] theorem Dev.stopTests_pend (d : Dev) : d.stopTests.pend = d.pend := by simp [Dev.stopTests]
@[simp] theorem Dev.stopTests_ptr (d : Dev) : d.stopTests.ptr = d.ptr := by simp [Dev.stopTests]
@[simp] theorem Dev.stopTests_lyd (d : Dev) : d.stopTests.lyd = d.lyd := by simp [Dev.stopTests]
@[simp] theorem Dev.stopTests_plan (d : Dev) : d.stopTests.plan = d.plan := by simp [Dev.stopTests]
@[simp] theorem Dev.stopTests_clk (d : Dev) : d.stopTests.clk = d.clk := by simp [Dev.stopTests]
@[simp] theorem Dev.stopTests_prt (d : Dev) : d.stopTests.prt = d.prt := by simp [Dev.stopTests]
@[simp] theorem Dev.stopTests_beams (d : Dev) : d.stopTests.beams = d.beams := by simp [Dev.stopTests]
@[simp] theorem Dev.stopTests_can (d : Dev) : d.stopTests.can = d.can := by simp [Dev.stopTests]
@[simp] theorem Dev.stopTests_osc (d : Dev) : d.stopTests.osc = d.osc := by simp [Dev.stopTests]
@[simp] theorem Dev.stopTests_bel (d : Dev) : d.stopTests.bel = d.bel := by simp [Dev.stopTests]
@[simp] theorem Dev.stopTests_book (d : Dev) : d.stopTests.book = d.book := by simp [Dev.stopTests]
@[simp] theorem Dev.stopTests_ldl (d : Dev) : d.stopTests.ldl = d.ldl := by simp [Dev.stopTests]
@[simp] theorem Dev.stopTests_reef (d : Dev) : d.stopTests.reef = d.reef := by simp [Dev.stopTests]
@[simp] theorem Dev.stopTests_thm (d : Dev) : d.stopTests.thm = d.thm := by simp [Dev.stopTests]
@[simp] theorem Dev.stopTests_mem (d : Dev) : d.stopTests.mem = d.mem := by simp [Dev.stopTests]
@[simp] theorem Dev.stopTests_stop (d : Dev) : d.stopTests.stop = d.stop := by simp [Dev.stopTests]
@[simp] theorem Dev.stopTests_log (d : Dev) : d.stopTests.log = d.log := by simp [Dev.stopTests]
@[simp] theorem Dev.stopTests_host (d : Dev) : d.stopTests.host = d.host := by simp [Dev.stopTests]
@[simp] theorem Dev.stopTests_qual (d : Dev) : d.stopTests.qual = d.qual := by simp [Dev.stopTests]
@[simp] theorem Dev.stopTests_boot (d : Dev) : d.stopTests.boot = d.boot := by simp [Dev.stopTests]
@[simp] theorem Dev.stopTests_splice (d : Dev) : d.stopTests.splice = d.splice := by simp [Dev.stopTests]
@[simp] theorem Dev.stopTests_tapes (d : Dev) : d.stopTests.tapes = d.tapes := by simp [Dev.stopTests]
@[simp] theorem Dev.stopTests_hwsA (d : Dev) : d.stopTests.hwsA = d.hwsA := by simp [Dev.stopTests]
@[simp] theorem Dev.stopTests_hwsB (d : Dev) : d.stopTests.hwsB = d.hwsB := by simp [Dev.stopTests]
@[simp] theorem Dev.stopTests_free (d : Dev) : d.stopTests.free = d.free := by simp [Dev.stopTests]

/-! ### muteRecord -/

@[simp] theorem Dev.muteRecord_use (d : Dev) (c : Ctx) (release : Bool) (trig level scope sub : Nat) (loopg : Nat) (mask : Nat) :
    (d.muteRecord c release trig level scope sub loopg mask).use = d.use := by simp [Dev.muteRecord]
@[simp] theorem Dev.muteRecord_pend (d : Dev) (c : Ctx) (release : Bool) (trig level scope sub : Nat) (loopg : Nat) (mask : Nat) :
    (d.muteRecord c release trig level scope sub loopg mask).pend = d.pend := by simp [Dev.muteRecord]
@[simp] theorem Dev.muteRecord_ptr (d : Dev) (c : Ctx) (release : Bool) (trig level scope sub : Nat) (loopg : Nat) (mask : Nat) :
    (d.muteRecord c release trig level scope sub loopg mask).ptr = d.ptr := by simp [Dev.muteRecord]
@[simp] theorem Dev.muteRecord_conv (d : Dev) (c : Ctx) (release : Bool) (trig level scope sub : Nat) (loopg : Nat) (mask : Nat) :
    (d.muteRecord c release trig level scope sub loopg mask).conv = d.conv := by simp [Dev.muteRecord]
@[simp] theorem Dev.muteRecord_lyd (d : Dev) (c : Ctx) (release : Bool) (trig level scope sub : Nat) (loopg : Nat) (mask : Nat) :
    (d.muteRecord c release trig level scope sub loopg mask).lyd = d.lyd := by simp [Dev.muteRecord]
@[simp] theorem Dev.muteRecord_plan (d : Dev) (c : Ctx) (release : Bool) (trig level scope sub : Nat) (loopg : Nat) (mask : Nat) :
    (d.muteRecord c release trig level scope sub loopg mask).plan = d.plan := by simp [Dev.muteRecord]
@[simp] theorem Dev.muteRecord_clk (d : Dev) (c : Ctx) (release : Bool) (trig level scope sub : Nat) (loopg : Nat) (mask : Nat) :
    (d.muteRecord c release trig level scope sub loopg mask).clk = d.clk := by simp [Dev.muteRecord]
@[simp] theorem Dev.muteRecord_prt (d : Dev) (c : Ctx) (release : Bool) (trig level scope sub : Nat) (loopg : Nat) (mask : Nat) :
    (d.muteRecord c release trig level scope sub loopg mask).prt = d.prt := by simp [Dev.muteRecord]
@[simp] theorem Dev.muteRecord_beams (d : Dev) (c : Ctx) (release : Bool) (trig level scope sub : Nat) (loopg : Nat) (mask : Nat) :
    (d.muteRecord c release trig level scope sub loopg mask).beams = d.beams := by simp [Dev.muteRecord]
@[simp] theorem Dev.muteRecord_can (d : Dev) (c : Ctx) (release : Bool) (trig level scope sub : Nat) (loopg : Nat) (mask : Nat) :
    (d.muteRecord c release trig level scope sub loopg mask).can = d.can := by simp [Dev.muteRecord]
@[simp] theorem Dev.muteRecord_osc (d : Dev) (c : Ctx) (release : Bool) (trig level scope sub : Nat) (loopg : Nat) (mask : Nat) :
    (d.muteRecord c release trig level scope sub loopg mask).osc = d.osc := by simp [Dev.muteRecord]
@[simp] theorem Dev.muteRecord_bel (d : Dev) (c : Ctx) (release : Bool) (trig level scope sub : Nat) (loopg : Nat) (mask : Nat) :
    (d.muteRecord c release trig level scope sub loopg mask).bel = d.bel := by simp [Dev.muteRecord]
@[simp] theorem Dev.muteRecord_book (d : Dev) (c : Ctx) (release : Bool) (trig level scope sub : Nat) (loopg : Nat) (mask : Nat) :
    (d.muteRecord c release trig level scope sub loopg mask).book = d.book := by simp [Dev.muteRecord]
@[simp] theorem Dev.muteRecord_ldl (d : Dev) (c : Ctx) (release : Bool) (trig level scope sub : Nat) (loopg : Nat) (mask : Nat) :
    (d.muteRecord c release trig level scope sub loopg mask).ldl = d.ldl := by simp [Dev.muteRecord]
@[simp] theorem Dev.muteRecord_reef (d : Dev) (c : Ctx) (release : Bool) (trig level scope sub : Nat) (loopg : Nat) (mask : Nat) :
    (d.muteRecord c release trig level scope sub loopg mask).reef = d.reef := by simp [Dev.muteRecord]
@[simp] theorem Dev.muteRecord_thm (d : Dev) (c : Ctx) (release : Bool) (trig level scope sub : Nat) (loopg : Nat) (mask : Nat) :
    (d.muteRecord c release trig level scope sub loopg mask).thm = d.thm := by simp [Dev.muteRecord]
@[simp] theorem Dev.muteRecord_mem (d : Dev) (c : Ctx) (release : Bool) (trig level scope sub : Nat) (loopg : Nat) (mask : Nat) :
    (d.muteRecord c release trig level scope sub loopg mask).mem = d.mem := by simp [Dev.muteRecord]
@[simp] theorem Dev.muteRecord_stop (d : Dev) (c : Ctx) (release : Bool) (trig level scope sub : Nat) (loopg : Nat) (mask : Nat) :
    (d.muteRecord c release trig level scope sub loopg mask).stop = d.stop := by simp [Dev.muteRecord]
@[simp] theorem Dev.muteRecord_qual (d : Dev) (c : Ctx) (release : Bool) (trig level scope sub : Nat) (loopg : Nat) (mask : Nat) :
    (d.muteRecord c release trig level scope sub loopg mask).qual = d.qual := by simp [Dev.muteRecord]
@[simp] theorem Dev.muteRecord_boot (d : Dev) (c : Ctx) (release : Bool) (trig level scope sub : Nat) (loopg : Nat) (mask : Nat) :
    (d.muteRecord c release trig level scope sub loopg mask).boot = d.boot := by simp [Dev.muteRecord]
@[simp] theorem Dev.muteRecord_splice (d : Dev) (c : Ctx) (release : Bool) (trig level scope sub : Nat) (loopg : Nat) (mask : Nat) :
    (d.muteRecord c release trig level scope sub loopg mask).splice = d.splice := by simp [Dev.muteRecord]
@[simp] theorem Dev.muteRecord_tapes (d : Dev) (c : Ctx) (release : Bool) (trig level scope sub : Nat) (loopg : Nat) (mask : Nat) :
    (d.muteRecord c release trig level scope sub loopg mask).tapes = d.tapes := by simp [Dev.muteRecord]
@[simp] theorem Dev.muteRecord_hwsA (d : Dev) (c : Ctx) (release : Bool) (trig level scope sub : Nat) (loopg : Nat) (mask : Nat) :
    (d.muteRecord c release trig level scope sub loopg mask).hwsA = d.hwsA := by simp [Dev.muteRecord]
@[simp] theorem Dev.muteRecord_hwsB (d : Dev) (c : Ctx) (release : Bool) (trig level scope sub : Nat) (loopg : Nat) (mask : Nat) :
    (d.muteRecord c release trig level scope sub loopg mask).hwsB = d.hwsB := by simp [Dev.muteRecord]
@[simp] theorem Dev.muteRecord_free (d : Dev) (c : Ctx) (release : Bool) (trig level scope sub : Nat) (loopg : Nat) (mask : Nat) :
    (d.muteRecord c release trig level scope sub loopg mask).free = d.free := by simp [Dev.muteRecord]

/-! ### restartYarns -/

@[simp] theorem Dev.restartYarns_use (d : Dev) (sel : Nat → Bool) : (d.restartYarns sel).use = d.use := by
  simp [Dev.restartYarns]
@[simp] theorem Dev.restartYarns_pend (d : Dev) (sel : Nat → Bool) : (d.restartYarns sel).pend = d.pend := by
  simp [Dev.restartYarns]
@[simp] theorem Dev.restartYarns_ptr (d : Dev) (sel : Nat → Bool) : (d.restartYarns sel).ptr = d.ptr := by
  simp [Dev.restartYarns]
@[simp] theorem Dev.restartYarns_conv (d : Dev) (sel : Nat → Bool) : (d.restartYarns sel).conv = d.conv := by
  simp [Dev.restartYarns]
@[simp] theorem Dev.restartYarns_lyd (d : Dev) (sel : Nat → Bool) : (d.restartYarns sel).lyd = d.lyd := by
  simp [Dev.restartYarns]
@[simp] theorem Dev.restartYarns_plan (d : Dev) (sel : Nat → Bool) : (d.restartYarns sel).plan = d.plan := by
  simp [Dev.restartYarns]
@[simp] theorem Dev.restartYarns_clk (d : Dev) (sel : Nat → Bool) : (d.restartYarns sel).clk = d.clk := by
  simp [Dev.restartYarns]
@[simp] theorem Dev.restartYarns_prt (d : Dev) (sel : Nat → Bool) : (d.restartYarns sel).prt = d.prt := by
  simp [Dev.restartYarns]
@[simp] theorem Dev.restartYarns_beams (d : Dev) (sel : Nat → Bool) : (d.restartYarns sel).beams = d.beams := by
  simp [Dev.restartYarns]
@[simp] theorem Dev.restartYarns_can (d : Dev) (sel : Nat → Bool) : (d.restartYarns sel).can = d.can := by
  simp [Dev.restartYarns]
@[simp] theorem Dev.restartYarns_osc (d : Dev) (sel : Nat → Bool) : (d.restartYarns sel).osc = d.osc := by
  simp [Dev.restartYarns]
@[simp] theorem Dev.restartYarns_book (d : Dev) (sel : Nat → Bool) : (d.restartYarns sel).book = d.book := by
  simp [Dev.restartYarns]
@[simp] theorem Dev.restartYarns_ldl (d : Dev) (sel : Nat → Bool) : (d.restartYarns sel).ldl = d.ldl := by
  simp [Dev.restartYarns]
@[simp] theorem Dev.restartYarns_reef (d : Dev) (sel : Nat → Bool) : (d.restartYarns sel).reef = d.reef := by
  simp [Dev.restartYarns]
@[simp] theorem Dev.restartYarns_thm (d : Dev) (sel : Nat → Bool) : (d.restartYarns sel).thm = d.thm := by
  simp [Dev.restartYarns]
@[simp] theorem Dev.restartYarns_mem (d : Dev) (sel : Nat → Bool) : (d.restartYarns sel).mem = d.mem := by
  simp [Dev.restartYarns]
@[simp] theorem Dev.restartYarns_stop (d : Dev) (sel : Nat → Bool) : (d.restartYarns sel).stop = d.stop := by
  simp [Dev.restartYarns]
@[simp] theorem Dev.restartYarns_log (d : Dev) (sel : Nat → Bool) : (d.restartYarns sel).log = d.log := by
  simp [Dev.restartYarns]
@[simp] theorem Dev.restartYarns_host (d : Dev) (sel : Nat → Bool) : (d.restartYarns sel).host = d.host := by
  simp [Dev.restartYarns]
@[simp] theorem Dev.restartYarns_qual (d : Dev) (sel : Nat → Bool) : (d.restartYarns sel).qual = d.qual := by
  simp [Dev.restartYarns]
@[simp] theorem Dev.restartYarns_boot (d : Dev) (sel : Nat → Bool) : (d.restartYarns sel).boot = d.boot := by
  simp [Dev.restartYarns]
@[simp] theorem Dev.restartYarns_splice (d : Dev) (sel : Nat → Bool) : (d.restartYarns sel).splice = d.splice := by
  simp [Dev.restartYarns]
@[simp] theorem Dev.restartYarns_tapes (d : Dev) (sel : Nat → Bool) : (d.restartYarns sel).tapes = d.tapes := by
  simp [Dev.restartYarns]
@[simp] theorem Dev.restartYarns_hwsA (d : Dev) (sel : Nat → Bool) : (d.restartYarns sel).hwsA = d.hwsA := by
  simp [Dev.restartYarns]
@[simp] theorem Dev.restartYarns_hwsB (d : Dev) (sel : Nat → Bool) : (d.restartYarns sel).hwsB = d.hwsB := by
  simp [Dev.restartYarns]
@[simp] theorem Dev.restartYarns_free (d : Dev) (sel : Nat → Bool) : (d.restartYarns sel).free = d.free := by
  simp [Dev.restartYarns]

/-! ### releaseMute -/

@[simp] theorem Dev.releaseMute_use (d : Dev) (c : Ctx) (m : Mute) : (d.releaseMute c m).use = d.use := by
  simp [Dev.releaseMute]
@[simp] theorem Dev.releaseMute_pend (d : Dev) (c : Ctx) (m : Mute) : (d.releaseMute c m).pend = d.pend := by
  simp [Dev.releaseMute]
@[simp] theorem Dev.releaseMute_ptr (d : Dev) (c : Ctx) (m : Mute) : (d.releaseMute c m).ptr = d.ptr := by
  simp [Dev.releaseMute]
@[simp] theorem Dev.releaseMute_conv (d : Dev) (c : Ctx) (m : Mute) : (d.releaseMute c m).conv = d.conv := by
  simp [Dev.releaseMute]
@[simp] theorem Dev.releaseMute_lyd (d : Dev) (c : Ctx) (m : Mute) : (d.releaseMute c m).lyd = d.lyd := by
  simp [Dev.releaseMute]
@[simp] theorem Dev.releaseMute_plan (d : Dev) (c : Ctx) (m : Mute) : (d.releaseMute c m).plan = d.plan := by
  simp [Dev.releaseMute]
@[simp] theorem Dev.releaseMute_clk (d : Dev) (c : Ctx) (m : Mute) : (d.releaseMute c m).clk = d.clk := by
  simp [Dev.releaseMute]
@[simp] theorem Dev.releaseMute_beams (d : Dev) (c : Ctx) (m : Mute) : (d.releaseMute c m).beams = d.beams := by
  simp [Dev.releaseMute]
@[simp] theorem Dev.releaseMute_can (d : Dev) (c : Ctx) (m : Mute) : (d.releaseMute c m).can = d.can := by
  simp [Dev.releaseMute]
@[simp] theorem Dev.releaseMute_osc (d : Dev) (c : Ctx) (m : Mute) : (d.releaseMute c m).osc = d.osc := by
  simp [Dev.releaseMute]
@[simp] theorem Dev.releaseMute_bel (d : Dev) (c : Ctx) (m : Mute) : (d.releaseMute c m).bel = d.bel := by
  simp [Dev.releaseMute]
@[simp] theorem Dev.releaseMute_book (d : Dev) (c : Ctx) (m : Mute) : (d.releaseMute c m).book = d.book := by
  simp [Dev.releaseMute]
@[simp] theorem Dev.releaseMute_ldl (d : Dev) (c : Ctx) (m : Mute) : (d.releaseMute c m).ldl = d.ldl := by
  simp [Dev.releaseMute]
@[simp] theorem Dev.releaseMute_reef (d : Dev) (c : Ctx) (m : Mute) : (d.releaseMute c m).reef = d.reef := by
  simp [Dev.releaseMute]
@[simp] theorem Dev.releaseMute_thm (d : Dev) (c : Ctx) (m : Mute) : (d.releaseMute c m).thm = d.thm := by
  simp [Dev.releaseMute]
@[simp] theorem Dev.releaseMute_mem (d : Dev) (c : Ctx) (m : Mute) : (d.releaseMute c m).mem = d.mem := by
  simp [Dev.releaseMute]
@[simp] theorem Dev.releaseMute_stop (d : Dev) (c : Ctx) (m : Mute) : (d.releaseMute c m).stop = d.stop := by
  simp [Dev.releaseMute]
@[simp] theorem Dev.releaseMute_qual (d : Dev) (c : Ctx) (m : Mute) : (d.releaseMute c m).qual = d.qual := by
  simp [Dev.releaseMute]
@[simp] theorem Dev.releaseMute_boot (d : Dev) (c : Ctx) (m : Mute) : (d.releaseMute c m).boot = d.boot := by
  simp [Dev.releaseMute]
@[simp] theorem Dev.releaseMute_splice (d : Dev) (c : Ctx) (m : Mute) : (d.releaseMute c m).splice = d.splice := by
  simp [Dev.releaseMute]
@[simp] theorem Dev.releaseMute_tapes (d : Dev) (c : Ctx) (m : Mute) : (d.releaseMute c m).tapes = d.tapes := by
  simp [Dev.releaseMute]
@[simp] theorem Dev.releaseMute_hwsA (d : Dev) (c : Ctx) (m : Mute) : (d.releaseMute c m).hwsA = d.hwsA := by
  simp [Dev.releaseMute]
@[simp] theorem Dev.releaseMute_hwsB (d : Dev) (c : Ctx) (m : Mute) : (d.releaseMute c m).hwsB = d.hwsB := by
  simp [Dev.releaseMute]
@[simp] theorem Dev.releaseMute_free (d : Dev) (c : Ctx) (m : Mute) : (d.releaseMute c m).free = d.free := by
  simp [Dev.releaseMute]

/-! ### endYarnsBy -/

@[simp] theorem Dev.endYarnsBy_use (d : Dev) (sel : MYarn → Bool) : (d.endYarnsBy sel).use = d.use := by
  simp [Dev.endYarnsBy]
@[simp] theorem Dev.endYarnsBy_pend (d : Dev) (sel : MYarn → Bool) : (d.endYarnsBy sel).pend = d.pend := by
  simp [Dev.endYarnsBy]
@[simp] theorem Dev.endYarnsBy_ptr (d : Dev) (sel : MYarn → Bool) : (d.endYarnsBy sel).ptr = d.ptr := by
  simp [Dev.endYarnsBy]
@[simp] theorem Dev.endYarnsBy_conv (d : Dev) (sel : MYarn → Bool) : (d.endYarnsBy sel).conv = d.conv := by
  simp [Dev.endYarnsBy]
@[simp] theorem Dev.endYarnsBy_lyd (d : Dev) (sel : MYarn → Bool) : (d.endYarnsBy sel).lyd = d.lyd := by
  simp [Dev.endYarnsBy]
@[simp] theorem Dev.endYarnsBy_plan (d : Dev) (sel : MYarn → Bool) : (d.endYarnsBy sel).plan = d.plan := by
  simp [Dev.endYarnsBy]
@[simp] theorem Dev.endYarnsBy_clk (d : Dev) (sel : MYarn → Bool) : (d.endYarnsBy sel).clk = d.clk := by
  simp [Dev.endYarnsBy]
@[simp] theorem Dev.endYarnsBy_prt (d : Dev) (sel : MYarn → Bool) : (d.endYarnsBy sel).prt = d.prt := by
  simp [Dev.endYarnsBy]
@[simp] theorem Dev.endYarnsBy_beams (d : Dev) (sel : MYarn → Bool) : (d.endYarnsBy sel).beams = d.beams := by
  simp [Dev.endYarnsBy]
@[simp] theorem Dev.endYarnsBy_can (d : Dev) (sel : MYarn → Bool) : (d.endYarnsBy sel).can = d.can := by
  simp [Dev.endYarnsBy]
@[simp] theorem Dev.endYarnsBy_osc (d : Dev) (sel : MYarn → Bool) : (d.endYarnsBy sel).osc = d.osc := by
  simp [Dev.endYarnsBy]
@[simp] theorem Dev.endYarnsBy_bel (d : Dev) (sel : MYarn → Bool) : (d.endYarnsBy sel).bel = d.bel := by
  simp [Dev.endYarnsBy]
@[simp] theorem Dev.endYarnsBy_book (d : Dev) (sel : MYarn → Bool) : (d.endYarnsBy sel).book = d.book := by
  simp [Dev.endYarnsBy]
@[simp] theorem Dev.endYarnsBy_reef (d : Dev) (sel : MYarn → Bool) : (d.endYarnsBy sel).reef = d.reef := by
  simp [Dev.endYarnsBy]
@[simp] theorem Dev.endYarnsBy_thm (d : Dev) (sel : MYarn → Bool) : (d.endYarnsBy sel).thm = d.thm := by
  simp [Dev.endYarnsBy]
@[simp] theorem Dev.endYarnsBy_mem (d : Dev) (sel : MYarn → Bool) : (d.endYarnsBy sel).mem = d.mem := by
  simp [Dev.endYarnsBy]
@[simp] theorem Dev.endYarnsBy_stop (d : Dev) (sel : MYarn → Bool) : (d.endYarnsBy sel).stop = d.stop := by
  simp [Dev.endYarnsBy]
@[simp] theorem Dev.endYarnsBy_log (d : Dev) (sel : MYarn → Bool) : (d.endYarnsBy sel).log = d.log := by
  simp [Dev.endYarnsBy]
@[simp] theorem Dev.endYarnsBy_host (d : Dev) (sel : MYarn → Bool) : (d.endYarnsBy sel).host = d.host := by
  simp [Dev.endYarnsBy]
@[simp] theorem Dev.endYarnsBy_qual (d : Dev) (sel : MYarn → Bool) : (d.endYarnsBy sel).qual = d.qual := by
  simp [Dev.endYarnsBy]
@[simp] theorem Dev.endYarnsBy_boot (d : Dev) (sel : MYarn → Bool) : (d.endYarnsBy sel).boot = d.boot := by
  simp [Dev.endYarnsBy]
@[simp] theorem Dev.endYarnsBy_splice (d : Dev) (sel : MYarn → Bool) : (d.endYarnsBy sel).splice = d.splice := by
  simp [Dev.endYarnsBy]
@[simp] theorem Dev.endYarnsBy_tapes (d : Dev) (sel : MYarn → Bool) : (d.endYarnsBy sel).tapes = d.tapes := by
  simp [Dev.endYarnsBy]
@[simp] theorem Dev.endYarnsBy_hwsA (d : Dev) (sel : MYarn → Bool) : (d.endYarnsBy sel).hwsA = d.hwsA := by
  simp [Dev.endYarnsBy]
@[simp] theorem Dev.endYarnsBy_hwsB (d : Dev) (sel : MYarn → Bool) : (d.endYarnsBy sel).hwsB = d.hwsB := by
  simp [Dev.endYarnsBy]
@[simp] theorem Dev.endYarnsBy_free (d : Dev) (sel : MYarn → Bool) : (d.endYarnsBy sel).free = d.free := by
  simp [Dev.endYarnsBy]

/-! ### freeYarns -/

@[simp] theorem Dev.freeYarns_use (d : Dev) (owner tag : Nat) : (d.freeYarns owner tag).use = d.use := by
  simp [Dev.freeYarns]
@[simp] theorem Dev.freeYarns_pend (d : Dev) (owner tag : Nat) : (d.freeYarns owner tag).pend = d.pend := by
  simp [Dev.freeYarns]
@[simp] theorem Dev.freeYarns_ptr (d : Dev) (owner tag : Nat) : (d.freeYarns owner tag).ptr = d.ptr := by
  simp [Dev.freeYarns]
@[simp] theorem Dev.freeYarns_conv (d : Dev) (owner tag : Nat) : (d.freeYarns owner tag).conv = d.conv := by
  simp [Dev.freeYarns]
@[simp] theorem Dev.freeYarns_lyd (d : Dev) (owner tag : Nat) : (d.freeYarns owner tag).lyd = d.lyd := by
  simp [Dev.freeYarns]
@[simp] theorem Dev.freeYarns_plan (d : Dev) (owner tag : Nat) : (d.freeYarns owner tag).plan = d.plan := by
  simp [Dev.freeYarns]
@[simp] theorem Dev.freeYarns_clk (d : Dev) (owner tag : Nat) : (d.freeYarns owner tag).clk = d.clk := by
  simp [Dev.freeYarns]
@[simp] theorem Dev.freeYarns_prt (d : Dev) (owner tag : Nat) : (d.freeYarns owner tag).prt = d.prt := by
  simp [Dev.freeYarns]
@[simp] theorem Dev.freeYarns_beams (d : Dev) (owner tag : Nat) : (d.freeYarns owner tag).beams = d.beams := by
  simp [Dev.freeYarns]
@[simp] theorem Dev.freeYarns_can (d : Dev) (owner tag : Nat) : (d.freeYarns owner tag).can = d.can := by
  simp [Dev.freeYarns]
@[simp] theorem Dev.freeYarns_osc (d : Dev) (owner tag : Nat) : (d.freeYarns owner tag).osc = d.osc := by
  simp [Dev.freeYarns]
@[simp] theorem Dev.freeYarns_bel (d : Dev) (owner tag : Nat) : (d.freeYarns owner tag).bel = d.bel := by
  simp [Dev.freeYarns]
@[simp] theorem Dev.freeYarns_book (d : Dev) (owner tag : Nat) : (d.freeYarns owner tag).book = d.book := by
  simp [Dev.freeYarns]
@[simp] theorem Dev.freeYarns_reef (d : Dev) (owner tag : Nat) : (d.freeYarns owner tag).reef = d.reef := by
  simp [Dev.freeYarns]
@[simp] theorem Dev.freeYarns_thm (d : Dev) (owner tag : Nat) : (d.freeYarns owner tag).thm = d.thm := by
  simp [Dev.freeYarns]
@[simp] theorem Dev.freeYarns_mem (d : Dev) (owner tag : Nat) : (d.freeYarns owner tag).mem = d.mem := by
  simp [Dev.freeYarns]
@[simp] theorem Dev.freeYarns_stop (d : Dev) (owner tag : Nat) : (d.freeYarns owner tag).stop = d.stop := by
  simp [Dev.freeYarns]
@[simp] theorem Dev.freeYarns_log (d : Dev) (owner tag : Nat) : (d.freeYarns owner tag).log = d.log := by
  simp [Dev.freeYarns]
@[simp] theorem Dev.freeYarns_host (d : Dev) (owner tag : Nat) : (d.freeYarns owner tag).host = d.host := by
  simp [Dev.freeYarns]
@[simp] theorem Dev.freeYarns_qual (d : Dev) (owner tag : Nat) : (d.freeYarns owner tag).qual = d.qual := by
  simp [Dev.freeYarns]
@[simp] theorem Dev.freeYarns_boot (d : Dev) (owner tag : Nat) : (d.freeYarns owner tag).boot = d.boot := by
  simp [Dev.freeYarns]
@[simp] theorem Dev.freeYarns_splice (d : Dev) (owner tag : Nat) : (d.freeYarns owner tag).splice = d.splice := by
  simp [Dev.freeYarns]
@[simp] theorem Dev.freeYarns_tapes (d : Dev) (owner tag : Nat) : (d.freeYarns owner tag).tapes = d.tapes := by
  simp [Dev.freeYarns]
@[simp] theorem Dev.freeYarns_hwsA (d : Dev) (owner tag : Nat) : (d.freeYarns owner tag).hwsA = d.hwsA := by
  simp [Dev.freeYarns]
@[simp] theorem Dev.freeYarns_hwsB (d : Dev) (owner tag : Nat) : (d.freeYarns owner tag).hwsB = d.hwsB := by
  simp [Dev.freeYarns]
@[simp] theorem Dev.freeYarns_free (d : Dev) (owner tag : Nat) : (d.freeYarns owner tag).free = d.free := by
  simp [Dev.freeYarns]

/-! ### releaseSlot -/

@[simp] theorem Dev.releaseSlot_use (d : Dev) (c : Ctx) (s : Slot) : (d.releaseSlot c s).use = d.use := by
  unfold Dev.releaseSlot; (try dsimp only); (repeat' split) <;> simp
@[simp] theorem Dev.releaseSlot_pend (d : Dev) (c : Ctx) (s : Slot) : (d.releaseSlot c s).pend = d.pend := by
  unfold Dev.releaseSlot; (try dsimp only); (repeat' split) <;> simp
@[simp] theorem Dev.releaseSlot_ptr (d : Dev) (c : Ctx) (s : Slot) : (d.releaseSlot c s).ptr = d.ptr := by
  unfold Dev.releaseSlot; (try dsimp only); (repeat' split) <;> simp
@[simp] theorem Dev.releaseSlot_conv (d : Dev) (c : Ctx) (s : Slot) : (d.releaseSlot c s).conv = d.conv := by
  unfold Dev.releaseSlot; (try dsimp only); (repeat' split) <;> simp
@[simp] theorem Dev.releaseSlot_lyd (d : Dev) (c : Ctx) (s : Slot) : (d.releaseSlot c s).lyd = d.lyd := by
  unfold Dev.releaseSlot; (try dsimp only); (repeat' split) <;> simp
@[simp] theorem Dev.releaseSlot_plan (d : Dev) (c : Ctx) (s : Slot) : (d.releaseSlot c s).plan = d.plan := by
  unfold Dev.releaseSlot; (try dsimp only); (repeat' split) <;> simp
@[simp] theorem Dev.releaseSlot_clk (d : Dev) (c : Ctx) (s : Slot) : (d.releaseSlot c s).clk = d.clk := by
  unfold Dev.releaseSlot; (try dsimp only); (repeat' split) <;> simp
@[simp] theorem Dev.releaseSlot_prt (d : Dev) (c : Ctx) (s : Slot) : (d.releaseSlot c s).prt = d.prt := by
  unfold Dev.releaseSlot; (try dsimp only); (repeat' split) <;> simp
@[simp] theorem Dev.releaseSlot_osc (d : Dev) (c : Ctx) (s : Slot) : (d.releaseSlot c s).osc = d.osc := by
  unfold Dev.releaseSlot; (try dsimp only); (repeat' split) <;> simp
@[simp] theorem Dev.releaseSlot_bel (d : Dev) (c : Ctx) (s : Slot) : (d.releaseSlot c s).bel = d.bel := by
  unfold Dev.releaseSlot; (try dsimp only); (repeat' split) <;> simp
@[simp] theorem Dev.releaseSlot_book (d : Dev) (c : Ctx) (s : Slot) : (d.releaseSlot c s).book = d.book := by
  unfold Dev.releaseSlot; (try dsimp only); (repeat' split) <;> simp
@[simp] theorem Dev.releaseSlot_ldl (d : Dev) (c : Ctx) (s : Slot) : (d.releaseSlot c s).ldl = d.ldl := by
  unfold Dev.releaseSlot; (try dsimp only); (repeat' split) <;> simp
@[simp] theorem Dev.releaseSlot_reef (d : Dev) (c : Ctx) (s : Slot) : (d.releaseSlot c s).reef = d.reef := by
  unfold Dev.releaseSlot; (try dsimp only); (repeat' split) <;> simp
@[simp] theorem Dev.releaseSlot_thm (d : Dev) (c : Ctx) (s : Slot) : (d.releaseSlot c s).thm = d.thm := by
  unfold Dev.releaseSlot; (try dsimp only); (repeat' split) <;> simp
@[simp] theorem Dev.releaseSlot_mem (d : Dev) (c : Ctx) (s : Slot) : (d.releaseSlot c s).mem = d.mem := by
  unfold Dev.releaseSlot; (try dsimp only); (repeat' split) <;> simp
@[simp] theorem Dev.releaseSlot_stop (d : Dev) (c : Ctx) (s : Slot) : (d.releaseSlot c s).stop = d.stop := by
  unfold Dev.releaseSlot; (try dsimp only); (repeat' split) <;> simp
@[simp] theorem Dev.releaseSlot_log (d : Dev) (c : Ctx) (s : Slot) : (d.releaseSlot c s).log = d.log := by
  unfold Dev.releaseSlot; (try dsimp only); (repeat' split) <;> simp
@[simp] theorem Dev.releaseSlot_host (d : Dev) (c : Ctx) (s : Slot) : (d.releaseSlot c s).host = d.host := by
  unfold Dev.releaseSlot; (try dsimp only); (repeat' split) <;> simp
@[simp] theorem Dev.releaseSlot_qual (d : Dev) (c : Ctx) (s : Slot) : (d.releaseSlot c s).qual = d.qual := by
  unfold Dev.releaseSlot; (try dsimp only); (repeat' split) <;> simp
@[simp] theorem Dev.releaseSlot_boot (d : Dev) (c : Ctx) (s : Slot) : (d.releaseSlot c s).boot = d.boot := by
  unfold Dev.releaseSlot; (try dsimp only); (repeat' split) <;> simp
@[simp] theorem Dev.releaseSlot_splice (d : Dev) (c : Ctx) (s : Slot) : (d.releaseSlot c s).splice = d.splice := by
  unfold Dev.releaseSlot; (try dsimp only); (repeat' split) <;> simp
@[simp] theorem Dev.releaseSlot_tapes (d : Dev) (c : Ctx) (s : Slot) : (d.releaseSlot c s).tapes = d.tapes := by
  unfold Dev.releaseSlot; (try dsimp only); (repeat' split) <;> simp
@[simp] theorem Dev.releaseSlot_hwsB (d : Dev) (c : Ctx) (s : Slot) : (d.releaseSlot c s).hwsB = d.hwsB := by
  unfold Dev.releaseSlot; (try dsimp only); (repeat' split) <;> simp
@[simp] theorem Dev.releaseSlot_free (d : Dev) (c : Ctx) (s : Slot) : (d.releaseSlot c s).free = d.free := by
  unfold Dev.releaseSlot; (try dsimp only); (repeat' split) <;> simp

/-! ### putRec -/

@[simp] theorem Dev.putRec_use (d : Dev) (r : Rec) : (d.putRec r).use = d.use := by simp [Dev.putRec]
@[simp] theorem Dev.putRec_pend (d : Dev) (r : Rec) : (d.putRec r).pend = d.pend := by simp [Dev.putRec]
@[simp] theorem Dev.putRec_ptr (d : Dev) (r : Rec) : (d.putRec r).ptr = d.ptr := by simp [Dev.putRec]
@[simp] theorem Dev.putRec_conv (d : Dev) (r : Rec) : (d.putRec r).conv = d.conv := by simp [Dev.putRec]
@[simp] theorem Dev.putRec_lyd (d : Dev) (r : Rec) : (d.putRec r).lyd = d.lyd := by simp [Dev.putRec]
@[simp] theorem Dev.putRec_plan (d : Dev) (r : Rec) : (d.putRec r).plan = d.plan := by simp [Dev.putRec]
@[simp] theorem Dev.putRec_clk (d : Dev) (r : Rec) : (d.putRec r).clk = d.clk := by simp [Dev.putRec]
@[simp] theorem Dev.putRec_prt (d : Dev) (r : Rec) : (d.putRec r).prt = d.prt := by simp [Dev.putRec]
@[simp] theorem Dev.putRec_beams (d : Dev) (r : Rec) : (d.putRec r).beams = d.beams := by simp [Dev.putRec]
@[simp] theorem Dev.putRec_can (d : Dev) (r : Rec) : (d.putRec r).can = d.can := by simp [Dev.putRec]
@[simp] theorem Dev.putRec_osc (d : Dev) (r : Rec) : (d.putRec r).osc = d.osc := by simp [Dev.putRec]
@[simp] theorem Dev.putRec_bel (d : Dev) (r : Rec) : (d.putRec r).bel = d.bel := by simp [Dev.putRec]
@[simp] theorem Dev.putRec_ldl (d : Dev) (r : Rec) : (d.putRec r).ldl = d.ldl := by simp [Dev.putRec]
@[simp] theorem Dev.putRec_reef (d : Dev) (r : Rec) : (d.putRec r).reef = d.reef := by simp [Dev.putRec]
@[simp] theorem Dev.putRec_thm (d : Dev) (r : Rec) : (d.putRec r).thm = d.thm := by simp [Dev.putRec]
@[simp] theorem Dev.putRec_mem (d : Dev) (r : Rec) : (d.putRec r).mem = d.mem := by simp [Dev.putRec]
@[simp] theorem Dev.putRec_stop (d : Dev) (r : Rec) : (d.putRec r).stop = d.stop := by simp [Dev.putRec]
@[simp] theorem Dev.putRec_log (d : Dev) (r : Rec) : (d.putRec r).log = d.log := by simp [Dev.putRec]
@[simp] theorem Dev.putRec_host (d : Dev) (r : Rec) : (d.putRec r).host = d.host := by simp [Dev.putRec]
@[simp] theorem Dev.putRec_qual (d : Dev) (r : Rec) : (d.putRec r).qual = d.qual := by simp [Dev.putRec]
@[simp] theorem Dev.putRec_boot (d : Dev) (r : Rec) : (d.putRec r).boot = d.boot := by simp [Dev.putRec]
@[simp] theorem Dev.putRec_splice (d : Dev) (r : Rec) : (d.putRec r).splice = d.splice := by simp [Dev.putRec]
@[simp] theorem Dev.putRec_tapes (d : Dev) (r : Rec) : (d.putRec r).tapes = d.tapes := by simp [Dev.putRec]
@[simp] theorem Dev.putRec_hwsA (d : Dev) (r : Rec) : (d.putRec r).hwsA = d.hwsA := by simp [Dev.putRec]
@[simp] theorem Dev.putRec_hwsB (d : Dev) (r : Rec) : (d.putRec r).hwsB = d.hwsB := by simp [Dev.putRec]
@[simp] theorem Dev.putRec_free (d : Dev) (r : Rec) : (d.putRec r).free = d.free := by simp [Dev.putRec]

/-! ### freeRecs -/

@[simp] theorem Dev.freeRecs_use (d : Dev) (sel : Rec → Bool) : (d.freeRecs sel).use = d.use := by simp [Dev.freeRecs]
@[simp] theorem Dev.freeRecs_pend (d : Dev) (sel : Rec → Bool) : (d.freeRecs sel).pend = d.pend := by
  simp [Dev.freeRecs]
@[simp] theorem Dev.freeRecs_ptr (d : Dev) (sel : Rec → Bool) : (d.freeRecs sel).ptr = d.ptr := by simp [Dev.freeRecs]
@[simp] theorem Dev.freeRecs_conv (d : Dev) (sel : Rec → Bool) : (d.freeRecs sel).conv = d.conv := by
  simp [Dev.freeRecs]
@[simp] theorem Dev.freeRecs_lyd (d : Dev) (sel : Rec → Bool) : (d.freeRecs sel).lyd = d.lyd := by simp [Dev.freeRecs]
@[simp] theorem Dev.freeRecs_plan (d : Dev) (sel : Rec → Bool) : (d.freeRecs sel).plan = d.plan := by
  simp [Dev.freeRecs]
@[simp] theorem Dev.freeRecs_clk (d : Dev) (sel : Rec → Bool) : (d.freeRecs sel).clk = d.clk := by simp [Dev.freeRecs]
@[simp] theorem Dev.freeRecs_prt (d : Dev) (sel : Rec → Bool) : (d.freeRecs sel).prt = d.prt := by simp [Dev.freeRecs]
@[simp] theorem Dev.freeRecs_beams (d : Dev) (sel : Rec → Bool) : (d.freeRecs sel).beams = d.beams := by
  simp [Dev.freeRecs]
@[simp] theorem Dev.freeRecs_can (d : Dev) (sel : Rec → Bool) : (d.freeRecs sel).can = d.can := by simp [Dev.freeRecs]
@[simp] theorem Dev.freeRecs_osc (d : Dev) (sel : Rec → Bool) : (d.freeRecs sel).osc = d.osc := by simp [Dev.freeRecs]
@[simp] theorem Dev.freeRecs_bel (d : Dev) (sel : Rec → Bool) : (d.freeRecs sel).bel = d.bel := by simp [Dev.freeRecs]
@[simp] theorem Dev.freeRecs_ldl (d : Dev) (sel : Rec → Bool) : (d.freeRecs sel).ldl = d.ldl := by simp [Dev.freeRecs]
@[simp] theorem Dev.freeRecs_reef (d : Dev) (sel : Rec → Bool) : (d.freeRecs sel).reef = d.reef := by
  simp [Dev.freeRecs]
@[simp] theorem Dev.freeRecs_thm (d : Dev) (sel : Rec → Bool) : (d.freeRecs sel).thm = d.thm := by simp [Dev.freeRecs]
@[simp] theorem Dev.freeRecs_mem (d : Dev) (sel : Rec → Bool) : (d.freeRecs sel).mem = d.mem := by simp [Dev.freeRecs]
@[simp] theorem Dev.freeRecs_stop (d : Dev) (sel : Rec → Bool) : (d.freeRecs sel).stop = d.stop := by
  simp [Dev.freeRecs]
@[simp] theorem Dev.freeRecs_log (d : Dev) (sel : Rec → Bool) : (d.freeRecs sel).log = d.log := by simp [Dev.freeRecs]
@[simp] theorem Dev.freeRecs_host (d : Dev) (sel : Rec → Bool) : (d.freeRecs sel).host = d.host := by
  simp [Dev.freeRecs]
@[simp] theorem Dev.freeRecs_qual (d : Dev) (sel : Rec → Bool) : (d.freeRecs sel).qual = d.qual := by
  simp [Dev.freeRecs]
@[simp] theorem Dev.freeRecs_boot (d : Dev) (sel : Rec → Bool) : (d.freeRecs sel).boot = d.boot := by
  simp [Dev.freeRecs]
@[simp] theorem Dev.freeRecs_splice (d : Dev) (sel : Rec → Bool) : (d.freeRecs sel).splice = d.splice := by
  simp [Dev.freeRecs]
@[simp] theorem Dev.freeRecs_tapes (d : Dev) (sel : Rec → Bool) : (d.freeRecs sel).tapes = d.tapes := by
  simp [Dev.freeRecs]
@[simp] theorem Dev.freeRecs_hwsA (d : Dev) (sel : Rec → Bool) : (d.freeRecs sel).hwsA = d.hwsA := by
  simp [Dev.freeRecs]
@[simp] theorem Dev.freeRecs_hwsB (d : Dev) (sel : Rec → Bool) : (d.freeRecs sel).hwsB = d.hwsB := by
  simp [Dev.freeRecs]
@[simp] theorem Dev.freeRecs_free (d : Dev) (sel : Rec → Bool) : (d.freeRecs sel).free = d.free := by
  simp [Dev.freeRecs]

/-! ### report -/

@[simp] theorem Dev.report_use (d : Dev) (c : Ctx) (kind : Nat) (r : Rec) (steered : Bool) (rho aux : Nat) :
    (d.report c kind r steered rho aux).use = d.use := by simp [Dev.report]
@[simp] theorem Dev.report_pend (d : Dev) (c : Ctx) (kind : Nat) (r : Rec) (steered : Bool) (rho aux : Nat) :
    (d.report c kind r steered rho aux).pend = d.pend := by simp [Dev.report]
@[simp] theorem Dev.report_ptr (d : Dev) (c : Ctx) (kind : Nat) (r : Rec) (steered : Bool) (rho aux : Nat) :
    (d.report c kind r steered rho aux).ptr = d.ptr := by simp [Dev.report]
@[simp] theorem Dev.report_conv (d : Dev) (c : Ctx) (kind : Nat) (r : Rec) (steered : Bool) (rho aux : Nat) :
    (d.report c kind r steered rho aux).conv = d.conv := by simp [Dev.report]
@[simp] theorem Dev.report_lyd (d : Dev) (c : Ctx) (kind : Nat) (r : Rec) (steered : Bool) (rho aux : Nat) :
    (d.report c kind r steered rho aux).lyd = d.lyd := by simp [Dev.report]
@[simp] theorem Dev.report_plan (d : Dev) (c : Ctx) (kind : Nat) (r : Rec) (steered : Bool) (rho aux : Nat) :
    (d.report c kind r steered rho aux).plan = d.plan := by simp [Dev.report]
@[simp] theorem Dev.report_clk (d : Dev) (c : Ctx) (kind : Nat) (r : Rec) (steered : Bool) (rho aux : Nat) :
    (d.report c kind r steered rho aux).clk = d.clk := by simp [Dev.report]
@[simp] theorem Dev.report_prt (d : Dev) (c : Ctx) (kind : Nat) (r : Rec) (steered : Bool) (rho aux : Nat) :
    (d.report c kind r steered rho aux).prt = d.prt := by simp [Dev.report]
@[simp] theorem Dev.report_beams (d : Dev) (c : Ctx) (kind : Nat) (r : Rec) (steered : Bool) (rho aux : Nat) :
    (d.report c kind r steered rho aux).beams = d.beams := by simp [Dev.report]
@[simp] theorem Dev.report_can (d : Dev) (c : Ctx) (kind : Nat) (r : Rec) (steered : Bool) (rho aux : Nat) :
    (d.report c kind r steered rho aux).can = d.can := by simp [Dev.report]
@[simp] theorem Dev.report_osc (d : Dev) (c : Ctx) (kind : Nat) (r : Rec) (steered : Bool) (rho aux : Nat) :
    (d.report c kind r steered rho aux).osc = d.osc := by simp [Dev.report]
@[simp] theorem Dev.report_bel (d : Dev) (c : Ctx) (kind : Nat) (r : Rec) (steered : Bool) (rho aux : Nat) :
    (d.report c kind r steered rho aux).bel = d.bel := by simp [Dev.report]
@[simp] theorem Dev.report_book (d : Dev) (c : Ctx) (kind : Nat) (r : Rec) (steered : Bool) (rho aux : Nat) :
    (d.report c kind r steered rho aux).book = d.book := by simp [Dev.report]
@[simp] theorem Dev.report_ldl (d : Dev) (c : Ctx) (kind : Nat) (r : Rec) (steered : Bool) (rho aux : Nat) :
    (d.report c kind r steered rho aux).ldl = d.ldl := by simp [Dev.report]
@[simp] theorem Dev.report_reef (d : Dev) (c : Ctx) (kind : Nat) (r : Rec) (steered : Bool) (rho aux : Nat) :
    (d.report c kind r steered rho aux).reef = d.reef := by simp [Dev.report]
@[simp] theorem Dev.report_thm (d : Dev) (c : Ctx) (kind : Nat) (r : Rec) (steered : Bool) (rho aux : Nat) :
    (d.report c kind r steered rho aux).thm = d.thm := by simp [Dev.report]
@[simp] theorem Dev.report_mem (d : Dev) (c : Ctx) (kind : Nat) (r : Rec) (steered : Bool) (rho aux : Nat) :
    (d.report c kind r steered rho aux).mem = d.mem := by simp [Dev.report]
@[simp] theorem Dev.report_stop (d : Dev) (c : Ctx) (kind : Nat) (r : Rec) (steered : Bool) (rho aux : Nat) :
    (d.report c kind r steered rho aux).stop = d.stop := by simp [Dev.report]
@[simp] theorem Dev.report_log (d : Dev) (c : Ctx) (kind : Nat) (r : Rec) (steered : Bool) (rho aux : Nat) :
    (d.report c kind r steered rho aux).log = d.log := by simp [Dev.report]
@[simp] theorem Dev.report_qual (d : Dev) (c : Ctx) (kind : Nat) (r : Rec) (steered : Bool) (rho aux : Nat) :
    (d.report c kind r steered rho aux).qual = d.qual := by simp [Dev.report]
@[simp] theorem Dev.report_boot (d : Dev) (c : Ctx) (kind : Nat) (r : Rec) (steered : Bool) (rho aux : Nat) :
    (d.report c kind r steered rho aux).boot = d.boot := by simp [Dev.report]
@[simp] theorem Dev.report_splice (d : Dev) (c : Ctx) (kind : Nat) (r : Rec) (steered : Bool) (rho aux : Nat) :
    (d.report c kind r steered rho aux).splice = d.splice := by simp [Dev.report]
@[simp] theorem Dev.report_tapes (d : Dev) (c : Ctx) (kind : Nat) (r : Rec) (steered : Bool) (rho aux : Nat) :
    (d.report c kind r steered rho aux).tapes = d.tapes := by simp [Dev.report]
@[simp] theorem Dev.report_hwsA (d : Dev) (c : Ctx) (kind : Nat) (r : Rec) (steered : Bool) (rho aux : Nat) :
    (d.report c kind r steered rho aux).hwsA = d.hwsA := by simp [Dev.report]
@[simp] theorem Dev.report_hwsB (d : Dev) (c : Ctx) (kind : Nat) (r : Rec) (steered : Bool) (rho aux : Nat) :
    (d.report c kind r steered rho aux).hwsB = d.hwsB := by simp [Dev.report]
@[simp] theorem Dev.report_free (d : Dev) (c : Ctx) (kind : Nat) (r : Rec) (steered : Bool) (rho aux : Nat) :
    (d.report c kind r steered rho aux).free = d.free := by simp [Dev.report]

/-! ### reportNone -/

@[simp] theorem Dev.reportNone_use (d : Dev) (c : Ctx) (kind aux : Nat) : (d.reportNone c kind aux).use = d.use := by
  simp [Dev.reportNone]
@[simp] theorem Dev.reportNone_pend (d : Dev) (c : Ctx) (kind aux : Nat) :
    (d.reportNone c kind aux).pend = d.pend := by simp [Dev.reportNone]
@[simp] theorem Dev.reportNone_ptr (d : Dev) (c : Ctx) (kind aux : Nat) : (d.reportNone c kind aux).ptr = d.ptr := by
  simp [Dev.reportNone]
@[simp] theorem Dev.reportNone_conv (d : Dev) (c : Ctx) (kind aux : Nat) :
    (d.reportNone c kind aux).conv = d.conv := by simp [Dev.reportNone]
@[simp] theorem Dev.reportNone_lyd (d : Dev) (c : Ctx) (kind aux : Nat) : (d.reportNone c kind aux).lyd = d.lyd := by
  simp [Dev.reportNone]
@[simp] theorem Dev.reportNone_plan (d : Dev) (c : Ctx) (kind aux : Nat) :
    (d.reportNone c kind aux).plan = d.plan := by simp [Dev.reportNone]
@[simp] theorem Dev.reportNone_clk (d : Dev) (c : Ctx) (kind aux : Nat) : (d.reportNone c kind aux).clk = d.clk := by
  simp [Dev.reportNone]
@[simp] theorem Dev.reportNone_prt (d : Dev) (c : Ctx) (kind aux : Nat) : (d.reportNone c kind aux).prt = d.prt := by
  simp [Dev.reportNone]
@[simp] theorem Dev.reportNone_beams (d : Dev) (c : Ctx) (kind aux : Nat) :
    (d.reportNone c kind aux).beams = d.beams := by simp [Dev.reportNone]
@[simp] theorem Dev.reportNone_can (d : Dev) (c : Ctx) (kind aux : Nat) : (d.reportNone c kind aux).can = d.can := by
  simp [Dev.reportNone]
@[simp] theorem Dev.reportNone_osc (d : Dev) (c : Ctx) (kind aux : Nat) : (d.reportNone c kind aux).osc = d.osc := by
  simp [Dev.reportNone]
@[simp] theorem Dev.reportNone_bel (d : Dev) (c : Ctx) (kind aux : Nat) : (d.reportNone c kind aux).bel = d.bel := by
  simp [Dev.reportNone]
@[simp] theorem Dev.reportNone_book (d : Dev) (c : Ctx) (kind aux : Nat) :
    (d.reportNone c kind aux).book = d.book := by simp [Dev.reportNone]
@[simp] theorem Dev.reportNone_ldl (d : Dev) (c : Ctx) (kind aux : Nat) : (d.reportNone c kind aux).ldl = d.ldl := by
  simp [Dev.reportNone]
@[simp] theorem Dev.reportNone_reef (d : Dev) (c : Ctx) (kind aux : Nat) :
    (d.reportNone c kind aux).reef = d.reef := by simp [Dev.reportNone]
@[simp] theorem Dev.reportNone_thm (d : Dev) (c : Ctx) (kind aux : Nat) : (d.reportNone c kind aux).thm = d.thm := by
  simp [Dev.reportNone]
@[simp] theorem Dev.reportNone_mem (d : Dev) (c : Ctx) (kind aux : Nat) : (d.reportNone c kind aux).mem = d.mem := by
  simp [Dev.reportNone]
@[simp] theorem Dev.reportNone_stop (d : Dev) (c : Ctx) (kind aux : Nat) :
    (d.reportNone c kind aux).stop = d.stop := by simp [Dev.reportNone]
@[simp] theorem Dev.reportNone_log (d : Dev) (c : Ctx) (kind aux : Nat) : (d.reportNone c kind aux).log = d.log := by
  simp [Dev.reportNone]
@[simp] theorem Dev.reportNone_qual (d : Dev) (c : Ctx) (kind aux : Nat) :
    (d.reportNone c kind aux).qual = d.qual := by simp [Dev.reportNone]
@[simp] theorem Dev.reportNone_boot (d : Dev) (c : Ctx) (kind aux : Nat) :
    (d.reportNone c kind aux).boot = d.boot := by simp [Dev.reportNone]
@[simp] theorem Dev.reportNone_splice (d : Dev) (c : Ctx) (kind aux : Nat) :
    (d.reportNone c kind aux).splice = d.splice := by simp [Dev.reportNone]
@[simp] theorem Dev.reportNone_tapes (d : Dev) (c : Ctx) (kind aux : Nat) :
    (d.reportNone c kind aux).tapes = d.tapes := by simp [Dev.reportNone]
@[simp] theorem Dev.reportNone_hwsA (d : Dev) (c : Ctx) (kind aux : Nat) :
    (d.reportNone c kind aux).hwsA = d.hwsA := by simp [Dev.reportNone]
@[simp] theorem Dev.reportNone_hwsB (d : Dev) (c : Ctx) (kind aux : Nat) :
    (d.reportNone c kind aux).hwsB = d.hwsB := by simp [Dev.reportNone]
@[simp] theorem Dev.reportNone_free (d : Dev) (c : Ctx) (kind aux : Nat) :
    (d.reportNone c kind aux).free = d.free := by simp [Dev.reportNone]

/-! ### cacheRec -/

@[simp] theorem Dev.cacheRec_use (d : Dev) (c : Ctx) (r : Rec) (changed : Bool) :
    (d.cacheRec c r changed).use = d.use := by simp [Dev.cacheRec]
@[simp] theorem Dev.cacheRec_pend (d : Dev) (c : Ctx) (r : Rec) (changed : Bool) :
    (d.cacheRec c r changed).pend = d.pend := by simp [Dev.cacheRec]
@[simp] theorem Dev.cacheRec_ptr (d : Dev) (c : Ctx) (r : Rec) (changed : Bool) :
    (d.cacheRec c r changed).ptr = d.ptr := by simp [Dev.cacheRec]
@[simp] theorem Dev.cacheRec_conv (d : Dev) (c : Ctx) (r : Rec) (changed : Bool) :
    (d.cacheRec c r changed).conv = d.conv := by simp [Dev.cacheRec]
@[simp] theorem Dev.cacheRec_lyd (d : Dev) (c : Ctx) (r : Rec) (changed : Bool) :
    (d.cacheRec c r changed).lyd = d.lyd := by simp [Dev.cacheRec]
@[simp] theorem Dev.cacheRec_plan (d : Dev) (c : Ctx) (r : Rec) (changed : Bool) :
    (d.cacheRec c r changed).plan = d.plan := by simp [Dev.cacheRec]
@[simp] theorem Dev.cacheRec_clk (d : Dev) (c : Ctx) (r : Rec) (changed : Bool) :
    (d.cacheRec c r changed).clk = d.clk := by simp [Dev.cacheRec]
@[simp] theorem Dev.cacheRec_prt (d : Dev) (c : Ctx) (r : Rec) (changed : Bool) :
    (d.cacheRec c r changed).prt = d.prt := by simp [Dev.cacheRec]
@[simp] theorem Dev.cacheRec_beams (d : Dev) (c : Ctx) (r : Rec) (changed : Bool) :
    (d.cacheRec c r changed).beams = d.beams := by simp [Dev.cacheRec]
@[simp] theorem Dev.cacheRec_can (d : Dev) (c : Ctx) (r : Rec) (changed : Bool) :
    (d.cacheRec c r changed).can = d.can := by simp [Dev.cacheRec]
@[simp] theorem Dev.cacheRec_osc (d : Dev) (c : Ctx) (r : Rec) (changed : Bool) :
    (d.cacheRec c r changed).osc = d.osc := by simp [Dev.cacheRec]
@[simp] theorem Dev.cacheRec_bel (d : Dev) (c : Ctx) (r : Rec) (changed : Bool) :
    (d.cacheRec c r changed).bel = d.bel := by simp [Dev.cacheRec]
@[simp] theorem Dev.cacheRec_ldl (d : Dev) (c : Ctx) (r : Rec) (changed : Bool) :
    (d.cacheRec c r changed).ldl = d.ldl := by simp [Dev.cacheRec]
@[simp] theorem Dev.cacheRec_reef (d : Dev) (c : Ctx) (r : Rec) (changed : Bool) :
    (d.cacheRec c r changed).reef = d.reef := by simp [Dev.cacheRec]
@[simp] theorem Dev.cacheRec_thm (d : Dev) (c : Ctx) (r : Rec) (changed : Bool) :
    (d.cacheRec c r changed).thm = d.thm := by simp [Dev.cacheRec]
@[simp] theorem Dev.cacheRec_mem (d : Dev) (c : Ctx) (r : Rec) (changed : Bool) :
    (d.cacheRec c r changed).mem = d.mem := by simp [Dev.cacheRec]
@[simp] theorem Dev.cacheRec_stop (d : Dev) (c : Ctx) (r : Rec) (changed : Bool) :
    (d.cacheRec c r changed).stop = d.stop := by simp [Dev.cacheRec]
@[simp] theorem Dev.cacheRec_log (d : Dev) (c : Ctx) (r : Rec) (changed : Bool) :
    (d.cacheRec c r changed).log = d.log := by simp [Dev.cacheRec]
@[simp] theorem Dev.cacheRec_host (d : Dev) (c : Ctx) (r : Rec) (changed : Bool) :
    (d.cacheRec c r changed).host = d.host := by simp [Dev.cacheRec]
@[simp] theorem Dev.cacheRec_qual (d : Dev) (c : Ctx) (r : Rec) (changed : Bool) :
    (d.cacheRec c r changed).qual = d.qual := by simp [Dev.cacheRec]
@[simp] theorem Dev.cacheRec_boot (d : Dev) (c : Ctx) (r : Rec) (changed : Bool) :
    (d.cacheRec c r changed).boot = d.boot := by simp [Dev.cacheRec]
@[simp] theorem Dev.cacheRec_splice (d : Dev) (c : Ctx) (r : Rec) (changed : Bool) :
    (d.cacheRec c r changed).splice = d.splice := by simp [Dev.cacheRec]
@[simp] theorem Dev.cacheRec_tapes (d : Dev) (c : Ctx) (r : Rec) (changed : Bool) :
    (d.cacheRec c r changed).tapes = d.tapes := by simp [Dev.cacheRec]
@[simp] theorem Dev.cacheRec_hwsA (d : Dev) (c : Ctx) (r : Rec) (changed : Bool) :
    (d.cacheRec c r changed).hwsA = d.hwsA := by simp [Dev.cacheRec]
@[simp] theorem Dev.cacheRec_hwsB (d : Dev) (c : Ctx) (r : Rec) (changed : Bool) :
    (d.cacheRec c r changed).hwsB = d.hwsB := by simp [Dev.cacheRec]
@[simp] theorem Dev.cacheRec_free (d : Dev) (c : Ctx) (r : Rec) (changed : Bool) :
    (d.cacheRec c r changed).free = d.free := by simp [Dev.cacheRec]

/-! ### refuseRec -/

@[simp] theorem Dev.refuseRec_use (d : Dev) (c : Ctx) (bg : Nat) : (d.refuseRec c bg).use = d.use := by
  simp [Dev.refuseRec]
@[simp] theorem Dev.refuseRec_pend (d : Dev) (c : Ctx) (bg : Nat) : (d.refuseRec c bg).pend = d.pend := by
  simp [Dev.refuseRec]
@[simp] theorem Dev.refuseRec_ptr (d : Dev) (c : Ctx) (bg : Nat) : (d.refuseRec c bg).ptr = d.ptr := by
  simp [Dev.refuseRec]
@[simp] theorem Dev.refuseRec_conv (d : Dev) (c : Ctx) (bg : Nat) : (d.refuseRec c bg).conv = d.conv := by
  simp [Dev.refuseRec]
@[simp] theorem Dev.refuseRec_lyd (d : Dev) (c : Ctx) (bg : Nat) : (d.refuseRec c bg).lyd = d.lyd := by
  simp [Dev.refuseRec]
@[simp] theorem Dev.refuseRec_plan (d : Dev) (c : Ctx) (bg : Nat) : (d.refuseRec c bg).plan = d.plan := by
  simp [Dev.refuseRec]
@[simp] theorem Dev.refuseRec_clk (d : Dev) (c : Ctx) (bg : Nat) : (d.refuseRec c bg).clk = d.clk := by
  simp [Dev.refuseRec]
@[simp] theorem Dev.refuseRec_prt (d : Dev) (c : Ctx) (bg : Nat) : (d.refuseRec c bg).prt = d.prt := by
  simp [Dev.refuseRec]
@[simp] theorem Dev.refuseRec_beams (d : Dev) (c : Ctx) (bg : Nat) : (d.refuseRec c bg).beams = d.beams := by
  simp [Dev.refuseRec]
@[simp] theorem Dev.refuseRec_can (d : Dev) (c : Ctx) (bg : Nat) : (d.refuseRec c bg).can = d.can := by
  simp [Dev.refuseRec]
@[simp] theorem Dev.refuseRec_osc (d : Dev) (c : Ctx) (bg : Nat) : (d.refuseRec c bg).osc = d.osc := by
  simp [Dev.refuseRec]
@[simp] theorem Dev.refuseRec_bel (d : Dev) (c : Ctx) (bg : Nat) : (d.refuseRec c bg).bel = d.bel := by
  simp [Dev.refuseRec]
@[simp] theorem Dev.refuseRec_ldl (d : Dev) (c : Ctx) (bg : Nat) : (d.refuseRec c bg).ldl = d.ldl := by
  simp [Dev.refuseRec]
@[simp] theorem Dev.refuseRec_reef (d : Dev) (c : Ctx) (bg : Nat) : (d.refuseRec c bg).reef = d.reef := by
  simp [Dev.refuseRec]
@[simp] theorem Dev.refuseRec_thm (d : Dev) (c : Ctx) (bg : Nat) : (d.refuseRec c bg).thm = d.thm := by
  simp [Dev.refuseRec]
@[simp] theorem Dev.refuseRec_mem (d : Dev) (c : Ctx) (bg : Nat) : (d.refuseRec c bg).mem = d.mem := by
  simp [Dev.refuseRec]
@[simp] theorem Dev.refuseRec_stop (d : Dev) (c : Ctx) (bg : Nat) : (d.refuseRec c bg).stop = d.stop := by
  simp [Dev.refuseRec]
@[simp] theorem Dev.refuseRec_log (d : Dev) (c : Ctx) (bg : Nat) : (d.refuseRec c bg).log = d.log := by
  simp [Dev.refuseRec]
@[simp] theorem Dev.refuseRec_host (d : Dev) (c : Ctx) (bg : Nat) : (d.refuseRec c bg).host = d.host := by
  simp [Dev.refuseRec]
@[simp] theorem Dev.refuseRec_qual (d : Dev) (c : Ctx) (bg : Nat) : (d.refuseRec c bg).qual = d.qual := by
  simp [Dev.refuseRec]
@[simp] theorem Dev.refuseRec_boot (d : Dev) (c : Ctx) (bg : Nat) : (d.refuseRec c bg).boot = d.boot := by
  simp [Dev.refuseRec]
@[simp] theorem Dev.refuseRec_splice (d : Dev) (c : Ctx) (bg : Nat) : (d.refuseRec c bg).splice = d.splice := by
  simp [Dev.refuseRec]
@[simp] theorem Dev.refuseRec_tapes (d : Dev) (c : Ctx) (bg : Nat) : (d.refuseRec c bg).tapes = d.tapes := by
  simp [Dev.refuseRec]
@[simp] theorem Dev.refuseRec_hwsA (d : Dev) (c : Ctx) (bg : Nat) : (d.refuseRec c bg).hwsA = d.hwsA := by
  simp [Dev.refuseRec]
@[simp] theorem Dev.refuseRec_free (d : Dev) (c : Ctx) (bg : Nat) : (d.refuseRec c bg).free = d.free := by
  simp [Dev.refuseRec]

/-! ### countMiss -/

@[simp] theorem Dev.countMiss_use (d : Dev) (c : Ctx) (bg : Nat) (l : List Hit) :
    (d.countMiss c bg l).use = d.use := by simp [Dev.countMiss]
@[simp] theorem Dev.countMiss_pend (d : Dev) (c : Ctx) (bg : Nat) (l : List Hit) :
    (d.countMiss c bg l).pend = d.pend := by simp [Dev.countMiss]
@[simp] theorem Dev.countMiss_ptr (d : Dev) (c : Ctx) (bg : Nat) (l : List Hit) :
    (d.countMiss c bg l).ptr = d.ptr := by simp [Dev.countMiss]
@[simp] theorem Dev.countMiss_conv (d : Dev) (c : Ctx) (bg : Nat) (l : List Hit) :
    (d.countMiss c bg l).conv = d.conv := by simp [Dev.countMiss]
@[simp] theorem Dev.countMiss_lyd (d : Dev) (c : Ctx) (bg : Nat) (l : List Hit) :
    (d.countMiss c bg l).lyd = d.lyd := by simp [Dev.countMiss]
@[simp] theorem Dev.countMiss_plan (d : Dev) (c : Ctx) (bg : Nat) (l : List Hit) :
    (d.countMiss c bg l).plan = d.plan := by simp [Dev.countMiss]
@[simp] theorem Dev.countMiss_clk (d : Dev) (c : Ctx) (bg : Nat) (l : List Hit) :
    (d.countMiss c bg l).clk = d.clk := by simp [Dev.countMiss]
@[simp] theorem Dev.countMiss_prt (d : Dev) (c : Ctx) (bg : Nat) (l : List Hit) :
    (d.countMiss c bg l).prt = d.prt := by simp [Dev.countMiss]
@[simp] theorem Dev.countMiss_beams (d : Dev) (c : Ctx) (bg : Nat) (l : List Hit) :
    (d.countMiss c bg l).beams = d.beams := by simp [Dev.countMiss]
@[simp] theorem Dev.countMiss_can (d : Dev) (c : Ctx) (bg : Nat) (l : List Hit) :
    (d.countMiss c bg l).can = d.can := by simp [Dev.countMiss]
@[simp] theorem Dev.countMiss_osc (d : Dev) (c : Ctx) (bg : Nat) (l : List Hit) :
    (d.countMiss c bg l).osc = d.osc := by simp [Dev.countMiss]
@[simp] theorem Dev.countMiss_bel (d : Dev) (c : Ctx) (bg : Nat) (l : List Hit) :
    (d.countMiss c bg l).bel = d.bel := by simp [Dev.countMiss]
@[simp] theorem Dev.countMiss_book (d : Dev) (c : Ctx) (bg : Nat) (l : List Hit) :
    (d.countMiss c bg l).book = d.book := by simp [Dev.countMiss]
@[simp] theorem Dev.countMiss_ldl (d : Dev) (c : Ctx) (bg : Nat) (l : List Hit) :
    (d.countMiss c bg l).ldl = d.ldl := by simp [Dev.countMiss]
@[simp] theorem Dev.countMiss_reef (d : Dev) (c : Ctx) (bg : Nat) (l : List Hit) :
    (d.countMiss c bg l).reef = d.reef := by simp [Dev.countMiss]
@[simp] theorem Dev.countMiss_thm (d : Dev) (c : Ctx) (bg : Nat) (l : List Hit) :
    (d.countMiss c bg l).thm = d.thm := by simp [Dev.countMiss]
@[simp] theorem Dev.countMiss_mem (d : Dev) (c : Ctx) (bg : Nat) (l : List Hit) :
    (d.countMiss c bg l).mem = d.mem := by simp [Dev.countMiss]
@[simp] theorem Dev.countMiss_stop (d : Dev) (c : Ctx) (bg : Nat) (l : List Hit) :
    (d.countMiss c bg l).stop = d.stop := by simp [Dev.countMiss]
@[simp] theorem Dev.countMiss_log (d : Dev) (c : Ctx) (bg : Nat) (l : List Hit) :
    (d.countMiss c bg l).log = d.log := by simp [Dev.countMiss]
@[simp] theorem Dev.countMiss_host (d : Dev) (c : Ctx) (bg : Nat) (l : List Hit) :
    (d.countMiss c bg l).host = d.host := by simp [Dev.countMiss]
@[simp] theorem Dev.countMiss_qual (d : Dev) (c : Ctx) (bg : Nat) (l : List Hit) :
    (d.countMiss c bg l).qual = d.qual := by simp [Dev.countMiss]
@[simp] theorem Dev.countMiss_boot (d : Dev) (c : Ctx) (bg : Nat) (l : List Hit) :
    (d.countMiss c bg l).boot = d.boot := by simp [Dev.countMiss]
@[simp] theorem Dev.countMiss_splice (d : Dev) (c : Ctx) (bg : Nat) (l : List Hit) :
    (d.countMiss c bg l).splice = d.splice := by simp [Dev.countMiss]
@[simp] theorem Dev.countMiss_tapes (d : Dev) (c : Ctx) (bg : Nat) (l : List Hit) :
    (d.countMiss c bg l).tapes = d.tapes := by simp [Dev.countMiss]
@[simp] theorem Dev.countMiss_hwsA (d : Dev) (c : Ctx) (bg : Nat) (l : List Hit) :
    (d.countMiss c bg l).hwsA = d.hwsA := by simp [Dev.countMiss]
@[simp] theorem Dev.countMiss_free (d : Dev) (c : Ctx) (bg : Nat) (l : List Hit) :
    (d.countMiss c bg l).free = d.free := by simp [Dev.countMiss]

/-! ### sightNbr -/

@[simp] theorem Dev.sightNbr_use (d : Dev) (c : Ctx) (t : Sighting) : (d.sightNbr c t).use = d.use := by
  unfold Dev.sightNbr; (try dsimp only); (repeat' split) <;> simp
@[simp] theorem Dev.sightNbr_pend (d : Dev) (c : Ctx) (t : Sighting) : (d.sightNbr c t).pend = d.pend := by
  unfold Dev.sightNbr; (try dsimp only); (repeat' split) <;> simp
@[simp] theorem Dev.sightNbr_ptr (d : Dev) (c : Ctx) (t : Sighting) : (d.sightNbr c t).ptr = d.ptr := by
  unfold Dev.sightNbr; (try dsimp only); (repeat' split) <;> simp
@[simp] theorem Dev.sightNbr_conv (d : Dev) (c : Ctx) (t : Sighting) : (d.sightNbr c t).conv = d.conv := by
  unfold Dev.sightNbr; (try dsimp only); (repeat' split) <;> simp
@[simp] theorem Dev.sightNbr_lyd (d : Dev) (c : Ctx) (t : Sighting) : (d.sightNbr c t).lyd = d.lyd := by
  unfold Dev.sightNbr; (try dsimp only); (repeat' split) <;> simp
@[simp] theorem Dev.sightNbr_plan (d : Dev) (c : Ctx) (t : Sighting) : (d.sightNbr c t).plan = d.plan := by
  unfold Dev.sightNbr; (try dsimp only); (repeat' split) <;> simp
@[simp] theorem Dev.sightNbr_clk (d : Dev) (c : Ctx) (t : Sighting) : (d.sightNbr c t).clk = d.clk := by
  unfold Dev.sightNbr; (try dsimp only); (repeat' split) <;> simp
@[simp] theorem Dev.sightNbr_prt (d : Dev) (c : Ctx) (t : Sighting) : (d.sightNbr c t).prt = d.prt := by
  unfold Dev.sightNbr; (try dsimp only); (repeat' split) <;> simp
@[simp] theorem Dev.sightNbr_beams (d : Dev) (c : Ctx) (t : Sighting) : (d.sightNbr c t).beams = d.beams := by
  unfold Dev.sightNbr; (try dsimp only); (repeat' split) <;> simp
@[simp] theorem Dev.sightNbr_can (d : Dev) (c : Ctx) (t : Sighting) : (d.sightNbr c t).can = d.can := by
  unfold Dev.sightNbr; (try dsimp only); (repeat' split) <;> simp
@[simp] theorem Dev.sightNbr_osc (d : Dev) (c : Ctx) (t : Sighting) : (d.sightNbr c t).osc = d.osc := by
  unfold Dev.sightNbr; (try dsimp only); (repeat' split) <;> simp
@[simp] theorem Dev.sightNbr_bel (d : Dev) (c : Ctx) (t : Sighting) : (d.sightNbr c t).bel = d.bel := by
  unfold Dev.sightNbr; (try dsimp only); (repeat' split) <;> simp
@[simp] theorem Dev.sightNbr_ldl (d : Dev) (c : Ctx) (t : Sighting) : (d.sightNbr c t).ldl = d.ldl := by
  unfold Dev.sightNbr; (try dsimp only); (repeat' split) <;> simp
@[simp] theorem Dev.sightNbr_reef (d : Dev) (c : Ctx) (t : Sighting) : (d.sightNbr c t).reef = d.reef := by
  unfold Dev.sightNbr; (try dsimp only); (repeat' split) <;> simp
@[simp] theorem Dev.sightNbr_thm (d : Dev) (c : Ctx) (t : Sighting) : (d.sightNbr c t).thm = d.thm := by
  unfold Dev.sightNbr; (try dsimp only); (repeat' split) <;> simp
@[simp] theorem Dev.sightNbr_mem (d : Dev) (c : Ctx) (t : Sighting) : (d.sightNbr c t).mem = d.mem := by
  unfold Dev.sightNbr; (try dsimp only); (repeat' split) <;> simp
@[simp] theorem Dev.sightNbr_stop (d : Dev) (c : Ctx) (t : Sighting) : (d.sightNbr c t).stop = d.stop := by
  unfold Dev.sightNbr; (try dsimp only); (repeat' split) <;> simp
@[simp] theorem Dev.sightNbr_log (d : Dev) (c : Ctx) (t : Sighting) : (d.sightNbr c t).log = d.log := by
  unfold Dev.sightNbr; (try dsimp only); (repeat' split) <;> simp
@[simp] theorem Dev.sightNbr_qual (d : Dev) (c : Ctx) (t : Sighting) : (d.sightNbr c t).qual = d.qual := by
  unfold Dev.sightNbr; (try dsimp only); (repeat' split) <;> simp
@[simp] theorem Dev.sightNbr_boot (d : Dev) (c : Ctx) (t : Sighting) : (d.sightNbr c t).boot = d.boot := by
  unfold Dev.sightNbr; (try dsimp only); (repeat' split) <;> simp
@[simp] theorem Dev.sightNbr_splice (d : Dev) (c : Ctx) (t : Sighting) : (d.sightNbr c t).splice = d.splice := by
  unfold Dev.sightNbr; (try dsimp only); (repeat' split) <;> simp
@[simp] theorem Dev.sightNbr_tapes (d : Dev) (c : Ctx) (t : Sighting) : (d.sightNbr c t).tapes = d.tapes := by
  unfold Dev.sightNbr; (try dsimp only); (repeat' split) <;> simp
@[simp] theorem Dev.sightNbr_hwsA (d : Dev) (c : Ctx) (t : Sighting) : (d.sightNbr c t).hwsA = d.hwsA := by
  unfold Dev.sightNbr; (try dsimp only); (repeat' split) <;> simp
@[simp] theorem Dev.sightNbr_hwsB (d : Dev) (c : Ctx) (t : Sighting) : (d.sightNbr c t).hwsB = d.hwsB := by
  unfold Dev.sightNbr; (try dsimp only); (repeat' split) <;> simp
@[simp] theorem Dev.sightNbr_free (d : Dev) (c : Ctx) (t : Sighting) : (d.sightNbr c t).free = d.free := by
  unfold Dev.sightNbr; (try dsimp only); (repeat' split) <;> simp

/-! ### setAlert -/

@[simp] theorem Dev.setAlert_use (d : Dev) : d.setAlert.use = d.use := by simp [Dev.setAlert]
@[simp] theorem Dev.setAlert_pend (d : Dev) : d.setAlert.pend = d.pend := by simp [Dev.setAlert]
@[simp] theorem Dev.setAlert_ptr (d : Dev) : d.setAlert.ptr = d.ptr := by simp [Dev.setAlert]
@[simp] theorem Dev.setAlert_conv (d : Dev) : d.setAlert.conv = d.conv := by simp [Dev.setAlert]
@[simp] theorem Dev.setAlert_lyd (d : Dev) : d.setAlert.lyd = d.lyd := by simp [Dev.setAlert]
@[simp] theorem Dev.setAlert_plan (d : Dev) : d.setAlert.plan = d.plan := by simp [Dev.setAlert]
@[simp] theorem Dev.setAlert_clk (d : Dev) : d.setAlert.clk = d.clk := by simp [Dev.setAlert]
@[simp] theorem Dev.setAlert_prt (d : Dev) : d.setAlert.prt = d.prt := by simp [Dev.setAlert]
@[simp] theorem Dev.setAlert_beams (d : Dev) : d.setAlert.beams = d.beams := by simp [Dev.setAlert]
@[simp] theorem Dev.setAlert_can (d : Dev) : d.setAlert.can = d.can := by simp [Dev.setAlert]
@[simp] theorem Dev.setAlert_osc (d : Dev) : d.setAlert.osc = d.osc := by simp [Dev.setAlert]
@[simp] theorem Dev.setAlert_bel (d : Dev) : d.setAlert.bel = d.bel := by simp [Dev.setAlert]
@[simp] theorem Dev.setAlert_book (d : Dev) : d.setAlert.book = d.book := by simp [Dev.setAlert]
@[simp] theorem Dev.setAlert_ldl (d : Dev) : d.setAlert.ldl = d.ldl := by simp [Dev.setAlert]
@[simp] theorem Dev.setAlert_reef (d : Dev) : d.setAlert.reef = d.reef := by simp [Dev.setAlert]
@[simp] theorem Dev.setAlert_thm (d : Dev) : d.setAlert.thm = d.thm := by simp [Dev.setAlert]
@[simp] theorem Dev.setAlert_mem (d : Dev) : d.setAlert.mem = d.mem := by simp [Dev.setAlert]
@[simp] theorem Dev.setAlert_log (d : Dev) : d.setAlert.log = d.log := by simp [Dev.setAlert]
@[simp] theorem Dev.setAlert_host (d : Dev) : d.setAlert.host = d.host := by simp [Dev.setAlert]
@[simp] theorem Dev.setAlert_qual (d : Dev) : d.setAlert.qual = d.qual := by simp [Dev.setAlert]
@[simp] theorem Dev.setAlert_boot (d : Dev) : d.setAlert.boot = d.boot := by simp [Dev.setAlert]
@[simp] theorem Dev.setAlert_splice (d : Dev) : d.setAlert.splice = d.splice := by simp [Dev.setAlert]
@[simp] theorem Dev.setAlert_tapes (d : Dev) : d.setAlert.tapes = d.tapes := by simp [Dev.setAlert]
@[simp] theorem Dev.setAlert_hwsA (d : Dev) : d.setAlert.hwsA = d.hwsA := by simp [Dev.setAlert]
@[simp] theorem Dev.setAlert_hwsB (d : Dev) : d.setAlert.hwsB = d.hwsB := by simp [Dev.setAlert]
@[simp] theorem Dev.setAlert_free (d : Dev) : d.setAlert.free = d.free := by simp [Dev.setAlert]

/-! ### donorReport -/

@[simp] theorem Dev.donorReport_use (d : Dev) (c : Ctx) (idx code : Nat) :
    (d.donorReport c idx code).use = d.use := by simp [Dev.donorReport]
@[simp] theorem Dev.donorReport_pend (d : Dev) (c : Ctx) (idx code : Nat) :
    (d.donorReport c idx code).pend = d.pend := by simp [Dev.donorReport]
@[simp] theorem Dev.donorReport_ptr (d : Dev) (c : Ctx) (idx code : Nat) :
    (d.donorReport c idx code).ptr = d.ptr := by simp [Dev.donorReport]
@[simp] theorem Dev.donorReport_conv (d : Dev) (c : Ctx) (idx code : Nat) :
    (d.donorReport c idx code).conv = d.conv := by simp [Dev.donorReport]
@[simp] theorem Dev.donorReport_lyd (d : Dev) (c : Ctx) (idx code : Nat) :
    (d.donorReport c idx code).lyd = d.lyd := by simp [Dev.donorReport]
@[simp] theorem Dev.donorReport_plan (d : Dev) (c : Ctx) (idx code : Nat) :
    (d.donorReport c idx code).plan = d.plan := by simp [Dev.donorReport]
@[simp] theorem Dev.donorReport_clk (d : Dev) (c : Ctx) (idx code : Nat) :
    (d.donorReport c idx code).clk = d.clk := by simp [Dev.donorReport]
@[simp] theorem Dev.donorReport_prt (d : Dev) (c : Ctx) (idx code : Nat) :
    (d.donorReport c idx code).prt = d.prt := by simp [Dev.donorReport]
@[simp] theorem Dev.donorReport_beams (d : Dev) (c : Ctx) (idx code : Nat) :
    (d.donorReport c idx code).beams = d.beams := by simp [Dev.donorReport]
@[simp] theorem Dev.donorReport_can (d : Dev) (c : Ctx) (idx code : Nat) :
    (d.donorReport c idx code).can = d.can := by simp [Dev.donorReport]
@[simp] theorem Dev.donorReport_osc (d : Dev) (c : Ctx) (idx code : Nat) :
    (d.donorReport c idx code).osc = d.osc := by simp [Dev.donorReport]
@[simp] theorem Dev.donorReport_bel (d : Dev) (c : Ctx) (idx code : Nat) :
    (d.donorReport c idx code).bel = d.bel := by simp [Dev.donorReport]
@[simp] theorem Dev.donorReport_book (d : Dev) (c : Ctx) (idx code : Nat) :
    (d.donorReport c idx code).book = d.book := by simp [Dev.donorReport]
@[simp] theorem Dev.donorReport_ldl (d : Dev) (c : Ctx) (idx code : Nat) :
    (d.donorReport c idx code).ldl = d.ldl := by simp [Dev.donorReport]
@[simp] theorem Dev.donorReport_reef (d : Dev) (c : Ctx) (idx code : Nat) :
    (d.donorReport c idx code).reef = d.reef := by simp [Dev.donorReport]
@[simp] theorem Dev.donorReport_thm (d : Dev) (c : Ctx) (idx code : Nat) :
    (d.donorReport c idx code).thm = d.thm := by simp [Dev.donorReport]
@[simp] theorem Dev.donorReport_mem (d : Dev) (c : Ctx) (idx code : Nat) :
    (d.donorReport c idx code).mem = d.mem := by simp [Dev.donorReport]
@[simp] theorem Dev.donorReport_stop (d : Dev) (c : Ctx) (idx code : Nat) :
    (d.donorReport c idx code).stop = d.stop := by simp [Dev.donorReport]
@[simp] theorem Dev.donorReport_log (d : Dev) (c : Ctx) (idx code : Nat) :
    (d.donorReport c idx code).log = d.log := by simp [Dev.donorReport]
@[simp] theorem Dev.donorReport_qual (d : Dev) (c : Ctx) (idx code : Nat) :
    (d.donorReport c idx code).qual = d.qual := by simp [Dev.donorReport]
@[simp] theorem Dev.donorReport_boot (d : Dev) (c : Ctx) (idx code : Nat) :
    (d.donorReport c idx code).boot = d.boot := by simp [Dev.donorReport]
@[simp] theorem Dev.donorReport_splice (d : Dev) (c : Ctx) (idx code : Nat) :
    (d.donorReport c idx code).splice = d.splice := by simp [Dev.donorReport]
@[simp] theorem Dev.donorReport_tapes (d : Dev) (c : Ctx) (idx code : Nat) :
    (d.donorReport c idx code).tapes = d.tapes := by simp [Dev.donorReport]
@[simp] theorem Dev.donorReport_hwsA (d : Dev) (c : Ctx) (idx code : Nat) :
    (d.donorReport c idx code).hwsA = d.hwsA := by simp [Dev.donorReport]
@[simp] theorem Dev.donorReport_hwsB (d : Dev) (c : Ctx) (idx code : Nat) :
    (d.donorReport c idx code).hwsB = d.hwsB := by simp [Dev.donorReport]
@[simp] theorem Dev.donorReport_free (d : Dev) (c : Ctx) (idx code : Nat) :
    (d.donorReport c idx code).free = d.free := by simp [Dev.donorReport]

/-! ### addCand -/

@[simp] theorem Dev.addCand_use (d : Dev) (c : Ctx) (x : Cand) : (d.addCand c x).use = d.use := by
  unfold Dev.addCand; (try dsimp only); (repeat' split) <;> simp
@[simp] theorem Dev.addCand_pend (d : Dev) (c : Ctx) (x : Cand) : (d.addCand c x).pend = d.pend := by
  unfold Dev.addCand; (try dsimp only); (repeat' split) <;> simp
@[simp] theorem Dev.addCand_conv (d : Dev) (c : Ctx) (x : Cand) : (d.addCand c x).conv = d.conv := by
  unfold Dev.addCand; (try dsimp only); (repeat' split) <;> simp
@[simp] theorem Dev.addCand_lyd (d : Dev) (c : Ctx) (x : Cand) : (d.addCand c x).lyd = d.lyd := by
  unfold Dev.addCand; (try dsimp only); (repeat' split) <;> simp
@[simp] theorem Dev.addCand_plan (d : Dev) (c : Ctx) (x : Cand) : (d.addCand c x).plan = d.plan := by
  unfold Dev.addCand; (try dsimp only); (repeat' split) <;> simp
@[simp] theorem Dev.addCand_clk (d : Dev) (c : Ctx) (x : Cand) : (d.addCand c x).clk = d.clk := by
  unfold Dev.addCand; (try dsimp only); (repeat' split) <;> simp
@[simp] theorem Dev.addCand_prt (d : Dev) (c : Ctx) (x : Cand) : (d.addCand c x).prt = d.prt := by
  unfold Dev.addCand; (try dsimp only); (repeat' split) <;> simp
@[simp] theorem Dev.addCand_beams (d : Dev) (c : Ctx) (x : Cand) : (d.addCand c x).beams = d.beams := by
  unfold Dev.addCand; (try dsimp only); (repeat' split) <;> simp
@[simp] theorem Dev.addCand_can (d : Dev) (c : Ctx) (x : Cand) : (d.addCand c x).can = d.can := by
  unfold Dev.addCand; (try dsimp only); (repeat' split) <;> simp
@[simp] theorem Dev.addCand_osc (d : Dev) (c : Ctx) (x : Cand) : (d.addCand c x).osc = d.osc := by
  unfold Dev.addCand; (try dsimp only); (repeat' split) <;> simp
@[simp] theorem Dev.addCand_bel (d : Dev) (c : Ctx) (x : Cand) : (d.addCand c x).bel = d.bel := by
  unfold Dev.addCand; (try dsimp only); (repeat' split) <;> simp
@[simp] theorem Dev.addCand_book (d : Dev) (c : Ctx) (x : Cand) : (d.addCand c x).book = d.book := by
  unfold Dev.addCand; (try dsimp only); (repeat' split) <;> simp
@[simp] theorem Dev.addCand_ldl (d : Dev) (c : Ctx) (x : Cand) : (d.addCand c x).ldl = d.ldl := by
  unfold Dev.addCand; (try dsimp only); (repeat' split) <;> simp
@[simp] theorem Dev.addCand_reef (d : Dev) (c : Ctx) (x : Cand) : (d.addCand c x).reef = d.reef := by
  unfold Dev.addCand; (try dsimp only); (repeat' split) <;> simp
@[simp] theorem Dev.addCand_thm (d : Dev) (c : Ctx) (x : Cand) : (d.addCand c x).thm = d.thm := by
  unfold Dev.addCand; (try dsimp only); (repeat' split) <;> simp
@[simp] theorem Dev.addCand_mem (d : Dev) (c : Ctx) (x : Cand) : (d.addCand c x).mem = d.mem := by
  unfold Dev.addCand; (try dsimp only); (repeat' split) <;> simp
@[simp] theorem Dev.addCand_stop (d : Dev) (c : Ctx) (x : Cand) : (d.addCand c x).stop = d.stop := by
  unfold Dev.addCand; (try dsimp only); (repeat' split) <;> simp
@[simp] theorem Dev.addCand_log (d : Dev) (c : Ctx) (x : Cand) : (d.addCand c x).log = d.log := by
  unfold Dev.addCand; (try dsimp only); (repeat' split) <;> simp
@[simp] theorem Dev.addCand_qual (d : Dev) (c : Ctx) (x : Cand) : (d.addCand c x).qual = d.qual := by
  unfold Dev.addCand; (try dsimp only); (repeat' split) <;> simp
@[simp] theorem Dev.addCand_boot (d : Dev) (c : Ctx) (x : Cand) : (d.addCand c x).boot = d.boot := by
  unfold Dev.addCand; (try dsimp only); (repeat' split) <;> simp
@[simp] theorem Dev.addCand_splice (d : Dev) (c : Ctx) (x : Cand) : (d.addCand c x).splice = d.splice := by
  unfold Dev.addCand; (try dsimp only); (repeat' split) <;> simp
@[simp] theorem Dev.addCand_tapes (d : Dev) (c : Ctx) (x : Cand) : (d.addCand c x).tapes = d.tapes := by
  unfold Dev.addCand; (try dsimp only); (repeat' split) <;> simp
@[simp] theorem Dev.addCand_hwsA (d : Dev) (c : Ctx) (x : Cand) : (d.addCand c x).hwsA = d.hwsA := by
  unfold Dev.addCand; (try dsimp only); (repeat' split) <;> simp
@[simp] theorem Dev.addCand_hwsB (d : Dev) (c : Ctx) (x : Cand) : (d.addCand c x).hwsB = d.hwsB := by
  unfold Dev.addCand; (try dsimp only); (repeat' split) <;> simp
@[simp] theorem Dev.addCand_free (d : Dev) (c : Ctx) (x : Cand) : (d.addCand c x).free = d.free := by
  unfold Dev.addCand; (try dsimp only); (repeat' split) <;> simp

/-! ### setSync -/

@[simp] theorem Dev.setSync_use (d : Dev) (c : Ctx) (b : Bool) : (d.setSync c b).use = d.use := by
  unfold Dev.setSync; (try dsimp only); (repeat' split) <;> simp
@[simp] theorem Dev.setSync_pend (d : Dev) (c : Ctx) (b : Bool) : (d.setSync c b).pend = d.pend := by
  unfold Dev.setSync; (try dsimp only); (repeat' split) <;> simp
@[simp] theorem Dev.setSync_conv (d : Dev) (c : Ctx) (b : Bool) : (d.setSync c b).conv = d.conv := by
  unfold Dev.setSync; (try dsimp only); (repeat' split) <;> simp
@[simp] theorem Dev.setSync_lyd (d : Dev) (c : Ctx) (b : Bool) : (d.setSync c b).lyd = d.lyd := by
  unfold Dev.setSync; (try dsimp only); (repeat' split) <;> simp
@[simp] theorem Dev.setSync_plan (d : Dev) (c : Ctx) (b : Bool) : (d.setSync c b).plan = d.plan := by
  unfold Dev.setSync; (try dsimp only); (repeat' split) <;> simp
@[simp] theorem Dev.setSync_clk (d : Dev) (c : Ctx) (b : Bool) : (d.setSync c b).clk = d.clk := by
  unfold Dev.setSync; (try dsimp only); (repeat' split) <;> simp
@[simp] theorem Dev.setSync_beams (d : Dev) (c : Ctx) (b : Bool) : (d.setSync c b).beams = d.beams := by
  unfold Dev.setSync; (try dsimp only); (repeat' split) <;> simp
@[simp] theorem Dev.setSync_can (d : Dev) (c : Ctx) (b : Bool) : (d.setSync c b).can = d.can := by
  unfold Dev.setSync; (try dsimp only); (repeat' split) <;> simp
@[simp] theorem Dev.setSync_osc (d : Dev) (c : Ctx) (b : Bool) : (d.setSync c b).osc = d.osc := by
  unfold Dev.setSync; (try dsimp only); (repeat' split) <;> simp
@[simp] theorem Dev.setSync_bel (d : Dev) (c : Ctx) (b : Bool) : (d.setSync c b).bel = d.bel := by
  unfold Dev.setSync; (try dsimp only); (repeat' split) <;> simp
@[simp] theorem Dev.setSync_book (d : Dev) (c : Ctx) (b : Bool) : (d.setSync c b).book = d.book := by
  unfold Dev.setSync; (try dsimp only); (repeat' split) <;> simp
@[simp] theorem Dev.setSync_ldl (d : Dev) (c : Ctx) (b : Bool) : (d.setSync c b).ldl = d.ldl := by
  unfold Dev.setSync; (try dsimp only); (repeat' split) <;> simp
@[simp] theorem Dev.setSync_reef (d : Dev) (c : Ctx) (b : Bool) : (d.setSync c b).reef = d.reef := by
  unfold Dev.setSync; (try dsimp only); (repeat' split) <;> simp
@[simp] theorem Dev.setSync_thm (d : Dev) (c : Ctx) (b : Bool) : (d.setSync c b).thm = d.thm := by
  unfold Dev.setSync; (try dsimp only); (repeat' split) <;> simp
@[simp] theorem Dev.setSync_mem (d : Dev) (c : Ctx) (b : Bool) : (d.setSync c b).mem = d.mem := by
  unfold Dev.setSync; (try dsimp only); (repeat' split) <;> simp
@[simp] theorem Dev.setSync_stop (d : Dev) (c : Ctx) (b : Bool) : (d.setSync c b).stop = d.stop := by
  unfold Dev.setSync; (try dsimp only); (repeat' split) <;> simp
@[simp] theorem Dev.setSync_log (d : Dev) (c : Ctx) (b : Bool) : (d.setSync c b).log = d.log := by
  unfold Dev.setSync; (try dsimp only); (repeat' split) <;> simp
@[simp] theorem Dev.setSync_host (d : Dev) (c : Ctx) (b : Bool) : (d.setSync c b).host = d.host := by
  unfold Dev.setSync; (try dsimp only); (repeat' split) <;> simp
@[simp] theorem Dev.setSync_qual (d : Dev) (c : Ctx) (b : Bool) : (d.setSync c b).qual = d.qual := by
  unfold Dev.setSync; (try dsimp only); (repeat' split) <;> simp
@[simp] theorem Dev.setSync_boot (d : Dev) (c : Ctx) (b : Bool) : (d.setSync c b).boot = d.boot := by
  unfold Dev.setSync; (try dsimp only); (repeat' split) <;> simp
@[simp] theorem Dev.setSync_splice (d : Dev) (c : Ctx) (b : Bool) : (d.setSync c b).splice = d.splice := by
  unfold Dev.setSync; (try dsimp only); (repeat' split) <;> simp
@[simp] theorem Dev.setSync_tapes (d : Dev) (c : Ctx) (b : Bool) : (d.setSync c b).tapes = d.tapes := by
  unfold Dev.setSync; (try dsimp only); (repeat' split) <;> simp
@[simp] theorem Dev.setSync_hwsA (d : Dev) (c : Ctx) (b : Bool) : (d.setSync c b).hwsA = d.hwsA := by
  unfold Dev.setSync; (try dsimp only); (repeat' split) <;> simp
@[simp] theorem Dev.setSync_hwsB (d : Dev) (c : Ctx) (b : Bool) : (d.setSync c b).hwsB = d.hwsB := by
  unfold Dev.setSync; (try dsimp only); (repeat' split) <;> simp
@[simp] theorem Dev.setSync_free (d : Dev) (c : Ctx) (b : Bool) : (d.setSync c b).free = d.free := by
  unfold Dev.setSync; (try dsimp only); (repeat' split) <;> simp

/-! ### ptrTo -/

@[simp] theorem Dev.ptrTo_use (d : Dev) (c : Ctx) (st : PtrState) : (d.ptrTo c st).use = d.use := by
  unfold Dev.ptrTo; (try dsimp only); (repeat' split) <;> simp
@[simp] theorem Dev.ptrTo_pend (d : Dev) (c : Ctx) (st : PtrState) : (d.ptrTo c st).pend = d.pend := by
  unfold Dev.ptrTo; (try dsimp only); (repeat' split) <;> simp
@[simp] theorem Dev.ptrTo_conv (d : Dev) (c : Ctx) (st : PtrState) : (d.ptrTo c st).conv = d.conv := by
  unfold Dev.ptrTo; (try dsimp only); (repeat' split) <;> simp
@[simp] theorem Dev.ptrTo_lyd (d : Dev) (c : Ctx) (st : PtrState) : (d.ptrTo c st).lyd = d.lyd := by
  unfold Dev.ptrTo; (try dsimp only); (repeat' split) <;> simp
@[simp] theorem Dev.ptrTo_plan (d : Dev) (c : Ctx) (st : PtrState) : (d.ptrTo c st).plan = d.plan := by
  unfold Dev.ptrTo; (try dsimp only); (repeat' split) <;> simp
@[simp] theorem Dev.ptrTo_clk (d : Dev) (c : Ctx) (st : PtrState) : (d.ptrTo c st).clk = d.clk := by
  unfold Dev.ptrTo; (try dsimp only); (repeat' split) <;> simp
@[simp] theorem Dev.ptrTo_prt (d : Dev) (c : Ctx) (st : PtrState) : (d.ptrTo c st).prt = d.prt := by
  unfold Dev.ptrTo; (try dsimp only); (repeat' split) <;> simp
@[simp] theorem Dev.ptrTo_beams (d : Dev) (c : Ctx) (st : PtrState) : (d.ptrTo c st).beams = d.beams := by
  unfold Dev.ptrTo; (try dsimp only); (repeat' split) <;> simp
@[simp] theorem Dev.ptrTo_can (d : Dev) (c : Ctx) (st : PtrState) : (d.ptrTo c st).can = d.can := by
  unfold Dev.ptrTo; (try dsimp only); (repeat' split) <;> simp
@[simp] theorem Dev.ptrTo_osc (d : Dev) (c : Ctx) (st : PtrState) : (d.ptrTo c st).osc = d.osc := by
  unfold Dev.ptrTo; (try dsimp only); (repeat' split) <;> simp
@[simp] theorem Dev.ptrTo_bel (d : Dev) (c : Ctx) (st : PtrState) : (d.ptrTo c st).bel = d.bel := by
  unfold Dev.ptrTo; (try dsimp only); (repeat' split) <;> simp
@[simp] theorem Dev.ptrTo_book (d : Dev) (c : Ctx) (st : PtrState) : (d.ptrTo c st).book = d.book := by
  unfold Dev.ptrTo; (try dsimp only); (repeat' split) <;> simp
@[simp] theorem Dev.ptrTo_ldl (d : Dev) (c : Ctx) (st : PtrState) : (d.ptrTo c st).ldl = d.ldl := by
  unfold Dev.ptrTo; (try dsimp only); (repeat' split) <;> simp
@[simp] theorem Dev.ptrTo_reef (d : Dev) (c : Ctx) (st : PtrState) : (d.ptrTo c st).reef = d.reef := by
  unfold Dev.ptrTo; (try dsimp only); (repeat' split) <;> simp
@[simp] theorem Dev.ptrTo_thm (d : Dev) (c : Ctx) (st : PtrState) : (d.ptrTo c st).thm = d.thm := by
  unfold Dev.ptrTo; (try dsimp only); (repeat' split) <;> simp
@[simp] theorem Dev.ptrTo_mem (d : Dev) (c : Ctx) (st : PtrState) : (d.ptrTo c st).mem = d.mem := by
  unfold Dev.ptrTo; (try dsimp only); (repeat' split) <;> simp
@[simp] theorem Dev.ptrTo_stop (d : Dev) (c : Ctx) (st : PtrState) : (d.ptrTo c st).stop = d.stop := by
  unfold Dev.ptrTo; (try dsimp only); (repeat' split) <;> simp
@[simp] theorem Dev.ptrTo_log (d : Dev) (c : Ctx) (st : PtrState) : (d.ptrTo c st).log = d.log := by
  unfold Dev.ptrTo; (try dsimp only); (repeat' split) <;> simp
@[simp] theorem Dev.ptrTo_qual (d : Dev) (c : Ctx) (st : PtrState) : (d.ptrTo c st).qual = d.qual := by
  unfold Dev.ptrTo; (try dsimp only); (repeat' split) <;> simp
@[simp] theorem Dev.ptrTo_boot (d : Dev) (c : Ctx) (st : PtrState) : (d.ptrTo c st).boot = d.boot := by
  unfold Dev.ptrTo; (try dsimp only); (repeat' split) <;> simp
@[simp] theorem Dev.ptrTo_splice (d : Dev) (c : Ctx) (st : PtrState) : (d.ptrTo c st).splice = d.splice := by
  unfold Dev.ptrTo; (try dsimp only); (repeat' split) <;> simp
@[simp] theorem Dev.ptrTo_tapes (d : Dev) (c : Ctx) (st : PtrState) : (d.ptrTo c st).tapes = d.tapes := by
  unfold Dev.ptrTo; (try dsimp only); (repeat' split) <;> simp
@[simp] theorem Dev.ptrTo_hwsA (d : Dev) (c : Ctx) (st : PtrState) : (d.ptrTo c st).hwsA = d.hwsA := by
  unfold Dev.ptrTo; (try dsimp only); (repeat' split) <;> simp
@[simp] theorem Dev.ptrTo_hwsB (d : Dev) (c : Ctx) (st : PtrState) : (d.ptrTo c st).hwsB = d.hwsB := by
  unfold Dev.ptrTo; (try dsimp only); (repeat' split) <;> simp
@[simp] theorem Dev.ptrTo_free (d : Dev) (c : Ctx) (st : PtrState) : (d.ptrTo c st).free = d.free := by
  unfold Dev.ptrTo; (try dsimp only); (repeat' split) <;> simp

/-! ### lockTo -/

@[simp] theorem Dev.lockTo_use (d : Dev) (c : Ctx) (x : Cand) (freq : Int) : (d.lockTo c x freq).use = d.use := by
  simp [Dev.lockTo]
@[simp] theorem Dev.lockTo_pend (d : Dev) (c : Ctx) (x : Cand) (freq : Int) : (d.lockTo c x freq).pend = d.pend := by
  simp [Dev.lockTo]
@[simp] theorem Dev.lockTo_conv (d : Dev) (c : Ctx) (x : Cand) (freq : Int) : (d.lockTo c x freq).conv = d.conv := by
  simp [Dev.lockTo]
@[simp] theorem Dev.lockTo_lyd (d : Dev) (c : Ctx) (x : Cand) (freq : Int) : (d.lockTo c x freq).lyd = d.lyd := by
  simp [Dev.lockTo]
@[simp] theorem Dev.lockTo_plan (d : Dev) (c : Ctx) (x : Cand) (freq : Int) : (d.lockTo c x freq).plan = d.plan := by
  simp [Dev.lockTo]
@[simp] theorem Dev.lockTo_clk (d : Dev) (c : Ctx) (x : Cand) (freq : Int) : (d.lockTo c x freq).clk = d.clk := by
  simp [Dev.lockTo]
@[simp] theorem Dev.lockTo_prt (d : Dev) (c : Ctx) (x : Cand) (freq : Int) : (d.lockTo c x freq).prt = d.prt := by
  simp [Dev.lockTo]
@[simp] theorem Dev.lockTo_beams (d : Dev) (c : Ctx) (x : Cand) (freq : Int) :
    (d.lockTo c x freq).beams = d.beams := by simp [Dev.lockTo]
@[simp] theorem Dev.lockTo_can (d : Dev) (c : Ctx) (x : Cand) (freq : Int) : (d.lockTo c x freq).can = d.can := by
  simp [Dev.lockTo]
@[simp] theorem Dev.lockTo_osc (d : Dev) (c : Ctx) (x : Cand) (freq : Int) : (d.lockTo c x freq).osc = d.osc := by
  simp [Dev.lockTo]
@[simp] theorem Dev.lockTo_bel (d : Dev) (c : Ctx) (x : Cand) (freq : Int) : (d.lockTo c x freq).bel = d.bel := by
  simp [Dev.lockTo]
@[simp] theorem Dev.lockTo_book (d : Dev) (c : Ctx) (x : Cand) (freq : Int) : (d.lockTo c x freq).book = d.book := by
  simp [Dev.lockTo]
@[simp] theorem Dev.lockTo_ldl (d : Dev) (c : Ctx) (x : Cand) (freq : Int) : (d.lockTo c x freq).ldl = d.ldl := by
  simp [Dev.lockTo]
@[simp] theorem Dev.lockTo_reef (d : Dev) (c : Ctx) (x : Cand) (freq : Int) : (d.lockTo c x freq).reef = d.reef := by
  simp [Dev.lockTo]
@[simp] theorem Dev.lockTo_thm (d : Dev) (c : Ctx) (x : Cand) (freq : Int) : (d.lockTo c x freq).thm = d.thm := by
  simp [Dev.lockTo]
@[simp] theorem Dev.lockTo_mem (d : Dev) (c : Ctx) (x : Cand) (freq : Int) : (d.lockTo c x freq).mem = d.mem := by
  simp [Dev.lockTo]
@[simp] theorem Dev.lockTo_stop (d : Dev) (c : Ctx) (x : Cand) (freq : Int) : (d.lockTo c x freq).stop = d.stop := by
  simp [Dev.lockTo]
@[simp] theorem Dev.lockTo_log (d : Dev) (c : Ctx) (x : Cand) (freq : Int) : (d.lockTo c x freq).log = d.log := by
  simp [Dev.lockTo]
@[simp] theorem Dev.lockTo_qual (d : Dev) (c : Ctx) (x : Cand) (freq : Int) : (d.lockTo c x freq).qual = d.qual := by
  simp [Dev.lockTo]
@[simp] theorem Dev.lockTo_boot (d : Dev) (c : Ctx) (x : Cand) (freq : Int) : (d.lockTo c x freq).boot = d.boot := by
  simp [Dev.lockTo]
@[simp] theorem Dev.lockTo_splice (d : Dev) (c : Ctx) (x : Cand) (freq : Int) :
    (d.lockTo c x freq).splice = d.splice := by simp [Dev.lockTo]
@[simp] theorem Dev.lockTo_tapes (d : Dev) (c : Ctx) (x : Cand) (freq : Int) :
    (d.lockTo c x freq).tapes = d.tapes := by simp [Dev.lockTo]
@[simp] theorem Dev.lockTo_hwsA (d : Dev) (c : Ctx) (x : Cand) (freq : Int) : (d.lockTo c x freq).hwsA = d.hwsA := by
  simp [Dev.lockTo]
@[simp] theorem Dev.lockTo_hwsB (d : Dev) (c : Ctx) (x : Cand) (freq : Int) : (d.lockTo c x freq).hwsB = d.hwsB := by
  simp [Dev.lockTo]
@[simp] theorem Dev.lockTo_free (d : Dev) (c : Ctx) (x : Cand) (freq : Int) : (d.lockTo c x freq).free = d.free := by
  simp [Dev.lockTo]

/-! ### trackCell -/

@[simp] theorem Dev.trackCell_use (d : Dev) (c : Ctx) (o : Occasion) : (d.trackCell c o).use = d.use := by
  unfold Dev.trackCell; (try dsimp only); (repeat' split) <;> simp
@[simp] theorem Dev.trackCell_pend (d : Dev) (c : Ctx) (o : Occasion) : (d.trackCell c o).pend = d.pend := by
  unfold Dev.trackCell; (try dsimp only); (repeat' split) <;> simp
@[simp] theorem Dev.trackCell_conv (d : Dev) (c : Ctx) (o : Occasion) : (d.trackCell c o).conv = d.conv := by
  unfold Dev.trackCell; (try dsimp only); (repeat' split) <;> simp
@[simp] theorem Dev.trackCell_lyd (d : Dev) (c : Ctx) (o : Occasion) : (d.trackCell c o).lyd = d.lyd := by
  unfold Dev.trackCell; (try dsimp only); (repeat' split) <;> simp
@[simp] theorem Dev.trackCell_plan (d : Dev) (c : Ctx) (o : Occasion) : (d.trackCell c o).plan = d.plan := by
  unfold Dev.trackCell; (try dsimp only); (repeat' split) <;> simp
@[simp] theorem Dev.trackCell_clk (d : Dev) (c : Ctx) (o : Occasion) : (d.trackCell c o).clk = d.clk := by
  unfold Dev.trackCell; (try dsimp only); (repeat' split) <;> simp
@[simp] theorem Dev.trackCell_prt (d : Dev) (c : Ctx) (o : Occasion) : (d.trackCell c o).prt = d.prt := by
  unfold Dev.trackCell; (try dsimp only); (repeat' split) <;> simp
@[simp] theorem Dev.trackCell_beams (d : Dev) (c : Ctx) (o : Occasion) : (d.trackCell c o).beams = d.beams := by
  unfold Dev.trackCell; (try dsimp only); (repeat' split) <;> simp
@[simp] theorem Dev.trackCell_can (d : Dev) (c : Ctx) (o : Occasion) : (d.trackCell c o).can = d.can := by
  unfold Dev.trackCell; (try dsimp only); (repeat' split) <;> simp
@[simp] theorem Dev.trackCell_osc (d : Dev) (c : Ctx) (o : Occasion) : (d.trackCell c o).osc = d.osc := by
  unfold Dev.trackCell; (try dsimp only); (repeat' split) <;> simp
@[simp] theorem Dev.trackCell_bel (d : Dev) (c : Ctx) (o : Occasion) : (d.trackCell c o).bel = d.bel := by
  unfold Dev.trackCell; (try dsimp only); (repeat' split) <;> simp
@[simp] theorem Dev.trackCell_book (d : Dev) (c : Ctx) (o : Occasion) : (d.trackCell c o).book = d.book := by
  unfold Dev.trackCell; (try dsimp only); (repeat' split) <;> simp
@[simp] theorem Dev.trackCell_ldl (d : Dev) (c : Ctx) (o : Occasion) : (d.trackCell c o).ldl = d.ldl := by
  unfold Dev.trackCell; (try dsimp only); (repeat' split) <;> simp
@[simp] theorem Dev.trackCell_reef (d : Dev) (c : Ctx) (o : Occasion) : (d.trackCell c o).reef = d.reef := by
  unfold Dev.trackCell; (try dsimp only); (repeat' split) <;> simp
@[simp] theorem Dev.trackCell_thm (d : Dev) (c : Ctx) (o : Occasion) : (d.trackCell c o).thm = d.thm := by
  unfold Dev.trackCell; (try dsimp only); (repeat' split) <;> simp
@[simp] theorem Dev.trackCell_mem (d : Dev) (c : Ctx) (o : Occasion) : (d.trackCell c o).mem = d.mem := by
  unfold Dev.trackCell; (try dsimp only); (repeat' split) <;> simp
@[simp] theorem Dev.trackCell_stop (d : Dev) (c : Ctx) (o : Occasion) : (d.trackCell c o).stop = d.stop := by
  unfold Dev.trackCell; (try dsimp only); (repeat' split) <;> simp
@[simp] theorem Dev.trackCell_log (d : Dev) (c : Ctx) (o : Occasion) : (d.trackCell c o).log = d.log := by
  unfold Dev.trackCell; (try dsimp only); (repeat' split) <;> simp
@[simp] theorem Dev.trackCell_qual (d : Dev) (c : Ctx) (o : Occasion) : (d.trackCell c o).qual = d.qual := by
  unfold Dev.trackCell; (try dsimp only); (repeat' split) <;> simp
@[simp] theorem Dev.trackCell_boot (d : Dev) (c : Ctx) (o : Occasion) : (d.trackCell c o).boot = d.boot := by
  unfold Dev.trackCell; (try dsimp only); (repeat' split) <;> simp
@[simp] theorem Dev.trackCell_splice (d : Dev) (c : Ctx) (o : Occasion) : (d.trackCell c o).splice = d.splice := by
  unfold Dev.trackCell; (try dsimp only); (repeat' split) <;> simp
@[simp] theorem Dev.trackCell_tapes (d : Dev) (c : Ctx) (o : Occasion) : (d.trackCell c o).tapes = d.tapes := by
  unfold Dev.trackCell; (try dsimp only); (repeat' split) <;> simp
@[simp] theorem Dev.trackCell_hwsA (d : Dev) (c : Ctx) (o : Occasion) : (d.trackCell c o).hwsA = d.hwsA := by
  unfold Dev.trackCell; (try dsimp only); (repeat' split) <;> simp
@[simp] theorem Dev.trackCell_hwsB (d : Dev) (c : Ctx) (o : Occasion) : (d.trackCell c o).hwsB = d.hwsB := by
  unfold Dev.trackCell; (try dsimp only); (repeat' split) <;> simp
@[simp] theorem Dev.trackCell_free (d : Dev) (c : Ctx) (o : Occasion) : (d.trackCell c o).free = d.free := by
  unfold Dev.trackCell; (try dsimp only); (repeat' split) <;> simp

/-! ### trackDonor -/

@[simp] theorem Dev.trackDonor_use (d : Dev) (c : Ctx) (o : Occasion) : (d.trackDonor c o).use = d.use := by
  unfold Dev.trackDonor; (try dsimp only); (repeat' split) <;> simp
@[simp] theorem Dev.trackDonor_pend (d : Dev) (c : Ctx) (o : Occasion) : (d.trackDonor c o).pend = d.pend := by
  unfold Dev.trackDonor; (try dsimp only); (repeat' split) <;> simp
@[simp] theorem Dev.trackDonor_conv (d : Dev) (c : Ctx) (o : Occasion) : (d.trackDonor c o).conv = d.conv := by
  unfold Dev.trackDonor; (try dsimp only); (repeat' split) <;> simp
@[simp] theorem Dev.trackDonor_lyd (d : Dev) (c : Ctx) (o : Occasion) : (d.trackDonor c o).lyd = d.lyd := by
  unfold Dev.trackDonor; (try dsimp only); (repeat' split) <;> simp
@[simp] theorem Dev.trackDonor_plan (d : Dev) (c : Ctx) (o : Occasion) : (d.trackDonor c o).plan = d.plan := by
  unfold Dev.trackDonor; (try dsimp only); (repeat' split) <;> simp
@[simp] theorem Dev.trackDonor_clk (d : Dev) (c : Ctx) (o : Occasion) : (d.trackDonor c o).clk = d.clk := by
  unfold Dev.trackDonor; (try dsimp only); (repeat' split) <;> simp
@[simp] theorem Dev.trackDonor_prt (d : Dev) (c : Ctx) (o : Occasion) : (d.trackDonor c o).prt = d.prt := by
  unfold Dev.trackDonor; (try dsimp only); (repeat' split) <;> simp
@[simp] theorem Dev.trackDonor_beams (d : Dev) (c : Ctx) (o : Occasion) : (d.trackDonor c o).beams = d.beams := by
  unfold Dev.trackDonor; (try dsimp only); (repeat' split) <;> simp
@[simp] theorem Dev.trackDonor_can (d : Dev) (c : Ctx) (o : Occasion) : (d.trackDonor c o).can = d.can := by
  unfold Dev.trackDonor; (try dsimp only); (repeat' split) <;> simp
@[simp] theorem Dev.trackDonor_osc (d : Dev) (c : Ctx) (o : Occasion) : (d.trackDonor c o).osc = d.osc := by
  unfold Dev.trackDonor; (try dsimp only); (repeat' split) <;> simp
@[simp] theorem Dev.trackDonor_bel (d : Dev) (c : Ctx) (o : Occasion) : (d.trackDonor c o).bel = d.bel := by
  unfold Dev.trackDonor; (try dsimp only); (repeat' split) <;> simp
@[simp] theorem Dev.trackDonor_book (d : Dev) (c : Ctx) (o : Occasion) : (d.trackDonor c o).book = d.book := by
  unfold Dev.trackDonor; (try dsimp only); (repeat' split) <;> simp
@[simp] theorem Dev.trackDonor_ldl (d : Dev) (c : Ctx) (o : Occasion) : (d.trackDonor c o).ldl = d.ldl := by
  unfold Dev.trackDonor; (try dsimp only); (repeat' split) <;> simp
@[simp] theorem Dev.trackDonor_reef (d : Dev) (c : Ctx) (o : Occasion) : (d.trackDonor c o).reef = d.reef := by
  unfold Dev.trackDonor; (try dsimp only); (repeat' split) <;> simp
@[simp] theorem Dev.trackDonor_thm (d : Dev) (c : Ctx) (o : Occasion) : (d.trackDonor c o).thm = d.thm := by
  unfold Dev.trackDonor; (try dsimp only); (repeat' split) <;> simp
@[simp] theorem Dev.trackDonor_mem (d : Dev) (c : Ctx) (o : Occasion) : (d.trackDonor c o).mem = d.mem := by
  unfold Dev.trackDonor; (try dsimp only); (repeat' split) <;> simp
@[simp] theorem Dev.trackDonor_stop (d : Dev) (c : Ctx) (o : Occasion) : (d.trackDonor c o).stop = d.stop := by
  unfold Dev.trackDonor; (try dsimp only); (repeat' split) <;> simp
@[simp] theorem Dev.trackDonor_log (d : Dev) (c : Ctx) (o : Occasion) : (d.trackDonor c o).log = d.log := by
  unfold Dev.trackDonor; (try dsimp only); (repeat' split) <;> simp
@[simp] theorem Dev.trackDonor_qual (d : Dev) (c : Ctx) (o : Occasion) : (d.trackDonor c o).qual = d.qual := by
  unfold Dev.trackDonor; (try dsimp only); (repeat' split) <;> simp
@[simp] theorem Dev.trackDonor_boot (d : Dev) (c : Ctx) (o : Occasion) : (d.trackDonor c o).boot = d.boot := by
  unfold Dev.trackDonor; (try dsimp only); (repeat' split) <;> simp
@[simp] theorem Dev.trackDonor_splice (d : Dev) (c : Ctx) (o : Occasion) : (d.trackDonor c o).splice = d.splice := by
  unfold Dev.trackDonor; (try dsimp only); (repeat' split) <;> simp
@[simp] theorem Dev.trackDonor_tapes (d : Dev) (c : Ctx) (o : Occasion) : (d.trackDonor c o).tapes = d.tapes := by
  unfold Dev.trackDonor; (try dsimp only); (repeat' split) <;> simp
@[simp] theorem Dev.trackDonor_hwsA (d : Dev) (c : Ctx) (o : Occasion) : (d.trackDonor c o).hwsA = d.hwsA := by
  unfold Dev.trackDonor; (try dsimp only); (repeat' split) <;> simp
@[simp] theorem Dev.trackDonor_hwsB (d : Dev) (c : Ctx) (o : Occasion) : (d.trackDonor c o).hwsB = d.hwsB := by
  unfold Dev.trackDonor; (try dsimp only); (repeat' split) <;> simp
@[simp] theorem Dev.trackDonor_free (d : Dev) (c : Ctx) (o : Occasion) : (d.trackDonor c o).free = d.free := by
  unfold Dev.trackDonor; (try dsimp only); (repeat' split) <;> simp

/-! ### askSync -/

@[simp] theorem Dev.askSync_use (d : Dev) (tick : Nat) : (d.askSync tick).use = d.use := by
  unfold Dev.askSync; (try dsimp only); (repeat' split) <;> simp
@[simp] theorem Dev.askSync_pend (d : Dev) (tick : Nat) : (d.askSync tick).pend = d.pend := by
  unfold Dev.askSync; (try dsimp only); (repeat' split) <;> simp
@[simp] theorem Dev.askSync_ptr (d : Dev) (tick : Nat) : (d.askSync tick).ptr = d.ptr := by
  unfold Dev.askSync; (try dsimp only); (repeat' split) <;> simp
@[simp] theorem Dev.askSync_lyd (d : Dev) (tick : Nat) : (d.askSync tick).lyd = d.lyd := by
  unfold Dev.askSync; (try dsimp only); (repeat' split) <;> simp
@[simp] theorem Dev.askSync_plan (d : Dev) (tick : Nat) : (d.askSync tick).plan = d.plan := by
  unfold Dev.askSync; (try dsimp only); (repeat' split) <;> simp
@[simp] theorem Dev.askSync_clk (d : Dev) (tick : Nat) : (d.askSync tick).clk = d.clk := by
  unfold Dev.askSync; (try dsimp only); (repeat' split) <;> simp
@[simp] theorem Dev.askSync_prt (d : Dev) (tick : Nat) : (d.askSync tick).prt = d.prt := by
  unfold Dev.askSync; (try dsimp only); (repeat' split) <;> simp
@[simp] theorem Dev.askSync_beams (d : Dev) (tick : Nat) : (d.askSync tick).beams = d.beams := by
  unfold Dev.askSync; (try dsimp only); (repeat' split) <;> simp
@[simp] theorem Dev.askSync_can (d : Dev) (tick : Nat) : (d.askSync tick).can = d.can := by
  unfold Dev.askSync; (try dsimp only); (repeat' split) <;> simp
@[simp] theorem Dev.askSync_osc (d : Dev) (tick : Nat) : (d.askSync tick).osc = d.osc := by
  unfold Dev.askSync; (try dsimp only); (repeat' split) <;> simp
@[simp] theorem Dev.askSync_bel (d : Dev) (tick : Nat) : (d.askSync tick).bel = d.bel := by
  unfold Dev.askSync; (try dsimp only); (repeat' split) <;> simp
@[simp] theorem Dev.askSync_book (d : Dev) (tick : Nat) : (d.askSync tick).book = d.book := by
  unfold Dev.askSync; (try dsimp only); (repeat' split) <;> simp
@[simp] theorem Dev.askSync_ldl (d : Dev) (tick : Nat) : (d.askSync tick).ldl = d.ldl := by
  unfold Dev.askSync; (try dsimp only); (repeat' split) <;> simp
@[simp] theorem Dev.askSync_reef (d : Dev) (tick : Nat) : (d.askSync tick).reef = d.reef := by
  unfold Dev.askSync; (try dsimp only); (repeat' split) <;> simp
@[simp] theorem Dev.askSync_thm (d : Dev) (tick : Nat) : (d.askSync tick).thm = d.thm := by
  unfold Dev.askSync; (try dsimp only); (repeat' split) <;> simp
@[simp] theorem Dev.askSync_mem (d : Dev) (tick : Nat) : (d.askSync tick).mem = d.mem := by
  unfold Dev.askSync; (try dsimp only); (repeat' split) <;> simp
@[simp] theorem Dev.askSync_stop (d : Dev) (tick : Nat) : (d.askSync tick).stop = d.stop := by
  unfold Dev.askSync; (try dsimp only); (repeat' split) <;> simp
@[simp] theorem Dev.askSync_log (d : Dev) (tick : Nat) : (d.askSync tick).log = d.log := by
  unfold Dev.askSync; (try dsimp only); (repeat' split) <;> simp
@[simp] theorem Dev.askSync_host (d : Dev) (tick : Nat) : (d.askSync tick).host = d.host := by
  unfold Dev.askSync; (try dsimp only); (repeat' split) <;> simp
@[simp] theorem Dev.askSync_qual (d : Dev) (tick : Nat) : (d.askSync tick).qual = d.qual := by
  unfold Dev.askSync; (try dsimp only); (repeat' split) <;> simp
@[simp] theorem Dev.askSync_boot (d : Dev) (tick : Nat) : (d.askSync tick).boot = d.boot := by
  unfold Dev.askSync; (try dsimp only); (repeat' split) <;> simp
@[simp] theorem Dev.askSync_tapes (d : Dev) (tick : Nat) : (d.askSync tick).tapes = d.tapes := by
  unfold Dev.askSync; (try dsimp only); (repeat' split) <;> simp
@[simp] theorem Dev.askSync_hwsA (d : Dev) (tick : Nat) : (d.askSync tick).hwsA = d.hwsA := by
  unfold Dev.askSync; (try dsimp only); (repeat' split) <;> simp
@[simp] theorem Dev.askSync_hwsB (d : Dev) (tick : Nat) : (d.askSync tick).hwsB = d.hwsB := by
  unfold Dev.askSync; (try dsimp only); (repeat' split) <;> simp
@[simp] theorem Dev.askSync_free (d : Dev) (tick : Nat) : (d.askSync tick).free = d.free := by
  unfold Dev.askSync; (try dsimp only); (repeat' split) <;> simp

/-! ### postCalSync -/

@[simp] theorem Dev.postCalSync_use (d : Dev) (n : Nat) : (d.postCalSync n).use = d.use := by
  unfold Dev.postCalSync; (try dsimp only); (repeat' split) <;> simp
@[simp] theorem Dev.postCalSync_pend (d : Dev) (n : Nat) : (d.postCalSync n).pend = d.pend := by
  unfold Dev.postCalSync; (try dsimp only); (repeat' split) <;> simp
@[simp] theorem Dev.postCalSync_ptr (d : Dev) (n : Nat) : (d.postCalSync n).ptr = d.ptr := by
  unfold Dev.postCalSync; (try dsimp only); (repeat' split) <;> simp
@[simp] theorem Dev.postCalSync_lyd (d : Dev) (n : Nat) : (d.postCalSync n).lyd = d.lyd := by
  unfold Dev.postCalSync; (try dsimp only); (repeat' split) <;> simp
@[simp] theorem Dev.postCalSync_plan (d : Dev) (n : Nat) : (d.postCalSync n).plan = d.plan := by
  unfold Dev.postCalSync; (try dsimp only); (repeat' split) <;> simp
@[simp] theorem Dev.postCalSync_clk (d : Dev) (n : Nat) : (d.postCalSync n).clk = d.clk := by
  unfold Dev.postCalSync; (try dsimp only); (repeat' split) <;> simp
@[simp] theorem Dev.postCalSync_prt (d : Dev) (n : Nat) : (d.postCalSync n).prt = d.prt := by
  unfold Dev.postCalSync; (try dsimp only); (repeat' split) <;> simp
@[simp] theorem Dev.postCalSync_beams (d : Dev) (n : Nat) : (d.postCalSync n).beams = d.beams := by
  unfold Dev.postCalSync; (try dsimp only); (repeat' split) <;> simp
@[simp] theorem Dev.postCalSync_can (d : Dev) (n : Nat) : (d.postCalSync n).can = d.can := by
  unfold Dev.postCalSync; (try dsimp only); (repeat' split) <;> simp
@[simp] theorem Dev.postCalSync_osc (d : Dev) (n : Nat) : (d.postCalSync n).osc = d.osc := by
  unfold Dev.postCalSync; (try dsimp only); (repeat' split) <;> simp
@[simp] theorem Dev.postCalSync_bel (d : Dev) (n : Nat) : (d.postCalSync n).bel = d.bel := by
  unfold Dev.postCalSync; (try dsimp only); (repeat' split) <;> simp
@[simp] theorem Dev.postCalSync_book (d : Dev) (n : Nat) : (d.postCalSync n).book = d.book := by
  unfold Dev.postCalSync; (try dsimp only); (repeat' split) <;> simp
@[simp] theorem Dev.postCalSync_ldl (d : Dev) (n : Nat) : (d.postCalSync n).ldl = d.ldl := by
  unfold Dev.postCalSync; (try dsimp only); (repeat' split) <;> simp
@[simp] theorem Dev.postCalSync_reef (d : Dev) (n : Nat) : (d.postCalSync n).reef = d.reef := by
  unfold Dev.postCalSync; (try dsimp only); (repeat' split) <;> simp
@[simp] theorem Dev.postCalSync_thm (d : Dev) (n : Nat) : (d.postCalSync n).thm = d.thm := by
  unfold Dev.postCalSync; (try dsimp only); (repeat' split) <;> simp
@[simp] theorem Dev.postCalSync_mem (d : Dev) (n : Nat) : (d.postCalSync n).mem = d.mem := by
  unfold Dev.postCalSync; (try dsimp only); (repeat' split) <;> simp
@[simp] theorem Dev.postCalSync_stop (d : Dev) (n : Nat) : (d.postCalSync n).stop = d.stop := by
  unfold Dev.postCalSync; (try dsimp only); (repeat' split) <;> simp
@[simp] theorem Dev.postCalSync_log (d : Dev) (n : Nat) : (d.postCalSync n).log = d.log := by
  unfold Dev.postCalSync; (try dsimp only); (repeat' split) <;> simp
@[simp] theorem Dev.postCalSync_host (d : Dev) (n : Nat) : (d.postCalSync n).host = d.host := by
  unfold Dev.postCalSync; (try dsimp only); (repeat' split) <;> simp
@[simp] theorem Dev.postCalSync_qual (d : Dev) (n : Nat) : (d.postCalSync n).qual = d.qual := by
  unfold Dev.postCalSync; (try dsimp only); (repeat' split) <;> simp
@[simp] theorem Dev.postCalSync_boot (d : Dev) (n : Nat) : (d.postCalSync n).boot = d.boot := by
  unfold Dev.postCalSync; (try dsimp only); (repeat' split) <;> simp
@[simp] theorem Dev.postCalSync_tapes (d : Dev) (n : Nat) : (d.postCalSync n).tapes = d.tapes := by
  unfold Dev.postCalSync; (try dsimp only); (repeat' split) <;> simp
@[simp] theorem Dev.postCalSync_hwsA (d : Dev) (n : Nat) : (d.postCalSync n).hwsA = d.hwsA := by
  unfold Dev.postCalSync; (try dsimp only); (repeat' split) <;> simp
@[simp] theorem Dev.postCalSync_hwsB (d : Dev) (n : Nat) : (d.postCalSync n).hwsB = d.hwsB := by
  unfold Dev.postCalSync; (try dsimp only); (repeat' split) <;> simp
@[simp] theorem Dev.postCalSync_free (d : Dev) (n : Nat) : (d.postCalSync n).free = d.free := by
  unfold Dev.postCalSync; (try dsimp only); (repeat' split) <;> simp

/-! ### mergeReport -/

@[simp] theorem Dev.mergeReport_use (d : Dev) (c : Ctx) (modId : Nat) (r : CandReport) :
    (d.mergeReport c modId r).use = d.use := by unfold Dev.mergeReport; (try dsimp only); (repeat' split) <;> simp
@[simp] theorem Dev.mergeReport_pend (d : Dev) (c : Ctx) (modId : Nat) (r : CandReport) :
    (d.mergeReport c modId r).pend = d.pend := by unfold Dev.mergeReport; (try dsimp only); (repeat' split) <;> simp
@[simp] theorem Dev.mergeReport_conv (d : Dev) (c : Ctx) (modId : Nat) (r : CandReport) :
    (d.mergeReport c modId r).conv = d.conv := by unfold Dev.mergeReport; (try dsimp only); (repeat' split) <;> simp
@[simp] theorem Dev.mergeReport_lyd (d : Dev) (c : Ctx) (modId : Nat) (r : CandReport) :
    (d.mergeReport c modId r).lyd = d.lyd := by unfold Dev.mergeReport; (try dsimp only); (repeat' split) <;> simp
@[simp] theorem Dev.mergeReport_plan (d : Dev) (c : Ctx) (modId : Nat) (r : CandReport) :
    (d.mergeReport c modId r).plan = d.plan := by unfold Dev.mergeReport; (try dsimp only); (repeat' split) <;> simp
@[simp] theorem Dev.mergeReport_clk (d : Dev) (c : Ctx) (modId : Nat) (r : CandReport) :
    (d.mergeReport c modId r).clk = d.clk := by unfold Dev.mergeReport; (try dsimp only); (repeat' split) <;> simp
@[simp] theorem Dev.mergeReport_prt (d : Dev) (c : Ctx) (modId : Nat) (r : CandReport) :
    (d.mergeReport c modId r).prt = d.prt := by unfold Dev.mergeReport; (try dsimp only); (repeat' split) <;> simp
@[simp] theorem Dev.mergeReport_beams (d : Dev) (c : Ctx) (modId : Nat) (r : CandReport) :
    (d.mergeReport c modId r).beams = d.beams := by unfold Dev.mergeReport; (try dsimp only); (repeat' split) <;> simp
@[simp] theorem Dev.mergeReport_can (d : Dev) (c : Ctx) (modId : Nat) (r : CandReport) :
    (d.mergeReport c modId r).can = d.can := by unfold Dev.mergeReport; (try dsimp only); (repeat' split) <;> simp
@[simp] theorem Dev.mergeReport_osc (d : Dev) (c : Ctx) (modId : Nat) (r : CandReport) :
    (d.mergeReport c modId r).osc = d.osc := by unfold Dev.mergeReport; (try dsimp only); (repeat' split) <;> simp
@[simp] theorem Dev.mergeReport_bel (d : Dev) (c : Ctx) (modId : Nat) (r : CandReport) :
    (d.mergeReport c modId r).bel = d.bel := by unfold Dev.mergeReport; (try dsimp only); (repeat' split) <;> simp
@[simp] theorem Dev.mergeReport_book (d : Dev) (c : Ctx) (modId : Nat) (r : CandReport) :
    (d.mergeReport c modId r).book = d.book := by unfold Dev.mergeReport; (try dsimp only); (repeat' split) <;> simp
@[simp] theorem Dev.mergeReport_ldl (d : Dev) (c : Ctx) (modId : Nat) (r : CandReport) :
    (d.mergeReport c modId r).ldl = d.ldl := by unfold Dev.mergeReport; (try dsimp only); (repeat' split) <;> simp
@[simp] theorem Dev.mergeReport_reef (d : Dev) (c : Ctx) (modId : Nat) (r : CandReport) :
    (d.mergeReport c modId r).reef = d.reef := by unfold Dev.mergeReport; (try dsimp only); (repeat' split) <;> simp
@[simp] theorem Dev.mergeReport_thm (d : Dev) (c : Ctx) (modId : Nat) (r : CandReport) :
    (d.mergeReport c modId r).thm = d.thm := by unfold Dev.mergeReport; (try dsimp only); (repeat' split) <;> simp
@[simp] theorem Dev.mergeReport_mem (d : Dev) (c : Ctx) (modId : Nat) (r : CandReport) :
    (d.mergeReport c modId r).mem = d.mem := by unfold Dev.mergeReport; (try dsimp only); (repeat' split) <;> simp
@[simp] theorem Dev.mergeReport_stop (d : Dev) (c : Ctx) (modId : Nat) (r : CandReport) :
    (d.mergeReport c modId r).stop = d.stop := by unfold Dev.mergeReport; (try dsimp only); (repeat' split) <;> simp
@[simp] theorem Dev.mergeReport_log (d : Dev) (c : Ctx) (modId : Nat) (r : CandReport) :
    (d.mergeReport c modId r).log = d.log := by unfold Dev.mergeReport; (try dsimp only); (repeat' split) <;> simp
@[simp] theorem Dev.mergeReport_qual (d : Dev) (c : Ctx) (modId : Nat) (r : CandReport) :
    (d.mergeReport c modId r).qual = d.qual := by unfold Dev.mergeReport; (try dsimp only); (repeat' split) <;> simp
@[simp] theorem Dev.mergeReport_boot (d : Dev) (c : Ctx) (modId : Nat) (r : CandReport) :
    (d.mergeReport c modId r).boot = d.boot := by unfold Dev.mergeReport; (try dsimp only); (repeat' split) <;> simp
@[simp] theorem Dev.mergeReport_splice (d : Dev) (c : Ctx) (modId : Nat) (r : CandReport) :
    (d.mergeReport c modId r).splice = d.splice := by
  unfold Dev.mergeReport; (try dsimp only); (repeat' split) <;> simp
@[simp] theorem Dev.mergeReport_tapes (d : Dev) (c : Ctx) (modId : Nat) (r : CandReport) :
    (d.mergeReport c modId r).tapes = d.tapes := by unfold Dev.mergeReport; (try dsimp only); (repeat' split) <;> simp
@[simp] theorem Dev.mergeReport_hwsA (d : Dev) (c : Ctx) (modId : Nat) (r : CandReport) :
    (d.mergeReport c modId r).hwsA = d.hwsA := by unfold Dev.mergeReport; (try dsimp only); (repeat' split) <;> simp
@[simp] theorem Dev.mergeReport_hwsB (d : Dev) (c : Ctx) (modId : Nat) (r : CandReport) :
    (d.mergeReport c modId r).hwsB = d.hwsB := by unfold Dev.mergeReport; (try dsimp only); (repeat' split) <;> simp
@[simp] theorem Dev.mergeReport_free (d : Dev) (c : Ctx) (modId : Nat) (r : CandReport) :
    (d.mergeReport c modId r).free = d.free := by unfold Dev.mergeReport; (try dsimp only); (repeat' split) <;> simp

/-! ### sendKills -/

@[simp] theorem Dev.sendKills_use (d : Dev) : d.sendKills.use = d.use := by simp [Dev.sendKills]
@[simp] theorem Dev.sendKills_pend (d : Dev) : d.sendKills.pend = d.pend := by simp [Dev.sendKills]
@[simp] theorem Dev.sendKills_ptr (d : Dev) : d.sendKills.ptr = d.ptr := by simp [Dev.sendKills]
@[simp] theorem Dev.sendKills_conv (d : Dev) : d.sendKills.conv = d.conv := by simp [Dev.sendKills]
@[simp] theorem Dev.sendKills_plan (d : Dev) : d.sendKills.plan = d.plan := by simp [Dev.sendKills]
@[simp] theorem Dev.sendKills_clk (d : Dev) : d.sendKills.clk = d.clk := by simp [Dev.sendKills]
@[simp] theorem Dev.sendKills_prt (d : Dev) : d.sendKills.prt = d.prt := by simp [Dev.sendKills]
@[simp] theorem Dev.sendKills_beams (d : Dev) : d.sendKills.beams = d.beams := by simp [Dev.sendKills]
@[simp] theorem Dev.sendKills_can (d : Dev) : d.sendKills.can = d.can := by simp [Dev.sendKills]
@[simp] theorem Dev.sendKills_osc (d : Dev) : d.sendKills.osc = d.osc := by simp [Dev.sendKills]
@[simp] theorem Dev.sendKills_bel (d : Dev) : d.sendKills.bel = d.bel := by simp [Dev.sendKills]
@[simp] theorem Dev.sendKills_book (d : Dev) : d.sendKills.book = d.book := by simp [Dev.sendKills]
@[simp] theorem Dev.sendKills_ldl (d : Dev) : d.sendKills.ldl = d.ldl := by simp [Dev.sendKills]
@[simp] theorem Dev.sendKills_reef (d : Dev) : d.sendKills.reef = d.reef := by simp [Dev.sendKills]
@[simp] theorem Dev.sendKills_thm (d : Dev) : d.sendKills.thm = d.thm := by simp [Dev.sendKills]
@[simp] theorem Dev.sendKills_mem (d : Dev) : d.sendKills.mem = d.mem := by simp [Dev.sendKills]
@[simp] theorem Dev.sendKills_stop (d : Dev) : d.sendKills.stop = d.stop := by simp [Dev.sendKills]
@[simp] theorem Dev.sendKills_log (d : Dev) : d.sendKills.log = d.log := by simp [Dev.sendKills]
@[simp] theorem Dev.sendKills_host (d : Dev) : d.sendKills.host = d.host := by simp [Dev.sendKills]
@[simp] theorem Dev.sendKills_qual (d : Dev) : d.sendKills.qual = d.qual := by simp [Dev.sendKills]
@[simp] theorem Dev.sendKills_boot (d : Dev) : d.sendKills.boot = d.boot := by simp [Dev.sendKills]
@[simp] theorem Dev.sendKills_splice (d : Dev) : d.sendKills.splice = d.splice := by simp [Dev.sendKills]
@[simp] theorem Dev.sendKills_tapes (d : Dev) : d.sendKills.tapes = d.tapes := by simp [Dev.sendKills]
@[simp] theorem Dev.sendKills_hwsA (d : Dev) : d.sendKills.hwsA = d.hwsA := by simp [Dev.sendKills]
@[simp] theorem Dev.sendKills_hwsB (d : Dev) : d.sendKills.hwsB = d.hwsB := by simp [Dev.sendKills]
@[simp] theorem Dev.sendKills_free (d : Dev) : d.sendKills.free = d.free := by simp [Dev.sendKills]

/-! ### enterLatched -/

@[simp] theorem Dev.enterLatched_use (d : Dev) (c : Ctx) (sub : Nat) : (d.enterLatched c sub).use = d.use := by
  simp [Dev.enterLatched]
@[simp] theorem Dev.enterLatched_pend (d : Dev) (c : Ctx) (sub : Nat) : (d.enterLatched c sub).pend = d.pend := by
  simp [Dev.enterLatched]
@[simp] theorem Dev.enterLatched_ptr (d : Dev) (c : Ctx) (sub : Nat) : (d.enterLatched c sub).ptr = d.ptr := by
  simp [Dev.enterLatched]
@[simp] theorem Dev.enterLatched_conv (d : Dev) (c : Ctx) (sub : Nat) : (d.enterLatched c sub).conv = d.conv := by
  simp [Dev.enterLatched]
@[simp] theorem Dev.enterLatched_plan (d : Dev) (c : Ctx) (sub : Nat) : (d.enterLatched c sub).plan = d.plan := by
  simp [Dev.enterLatched]
@[simp] theorem Dev.enterLatched_clk (d : Dev) (c : Ctx) (sub : Nat) : (d.enterLatched c sub).clk = d.clk := by
  simp [Dev.enterLatched]
@[simp] theorem Dev.enterLatched_prt (d : Dev) (c : Ctx) (sub : Nat) : (d.enterLatched c sub).prt = d.prt := by
  simp [Dev.enterLatched]
@[simp] theorem Dev.enterLatched_beams (d : Dev) (c : Ctx) (sub : Nat) : (d.enterLatched c sub).beams = d.beams := by
  simp [Dev.enterLatched]
@[simp] theorem Dev.enterLatched_can (d : Dev) (c : Ctx) (sub : Nat) : (d.enterLatched c sub).can = d.can := by
  simp [Dev.enterLatched]
@[simp] theorem Dev.enterLatched_osc (d : Dev) (c : Ctx) (sub : Nat) : (d.enterLatched c sub).osc = d.osc := by
  simp [Dev.enterLatched]
@[simp] theorem Dev.enterLatched_bel (d : Dev) (c : Ctx) (sub : Nat) : (d.enterLatched c sub).bel = d.bel := by
  simp [Dev.enterLatched]
@[simp] theorem Dev.enterLatched_book (d : Dev) (c : Ctx) (sub : Nat) : (d.enterLatched c sub).book = d.book := by
  simp [Dev.enterLatched]
@[simp] theorem Dev.enterLatched_reef (d : Dev) (c : Ctx) (sub : Nat) : (d.enterLatched c sub).reef = d.reef := by
  simp [Dev.enterLatched]
@[simp] theorem Dev.enterLatched_thm (d : Dev) (c : Ctx) (sub : Nat) : (d.enterLatched c sub).thm = d.thm := by
  simp [Dev.enterLatched]
@[simp] theorem Dev.enterLatched_stop (d : Dev) (c : Ctx) (sub : Nat) : (d.enterLatched c sub).stop = d.stop := by
  simp [Dev.enterLatched]
@[simp] theorem Dev.enterLatched_log (d : Dev) (c : Ctx) (sub : Nat) : (d.enterLatched c sub).log = d.log := by
  simp [Dev.enterLatched]
@[simp] theorem Dev.enterLatched_boot (d : Dev) (c : Ctx) (sub : Nat) : (d.enterLatched c sub).boot = d.boot := by
  simp [Dev.enterLatched]
@[simp] theorem Dev.enterLatched_splice (d : Dev) (c : Ctx) (sub : Nat) :
    (d.enterLatched c sub).splice = d.splice := by simp [Dev.enterLatched]
@[simp] theorem Dev.enterLatched_tapes (d : Dev) (c : Ctx) (sub : Nat) : (d.enterLatched c sub).tapes = d.tapes := by
  simp [Dev.enterLatched]
@[simp] theorem Dev.enterLatched_hwsA (d : Dev) (c : Ctx) (sub : Nat) : (d.enterLatched c sub).hwsA = d.hwsA := by
  simp [Dev.enterLatched]
@[simp] theorem Dev.enterLatched_hwsB (d : Dev) (c : Ctx) (sub : Nat) : (d.enterLatched c sub).hwsB = d.hwsB := by
  simp [Dev.enterLatched]
@[simp] theorem Dev.enterLatched_free (d : Dev) (c : Ctx) (sub : Nat) : (d.enterLatched c sub).free = d.free := by
  simp [Dev.enterLatched]

/-! ### nameMaster -/

@[simp] theorem Dev.nameMaster_use (d : Dev) (c : Ctx) : (d.nameMaster c).use = d.use := by simp [Dev.nameMaster]
@[simp] theorem Dev.nameMaster_pend (d : Dev) (c : Ctx) : (d.nameMaster c).pend = d.pend := by simp [Dev.nameMaster]
@[simp] theorem Dev.nameMaster_ptr (d : Dev) (c : Ctx) : (d.nameMaster c).ptr = d.ptr := by simp [Dev.nameMaster]
@[simp] theorem Dev.nameMaster_conv (d : Dev) (c : Ctx) : (d.nameMaster c).conv = d.conv := by simp [Dev.nameMaster]
@[simp] theorem Dev.nameMaster_lyd (d : Dev) (c : Ctx) : (d.nameMaster c).lyd = d.lyd := by simp [Dev.nameMaster]
@[simp] theorem Dev.nameMaster_plan (d : Dev) (c : Ctx) : (d.nameMaster c).plan = d.plan := by simp [Dev.nameMaster]
@[simp] theorem Dev.nameMaster_clk (d : Dev) (c : Ctx) : (d.nameMaster c).clk = d.clk := by simp [Dev.nameMaster]
@[simp] theorem Dev.nameMaster_prt (d : Dev) (c : Ctx) : (d.nameMaster c).prt = d.prt := by simp [Dev.nameMaster]
@[simp] theorem Dev.nameMaster_beams (d : Dev) (c : Ctx) : (d.nameMaster c).beams = d.beams := by
  simp [Dev.nameMaster]
@[simp] theorem Dev.nameMaster_can (d : Dev) (c : Ctx) : (d.nameMaster c).can = d.can := by simp [Dev.nameMaster]
@[simp] theorem Dev.nameMaster_osc (d : Dev) (c : Ctx) : (d.nameMaster c).osc = d.osc := by simp [Dev.nameMaster]
@[simp] theorem Dev.nameMaster_bel (d : Dev) (c : Ctx) : (d.nameMaster c).bel = d.bel := by simp [Dev.nameMaster]
@[simp] theorem Dev.nameMaster_book (d : Dev) (c : Ctx) : (d.nameMaster c).book = d.book := by simp [Dev.nameMaster]
@[simp] theorem Dev.nameMaster_ldl (d : Dev) (c : Ctx) : (d.nameMaster c).ldl = d.ldl := by simp [Dev.nameMaster]
@[simp] theorem Dev.nameMaster_reef (d : Dev) (c : Ctx) : (d.nameMaster c).reef = d.reef := by simp [Dev.nameMaster]
@[simp] theorem Dev.nameMaster_thm (d : Dev) (c : Ctx) : (d.nameMaster c).thm = d.thm := by simp [Dev.nameMaster]
@[simp] theorem Dev.nameMaster_mem (d : Dev) (c : Ctx) : (d.nameMaster c).mem = d.mem := by simp [Dev.nameMaster]
@[simp] theorem Dev.nameMaster_stop (d : Dev) (c : Ctx) : (d.nameMaster c).stop = d.stop := by simp [Dev.nameMaster]
@[simp] theorem Dev.nameMaster_log (d : Dev) (c : Ctx) : (d.nameMaster c).log = d.log := by simp [Dev.nameMaster]
@[simp] theorem Dev.nameMaster_host (d : Dev) (c : Ctx) : (d.nameMaster c).host = d.host := by simp [Dev.nameMaster]
@[simp] theorem Dev.nameMaster_qual (d : Dev) (c : Ctx) : (d.nameMaster c).qual = d.qual := by simp [Dev.nameMaster]
@[simp] theorem Dev.nameMaster_boot (d : Dev) (c : Ctx) : (d.nameMaster c).boot = d.boot := by simp [Dev.nameMaster]
@[simp] theorem Dev.nameMaster_tapes (d : Dev) (c : Ctx) : (d.nameMaster c).tapes = d.tapes := by
  simp [Dev.nameMaster]
@[simp] theorem Dev.nameMaster_hwsA (d : Dev) (c : Ctx) : (d.nameMaster c).hwsA = d.hwsA := by simp [Dev.nameMaster]
@[simp] theorem Dev.nameMaster_hwsB (d : Dev) (c : Ctx) : (d.nameMaster c).hwsB = d.hwsB := by simp [Dev.nameMaster]
@[simp] theorem Dev.nameMaster_free (d : Dev) (c : Ctx) : (d.nameMaster c).free = d.free := by simp [Dev.nameMaster]

/-! ### enslave -/

@[simp] theorem Dev.enslave_use (d : Dev) (c : Ctx) : (d.enslave c).use = d.use := by simp [Dev.enslave]
@[simp] theorem Dev.enslave_pend (d : Dev) (c : Ctx) : (d.enslave c).pend = d.pend := by simp [Dev.enslave]
@[simp] theorem Dev.enslave_conv (d : Dev) (c : Ctx) : (d.enslave c).conv = d.conv := by simp [Dev.enslave]
@[simp] theorem Dev.enslave_lyd (d : Dev) (c : Ctx) : (d.enslave c).lyd = d.lyd := by simp [Dev.enslave]
@[simp] theorem Dev.enslave_plan (d : Dev) (c : Ctx) : (d.enslave c).plan = d.plan := by simp [Dev.enslave]
@[simp] theorem Dev.enslave_clk (d : Dev) (c : Ctx) : (d.enslave c).clk = d.clk := by simp [Dev.enslave]
@[simp] theorem Dev.enslave_beams (d : Dev) (c : Ctx) : (d.enslave c).beams = d.beams := by simp [Dev.enslave]
@[simp] theorem Dev.enslave_can (d : Dev) (c : Ctx) : (d.enslave c).can = d.can := by simp [Dev.enslave]
@[simp] theorem Dev.enslave_osc (d : Dev) (c : Ctx) : (d.enslave c).osc = d.osc := by simp [Dev.enslave]
@[simp] theorem Dev.enslave_bel (d : Dev) (c : Ctx) : (d.enslave c).bel = d.bel := by simp [Dev.enslave]
@[simp] theorem Dev.enslave_book (d : Dev) (c : Ctx) : (d.enslave c).book = d.book := by simp [Dev.enslave]
@[simp] theorem Dev.enslave_ldl (d : Dev) (c : Ctx) : (d.enslave c).ldl = d.ldl := by simp [Dev.enslave]
@[simp] theorem Dev.enslave_reef (d : Dev) (c : Ctx) : (d.enslave c).reef = d.reef := by simp [Dev.enslave]
@[simp] theorem Dev.enslave_thm (d : Dev) (c : Ctx) : (d.enslave c).thm = d.thm := by simp [Dev.enslave]
@[simp] theorem Dev.enslave_mem (d : Dev) (c : Ctx) : (d.enslave c).mem = d.mem := by simp [Dev.enslave]
@[simp] theorem Dev.enslave_stop (d : Dev) (c : Ctx) : (d.enslave c).stop = d.stop := by simp [Dev.enslave]
@[simp] theorem Dev.enslave_log (d : Dev) (c : Ctx) : (d.enslave c).log = d.log := by simp [Dev.enslave]
@[simp] theorem Dev.enslave_qual (d : Dev) (c : Ctx) : (d.enslave c).qual = d.qual := by simp [Dev.enslave]
@[simp] theorem Dev.enslave_boot (d : Dev) (c : Ctx) : (d.enslave c).boot = d.boot := by simp [Dev.enslave]
@[simp] theorem Dev.enslave_tapes (d : Dev) (c : Ctx) : (d.enslave c).tapes = d.tapes := by simp [Dev.enslave]
@[simp] theorem Dev.enslave_hwsA (d : Dev) (c : Ctx) : (d.enslave c).hwsA = d.hwsA := by simp [Dev.enslave]
@[simp] theorem Dev.enslave_hwsB (d : Dev) (c : Ctx) : (d.enslave c).hwsB = d.hwsB := by simp [Dev.enslave]
@[simp] theorem Dev.enslave_free (d : Dev) (c : Ctx) : (d.enslave c).free = d.free := by simp [Dev.enslave]

end Sys2Proof.Machine
end

