-- ==== Sys2Proof/Laws/Commands.lean ====
section
/-! SUPPORT. The four ways a fetched host command leaves its mark, as the statements say them: refused, answered,
accepted for a Plan window, or given its output buffer. -/

namespace Sys2Proof.Machine

@[simp] theorem State.fetched_reject (s : State) (op : Nat) (h : CmdHdr) (st : Nat) :
    ({ s with dev := s.dev.fetched.reject op h st } : State) = s.denied op h st := rfl

@[simp] theorem State.fetched_complete (s : State) (op : Nat) (h : CmdHdr) (st detail : Nat) (tick : Option Nat)
    (res : Bytes) :
    ({ s with dev := s.dev.fetched.complete op h st detail tick res } : State) =
      s.answered op h st detail tick res := rfl

@[simp] theorem State.fetched_ok (s : State) (op : Nat) (h : CmdHdr) :
    ({ s with dev := s.dev.fetched.ok op h } : State) = s.answered op h 0 0 none [] := rfl

@[simp] theorem State.fetched_okAt (s : State) (op : Nat) (h : CmdHdr) (tick : Nat) :
    ({ s with dev := s.dev.fetched.okAt op h tick } : State) = s.answered op h 0 0 (some tick) [] := rfl

@[simp] theorem State.fetched_planned (s : State) (op : Nat) (h : CmdHdr) (w : PendWhat) :
    ({ s with dev := s.dev.fetched.planned s.ctx op h w } : State) = s.accepted op h w := rfl

@[simp] theorem State.fetched_startOutput (s : State) (op : Nat) (h : CmdHdr) (addr : Nat) (bytes res : Bytes)
    (cap : Option Nat) :
    ({ s with dev := s.dev.fetched.startOutput op h addr bytes res cap } : State) =
      s.outputs op h addr bytes res cap := rfl

/-- A fetched command whose checks all pass acts on the fetched state. -/
theorem State.onDev_accept {s : State} {op : Nat} {h : CmdHdr} {l : Ctx → Dev → List (Bool × Nat)}
    {f : Ctx → Dev → Dev} (hl : firstFail (l s.ctx s.dev.fetched) = none) :
    (s.fetched.onDev fun c d => guarded op h (l c d) (f c) d) = { s with dev := f s.ctx s.dev.fetched } := by
  simp only [State.onDev, State.ctx_fetched, State.fetched_dev, guarded_accept hl]
  rfl

/-- A fetched command that fails a check is refused with that check's status. -/
theorem State.onDev_refuse {s : State} {op : Nat} {h : CmdHdr} {l : Ctx → Dev → List (Bool × Nat)}
    {f : Ctx → Dev → Dev} {st : Nat} (hl : firstFail (l s.ctx s.dev.fetched) = some st) :
    (s.fetched.onDev fun c d => guarded op h (l c d) (f c) d) = s.denied op h st := by
  simp only [State.onDev, State.ctx_fetched, State.fetched_dev, guarded_refuse hl]
  rfl

/-- An input buffer that the device reads passes its checks. -/
@[simp] theorem firstFail_inChecks {b : InBuf} {n : Nat} (hb : InBufGood b n) (l : List (Bool × Nat)) :
    firstFail (inChecks b n ++ l) = firstFail l := by
  obtain ⟨h1, h2, h3, h4, h5⟩ := hb
  have h2' : (b.len == 0) = false := by simpa using h2
  have h3' : ¬ b.len < n := by omega
  simp [inChecks, h1, h2', h3', h4, h5]

/-- An output buffer that is aligned and not empty passes its checks. -/
@[simp] theorem firstFail_outChecks {o : OutBuf} (ho : OutBufGood o) (l : List (Bool × Nat)) :
    firstFail (outChecks o ++ l) = firstFail l := by
  have h2 : (o.len == 0) = false := by simpa using ho.2
  simp [outChecks, ho.1, h2]

end Sys2Proof.Machine
end

