-- ==== Sys2Proof/Tests/Slice0.lean ====
section
/-! SUPPORT. The tests of the model: commands refused as ill-formed, commands spelled by descriptors of Table HST-8,
single steps with values of the spec, and for each statement states and operands that meet its premises. -/

namespace Sys2Proof.Tests

-- One test at a time: elaborated in parallel, they take more threads than the memory limit leaves.
set_option Elab.async false

open Sys2Proof Sys2Proof.Machine

/-! ## Small states -/

/-- The next state of an outcome, or the one given. -/
def nextOf (o : Host.Outcome State Fault Refusal) (s : State) : State :=
  match o with
  | .next t => t
  | _ => s

/-- Whether an outcome is a next state. -/
def answers (o : Host.Outcome State Fault Refusal) : Bool :=
  match o with
  | .next _ => true
  | _ => false

theorem answers_nextOf (o : Host.Outcome State Fault Refusal) (s : State) (h : answers o = true) :
    o = .next (nextOf o s) := by
  cases o <;> simp_all [answers, nextOf]


theorem some_getD {α : Type} [Inhabited α] (o : Option α) (h : o.isSome = true) : o = some (o.getD default) := by
  cases o <;> simp_all

/-- A command header. -/
def hdr : CmdHdr := { tag := 9, cidx := 3 }

/-- An input buffer that holds these bytes. -/
def inb (l : Bytes) : InBuf := { addr := 64, len := l.length, data := l, wcoll := false, ecc := false }

/-- An output buffer of a length. -/
def outb (n : Nat) : OutBuf := { addr := 128, len := n }

/-- A module that has started, in a mode and a window of a running tick. -/
def up (m : Mode) (w : Window := .run) : State :=
  { State.reset with
    time := { TimeSt.reset with running := true, window := w }
    modes := { mode := m, ret := none, prior := none, waking := false } }

/-- A state with its device part changed. -/
def on (s : State) (f : Dev → Dev) : State := { s with dev := f s.dev }

/-- A module with its firmware running, its six rings of four entries each, and a host that lets it master the bus. -/
def hosted : State :=
  on { up .standby with setup := { Setup.reset with ringCfg := List.replicate 6 2#32, idxBase := 64 } } fun d =>
    { d with
      boot := { d.boot with fwOk := true }
      host := { d.host with bme := true, linkUp := true } }

/-- The key whose point is the base point of the curve. -/
def demoKey : Bytes := leBytes 32 p256gx ++ leBytes 32 p256gy

/-- A segment entry of an FDD direction. -/
def demoSeg (fLo fHi dir nrise : Nat) : Bytes :=
  leBytes 4 fLo ++ leBytes 4 fHi ++ [0, BitVec.ofNat 8 dir, 0, 0, 1, 0, 1, 1] ++ leBytes 2 800 ++ leBytes 2 nrise ++
    zeros 44

/-- A signed plan image: strand 0 donor, strand 1 service, one FDD pair of segments in band group 0. -/
def demoImage : Bytes :=
  leBytes 4 0x50424851 ++ leBytes 2 1 ++ [0, 2] ++ leBytes 4 7 ++ leBytes 4 1 ++ leBytes 8 1 ++ zeros 8 ++
    leBytes 8 1000 ++ leBytes 8 1000 ++ leBytes 8 2000000 ++ zeros 8 ++ [9] ++ zeros 63 ++
    demoSeg 1800000 1820000 1 0 ++ demoSeg 1700000 1720000 2 80 ++
    leBytes 32 56515219790691171413109057904011688695424810155802929973526481321309856242040 ++
    leBytes 32 100697364611245645089416159156988324593116758910280721078824181484231100088374

/-- The plan of that image. -/
def demoPlan : Plan := planOf demoImage

/-- A module with that plan committed. -/
def planned (m : Mode) (w : Window := .run) : State :=
  on (up m w) fun d => { d with plan := { d.plan with committed := some demoPlan, valid := true } }

/-- A provisioned module with its first key and the clock set. -/
def keyed (m : Mode) (life : Life := .provisioned) : State :=
  let s := on (up m) fun d => { d with clk := { d.clk with utc := some 1500 }, log := { d.log with nonce := some 5 } }
  { s with nv := { s.nv with life := life, keys := [some demoKey, none, none, none] } }

/-- The same module with both its strands calibrated and their nodes present, so that it forms beam yarns. -/
def formed (m : Mode) (w : Window := .run) : State :=
  on (planned m w) fun d =>
    let d : Dev := { d with
      lyd := { d.lyd with nodes := d.lyd.nodes.map fun x => { x with present := true } }
      conv := { d.conv with strands := d.conv.strands.map fun x => { x with rxOk := true, txOk := true } } }
    d.chooseDefaults m

/-- The token of a lifecycle change to DEPLOYED, signed with the first key. -/
def lifeToken : Bytes :=
  leBytes 4 0x4B4F5441 ++ [2, 0] ++ leBytes 2 2 ++ leBytes 8 1 ++ leBytes 4 1 ++ zeros 4 ++ leBytes 16 5 ++ zeros 40 ++
    leBytes 32 56515219790691171413109057904011688695424810155802929973526481321309856242040 ++
    leBytes 32 64806723133986545460714933434971086215852619848960492013265296664663050925900

/-- The token of a clearing of all regions, signed with the first key. -/
def clearToken : Bytes :=
  leBytes 4 0x4B4F5441 ++ [1, 0] ++ leBytes 2 3 ++ leBytes 8 1 ++ leBytes 4 1 ++ zeros 4 ++ leBytes 16 5 ++
    leBytes 4 0xFFFFFFFF ++ zeros 36 ++
    leBytes 32 56515219790691171413109057904011688695424810155802929973526481321309856242040 ++
    leBytes 32 1843207731472228756796516375003742961470472984317986610170750326965215068430

/-- A front-end table of strand 0: one path from 1700 MHz to 1820 MHz that serves both directions. -/
def feBlock : Bytes :=
  [0, 0, 1] ++ zeros 13 ++ leBytes 2 1700 ++ leBytes 2 1820 ++ [3, 1] ++ zeros 26 ++ leBytes 2 1700 ++ zeros 286

/-- The tables of that block. -/
def feDemo : List FeNode := (feNodesOf 128 1 feBlock).getD []

/-- A module whose committed plan is TDD and whose strand 0 has that table. -/
def tddState : State :=
  on (up .standby) fun d =>
    let seg : Seg :=
      { (default : Seg) with
        fLo := 1800000, fHi := 1810000, duplex := 1, yrate := 1, ycount := 1
        pat := { (default : Pattern) with scs := 1, p1 := 1, ds1 := 6, us1 := 6 } }
    let p : Plan := { demoPlan with segs := [seg] }
    { d with
      plan := { d.plan with committed := some p, valid := true }
      lyd := { d.lyd with clk := true, fe := feDemo } }

/-- A signature whose first coefficients have a definite octant. -/
def demoSig : List Cpx := List.replicate 32 (2, 1)

/-- A book image of one record with that signature. -/
def demoBook : Bytes :=
  let body := leBytes 4 7 ++ [1, 0] ++ leBytes 2 0 ++ zeros 56 ++ (List.replicate 32 ([2, 1] : Bytes)).flatten ++
    (List.replicate 32 ([2, 0, 1, 0] : Bytes)).flatten
  leBytes 4 0x4B425045 ++ leBytes 2 1 ++ zeros 2 ++ leBytes 4 1 ++ leBytes 4 (crc32 body) ++ zeros 16 ++ leBytes 4 3 ++
    zeros 28 ++ body

/-- A state with two records in the ring region of the Logline. -/
def logged (m : Mode) : State :=
  let s := keyed m
  { s with nv := { s.nv with ring := [default, default] } }

/-- A sample of amplitude 1. -/
def smp : Smp := { z := Cx.one, uns := false }

/-- A relay whose uplink guard yarn repeats its reference stream, after two evaluations in excess. -/
def oscState (code : Int) : State :=
  on (formed .relayOpen) fun d =>
    { d with
      osc := [{ byid := 8192, a := 2, bins := [], rises := [] }]
      bel := { d.bel with yarns := [{ (default : BelYarn) with byid := 8192, hasGain := true, code := code }] }
      tapes := [{ tap := .stage5 8192, next := 48, data := List.replicate 48 smp },
        { tap := .ref (streamKey 8192), next := 48, data := List.replicate 48 smp }] }

/-- A relay in SURVEY whose service yarn of position 0 has `n` samples, the newest of amplitude `a` and the others of 0,
at a noise of -100 dBFS, with these bursts. -/
def burstState (n : Nat) (a : Rat) (bursts : List Burst) (m : Mode := .survey) : State :=
  on (formed m) fun d =>
    { d with
      ldl := { d.ldl with noise := [(0, 0, -1600)] }
      book := { d.book with bases := [(0, 3, [[(1, 16384)]])], bursts := bursts }
      tapes := [{ tap := .yarn 17, next := n, data :=
        { z := { re := a, im := 0 }, uns := false } :: List.replicate (n - 1) { z := Cx.zero, uns := false } }] }

/-- A vector with the weight 1 on strand 1. -/
def oneWeight : Bytes := zeros 4 ++ leBytes 4 1 ++ zeros 504

theorem drop_replicated (w : Bytes) (i m : Nat) (h : i ≤ m) :
    ((List.replicate m w).flatten).drop (w.length * i) = (List.replicate (m - i) w).flatten := by
  induction i generalizing m with
  | zero => simp
  | succ i ih =>
    obtain ⟨m, rfl⟩ : ∃ k, m = k + 1 := ⟨m - 1, by omega⟩
    rw [List.replicate_succ, List.flatten_cons, Nat.mul_succ, Nat.add_comm, ← List.drop_drop, List.drop_left,
      ih m (by omega), Nat.add_sub_add_right]

theorem vecOf_replicated (w : Bytes) (hw : w.length = 512) (i m : Nat) (h : i < m) :
    vecOf (List.replicate m w).flatten (512 * i) = vecOf w 0 := by
  unfold vecOf
  apply List.filterMap_congr
  intro g hg
  have hg : g < 128 := by simpa using hg
  have e : fieldAt (List.replicate m w).flatten (512 * i + 4 * g) 4 = fieldAt w (0 + 4 * g) 4 := by
    have d := drop_replicated w i m (by omega)
    rw [hw] at d
    obtain ⟨j, hj⟩ : ∃ j, m - i = j + 1 := ⟨m - i - 1, by omega⟩
    rw [hj, List.replicate_succ, List.flatten_cons] at d
    simp only [fieldAt]
    rw [← List.drop_drop, d, Nat.zero_add, List.drop_append_of_le_length (by omega),
      List.take_append_of_le_length (by simp; omega)]
  simp only [e]

/-- BOOK.BASIS finds its premises met by 32 vectors on strand 1. -/
theorem basisPremises :
    ∃ (h : CmdHdr) (bg : Nat) (basisId : Nat) (b : InBuf) (vs : List Vec) (s : State), (bg ≤ 7) ∧ (InBufGood b 16384) ∧
      (vs = (List.range 32).map (fun i => vecOf (b.data.take b.len) (512 * i))) ∧
      ((∀ v, v ∈ vs → vecBad s.dev.plan.loaded 2 v = false)) ∧ (basisId ≠ 0) ∧
      (modeAccepts s.modes.mode 0x0501 = true) ∧ ((∀ r, r ∈ s.dev.book.recs → r.bg ≠ bg)) ∧
      (s.dev.book.load = none) := by
  have hl : ((List.replicate 32 oneWeight).flatten).length = 16384 := by
    rw [List.length_flatten]
    decide +kernel
  refine ⟨hdr, 7, 1, inb (List.replicate 32 oneWeight).flatten, _, planned .standby, by decide, ?_, rfl, ?_,
    by decide, by decide +kernel, by decide +kernel, by decide +kernel⟩
  · refine ⟨rfl, ?_, ?_, rfl, rfl⟩ <;> simp only [inb, hl] <;> decide
  · intro v hv
    obtain ⟨i, hi, rfl⟩ := List.mem_map.1 hv
    have hi : i < 32 := by simpa using hi
    have e : (inb (List.replicate 32 oneWeight).flatten).data.take
        (inb (List.replicate 32 oneWeight).flatten).len = (List.replicate 32 oneWeight).flatten := List.take_length
    rw [e, vecOf_replicated oneWeight (by decide +kernel) i 32 hi]
    decide +kernel

/-- A snapshot with all the samples of its one frame. -/
def demoSnap : Snap :=
  { key := 5, mark := 0, words := List.replicate 8192 Cx.zero
    a := { strand := 1, tag := 5, centreKhz := 1810000, rho := 1, mresp := 0, avg := 1 }, addr := 64, shed := 0 }

theorem demoSnap_full : decide (demoSnap.need ≤ demoSnap.words.length) = true :=
  decide_eq_true (Nat.le_of_eq (List.length_replicate (n := 8192) (a := Cx.zero)).symm)

/-- That snapshot is the one that is ready. -/
theorem demoSnap_ready :
    ((on hosted fun d => { d with ldl := { d.ldl with snaps := [demoSnap] } }).feed
      { yarns := [], peers := [] } |>.onDev fun c d => d.fillSnaps c (c.time.at10 c.time.sub)).dev.snapReady 5 =
        some demoSnap := by
  have h : ((on hosted fun d => { d with ldl := { d.ldl with snaps := [demoSnap] } }).feed
      { yarns := [], peers := [] } |>.onDev fun c d => d.fillSnaps c (c.time.at10 c.time.sub)).dev.ldl.snaps =
        [demoSnap] := rfl
  have m : ((on hosted fun d => { d with ldl := { d.ldl with snaps := [demoSnap] } }).feed
      { yarns := [], peers := [] } |>.onDev fun c d => d.fillSnaps c (c.time.at10 c.time.sub)).dev.host.mastering =
        true := rfl
  rw [Dev.snapReady, h, m]
  simp only [List.find?, demoSnap_full]
  rfl

/-! ## Ill-formed commands -/

/-- A header whose tag, and one whose ring index, needs more than 32 bits. -/
def badTag : CmdHdr := { tag := 2 ^ 32, cidx := 0 }
def badIdx : CmdHdr := { tag := 0, cidx := 2 ^ 32 }

/-- Buffers whose address, and whose length, does not fit its field. -/
def badIn : InBuf := { inb [] with addr := 2 ^ 64 }
def badInLen : InBuf := { inb [] with len := 2 ^ 32 }
def badOut : OutBuf := { addr := 2 ^ 64, len := 4 }
def badOutLen : OutBuf := { addr := 0, len := 2 ^ 32 }

/-- Whether every command of a list is ill formed. -/
def refusesAll (l : List Instr) : Bool := l.all fun i => !wellFormed i

theorem test_wf_refuses_headers : refusesAll
    ([badTag, badIdx].flatMap fun h =>
      [.modeSet h 2, .coilEnter h 0, .coilWake h, .timeSet h 1, .sync h, .calRun h 0 1, .txTest h default,
        .planLoad h (inb []), .muteSet h default, .muteClr h default, .netInd h default,
        .ulSched h 0 0 0 (inb []), .feLoad h 1 (inb []), .yarnMap h 0 1 (outb 4), .beamSet h default (inb []),
        .arrayCal h default (outb 4),
        .cancSet h { (default : CancArgs) with refs := [0, 0, 0, 0], imods := [0, 0, 0, 0] },
        .entryLearn h default, .trcScan h 0 0 (inb []), .gainSet h default,
        .belBank h 1 (List.replicate 8 1) (List.replicate 8 1), .belRead h 0 1 (outb 4), .bookBasis h 0 1 (inb []),
        .bookLoad h (inb []), .bookRead h 0 1 0 0 (outb 4), .bookSet h default, .bookDel h 0 1 1,
        .partnerRead h 1 (outb 4), .measSub h default, .specSnap h default (outb 4),
        .captureArm h default (inb []), .captureRead h 0 0 (outb 4), .reefCap h 0, .thmClr h 1 0,
        .marchRun h default, .logRead h 1 0 (outb 4), .logNonce h (outb 4), .logClear h (inb []),
        .lifeSet h 1 0 (inb []), .keySet h 0 1 (inb [])]) = true := by decide +kernel

theorem test_wf_refuses_buffers : refusesAll
    (([badIn, badInLen].flatMap fun b =>
      [.planLoad hdr b, .ulSched hdr 0 0 0 b, .feLoad hdr 1 b, .beamSet hdr default b, .trcScan hdr 0 0 b,
        .bookBasis hdr 0 1 b, .bookLoad hdr b, .captureArm hdr default b, .logClear hdr b, .lifeSet hdr 1 0 b,
        .keySet hdr 0 1 b]) ++
    ([badOut, badOutLen].flatMap fun o =>
      [.yarnMap hdr 0 1 o, .arrayCal hdr default o, .belRead hdr 0 1 o, .bookRead hdr 0 1 0 0 o,
        .partnerRead hdr 1 o, .specSnap hdr default o, .captureRead hdr 0 0 o, .logRead hdr 1 0 o,
        .logNonce hdr o])) = true := by decide +kernel

theorem test_wf_refuses_fields : refusesAll
    [.modeSet hdr 256, .coilEnter hdr (2 ^ 32), .timeSet hdr (2 ^ 64), .calRun hdr 65536 1, .calRun hdr 0 65536,
      .ulSched hdr 256 0 0 (inb []), .ulSched hdr 0 256 0 (inb []), .ulSched hdr 0 0 256 (inb []),
      .feLoad hdr 65536 (inb []), .yarnMap hdr 65536 1 (outb 4), .yarnMap hdr 0 65536 (outb 4),
      .trcScan hdr 256 0 (inb []), .trcScan hdr 0 256 (inb []),
      .belBank hdr 256 (List.replicate 8 1) (List.replicate 8 1), .belBank hdr 1 [1] (List.replicate 8 1),
      .belBank hdr 1 (List.replicate 8 1) (List.replicate 8 65536), .belRead hdr 65536 1 (outb 4),
      .belRead hdr 0 65536 (outb 4), .bookBasis hdr 256 1 (inb []), .bookBasis hdr 0 (2 ^ 32) (inb []),
      .bookRead hdr (2 ^ 32) 1 0 0 (outb 4), .bookRead hdr 0 (2 ^ 32) 0 0 (outb 4),
      .bookRead hdr 0 1 256 0 (outb 4), .bookRead hdr 0 1 0 256 (outb 4), .bookDel hdr (2 ^ 32) 1 1,
      .bookDel hdr 0 (2 ^ 32) 1, .bookDel hdr 0 1 256, .partnerRead hdr 256 (outb 4),
      .captureRead hdr 256 0 (outb 4), .captureRead hdr 0 (2 ^ 64) (outb 4), .reefCap hdr 65536,
      .thmClr hdr 256 0, .thmClr hdr 1 65536, .logRead hdr 256 0 (outb 4), .logRead hdr 1 (2 ^ 32) (outb 4),
      .lifeSet hdr 256 0 (inb []), .lifeSet hdr 1 (2 ^ 32) (inb []), .keySet hdr 256 1 (inb []),
      .keySet hdr 0 256 (inb [])] = true := by decide +kernel

theorem test_wf_refuses_testAndMuteArgs : refusesAll
    (([{ (default : TxTestArgs) with kind := 256 }, { (default : TxTestArgs) with paEn := 256 },
        { (default : TxTestArgs) with rho := 256 }, { (default : TxTestArgs) with first := 65536 },
        { (default : TxTestArgs) with count := 65536 }, { (default : TxTestArgs) with centreKhz := 2 ^ 32 },
        { (default : TxTestArgs) with level := 32768 }, { (default : TxTestArgs) with level := -32769 },
        { (default : TxTestArgs) with duration := 65536 }].map (Instr.txTest hdr)) ++
      ([{ (default : MuteArgs) with level := 256 }, { (default : MuteArgs) with bg := 256 },
        { (default : MuteArgs) with dir := 256 }, { (default : MuteArgs) with id := 65536 }].flatMap fun a =>
          [.muteSet hdr a, .muteClr hdr a]) ++
      ([{ (default : NetIndArgs) with kind := 256 }, { (default : NetIndArgs) with bg := 256 },
        { (default : NetIndArgs) with scs := 256 }, { (default : NetIndArgs) with beamK := 256 },
        { (default : NetIndArgs) with sfn := 65536 }, { (default : NetIndArgs) with slot := 256 },
        { (default : NetIndArgs) with on := 256 }, { (default : NetIndArgs) with nslots := 65536 }].map
          (Instr.netInd hdr))) = true := by decide +kernel

theorem test_wf_refuses_beamAndCancellerArgs : refusesAll
    (([{ (default : BeamSetArgs) with target := 256 }, { (default : BeamSetArgs) with bg := 256 },
        { (default : BeamSetArgs) with index := 256 }, { (default : BeamSetArgs) with recip := 256 },
        { (default : BeamSetArgs) with sbeams := 256 }, { (default : BeamSetArgs) with fixed := 256 },
        { (default : BeamSetArgs) with donor := 256 }, { (default : BeamSetArgs) with e := 65536 },
        { (default : BeamSetArgs) with entry := 65536 }, { (default : BeamSetArgs) with k := 256 },
        { (default : BeamSetArgs) with mapEnt := 65536 }].map fun a => Instr.beamSet hdr a (inb [])) ++
      ([{ (default : ArrayCalArgs) with side := 256 }, { (default : ArrayCalArgs) with rho := 256 },
        { (default : ArrayCalArgs) with ticks := 256 }, { (default : ArrayCalArgs) with gRef := 65536 },
        { (default : ArrayCalArgs) with centreKhz := 2 ^ 32 }].map fun a => Instr.arrayCal hdr a (outb 4)) ++
      ((let c : CancArgs := { (default : CancArgs) with refs := [0, 0, 0, 0], imods := [0, 0, 0, 0] }
        [{ c with inst := 65536 }, { c with vkind := 256 }, { c with bg := 256 }, { c with pos := 256 },
          { c with beam := 256 }, { c with taps := 65536 }, { c with pre := 256 }, { c with forget := 256 },
          { c with refs := [0] }, { c with refs := [0, 0, 0, 256] }, { c with imods := [0] },
          { c with imods := [256, 0, 0, 0] }]).map (Instr.cancSet hdr)) ++
      ([{ (default : LearnArgs) with bg := 256 }, { (default : LearnArgs) with e := 65536 },
        { (default : LearnArgs) with n := 65536 }, { (default : LearnArgs) with learnTicks := 65536 },
        { (default : LearnArgs) with ltaps := 65536 }].map (Instr.entryLearn hdr))) = true := by decide +kernel

theorem test_wf_refuses_gainAndBookArgs : refusesAll
    (([{ (default : GainArgs) with bg := 256 }, { (default : GainArgs) with dir := 256 },
        { (default : GainArgs) with beam := 256 }, { (default : GainArgs) with mask := 256 },
        { (default : GainArgs) with target := 65536 }, { (default : GainArgs) with pmax := 65536 },
        { (default : GainArgs) with vlim := 65536 }, { (default : GainArgs) with alim := 65536 },
        { (default : GainArgs) with jlim := 65536 }, { (default : GainArgs) with lnaSt := 256 },
        { (default : GainArgs) with pagSt := 256 }].map (Instr.gainSet hdr)) ++
      ([{ (default : BookSetArgs) with eid := 2 ^ 32 }, { (default : BookSetArgs) with mask := 256 },
        { (default : BookSetArgs) with flags := 256 }, { (default : BookSetArgs) with widx := 65536 },
        { (default : BookSetArgs) with offset := 32768 }].map (Instr.bookSet hdr))) = true := by decide +kernel

theorem test_wf_refuses_measurementArgs : refusesAll
    (([{ (default : MeasArgs) with subId := 65536 }, { (default : MeasArgs) with action := 256 },
        { (default : MeasArgs) with src := 256 }, { (default : MeasArgs) with target := 65536 },
        { (default : MeasArgs) with rho := 256 }, { (default : MeasArgs) with mresp := 256 },
        { (default : MeasArgs) with centreKhz := 2 ^ 32 }, { (default : MeasArgs) with n := 256 },
        { (default : MeasArgs) with k := 256 }, { (default : MeasArgs) with outr := 256 },
        { (default : MeasArgs) with gridSeg := 256 }, { (default : MeasArgs) with gate := 256 },
        { (default : MeasArgs) with div := 256 }].map (Instr.measSub hdr)) ++
      ([{ (default : SnapArgs) with strand := 65536 }, { (default : SnapArgs) with tag := 65536 },
        { (default : SnapArgs) with centreKhz := 2 ^ 32 }, { (default : SnapArgs) with rho := 256 },
        { (default : SnapArgs) with mresp := 256 }, { (default : SnapArgs) with avg := 256 }].map fun a =>
          Instr.specSnap hdr a (outb 4)) ++
      ([{ (default : CapArgs) with bufc := 256 }, { (default : CapArgs) with format := 256 },
        { (default : CapArgs) with trig := 256 }, { (default : CapArgs) with nsrc := 65536 },
        { (default : CapArgs) with sizeMb := 2 ^ 32 }, { (default : CapArgs) with preUs := 2 ^ 32 },
        { (default : CapArgs) with postUs := 2 ^ 32 }, { (default : CapArgs) with targ := 2 ^ 32 }].map fun a =>
          Instr.captureArm hdr a (inb [])) ++
      ([{ (default : MarchArgs) with die := 256 }, { (default : MarchArgs) with bank := 256 },
        { (default : MarchArgs) with mode := 256 }, { (default : MarchArgs) with offs := 2 ^ 32 },
        { (default : MarchArgs) with len := 2 ^ 32 }].map (Instr.marchRun hdr))) = true := by decide +kernel

/-- Samples of a yarn beyond the last, with a word of 17 bits, and of a peer beyond the last. -/
def badYarn : Samples := { yarns := [{ id := 2048, first := 0, words := [] }], peers := [] }
def badWord : Samples := { yarns := [{ id := 0, first := 0, words := [(0, 32768)] }], peers := [] }
def badPeer : Samples := { yarns := [], peers := [{ modId := 4, key := 0, first := 0, words := [] }] }

theorem test_wf_refuses_registersAndRings : refusesAll
    [.doorbellProducer (2 ^ 32), .doorbellConsumer 64 0, .doorbellConsumer 1 (2 ^ 32),
      .commandFetch [{ (default : Descriptor) with opcode := 65536, args := zeros 40 }],
      .commandFetch [{ (default : Descriptor) with dlen := 256, args := zeros 40 }],
      .commandFetch [{ (default : Descriptor) with flags := 256, args := zeros 40 }],
      .commandFetch [{ (default : Descriptor) with tag := 2 ^ 32, args := zeros 40 }],
      .commandFetch [{ (default : Descriptor) with buf := 2 ^ 64, args := zeros 40 }],
      .commandFetch [{ (default : Descriptor) with bufLen := 2 ^ 32, args := zeros 40 }],
      .commandFetch [{ (default : Descriptor) with args := zeros 39 }], .commandOutputDone (2 ^ 32) false,
      .ringRecordWrite 6, .ringRecordDrop 6, .interruptDue 6, .ringCfgWrite 6 0 0#32, .ringCfgWrite 0 3 0#32,
      .stopperAcknowledge 3 0#32, .w1cClear 2 0#32, .w1cClear (2 ^ 20) 0#32, .registerWrite 2 0#32,
      .registerWrite (2 ^ 20) 0#32, .readClear 2, .readClear 0x140000, .i2cRead 2, .i2cRead (2 ^ 20),
      .jtagInstruction 256] = true := by decide +kernel

theorem test_wf_refuses_startUpAndLanyard : refusesAll
    [.vinSample 65536, .sramWipeDone [(9, 0)], .sramWipeDone [(0, 4)], .firmwareLoaded true (2 ^ 32),
      .dramTrained [1], .calWaveDone [{ (default : StrandCal) with g := 128 }],
      .calRunDone [{ (default : StrandCal) with g := 128 }], .lanyardDiscovery [{ g := 128, data := 0 }],
      .lanyardRediscovery [{ g := 128, data := 0 }], .lanyardFrameSend ⟨16, 0⟩,
      .lanyardRsp { (default : RspArgs) with g := 128 }, .lanyardRsp { (default : RspArgs) with status := 65536 },
      .lanyardRsp { (default : RspArgs) with data := 2 ^ 24 }, .lanyardRsp { (default : RspArgs) with sub := 100000 },
      .lanyardRspMissing 128 false, .closeStart { (default : CloseEnv) with samples := badYarn }, .tickEdge { (default : TickEnv) with tail := badWord },
      .tickEdge { (default : TickEnv) with bb3 := [(16, 0)] }, .tickEdge { (default : TickEnv) with ports := [default] },
      .candidateExpire 8, .tddSwitch { (default : SwitchArgs) with g := 128 },
      .tddSwitch { (default : SwitchArgs) with path := 4 }] = true := by decide +kernel

theorem test_wf_refuses_spliceAndFaults : refusesAll
    [.spliceLinkUp 4 0 0 0, .spliceLinkUp 0 4 0 0, .spliceLinkUp 0 0 (2 ^ 64) 0, .spliceLinkUp 0 0 0 4096,
      .spliceTimingMessage ⟨2 ^ 32, 0⟩ 0 0 0, .spliceTimingMessage ⟨0, 0⟩ 20 0 0,
      .spliceTimingMessage ⟨0, 0⟩ 0 1024 0, .spliceTimingMessage ⟨0, 0⟩ 0 0 (2 ^ 32), .spliceSyncMessage (2 ^ 32), .splicePortDown 4 true, .spliceRefLoss ⟨4, []⟩,
      .spliceRefRestore ⟨4, []⟩, .spliceCalReport 4, .spliceCandidateReport ⟨0, List.replicate 9 default⟩, .spliceCandidateReport ⟨4, []⟩,
      .marlineFrame 59 true, .marlineFrame 96 true, .marlineLinkRestore 59, .marlineLinkRestore 96,
      .oscEvaluate { (default : OscArgs) with byid := 32768 }, .oscEvaluate { (default : OscArgs) with sub := 100000 },
      .oscEvaluate { (default : OscArgs) with samples := badPeer },
      .muteNFall 100000, .feedbackDecay 32768, .stopperRaise 96 0 0 0, .stopperRaise 0 6 0 0,
      .stopperRaise 0 0 256 0, .stopperRaise 0 0 0 100000, .blockResetDone 8,
      .thermalSample [{ (default : Reading) with idx := 150 }] 0, .thermalSample [] 100000, .thermalCritical 25 0,
      .thermalCritical 0 100000] = true := by decide +kernel

theorem test_wf_refuses_burstsAndMeasurements : refusesAll
    [.burstOnset 8 0 ⟨0, default⟩, .burstOnset 0 16 ⟨0, default⟩, .burstOnset 0 0 ⟨100000, default⟩, .burstOnset 0 0 ⟨0, badYarn⟩,
      .burstClose 8 0 ⟨0, default⟩, .burstClose 0 16 ⟨0, default⟩, .burstClose 0 0 ⟨100000, default⟩, .burstClose 0 0 ⟨0, badWord⟩,
      .signatureReady ⟨8, 0, default⟩, .signatureReady ⟨0, 16, default⟩, .signatureReady ⟨0, 0, badPeer⟩, .matchComplete 8 0 0 [],
      .matchComplete 0 16 0 [], .matchComplete 0 0 100000 [], .matchComplete 0 0 0 [2 ^ 18], .matchLate 8 0,
      .matchLate 0 16, .weightSwitch 8 0 ⟨0, default⟩, .weightSwitch 0 64 ⟨0, default⟩, .weightSwitch 0 0 ⟨100000, default⟩,
      .weightSwitch 0 0 ⟨0, badYarn⟩, .slotRelease 8 0 ⟨0, default⟩, .slotRelease 0 64 ⟨0, default⟩,
      .slotRelease 0 0 ⟨100000, default⟩, .slotRelease 0 0 ⟨0, badWord⟩, .endpointWriteback (2 ^ 18), .entryAged 8 0,
      .entryAged 0 4096, .tracerEpoch [{ (default : Sighting) with tracer := 4096 }],
      .entryLearned badYarn, .specSnapDone 0 badWord, .captureRecord 0 badPeer, .arrayCalDone [{ (default : ArrayRes) with g := 128 }],
      .specSnapDone 65536 default, .captureTrigger 16 0, .captureTrigger 0 100000, .captureEnd 16 0, .captureEnd 0 100000,
      .captureRecord 16 default, .marchWindow 9 [], .portATouch 9 0, .marchDone 9 []] = true := by decide +kernel

/-! ## Descriptors of Table HST-8 -/

/-- A descriptor with these argument bytes, zeros after them. -/
def desc (opcode : Nat) (args : Bytes) : Descriptor :=
  { opcode := opcode, dlen := 64, flags := 0, tag := 9, buf := 64, bufLen := 4, data := [], wcoll := false, ecc := false
    args := args ++ zeros (40 - args.length) }

/-- The buffers that it names. -/
def descIn : InBuf := { addr := 64, len := 4, data := [], wcoll := false, ecc := false }
def descOut : OutBuf := { addr := 64, len := 4 }

theorem test_descriptor_txTest : commandOf 3 (desc 0x0107
    [0x01, 0x00, 0x02, 0x00, 0x03, 0x00, 0x04, 0x00, 0x50, 0x9E, 0x1B, 0x00, 0xC0, 0xFE, 0x0A, 0x00]) =
    some (.txTest hdr
      { kind := 1, paEn := 0, rho := 2, first := 3, count := 4, centreKhz := 1810000, level := -320,
        duration := 10 }) := by decide +kernel

theorem test_descriptor_timeSet : commandOf 3 (desc 0x0104 [0x01, 0x02, 0, 0, 0, 0, 0, 0x80]) =
    some (.timeSet hdr 0x8000000000000201) := by decide +kernel

theorem test_descriptor_netInd : commandOf 3 (desc 0x0204
    [0x01, 0x02, 0x01, 0x07, 0xFF, 0x03, 0x13, 0x01, 0x08, 0x00]) =
    some (.netInd hdr
      { kind := 1, bg := 2, scs := 1, beamK := 7, sfn := 1023, slot := 19, on := 1, nslots := 8 }) := by
  decide +kernel

theorem test_descriptor_muteClr : commandOf 3 (desc 0x0203 [0x01, 0x00, 0x00, 0xAA, 0x34, 0x12]) =
    some (.muteClr hdr
      { level := 1, bg := 0, dir := 0, id := 0x1234 }) := by decide +kernel

theorem test_descriptor_beamSet : commandOf 3 (desc 0x0303
    [0x03, 0x01, 0x02, 0x01, 0x10, 0x04, 0x03, 0x00, 0xFF, 0x0F, 0x01, 0x00, 0x3F, 0x00, 0xFF, 0xFF]) =
    some (.beamSet hdr
      { target := 3, bg := 1, index := 2, recip := 1, sbeams := 16, fixed := 4, donor := 3, e := 4095,
        entry := 1, k := 63, mapEnt := 0xFFFF } descIn) := by decide +kernel

theorem test_descriptor_cancSet : commandOf 3 (desc 0x0305
    [0x01, 0x02, 0x02, 0x03, 0x04, 0x05, 0x00, 0x01, 0x06, 0x07, 0x01, 0x02, 0x03, 0x04, 0x00, 0x01, 0x02, 0x03]) =
    some (.cancSet hdr
      { inst := 513, vkind := 2, bg := 3, pos := 4, beam := 5, taps := 256, pre := 6, forget := 7,
        refs := [1, 2, 3, 4], imods := [0, 1, 2, 3] }) := by decide +kernel

theorem test_descriptor_gainSet : commandOf 3 (desc 0x0401
    [0x02, 0x01, 0xFF, 0x1F, 0x30, 0x07, 0xC0, 0x03, 0xA0, 0x0F, 0xE8, 0x03, 0xE7, 0x03, 0x03, 0x02]) =
    some (.gainSet hdr
      { bg := 2, dir := 1, beam := 255, mask := 31, target := 1840, pmax := 960, vlim := 4000, alim := 1000,
        jlim := 999, lnaSt := 3, pagSt := 2 }) := by decide +kernel

theorem test_descriptor_bookSet : commandOf 3 (desc 0x0504
    [0x07, 0x00, 0x01, 0x00, 0x07, 0x03, 0xFF, 0x0F, 0xC0, 0xFE]) =
    some (.bookSet hdr
      { eid := 0x10007, mask := 7, flags := 3, widx := 4095, offset := -320 }) := by decide +kernel

theorem test_descriptor_measSub : commandOf 3 (desc 0x0601
    [0x01, 0x01, 0x01, 0x03, 0x02, 0x00, 0x04, 0x05, 0x50, 0x9E, 0x1B, 0x00, 0x0F, 0x01, 0x06, 0xFF, 0x04, 0x40]) =
    some (.measSub hdr
      { subId := 257, action := 1, src := 3, target := 2, rho := 4, mresp := 5, centreKhz := 1810000,
        n := 15, k := 1, outr := 6, gridSeg := 255, gate := 4, div := 64 }) := by decide +kernel

theorem test_descriptor_captureRead : commandOf 3 (desc 0x0604 [0x0F, 0, 0, 0, 0, 0, 0, 0, 0, 0x10, 0, 0, 1, 0, 0, 0]) =
    some (.captureRead hdr 15 0x100001000 descOut) := by decide +kernel

theorem test_descriptor_marchRun : commandOf 3 (desc 0x0703 [0x08, 0x01, 0x02, 0x00, 0x00, 0x10, 0, 0, 0x00, 0x20]) =
    some (.marchRun hdr
      { die := 8, bank := 1, mode := 2, offs := 4096, len := 8192 }) := by decide +kernel

theorem test_descriptor_logRead : commandOf 3 (desc 0x0801 [0x01, 0, 0, 0, 0x02, 0x01, 0, 0]) =
    some (.logRead hdr 1 258 descOut) := by decide +kernel

/-- Argument bytes beyond DLEN read as zero (R500). -/
theorem test_descriptor_short : commandOf 3 { desc 0x0106 [0x01, 0x00, 0x02, 0x00] with dlen := 24 } =
    some (.calRun hdr 0 0) := by decide +kernel

/-- An opcode that Table HST-8 does not list spells no command. -/
theorem test_descriptor_unlisted : commandOf 3 (desc 0x0108 []) = none := by decide +kernel

/-! ## Checks with known values -/

/-- The check value of ISO 3309: the CRC-32 of the nine digits. -/
theorem test_crc32_check : crc32 [0x31, 0x32, 0x33, 0x34, 0x35, 0x36, 0x37, 0x38, 0x39] = 0xCBF43926 := by
  decide +kernel

/-- FIPS 180-4: the digest of "abc" begins with ba 78 16 bf. -/
theorem test_sha256_abc : sha256 [0x61, 0x62, 0x63] =
    [0xba, 0x78, 0x16, 0xbf, 0x8f, 0x01, 0xcf, 0xea, 0x41, 0x41, 0x40, 0xde, 0x5d, 0xae, 0x22, 0x23,
      0xb0, 0x03, 0x61, 0xa3, 0x96, 0x17, 0x7a, 0x9c, 0xb4, 0x10, 0xff, 0x61, 0xf2, 0x00, 0x15, 0xad] := by decide +kernel

/-- A signature that was made for the plan image outside the model verifies, and not for another image. -/
theorem test_plan_signature : planSigned demoKey demoImage = true ∧
    planSigned demoKey (demoImage.set 8 0x08#8) = false := by decide +kernel

/-! ## Single steps -/

/-- Table TCK-3: after TIF 19 and SFN 1023 come TIF 0, SFN 0 and the next hyperframe. -/
theorem test_tick_wraps :
    (fun t : TimeSt => (t.n, t.tif, t.sfn, t.hfc)) (nextOf (exec (.tickEdge default)
      { up .standby .close with
        time := { (up .standby .close).time with n := 4294967295, tif := 19, sfn := 1023, hfc := 7 } }) State.reset).time = (0, 0, 0, 8) := by decide +kernel

/-- R498: an index beyond the ring's size is not taken. -/
theorem test_doorbell_invalid :
    ((nextOf (exec (.doorbellProducer 65) hosted) State.reset).ring 0).p = 0 ∧
      (nextOf (exec (.doorbellProducer 65) hosted) State.reset).dev.host.dbErr = true := by decide +kernel

theorem test_doorbell_full : ((nextOf (exec (.doorbellProducer 64) hosted) State.reset).ring 0).p = 64 := by
  decide +kernel

/-- R527: a locked setup register keeps its value. -/
theorem test_setup_locked :
    (nextOf (exec (.registerWrite 0x1100 1#32) { hosted with setup := { hosted.setup with lock := 1#32 } })
      State.reset).setup.lock = 1#32 := by decide +kernel

/-- R430: LATCHED ignores a reset request, and power-good ends it. -/
theorem test_latched_reset :
    (nextOf (exec (.warmResetRequest 0xA501#32) (up .latched)) State.reset).modes.mode = .latched ∧
      (nextOf (exec (.powerGood default) (up .latched)) State.reset).modes.mode = .reset := by decide +kernel

/-- Table STP-11: DEPLOYED is reached from PROVISIONED with a token, and the token serves once. -/
theorem test_life_token :
    (nextOf (exec (.lifeSet hdr 2 0 (inb lifeToken)) (keyed .standby)) State.reset).nv.life = .deployed ∧
      (nextOf (exec (.lifeSet hdr 2 0 (inb lifeToken)) (keyed .standby)) State.reset).dev.log.nonce = none := by
  decide +kernel

/-! ## Values that the manual works out -/

/-- The example after R343: U_L is 4 for a yarn start on response 67 with N = 7 at 30.72 Msps and OUTR 3; D is 608 + 163 +
1,000 ns. -/
theorem test_unsettled_outputs : unsettledOutputs 4 3 (37 + 6) = 4 ∧ rankDelayNs 4 7 = 163 ∧
    measDelayNs 4 1 + rankDelayNs 4 7 + outDelayNs 3 = 1771 := by decide +kernel

/-- The example after R130: the paddings of responses 1 and 43. -/
theorem test_padding : padding 1 1 = (0, 811) ∧ padding 8 1 = (858, 962) := by decide +kernel

/-- The example under R168: the symbol starts of an FDD uplink segment with 15 kHz spacing in Run, in ns. -/
theorem test_symbol_starts : ((default : Seg).ulStarts (0, 0) 476000000).map (fun u => (u + 500) / 1000) =
    [69827, 141181, 212535, 283890, 355244, 426598] := by decide +kernel

/-- R201's counts for the example's 64 taps, and its budget of 2 x 64 at 245.76 Msps. -/
theorem test_tap_drafts : drafts 64 = [64, 32, 16, 8, 0] ∧ tapBudget 7 = 128 := by decide +kernel

/-- R355: 105 MB for 112 sources give sub-rings of 983,040 B. -/
theorem test_sub_ring : subRing 105 112 = 983040 := by decide +kernel

/-- R384: a thermistor at R25 has 25 degrees C, whatever its BETA. -/
theorem test_thermistor_r25 : thermistorTemp 1000 3435 10000 = 400 ∧ thermistorTemp 4700 3977 47000 = 400 := by
  decide +kernel

/-- R152 and R133: two strands combine to half their sum at weights of 1.0, and UNS of one marks the sample. -/
theorem test_combine :
    combine [{ tap := .yarn 0, next := 1, data := [{ z := Cx.ofPair (100, 20), uns := false }] },
        { tap := .yarn 16, next := 1, data := [{ z := Cx.ofPair (300, -60), uns := true }] }]
      [(0, Cx.ofWeight 0x4000), (16, Cx.ofWeight 0x4000)] 0 =
      { z := Cx.ofPair (200, -20), uns := true } := by decide +kernel

/-- R186: the seed of register a for lrn 1, tracer ID 2 and tile 3. -/
theorem test_tracer_seed : tracerSeed 1 2 3 = 65572 := by decide +kernel

/-! ## Premises that can be met -/

theorem witness_StepRunsTheFrontCommand :
    (∃ (c : Instr) (rest : List Instr) (s : State), (s.pending = c :: rest)) ∧
    (∃ (s : State), (s.pending = [])) :=
  ⟨⟨(.setupLock 1#32), ([.runStart]), ({ State.reset with pending := [.setupLock 1#32, .runStart] }),
      by decide +kernel⟩,
   ⟨State.reset, by decide +kernel⟩⟩

theorem witness_CommandsLeaveTheQueue :
    ∃ (c : Instr) (s : State) (t : State), (exec c s = .next t) :=
  ⟨(.setupLock 1#32), ({ State.reset with pending := [.setupLock 1#32] }), (nextOf (exec (.setupLock 1#32)
      ({ State.reset with pending := [.setupLock 1#32] })) State.reset), answers_nextOf _ _ (by decide +kernel)⟩

theorem witness_CountersStayInRange :
    ∃ (s : State) (t : State), (s.time.InRange) ∧ (step s = .next t) :=
  ⟨({ up .standby .close with pending := [.tickEdge default], time := { TimeSt.reset with running := true, window := .close, n := 4294967295, tif := 19, sfn := 1023, hfc := 4294967295 } }),
      (nextOf (step
      ({ up .standby .close with pending := [.tickEdge default], time := { TimeSt.reset with running := true, window := .close, n := 4294967295, tif := 19, sfn := 1023, hfc := 4294967295 } }))
      State.reset), by decide +kernel, answers_nextOf _ _ (by decide +kernel)⟩

theorem witness_RingsStayBounded :
    ∃ (s : State) (t : State), (s.RingsOk) ∧ (step s = .next t) :=
  ⟨({ (hosted.setRing 0 { Ring.reset with p := 1, c := 4294967293 }) with pending := [.doorbellProducer 1] }),
      (nextOf (step
      ({ (hosted.setRing 0 { Ring.reset with p := 1, c := 4294967293 }) with pending := [.doorbellProducer 1] }))
      State.reset), by decide +kernel, answers_nextOf _ _ (by decide +kernel)⟩

theorem witness_PinnedRegionStaysBounded :
    ∃ (s : State) (t : State), (s.PinnedOk) ∧ (step s = .next t) :=
  ⟨({ (on (up .standby) fun d => { d with log := { d.log with staged := [{ typ := 0x0300, pinned := true, payload := zeros 16 }] } }) with pending := [.loglineRecordWrite true] }),
      (nextOf (step
      ({ (on (up .standby) fun d => { d with log := { d.log with staged := [{ typ := 0x0300, pinned := true, payload := zeros 16 }] } }) with pending := [.loglineRecordWrite true] }))
      State.reset), by decide +kernel, answers_nextOf _ _ (by decide +kernel)⟩

theorem witness_LatchedUntilPowerOn :
    ∃ (c : Instr) (s : State) (t : State), (s.modes.mode = .latched) ∧ (cyclesPower c = false) ∧ (exec c s = .next
      t) :=
  ⟨(.tickEdge default), (up .latched .close), (nextOf (exec (.tickEdge default) (up .latched .close)) State.reset),
      by decide +kernel, by decide +kernel, answers_nextOf _ _ (by decide +kernel)⟩

theorem witness_SetupLockHoldsUntilReset :
    (∃ (v : Word) (s : State), (s.setup.locked = false)) ∧
    (∃ (c : Instr) (s : State) (t : State), (s.setup.locked = true) ∧ (exec c s = .next t)) :=
  ⟨⟨(1#32), State.reset, by decide +kernel⟩,
   ⟨(.registerWrite 0x4C 1#32), ({ hosted with setup := { hosted.setup with lock := 1#32 } }), (nextOf (exec
      (.registerWrite 0x4C 1#32) ({ hosted with setup := { hosted.setup with lock := 1#32 } })) State.reset),
      by decide +kernel, answers_nextOf _ _ (by decide +kernel)⟩⟩

theorem witness_TickCountReadLatchesShadows :
    (∃ (s : State), (s.time.shTif < 32) ∧ (s.time.shSfn < 1024) ∧ (s.time.shHfc < two32)) ∧
    (∃ (c : Instr) (s : State) (t : State), (readsTickCnt c = false) ∧ (exec c s = .next t)) :=
  ⟨⟨({ State.reset with time := { TimeSt.reset with shTif := 19, shSfn := 1023, shHfc := 4294967295 } }),
      by decide +kernel⟩,
   ⟨.utcLoRead,
      ({ State.reset with time := { TimeSt.reset with shTif := 19, shSfn := 1023, shHfc := 4294967295 } }), (nextOf
      (exec (.utcLoRead)
      ({ State.reset with time := { TimeSt.reset with shTif := 19, shSfn := 1023, shHfc := 4294967295 } }))
      State.reset), by decide +kernel, answers_nextOf _ _ (by decide +kernel)⟩⟩

theorem witness_LifecycleFollowsItsTransitions :
    ∃ (c : Instr) (s : State) (t : State), (exec c s = .next t) :=
  ⟨(.lifeSet hdr 2 0 (inb lifeToken)), (keyed .standby), (nextOf (exec (.lifeSet hdr 2 0 (inb lifeToken)) (keyed
      .standby)) State.reset), answers_nextOf _ _ (by decide +kernel)⟩

theorem witness_TimeFloorNeverFalls :
    ∃ (c : Instr) (s : State) (t : State), (exec c s = .next t) :=
  ⟨(.timeSet hdr 7), (up .standby), (nextOf (exec (.timeSet hdr 7) (up .standby)) State.reset), answers_nextOf _ _
      (by decide +kernel)⟩

theorem witness_DescriptorsSpellTheirCommands :
    ∃ (i : Instr) (d : Descriptor), (wellFormed i = true) ∧ (descriptorOf i = some d) :=
  ⟨(.modeSet hdr 255), ((descriptorOf (.modeSet hdr 255)).getD default), by decide +kernel⟩

theorem witness_DoorbellsMoveValidIndices :
    (∃ (idx : Nat) (s : State), (idx < two32) ∧ (s.ctx.ringOn 0 = true) ∧ (sub32 idx (s.ring 0).c ≤ 2 ^ ringLog2
      (s.ctx.ringCfg 0)) ∧ (sub32 idx (s.ring 0).p ≤ 2 ^ ringLog2 (s.ctx.ringCfg 0))) ∧
    (∃ (k : Nat) (idx : Nat) (s : State), (1 ≤ k) ∧ (k ≤ 5) ∧ (idx < two32) ∧ (s.ctx.ringOn k = true) ∧ (sub32 idx
      (s.ring k).c ≤ sub32 (s.ring k).p (s.ring k).c)) ∧
    (∃ (idx : Nat) (s : State), ((s.ctx.ringOn 0 = false ∨ 2 ^ ringLog2 (s.ctx.ringCfg 0) < sub32 idx (s.ring 0).c ∨
      2 ^ ringLog2 (s.ctx.ringCfg 0) < sub32 idx (s.ring 0).p))) ∧
    (∃ (k : Nat) (idx : Nat) (s : State), (1 ≤ k) ∧ (k ≤ 5) ∧ ((s.ctx.ringOn k = false ∨ sub32 (s.ring k).p (s.ring
      k).c < sub32 idx (s.ring k).c))) :=
  ⟨⟨4, hosted, by decide +kernel⟩,
   ⟨5, 1, (hosted.setRing 5 { Ring.reset with p := 1 }), by decide +kernel⟩,
   ⟨2147483648, hosted, by decide +kernel⟩,
   ⟨1, 1, hosted, by decide +kernel⟩⟩

theorem witness_CommandFetchTakesOneDescriptor :
    (∃ (x : Descriptor) (s : State), (s.dev.boot.fwOk = true) ∧ (s.dev.host.mastering = true) ∧ (s.ctx.ringOn 0 =
      true) ∧ ((s.ring 0).used ≠ 0) ∧ (s.ctx.ringOn 1 = true) ∧ ((s.ring 1).used + s.dev.host.owed + 1 ≤ 2 ^
      ringLog2 (s.ctx.ringCfg 1)) ∧ (s.dev.host.waiting = []) ∧ (x.flags % 2 = 0)) ∧
    (∃ (ds : List Descriptor) (s : State), (s.dev.boot.fwOk = true) ∧ (s.dev.host.mastering = true) ∧ (s.ctx.ringOn
      0 = true) ∧ ((s.ring 0).used ≠ 0) ∧ ((s.ctx.ringOn 1 = false ∨ 2 ^ ringLog2 (s.ctx.ringCfg 1) < (s.ring
      1).used + s.dev.host.owed + 1)) ∧ (s.dev.host.waiting = []) ∧ (s.setup.idxBase = 0)) :=
  ⟨⟨({ (default : Descriptor) with opcode := 0x0105, dlen := 24, args := zeros 40 }), ((hosted.setRing 0
      { Ring.reset with p := 1 })), by decide +kernel⟩,
   ⟨([]), ({ (hosted.setRing 0 { Ring.reset with p := 1 }) with setup := { Setup.reset with ringCfg := [2#32] } }),
      by decide +kernel⟩⟩

theorem witness_DescriptorsAreEvaluated :
    (∃ (cidx : Nat) (x : Descriptor) (i : Instr) (s : State), (dlenOk x.dlen = true) ∧ (commandOf cidx x = some i))
      ∧
    (∃ (cidx : Nat) (x : Descriptor) (s : State), (x.dlen = 0)) ∧
    (∃ (cidx : Nat) (x : Descriptor) (s : State), (x.dlen ≠ 0) ∧ ((dlenOk x.dlen = false ∨ commandOf cidx x =
      none))) :=
  ⟨⟨3, ({ (default : Descriptor) with opcode := 0x0105, dlen := 24, args := zeros 40 }), (.sync
      { tag := 0, cidx := 3 }), hosted, by decide +kernel⟩,
   ⟨3, ((default : Descriptor)), hosted, by decide +kernel⟩,
   ⟨3, ({ (default : Descriptor) with opcode := 0xFFFF, dlen := 24, args := zeros 40 }), hosted, by decide +kernel⟩⟩

theorem witness_RecordsReachTheirRings :
    (∃ (k : Nat) (r : Staged) (rest : List Staged) (s : State), (takeStaged k s.dev.host.staged = some (r, rest)) ∧
      (s.ctx.ringOn k = true) ∧ ((s.ring k).used < 2 ^ ringLog2 (s.ctx.ringCfg k)) ∧ (s.dev.host.mastering = true) ∧
      (deadlinePassed s.time r = false) ∧ (k < s.rings.length)) ∧
    (∃ (k : Nat) (r : Staged) (rest : List Staged) (s : State), (takeStaged k s.dev.host.staged = some (r, rest)) ∧
      (s.ctx.ringOn k = true) ∧ (deadlinePassed s.time r = true)) ∧
    (∃ (k : Nat) (rest : List Staged) (s : State), (k ≠ 1) ∧ (s.ctx.ringOn k = true) ∧ (takeExpired s.time k
      s.dev.host.staged = some rest)) ∧
    (∃ (cidx : Nat) (w : OutWork) (s : State), (s.dev.host.outs.find? (fun w => w.hdr.cidx = cidx) = some w) ∧
      (s.dev.host.mastering = true)) ∧
    (∃ (k : Nat) (s : State), (1 ≤ k) ∧ (k ≤ 5) ∧ ((s.ring k).since ≠ 0) ∧ (s.ctx.ringOn k = true) ∧
      (s.dev.host.mastering = true) ∧ (s.setup.idxBase ≠ 0)) :=
  ⟨⟨1, ({ ring := 1, bytes := zeros 64, deadline := none, stamp := true }), ([]), ((on hosted fun d =>
      { d with host := { d.host with staged := [{ ring := 1, bytes := zeros 64, deadline := none, stamp := true }], owed := 1 } })),
      by decide +kernel⟩,
   ⟨2, ({ ring := 2, bytes := zeros 32, deadline := some 0, stamp := false }), ([]),
      ({ (on hosted fun d => { d with host := { d.host with staged := [{ ring := 2, bytes := zeros 32, deadline := some 0, stamp := false }] } }) with time := { TimeSt.reset with running := true, n := 5 } }),
      by decide +kernel⟩,
   ⟨2, ([]),
      ({ (on hosted fun d => { d with host := { d.host with staged := [{ ring := 2, bytes := zeros 32, deadline := some 0, stamp := false }], bme := false } }) with time := { TimeSt.reset with running := true, n := 5 } }),
      by decide +kernel⟩,
   ⟨3, ({ hdr := hdr, opcode := 0x0403, addr := 0, bytes := [1], result := [], cap := none }), ((on hosted fun d =>
      { d with host := { d.host with outs := [{ hdr := hdr, opcode := 0x0403, addr := 0, bytes := [1], result := [], cap := none }], owed := 1 } })),
      by decide +kernel⟩,
   ⟨5, (hosted.setRing 5 { Ring.reset with p := 1, since := 1 }), by decide +kernel⟩⟩

theorem witness_SetupWritesAreStored :
    (∃ (k : Nat) (v : Word) (s : State), (s.setup.locked = false) ∧ (k ≤ 5) ∧ (s.ctx.ringOn k = false)) ∧
    (∃ (k : Nat) (v : Word) (s : State), (s.setup.locked = false) ∧ (k ≤ 5) ∧ (k < s.rings.length) ∧ (k <
      s.setup.ringCfg.length) ∧ (s.ctx.ringOn k = false) ∧ (v.field 0 5 ≠ 0)) ∧
    (∃ (k : Nat) (v : Word) (s : State) (t : State), (s.ctx.ringOn k = true) ∧ (v.field 0 5 ≠ 0) ∧ (exec
      (.ringCfgWrite k 2 v) s = .next t)) ∧
    (∃ (v : Word) (s : State), (s.setup.locked = false)) ∧
    (∃ (v : Word) (s : State), (s.setup.locked = false)) :=
  ⟨⟨5, (0xFFFFFFFF#32), State.reset, by decide +kernel⟩,
   ⟨5, (8#32), State.reset, by decide +kernel⟩,
   ⟨0, (3#32), hosted, (nextOf (exec (.ringCfgWrite 0 2 3#32) (hosted)) State.reset), by decide +kernel,
      by decide +kernel, answers_nextOf _ _ (by decide +kernel)⟩,
   ⟨(0xFFFFFFFF#32), State.reset, by decide +kernel⟩,
   ⟨(0xFFFFFFFF#32), State.reset, by decide +kernel⟩⟩

theorem witness_ReadsFlagsAndLinkEvents :
    (∃ (k : Nat) (s : State), (k < 6)) ∧
    (∃ (off : Nat) (s : State), (off < 2 ^ 24) ∧ (s.dev.boot.powered = true)) ∧
    (∃ (code : Nat) (s : State), (code < 256)) ∧
    (∃ (s : State), (s.ident.testN = true) ∧ (s.dev.host.perstLow = false)) ∧
    (∃ (e : PcieEvent) (s : State), (e = .hotReset ∨ e = .linkDown ∨ e = .perstLow)) ∧
    (∃ (s : State), (s.dev.host.linkUp = true) ∧ (s.dev.host.d3hot = false)) :=
  ⟨⟨5, hosted, by decide +kernel⟩,
   ⟨0xFFFFFF, (up .standby), by decide +kernel⟩,
   ⟨5, ({ up .standby with ident := { Ident.reset with testN := false } }), by decide +kernel⟩,
   ⟨(up .standby), by decide +kernel⟩,
   ⟨.perstLow, hosted, by decide +kernel⟩,
   ⟨((on hosted fun d => { d with host := { d.host with bme := false } })), by decide +kernel⟩⟩

theorem witness_ModeSetIsJudgedAndWaits :
    (∃ (h : CmdHdr) (m : Nat) (t : Mode) (s : State), (s.dev.qual.pend = none) ∧ (modeField m = some t) ∧ (t ≠
      s.modes.mode) ∧ (s.dev.modeDenied s.ctx t = false) ∧ (s.dev.modeBusy s.ctx t = false)) ∧
    (∃ (h : CmdHdr) (m : Nat) (s : State), (s.dev.qual.pend = none) ∧ (modeField m = some s.modes.mode)) ∧
    (∃ (h : CmdHdr) (m : Nat) (s : State), (s.dev.qual.pend.isSome = true)) ∧
    (∃ (h : CmdHdr) (m : Nat) (s : State), (s.dev.qual.pend = none) ∧ (¬(m ∈ [2, 3, 4, 5, 6, 7, 10]))) ∧
    (∃ (h : CmdHdr) (m : Nat) (t : Mode) (s : State), (s.dev.qual.pend = none) ∧ (modeField m = some t) ∧ (t ≠
      s.modes.mode) ∧ (s.dev.modeDenied s.ctx t = true)) :=
  ⟨⟨hdr, 10, .maintenance, (up .standby), by decide +kernel⟩,
   ⟨hdr, 3, (up .survey), by decide +kernel⟩,
   ⟨hdr, 3, ((on (up .standby) fun d =>
      { d with qual := { d.qual with pend := some { opcode := 0x0101, target := .survey, tick := 2, tag := 9 } } })),
      by decide +kernel⟩,
   ⟨hdr, 11, (up .standby), by decide +kernel⟩,
   ⟨hdr, 5, .relayOpen, (up .standby), by decide +kernel⟩⟩

theorem witness_CoilIsEnteredAndLeft :
    (∃ (h : CmdHdr) (w : Nat) (s : State), (s.modes.mode = .standby ∨ s.modes.mode = .survey ∨ isRelay s.modes.mode
      = true) ∧ (w ≠ 1) ∧ (s.dev.qual.pend = none) ∧ (s.dev.plan.pending = none) ∧ (s.dev.book.load = none) ∧
      (s.dev.conv.syncPend = none)) ∧
    (∃ (h : CmdHdr) (e : Nat) (s : State), (s.modes.mode = .coil) ∧ (s.dev.qual.pend = none) ∧ (s.dev.qual.coilEntry
      = some e) ∧ (s.dev.qual.wakeTick = none)) ∧
    (∃ (s : State), (s.time.running = true) ∧ (s.time.window = .plan) ∧ (s.modes.mode = .coil) ∧ (s.modes.waking =
      false) ∧ (s.dev.qual.wakes s.time.n = true)) :=
  ⟨⟨hdr, 2, (up .standby), by decide +kernel⟩,
   ⟨hdr, 0, ((on (up .coil) fun d => { d with qual := { d.qual with coilEntry := some 0 } })), by decide +kernel⟩,
   ⟨((on (up .coil .plan) fun d => { d with qual := { d.qual with coilEntry := some 0, wakeTick := some 0 } })),
      by decide +kernel⟩⟩

theorem witness_ClockIsSetAndAdvances :
    (∃ (h : CmdHdr) (x : Nat) (s : State), (x ≠ 0) ∧ (s.modes.mode ≠ .reset) ∧ (s.modes.mode ≠ .latched) ∧
      (s.nv.timeFloor ≤ x)) ∧
    (∃ (h : CmdHdr) (x : Nat) (s : State), (x ≠ 0) ∧ ((s.modes.mode = .reset ∨ s.modes.mode = .latched ∨ x <
      s.nv.timeFloor))) ∧
    (∃ (u : Nat) (s : State), (s.dev.clk.utc = some u) ∧ (2000 ≤ s.dev.clk.ticks)) ∧
    (∃ (u : Nat) (s : State), (s.dev.clk.utc = some u) ∧ (3600 ≤ s.dev.clk.sinceFloor)) :=
  ⟨⟨hdr, 1, (up .standby), by decide +kernel⟩,
   ⟨hdr, 5, ({ up .standby with nv := { NvSt.shipped with timeFloor := 6 } }), by decide +kernel⟩,
   ⟨7, ((on (up .standby) fun d => { d with clk := { d.clk with utc := some 7, ticks := 2000 } })),
      by decide +kernel⟩,
   ⟨9, ((on (up .standby) fun d => { d with clk := { d.clk with utc := some 9, sinceFloor := 3600 } })),
      by decide +kernel⟩⟩

theorem witness_PlanLoadIsCheckedAndWaits :
    (∃ (h : CmdHdr) (b : InBuf) (p : Plan) (s : State), (s.planDecision b = .good p)) ∧
    (∃ (h : CmdHdr) (b : InBuf) (s : State), (modeAccepts s.modes.mode 0x0201 = true) ∧ (s.dev.plan.pending.isSome =
      true)) ∧
    (∃ (h : CmdHdr) (b : InBuf) (st : Nat) (det : Nat) (seg : Nat) (s : State), (s.planDecision b = .bad st det
      seg)) ∧
    (∃ (b : InBuf) (p : Plan) (s : State), (s.planDecision b = .good p)) :=
  ⟨⟨hdr, (inb demoImage), demoPlan, (keyed .standby), by decide +kernel⟩,
   ⟨hdr, (inb demoImage), ((on (keyed .standby) fun d =>
      { d with plan := { d.plan with pending := some { plan := demoPlan, tick := 2 } } })), by decide +kernel⟩,
   ⟨hdr, (inb demoImage), 3, 3, 255, (up .standby), by decide +kernel⟩,
   ⟨(inb demoImage), demoPlan, (keyed .standby), by decide +kernel⟩⟩

theorem witness_MutesAndIndicationsAreAccepted :
    (∃ (h : CmdHdr) (a : MuteArgs) (x : Nat) (s : State), (((a.level = 1 ∧ byidBeam a.id < Config.serviceBeams
      s.ident.member ∧ x = a.id % 2 ^ 15) ∨ (a.level = 2 ∧ a.bg ≤ 7 ∧ a.dir ≤ 1 ∧ x = loopScope a.bg a.dir) ∨
      (a.level = 3 ∧ a.id < s.ctx.strands ∧ x = a.id) ∨ ((a.level = 4 ∨ a.level = 5) ∧ x = 0))) ∧ (modeAccepts
      s.modes.mode 0x0202 = true)) ∧
    (∃ (h : CmdHdr) (a : MuteArgs) (x : Nat) (s : State), (((a.level = 1 ∧ byidBeam a.id < Config.serviceBeams
      s.ident.member ∧ x = a.id % 2 ^ 15) ∨ (a.level = 2 ∧ a.bg ≤ 7 ∧ a.dir ≤ 1 ∧ x = loopScope a.bg a.dir) ∨
      (a.level = 3 ∧ a.id < s.ctx.strands ∧ x = a.id) ∨ (a.level = 4 ∧ x = 0))) ∧ (modeAccepts s.modes.mode 0x0203 =
      true)) ∧
    (∃ (h : CmdHdr) (a : MuteArgs) (s : State), (a.level = 5)) ∧
    (∃ (h : CmdHdr) (a : MuteArgs) (s : State), (a.level = 0 ∨ 5 < a.level)) ∧
    (∃ (h : CmdHdr) (a : NetIndArgs) (s : State), (netIndBad a = false) ∧ (networkRules s.modes = true) ∧ (2 <
      niDistance s.ctx.tih a.sfn a.scs a.slot) ∧ (niDistance s.ctx.tih a.sfn a.scs a.slot ≤ 2048) ∧ ((a.kind = 1 →
      (s.dev.beams.mapped a.bg a.beamK).isSome = true)) ∧ (s.dev.prt.ni.length < 256)) ∧
    (∃ (h : CmdHdr) (a : NetIndArgs) (s : State), (netIndBad a = false) ∧ (networkRules s.modes = true) ∧
      (niDistance s.ctx.tih a.sfn a.scs a.slot ≤ 2) ∧ ((a.kind = 1 → (s.dev.beams.mapped a.bg a.beamK).isSome =
      true))) ∧
    (∃ (h : CmdHdr) (bg : Nat) (p : Nat) (k : Nat) (n : Nat) (b : InBuf) (q : Pend) (s : State), (bg ≤ 7) ∧ (p ≤ 10)
      ∧ (modeAccepts s.modes.mode 0x0205 = true) ∧ (InBufGood b ((20 * 2 ^ p + 7) / 8)) ∧ (s.time.running = true) ∧
      (k < 20 * 2 ^ p) ∧ ((s.ctx.tih + sub32 s.ctx.effTick s.time.n + k) % (20 * 2 ^ p) = 0) ∧ (n = (s.ctx.effTick +
      k) % 2 ^ 32) ∧ (q =
      { tick := n, opcode := 0x0205, tag := h.tag, what := .sched true { bg := bg, log2 := p, bits := schedBits p b.data } s.ctx.effTick }))
      ∧
    (∃ (h : CmdHdr) (bg : Nat) (p : Nat) (k : Nat) (n : Nat) (b : InBuf) (q : Pend) (s : State), (bg ≤ 7) ∧ (p ≤ 10)
      ∧ (modeAccepts s.modes.mode 0x0205 = true) ∧ (s.time.running = true) ∧ (k < 20 * 2 ^ p) ∧ ((s.ctx.tih + sub32
      s.ctx.effTick s.time.n + k) % (20 * 2 ^ p) = 0) ∧ (n = (s.ctx.effTick + k) % 2 ^ 32) ∧ (q =
      { tick := n, opcode := 0x0205, tag := h.tag, what := .sched false { bg := bg, log2 := p, bits := [] } s.ctx.effTick }))
      :=
  ⟨⟨hdr, ({ level := 4, bg := 0, dir := 0, id := 0 }), 0, (up .standby), by decide +kernel⟩,
   ⟨hdr, ({ level := 4, bg := 0, dir := 0, id := 0 }), 0, (up .standby), by decide +kernel⟩,
   ⟨hdr, ({ level := 5, bg := 0, dir := 0, id := 0 }), (up .standby), by decide +kernel⟩,
   ⟨hdr, ({ level := 6, bg := 0, dir := 0, id := 0 }), (up .standby), by decide +kernel⟩,
   ⟨hdr, ({ kind := 2, bg := 0, scs := 1, beamK := 0, sfn := 0, slot := 3, on := 1, nslots := 2 }), (up
      .relayNetwork), by decide +kernel⟩,
   ⟨hdr, ({ kind := 2, bg := 0, scs := 1, beamK := 0, sfn := 0, slot := 2, on := 1, nslots := 2 }), (up
      .relayNetwork), by decide +kernel⟩,
   ⟨hdr, 7, 0, 18, 20, (inb (zeros 3)),
      ({ tick := 20, opcode := 0x0205, tag := 9, what := .sched true { bg := 7, log2 := 0, bits := schedBits 0 (zeros 3) } 2 }),
      (up .standby), by decide +kernel⟩,
   ⟨hdr, 7, 10, 20478, 20480, (inb (zeros 2560)),
      ({ tick := 20480, opcode := 0x0205, tag := 9, what := .sched false { bg := 7, log2 := 10, bits := [] } 2 }),
      (up .standby), by decide +kernel⟩⟩

theorem witness_MuteContactAndRelease :
    (∃ (sub : Nat) (s : State), (s.modes.mode = .reset)) ∧
    (∃ (sub : Nat) (s : State), (s.modes.mode ≠ .reset)) ∧
    (∃ (s : State), (s.time.running = true) ∧ (s.time.window = .plan)) :=
  ⟨⟨5, (up .reset), by decide +kernel⟩,
   ⟨5, (up .relayOpen), by decide +kernel⟩,
   ⟨(up .relayOpen .plan), by decide +kernel⟩⟩

theorem witness_LossAndExpiryMute :
    (∃ (s : State), (s.time.running = true) ∧ (s.time.window = .plan) ∧ (donorLossMode s.modes.mode = true) ∧
      (s.dev.use.ptrCfg.field 0 2 ≠ 2) ∧ (40 ≤ s.dev.prt.noSync) ∧ (s.dev.prt.declared = none) ∧ (s.dev.holds 9 4 0
      = false)) ∧
    (∃ (t0 : Nat) (s : State), (s.time.running = true) ∧ (s.time.window = .plan) ∧ (relays s.modes.mode = true) ∧
      (s.dev.prt.declared = some t0) ∧ (min (s.dev.use.prtCfg.field 0 8) 200 ≤ sub32 s.time.n t0) ∧
      (s.dev.use.ptrCfg.field 0 2 ≠ 2) ∧ (s.dev.level5 = false)) ∧
    (∃ (s : State), (s.time.running = true) ∧ (s.time.window = .plan) ∧ (relays s.modes.mode = true) ∧
      (s.dev.plan.committed.isSome = true) ∧ (s.dev.plan.valid = false) ∧ (s.dev.planExpired = false) ∧
      (s.dev.level5 = false)) :=
  ⟨⟨((on (up .relayOpen .plan) fun d => { d with prt := { d.prt with noSync := 40 } })), by decide +kernel⟩,
   ⟨0,
      ({ (on (up .relayOpen .plan) fun d => { d with prt := { d.prt with declared := some 0 } }) with time := { TimeSt.reset with running := true, window := .plan, n := 200 } }),
      by decide +kernel⟩,
   ⟨((on (planned .relayOpen .plan) fun d => { d with plan := { d.plan with valid := false } })),
      by decide +kernel⟩⟩

theorem witness_SynthesizerAndSync :
    (∃ (s : State), (s.modes.mode ≠ .reset) ∧ (s.dev.boot.powered = true) ∧ (s.time.running = false)) ∧
    (∃ (s : State), (s.modes.mode ≠ .reset) ∧ (s.dev.boot.powered = true) ∧ (s.time.running = true)) ∧
    (∃ (lost : Bool) (s : State), (s.modes.mode ≠ .reset) ∧ (s.dev.conv.locked = true) ∧ (s.dev.holds 10 4 0 =
      false)) ∧
    (∃ (h : CmdHdr) (s : State), (modeAccepts s.modes.mode 0x0105 = true) ∧ (s.dev.isSlave = false) ∧
      (s.dev.qual.bars = false) ∧ (s.dev.conv.syncPend = none)) ∧
    (∃ (h : CmdHdr) (n : Nat) (s : State), (modeAccepts s.modes.mode 0x0105 = true) ∧ (s.dev.isSlave = false) ∧
      (s.dev.qual.bars = false) ∧ (s.dev.conv.syncPend = some n)) ∧
    (∃ (s : State), (s.modes.mode = .standby ∨ s.modes.mode = .survey ∨ s.modes.mode = .maintenance) ∧
      (s.dev.isSlave = false) ∧ (s.dev.qual.bars = false) ∧ (s.dev.conv.syncPend = none)) ∧
    (∃ (s : State), (isRelay s.modes.mode = true)) ∧
    (∃ (s : State), (s.time.running = true) ∧ (s.time.window = .plan) ∧ (s.dev.conv.syncPend = some s.time.n)) ∧
    (∃ (n : Nat) (s : State), (s.dev.isSlave = true)) :=
  ⟨⟨State.reset, by decide +kernel⟩,
   ⟨(up .standby), by decide +kernel⟩,
   ⟨true, ((on (up .standby) fun d => { d with conv := { d.conv with locked := true, refOk := true } })),
      by decide +kernel⟩,
   ⟨hdr, (up .maintenance), by decide +kernel⟩,
   ⟨hdr, 2, ((on (up .standby) fun d => { d with conv := { d.conv with syncPend := some 2 } })), by decide +kernel⟩,
   ⟨(up .survey), by decide +kernel⟩,
   ⟨(up .relaySteered), by decide +kernel⟩,
   ⟨((on (up .standby .plan) fun d => { d with conv := { d.conv with syncPend := some 0 } })), by decide +kernel⟩,
   ⟨7, ((on (up .standby) fun d => { d with ptr := { d.ptr with st := .slave } })), by decide +kernel⟩⟩

theorem witness_CalibrationRunsAndEnds :
    (∃ (h : CmdHdr) (first : Nat) (count : Nat) (s : State), (count ≠ 0) ∧ (first + count ≤ s.ctx.strands) ∧
      (s.modes.mode = .maintenance) ∧ (s.dev.conv.calRun = none)) ∧
    (∃ (res : List StrandCal) (s : State), (s.modes.mode = .boot) ∧ (s.time.running = true) ∧ (s.dev.boot.calDone =
      false) ∧ (s.dev.conv.calRun = none) ∧ (s.dev.conv.strands.length = 128) ∧ (s.nv.calStore.length = 128) ∧
      (s.dev.conv.wave < 8)) ∧
    (∃ (w : CalRunSt) (res : List StrandCal) (s : State), (s.dev.conv.calRun = some w) ∧ (s.dev.conv.strands.length
      = 128) ∧ (s.nv.calStore.length = 128) ∧ (w.first + w.count ≤ 128)) ∧
    (∃ (w : CalRunSt) (res : List StrandCal) (good : Nat) (failed : Nat) (tick : Nat) (s : State),
      (s.dev.conv.calRun = some w) ∧ (s.dev.conv.strands.length = 128) ∧ (s.nv.calStore.length = 128) ∧ (w.first +
      w.count ≤ 128) ∧ (s.dev.isSlave = false) ∧ (s.dev.splice.peers = []) ∧ (good = w.good + w.rest.countP (fun g
      => strandOk (calResult res g))) ∧ (failed = w.failed + (w.rest.length - w.rest.countP fun g => strandOk
      (calResult res g))) ∧ (tick = s.dev.conv.syncPend.getD ((s.time.n + 1) % 2 ^ 32))) :=
  ⟨⟨hdr, 127, 1, (up .maintenance), by decide +kernel⟩,
   ⟨([]), (up .boot), by decide +kernel⟩,
   ⟨({ hdr := hdr, first := 0, count := 1, good := 0, failed := 0 }), ([]), ((on (up .maintenance) fun d =>
      { d with conv := { d.conv with calRun := some { hdr := hdr, first := 0, count := 1, good := 0, failed := 0 } } })),
      by decide +kernel⟩,
   ⟨({ hdr := hdr, first := 0, count := 1, good := 0, failed := 0 }), ([]), 0, 1, 1, ((on (up .maintenance) fun d =>
      { d with conv := { d.conv with calRun := some { hdr := hdr, first := 0, count := 1, good := 0, failed := 0 } } })),
      by decide +kernel⟩⟩

theorem witness_TxTestsStartAndStop :
    (∃ (h : CmdHdr) (a : TxTestArgs) (e : Dev) (s : State), (a.kind ≠ 0) ∧ (txTestBad s.ctx a = false) ∧
      (s.modes.mode = .maintenance) ∧ (s.dev.txTestDenied a = false) ∧ ((∀ g, g ∈ testStrands a → ∀ x, x ∈
      s.dev.conv.tests → x.g = g → x.ended = true)) ∧ (s.dev.fetched.admitAll (testYarns s.ctx.effTick a) = some e))
      ∧
    (∃ (h : CmdHdr) (a : TxTestArgs) (s : State), (a.kind = 0) ∧ (s.modes.mode = .maintenance)) :=
  ⟨⟨hdr,
      ({ kind := 1, paEn := 0, rho := 1, first := 1, count := 1, centreKhz := 1810000, level := -320, duration := 10 }),
      (((formed .maintenance).dev.fetched.admitAll (testYarns (formed .maintenance).ctx.effTick
      { kind := 1, paEn := 0, rho := 1, first := 1, count := 1, centreKhz := 1810000, level := -320, duration := 10 })).getD
      default), (formed .maintenance), by decide +kernel⟩,
   ⟨hdr,
      ({ kind := 0, paEn := 0, rho := 1, first := 1, count := 1, centreKhz := 1810000, level := -320, duration := 10 }),
      (up .maintenance), by decide +kernel⟩⟩

theorem witness_FrontEndTablesAndYarnMap :
    (∃ (h : CmdHdr) (nblk : Nat) (b : InBuf) (ns : List FeNode) (s : State), (nblk ≠ 0) ∧ (InBufGood b 1) ∧
      (feNodesOf s.ctx.strands nblk (b.data.take b.len) = some ns) ∧ ((ns.map (·.g)).Nodup) ∧ (modeAccepts
      s.modes.mode 0x0301 = true)) ∧
    (∃ (h : CmdHdr) (first : Nat) (count : Nat) (o : OutBuf) (s : State), (OutBufGood o) ∧ (count ≠ 0) ∧ (first +
      count ≤ Config.yarns s.ident.member) ∧ (modeAccepts s.modes.mode 0x0302 = true) ∧ (16 * count ≤ o.len)) :=
  ⟨⟨hdr, 1, (inb feBlock), feDemo, (up .standby), by decide +kernel⟩,
   ⟨hdr, 2047, 1, (outb 16), (up .standby), by decide +kernel⟩⟩

theorem witness_LanyardNodesAreSupervised :
    (∃ (ans : List NodeAnswer) (s : State), (s.modes.mode = .boot) ∧ (s.dev.boot.calDone = true) ∧ (s.dev.lyd.clk =
      true) ∧ (s.dev.lyd.discovered = false)) ∧
    (∃ (ans : List NodeAnswer) (s : State), (s.dev.lyd.clk = true) ∧ (s.dev.lyd.discovered = true) ∧ (s.time.n %
      2000 = 0) ∧ (s.time.window = .run)) ∧
    (∃ (p : Nat) (k : Nat) (q : QFrame) (rest : List QFrame) (s : State), (s.dev.lyd.clk = true) ∧ (s.dev.portOn
      s.ctx p = true) ∧ (s.slotFree p k = true) ∧ (takeFrame p k s.dev.lyd.queue = some (q, rest))) ∧
    (∃ (a : RspArgs) (pa : Nat) (tr : Nat) (lna : Nat) (s : State), (s.dev.lyd.clk = true) ∧ (a.g < s.ctx.strands) ∧
      ((s.dev.node a.g).present = true) ∧ (a.g < s.dev.lyd.nodes.length) ∧ (pa = a.status % 16) ∧ (tr = a.status /
      16 % 16) ∧ ((s.dev.node a.g).commandedAt (s.dev.lydEdge s.ctx (10000 * (a.sub : Int))) = (pa, tr, lna)) ∧
      (a.status / 256 % 16 = 0) ∧ (maskBit a.status 13 = false) ∧ ((a.status % 16 = 0 ∨ ∀ m, m ∈ s.dev.prt.mutes →
      m.level < 4))) ∧
    (∃ (g : Nat) (crc : Bool) (s : State), (s.dev.lyd.clk = true) ∧ (g < s.ctx.strands) ∧ ((s.dev.node g).present =
      true) ∧ (g < s.dev.lyd.nodes.length) ∧ ((s.dev.node g).miss = 0)) ∧
    (∃ (g : Nat) (crc : Bool) (s : State), (s.dev.lyd.clk = true) ∧ (g < s.ctx.strands) ∧ ((s.dev.node g).present =
      true) ∧ (g < s.dev.lyd.nodes.length) ∧ ((s.dev.node g).miss ≠ 0) ∧ (s.dev.holds 8 3 g = false)) :=
  ⟨⟨([{ g := 1, data := 0 }]), ((on (up .boot) fun d =>
      { d with boot := { d.boot with calDone := true }, lyd := { d.lyd with clk := true } })), by decide +kernel⟩,
   ⟨([]), ((on (up .standby) fun d => { d with lyd := { d.lyd with clk := true, discovered := true } })),
      by decide +kernel⟩,
   ⟨0, 0, ({ port := 0, word := 5, edge := none }), ([]), ((on (planned .standby) fun d =>
      { d with lyd := { d.lyd with clk := true, queue := [{ port := 0, word := 5, edge := none }] } })),
      by decide +kernel⟩,
   ⟨({ g := 1, status := 0, data := 0, sub := 0 }), 0, 0, 0, ((on (up .standby) fun d =>
      { d with lyd := { d.lyd with clk := true, nodes := d.lyd.nodes.set 1 { d.node 1 with present := true } } })),
      by decide +kernel⟩,
   ⟨1, true, ((on (up .standby) fun d =>
      { d with lyd := { d.lyd with clk := true, nodes := d.lyd.nodes.set 1 { d.node 1 with present := true } } })),
      by decide +kernel⟩,
   ⟨1, false, ((on (up .standby) fun d =>
      { d with lyd := { d.lyd with clk := true, nodes := d.lyd.nodes.set 1 { d.node 1 with present := true, miss := 1 } } })),
      by decide +kernel⟩⟩

theorem witness_TddBoundariesStepTheirPaths :
    (∃ (a : SwitchArgs) (seg : Seg) (p : FePath) (dir : Nat) (e : Nat) (b : Nat) (E : Int) (B : Int) (s : State),
      (s.switchOf a = some (seg, p, dir, e, b)) ∧ (s.dev.lyd.clk = true) ∧ (dir ≤ 1) ∧ (s.dev.side a.g = txSide dir)
      ∧ (p.serves (serveDir (s.dev.side a.g) dir) = true) ∧ (p.serves (serveDir (s.dev.side a.g) (1 - dir)) = true)
      ∧ (E = seg.edgePs p (s.dev.side a.g) dir e) ∧ (B = seg.edgePs p (s.dev.side a.g) (1 - dir) b)) ∧
    (∃ (a : SwitchArgs) (seg : Seg) (p : FePath) (dir : Nat) (e : Nat) (b : Nat) (E : Int) (B : Int) (T : Int) (s :
      State), (s.switchOf a = some (seg, p, dir, e, b)) ∧ (s.dev.lyd.clk = true) ∧ (dir ≤ 1) ∧ (s.dev.side a.g ≠
      txSide dir) ∧ (p.serves (serveDir (s.dev.side a.g) dir) = true) ∧ (p.serves (serveDir (s.dev.side a.g) (1 -
      dir)) = true) ∧ (E = seg.edgePs p (s.dev.side a.g) dir e) ∧ (B = seg.edgePs p (s.dev.side a.g) (1 - dir) b) ∧
      (T = max (E + 100000) (B - 1000 * p.paOn - 1000 * p.swSettle))) ∧
    (∃ (a : SwitchArgs) (s : State), (s.switchOf a = none)) ∧
    (∃ (a : SwitchArgs) (s : State), (s.dev.side a.g = 0)) :=
  ⟨⟨({ g := 0, path := 0, seg := 0, sym := 13 }), (((tddState.dev.plan.committed.getD default).segs.headD default)),
      (((feDemo.headD default).paths.headD default)), 1, 15360, 15360, (((tddState.dev.plan.committed.getD
      default).segs.headD default).edgePs ((feDemo.headD default).paths.headD default) 1 1 15360),
      (((tddState.dev.plan.committed.getD default).segs.headD default).edgePs ((feDemo.headD default).paths.headD
      default) 1 0 15360), tddState, by decide +kernel⟩,
   ⟨({ g := 0, path := 0, seg := 0, sym := 5 }), (((tddState.dev.plan.committed.getD default).segs.headD default)),
      (((feDemo.headD default).paths.headD default)), 0, 6592, 8784, (((tddState.dev.plan.committed.getD
      default).segs.headD default).edgePs ((feDemo.headD default).paths.headD default) 1 0 6592),
      (((tddState.dev.plan.committed.getD default).segs.headD default).edgePs ((feDemo.headD default).paths.headD
      default) 1 1 8784), (max (((tddState.dev.plan.committed.getD default).segs.headD default).edgePs
      ((feDemo.headD default).paths.headD default) 1 0 6592 + 100000) (((tddState.dev.plan.committed.getD
      default).segs.headD default).edgePs ((feDemo.headD default).paths.headD default) 1 1 8784 - 1000 *
      ((feDemo.headD default).paths.headD default).paOn - 1000 * ((feDemo.headD default).paths.headD
      default).swSettle)), tddState, by decide +kernel⟩,
   ⟨({ g := 0, path := 0, seg := 0, sym := 4 }), tddState, by decide +kernel⟩,
   ⟨({ g := 127, path := 0, seg := 0, sym := 5 }), tddState, by decide +kernel⟩⟩

theorem witness_BeamAndCancellerCommands :
    (∃ (h : CmdHdr) (a : BeamSetArgs) (b : InBuf) (s : State), (beamBad s.ident.member s.dev a = false) ∧
      ((beamBytes a = 0 ∨ InBufGood b (beamBytes a))) ∧ ((∀ v, v ∈ beamVectors a (b.data.take b.len) → vecBad
      s.dev.plan.loaded (if a.target = 2 then 1 else 2) v = false)) ∧ (modeAccepts s.modes.mode 0x0303 = true)) ∧
    (∃ (h : CmdHdr) (a : CancArgs) (s : State), (s.dev.fetched.cancBad s.ctx a = false) ∧ (modeAccepts s.modes.mode
      0x0305 = true) ∧ ((a.vkind ≠ 0 → s.dev.importsOver a = false))) ∧
    (∃ (h : CmdHdr) (all : Nat) (nids : Nat) (b : InBuf) (s : State), (all ≤ 1) ∧ (nids ≤ 32) ∧ ((nids = 0 ∨
      InBufGood b (2 * nids))) ∧ ((∀ i, i < nids → fieldAt (b.data.take b.len) (2 * i) 2 ≤ 4095)) ∧ (modeAccepts
      s.modes.mode 0x0307 = true)) :=
  ⟨⟨hdr, ({ (default : BeamSetArgs) with target := 4, k := 63, mapEnt := 4095 }), (inb []), (up .standby),
      by decide +kernel⟩,
   ⟨hdr,
      ({ inst := 0, vkind := 0, bg := 0, pos := 0, beam := 0, taps := 0, pre := 0, forget := 0, refs := [0, 0, 0, 0], imods := [0, 0, 0, 0] }),
      (planned .survey), by decide +kernel⟩,
   ⟨hdr, 1, 1, (inb (leBytes 2 4095)), (up .survey), by decide +kernel⟩⟩

theorem witness_ArrayCalibration :
    (∃ (h : CmdHdr) (a : ArrayCalArgs) (o : OutBuf) (e : Dev) (s : State), (OutBufGood o) ∧ (1 ≤ a.side) ∧ (a.side ≤
      2) ∧ (1 ≤ a.rho) ∧ (a.rho ≤ 8) ∧ (1 ≤ a.ticks) ∧ (a.ticks ≤ 64) ∧ (a.gRef ∈ sideStrands s.dev.plan.loaded
      a.side) ∧ (inSegment s.dev.plan.loaded a.centreKhz = true) ∧ ((s.modes.mode = .survey ∨ s.modes.mode =
      .maintenance)) ∧ (s.dev.beams.arrayCal = none) ∧ (16 * (sideStrands s.dev.plan.loaded a.side).length ≤ o.len)
      ∧ (s.dev.fetched.admitAll ((sideStrands s.dev.plan.loaded a.side).map fun g => mkYarn 4 0 s.ctx.effTick g
      a.centreKhz a.rho 0) = some e)) ∧
    (∃ (w : ArrayCalSt) (rs : List ArrayRes) (out : List ArrayRes) (s : State), (s.dev.beams.arrayCal = some w) ∧
      (s.dev.host.mastering = true) ∧ (w.a.ticks ≤ w.done) ∧ (out = w.gs.map (fun g => (rs.find? fun r => r.g ==
      g).getD { g := g, tau := 0, phase := 0, ampl := 0, qual := 0 }))) ∧
    (∃ (w : ArrayCalSt) (rs : List ArrayRes) (s : State), (s.dev.beams.arrayCal = some w) ∧ (w.done < w.a.ticks)) :=
  ⟨⟨hdr, ({ side := 1, rho := 1, ticks := 64, gRef := 0, centreKhz := 1810000 }), (outb 16), (((formed
      .maintenance).dev.fetched.admitAll ((sideStrands (formed .maintenance).dev.plan.loaded 1).map fun g => mkYarn
      4 0 (formed .maintenance).ctx.effTick g 1810000 1 0)).getD default), ((formed .maintenance)),
      by decide +kernel⟩,
   ⟨({ gs := [0], start := 0, done := 64, hdr := hdr, a := { side := 1, rho := 1, ticks := 64, gRef := 0, centreKhz := 1810000 }, addr := 64 }),
      ([]), ([{ g := 0, tau := 0, phase := 0, ampl := 0, qual := 0 }]), ((on hosted fun d =>
      { d with beams := { d.beams with arrayCal := some { gs := [0], start := 0, done := 64, hdr := hdr, a := { side := 1, rho := 1, ticks := 64, gRef := 0, centreKhz := 1810000 }, addr := 64 } }, ldl := { d.ldl with myarns := [mkYarn 4 0 0 0 1810000 1 0] } })),
      by decide +kernel⟩,
   ⟨({ gs := [0], start := 0, done := 63, hdr := hdr, a := { side := 1, rho := 1, ticks := 64, gRef := 0, centreKhz := 1810000 }, addr := 64 }),
      ([]), ((on hosted fun d =>
      { d with beams := { d.beams with arrayCal := some { gs := [0], start := 0, done := 63, hdr := hdr, a := { side := 1, rho := 1, ticks := 64, gRef := 0, centreKhz := 1810000 }, addr := 64 } } })),
      by decide +kernel⟩⟩

theorem witness_EntriesAreLearnedAndAge :
    (∃ (h : CmdHdr) (a : LearnArgs) (s : State), (a.bg ≤ 7) ∧ (a.n ≠ 0) ∧ (a.e + a.n ≤ 4096) ∧ (16 ≤ a.learnTicks) ∧
      (a.learnTicks ≤ 1024) ∧ (1 ≤ a.ltaps) ∧ (a.ltaps ≤ 256) ∧ (a.ltaps ≤ s.dev.learnBudget a.bg) ∧ ((s.modes.mode
      = .survey ∨ isRelay s.modes.mode = true)) ∧ ((∀ l, s.dev.can.learn = some l → l.host = false))) ∧
    (∃ (l : LearnSt) (x : Samples) (u : State) (s : State), (u = s.feed x) ∧ (u.dev.can.learn = some l) ∧ (l.host =
      true) ∧ (l.a.learnTicks ≤ l.ticks) ∧ (l.at_ < l.a.e + l.a.n)) ∧
    (∃ (l : LearnSt) (s : State), (s.dev.can.learn = some l) ∧ (l.host = true) ∧ (l.a.e + l.a.n ≤ l.at_)) ∧
    (∃ (bg : Nat) (e : Nat) (s : State), (s.dev.use.entryAge ≠ 0)) :=
  ⟨⟨hdr, ({ bg := 0, e := 4095, n := 1, learnTicks := 16, ltaps := 1 }), (planned .survey), by decide +kernel⟩,
   ⟨({ host := true, hdr := hdr, a := { bg := 0, e := 4095, n := 1, learnTicks := 16, ltaps := 1 }, at_ := 4095, done := 0, ticks := 16, ests := [] }),
      ({ yarns := [], peers := [] }), ((on ((on (up .survey) fun d =>
      { d with can := { d.can with learn := some { host := true, hdr := hdr, a := { bg := 0, e := 4095, n := 1, learnTicks := 16, ltaps := 1 }, at_ := 4095, done := 0, ticks := 16, ests := [] } } }))
      fun d => { d with beams := { d.beams with code := [{ bg := 0, e := 4095, rx := [], iso := none }] } }).feed
      { yarns := [], peers := [] }), ((on ((on (up .survey) fun d =>
      { d with can := { d.can with learn := some { host := true, hdr := hdr, a := { bg := 0, e := 4095, n := 1, learnTicks := 16, ltaps := 1 }, at_ := 4095, done := 0, ticks := 16, ests := [] } } }))
      fun d => { d with beams := { d.beams with code := [{ bg := 0, e := 4095, rx := [], iso := none }] } })), rfl,
      by decide +kernel⟩,
   ⟨({ host := true, hdr := hdr, a := { bg := 0, e := 4095, n := 1, learnTicks := 16, ltaps := 1 }, at_ := 4096, done := 1, ticks := 0, ests := [] }),
      ((on (up .survey) fun d =>
      { d with can := { d.can with learn := some { host := true, hdr := hdr, a := { bg := 0, e := 4095, n := 1, learnTicks := 16, ltaps := 1 }, at_ := 4096, done := 1, ticks := 0, ests := [] } } })),
      by decide +kernel⟩,
   ⟨0, 0, ((on (up .survey) fun d => { d with use := { d.use with canCfg := 0xFFFFFFFF#32 } })), by decide +kernel⟩⟩

theorem witness_OscillationAndImports :
    (∃ (a : OscArgs) (r : OscRun) (g : Int) (u : State) (s : State), (u = s.feed a.samples) ∧ (relays u.modes.mode =
      true) ∧ (a.byid ∈ u.dev.formedNow u.ctx) ∧ (u.dev.yarnMuted a.byid = false) ∧ (¬(byidOwner u.ctx.hawsers
      a.byid ∈ u.dev.boot.blkRun)) ∧ (u.dev.osc.find? (fun o => o.byid == a.byid) = some r) ∧ (2 ≤ r.a) ∧
      (u.dev.loopGain u.ctx (u.dev.rhoOf a.byid) a.byid (u.oscEnd a.byid a.sub) = some g) ∧ (-dB < g)) ∧
    (∃ (a : OscArgs) (r : OscRun) (g : Int) (bins : List Rat) (runs : List Nat) (u : State) (s : State), (u = s.feed
      a.samples) ∧ (relays u.modes.mode = true) ∧ (a.byid ∈ u.dev.formedNow u.ctx) ∧ (u.dev.yarnMuted a.byid =
      false) ∧ (¬(byidOwner u.ctx.hawsers a.byid ∈ u.dev.boot.blkRun)) ∧ (u.dev.osc.find? (fun o => o.byid ==
      a.byid) = some r) ∧ (u.dev.loopGain u.ctx (u.dev.rhoOf a.byid) a.byid (u.oscEnd a.byid a.sub) = some g) ∧ (g ≤
      -dB) ∧ (bins = u.dev.oscSpectrum (u.dev.rhoOf a.byid) a.byid (u.oscEnd a.byid a.sub)) ∧ (runs = binRises
      r.bins bins r.rises) ∧ (lineGrows bins runs = false)) :=
  ⟨⟨({ byid := 8192, sub := 10000, samples := { yarns := [], peers := [] } }),
      ({ byid := 8192, a := 2, bins := [], rises := [] }), 0, ((oscState (0)).feed { yarns := [], peers := [] }),
      (oscState 0), rfl, by decide +kernel⟩,
   ⟨({ byid := 8192, sub := 10000, samples := { yarns := [], peers := [] } }),
      ({ byid := 8192, a := 2, bins := [], rises := [] }), (-dB), (((oscState (-16)).feed
      { yarns := [], peers := [] }).dev.oscSpectrum (((oscState (-16)).feed { yarns := [], peers := [] }).dev.rhoOf
      8192) 8192 (((oscState (-16)).feed { yarns := [], peers := [] }).oscEnd 8192 10000)), (binRises [] (((oscState
      (-16)).feed { yarns := [], peers := [] }).dev.oscSpectrum (((oscState (-16)).feed
      { yarns := [], peers := [] }).dev.rhoOf 8192) 8192 (((oscState (-16)).feed
      { yarns := [], peers := [] }).oscEnd 8192 10000)) []), ((oscState (-16)).feed { yarns := [], peers := [] }),
      (oscState (-16)), rfl, by decide +kernel, by decide +kernel, by decide +kernel, by decide +kernel,
      by decide +kernel, by decide +kernel, by decide +kernel, rfl, rfl, by decide +kernel⟩⟩

theorem witness_GainAndPowerCommands :
    (∃ (h : CmdHdr) (a : GainArgs) (s : State), (a.mask % 32 = 0) ∧ (modeAccepts s.modes.mode 0x0401 = true)) ∧
    (∃ (h : CmdHdr) (a : GainArgs) (s : State), (a.mask % 32 ≠ 0) ∧ (a.bg ≤ 7) ∧ (a.dir ≤ 1) ∧ ((a.dir = 1 → a.beam
      < Config.serviceBeams s.ident.member ∨ a.beam = 0xFE ∨ a.beam = 0xFF)) ∧ ((maskBit a.mask 0 = true → 480 ≤
      a.target ∧ a.target ≤ 1840)) ∧ ((maskBit a.mask 1 = true → a.pmax ≤ 960)) ∧ ((maskBit a.mask 2 = true → a.vlim
      ≤ 4000 ∧ 1 ≤ a.alim ∧ a.alim ≤ 1000 ∧ 1 ≤ a.jlim ∧ a.jlim ≤ 1000)) ∧ ((maskBit a.mask 4 = true → a.lnaSt ≤ 3 ∧
      a.pagSt ≤ 3)) ∧ (modeAccepts s.modes.mode 0x0401 = true)) ∧
    (∃ (h : CmdHdr) (a : GainArgs) (s : State), (a.mask % 32 ≠ 0) ∧ (gainBad s.ident.member a = true)) ∧
    (∃ (h : CmdHdr) (xfade : Nat) (kp : List Nat) (ki : List Nat) (s : State), (1 ≤ xfade) ∧ (xfade ≤ 64) ∧ ((∀ i, i
      < 8 → kp.getD i 0 % 65536 ≠ 0 ∨ ki.getD i 0 % 65536 ≠ 0)) ∧ (modeAccepts s.modes.mode 0x0402 = true)) ∧
    (∃ (h : CmdHdr) (xfade : Nat) (kp : List Nat) (ki : List Nat) (s : State), ((xfade = 0 ∨ 64 < xfade ∨ ∃ i, i < 8
      ∧ kp.getD i 0 % 65536 = 0 ∧ ki.getD i 0 % 65536 = 0))) ∧
    (∃ (h : CmdHdr) (first : Nat) (count : Nat) (o : OutBuf) (rs : List Bytes) (s : State), (OutBufGood o) ∧ (1 ≤
      count) ∧ (count ≤ 256) ∧ (modeAccepts s.modes.mode 0x0403 = true) ∧ (rs = s.dev.belRecords s.modes.mode (first
      % 32768) count) ∧ (32 * rs.length ≤ o.len)) ∧
    (∃ (h : CmdHdr) (w : Nat) (s : State), (w ≤ 560) ∧ (modeAccepts s.modes.mode 0x0701 = true)) ∧
    (∃ (h : CmdHdr) (w : Nat) (s : State), (560 < w)) ∧
    (∃ (h : CmdHdr) (action : Nat) (target : Nat) (s : State), (thmTargetBad s.ident.member action target = false) ∧
      (modeAccepts s.modes.mode 0x0702 = true)) ∧
    (∃ (h : CmdHdr) (action : Nat) (target : Nat) (s : State), (action = 0 ∨ 2 < action)) :=
  ⟨⟨hdr,
      ({ bg := 0, dir := 0, beam := 0, mask := 32, target := 0, pmax := 0, vlim := 0, alim := 0, jlim := 0, lnaSt := 0, pagSt := 0 }),
      (up .standby), by decide +kernel⟩,
   ⟨hdr,
      ({ bg := 7, dir := 1, beam := 63, mask := 31, target := 1840, pmax := 960, vlim := 4000, alim := 1000, jlim := 1000, lnaSt := 3, pagSt := 3 }),
      (up .standby), by decide +kernel⟩,
   ⟨hdr,
      ({ bg := 0, dir := 0, beam := 0, mask := 1, target := 479, pmax := 0, vlim := 0, alim := 0, jlim := 0, lnaSt := 0, pagSt := 0 }),
      (up .standby), by decide +kernel⟩,
   ⟨hdr, 64, ([1, 1, 1, 1, 1, 1, 1, 1]), ([]), (up .standby), by decide +kernel⟩,
   ⟨hdr, 65, ([1, 1, 1, 1, 1, 1, 1, 1]), ([]), (up .standby), by decide +kernel⟩,
   ⟨hdr, 0, 256, (outb 32), ((up .standby).dev.belRecords .standby 0 256), (up .standby), by decide +kernel⟩,
   ⟨hdr, 560, (up .standby), by decide +kernel⟩,
   ⟨hdr, 561, (up .standby), by decide +kernel⟩,
   ⟨hdr, 1, 255, (up .standby), by decide +kernel⟩,
   ⟨hdr, 3, 0, (up .standby), by decide +kernel⟩⟩

theorem witness_FeedbackDecayNeverRaisesAGain :
    ∃ (byid : Nat) (y : BelYarn) (s : State), (s.dev.bel.yarns.find? (fun y => y.byid == byid) = some y) ∧ (y.fb.st
      = .hold) ∧ (y.fb.decayDue = true) :=
  ⟨8192,
      ({ (default : BelYarn) with byid := 8192, fb := { (default : Feedback) with st := .hold, decayDue := true }, nextGain := true, nextCode := 800, appl := 100000000 }),
      ((on (formed .relayOpen) fun d =>
      { d with bel := { d.bel with yarns := [{ (default : BelYarn) with byid := 8192, fb := { (default : Feedback) with st := .hold, decayDue := true }, nextGain := true, nextCode := 800, appl := 100000000 }] } })),
      by decide +kernel⟩

theorem witness_SteeringSlotsSwitchAndRelease :
    (∃ (bg : Nat) (slot : Nat) (sub : Nat) (x : Samples) (w : Slot) (r : EntryRec) (g : Int) (u : State) (s :
      State), (u = s.feed x) ∧ (u.dev.beams.slot bg slot = some w) ∧ (w.on = false) ∧ (w.closed = false) ∧
      (u.dev.slotMuted w = false) ∧ (u.time.window = .run) ∧ (u.firstStart bg w.t0 w.at10 sub = true) ∧
      (u.dev.slotFormed u.modes.mode w = true) ∧ (u.dev.slotGain w w.pos = some g) ∧ (u.dev.beams.entryIso bg
      w.entry = some r)) ∧
    (∃ (w : Slot) (q : Seg) (p : Nat) (c : Int) (g : Int) (d : Dev), (d.seg w.bg 1 = some q) ∧ (p < q.ycount) ∧
      (d.belGain (16384 + mkByid 1 w.bg 0 p) = some c) ∧ (d.belGain (mkByid 1 w.bg 0 p) = some g)) ∧
    (∃ (bg : Nat) (slot : Nat) (sub : Nat) (x : Samples) (w : Slot) (u : State) (s : State), (u = s.feed x) ∧
      (u.dev.beams.slot bg slot = some w) ∧ (w.closed = true) ∧ (u.time.window = .run) ∧ (u.firstStart bg u.time.n
      w.shut sub = true)) ∧
    (∃ (x : Samples) (g : Nat) (s : State), (g < s.dev.conv.strands.length)) :=
  ⟨⟨0, 2, 6982, ({ yarns := [], peers := [] }),
      ({ (default : Slot) with bg := 0, idx := 2, eid := 7, entry := 5, on := false, closed := false, shut := 0 }),
      ({ (default : EntryRec) with valid := true }), 5, ((on (formed .relaySteered) fun d =>
      { d with beams := { d.beams with slots := [{ (default : Slot) with bg := 0, idx := 2, eid := 7, entry := 5, on := false, closed := false, shut := 0 }], code := [{ bg := 0, e := 5, rx := [(1, 16384)], iso := some { (default : EntryRec) with valid := true } }] }, bel := { d.bel with yarns := [{ (default : BelYarn) with byid := 24576, hasGain := true, appl := 5 }, { (default : BelYarn) with byid := 8192, hasGain := true, appl := 7 }] } }).feed
      { yarns := [], peers := [] }), ((on (formed .relaySteered) fun d =>
      { d with beams := { d.beams with slots := [{ (default : Slot) with bg := 0, idx := 2, eid := 7, entry := 5, on := false, closed := false, shut := 0 }], code := [{ bg := 0, e := 5, rx := [(1, 16384)], iso := some { (default : EntryRec) with valid := true } }] }, bel := { d.bel with yarns := [{ (default : BelYarn) with byid := 24576, hasGain := true, appl := 5 }, { (default : BelYarn) with byid := 8192, hasGain := true, appl := 7 }] } })),
      rfl, by decide +kernel⟩,
   ⟨({ (default : Slot) with bg := 0, idx := 2, eid := 7, entry := 5, on := false, closed := false, shut := 0 }),
      (((demoPlan.segs)[1]?.getD default)), 0, 5, 7, ((on (formed .relaySteered) fun d =>
      { d with beams := { d.beams with slots := [{ (default : Slot) with bg := 0, idx := 2, eid := 7, entry := 5, on := false, closed := false, shut := 0 }], code := [{ bg := 0, e := 5, rx := [(1, 16384)], iso := some { (default : EntryRec) with valid := true } }] }, bel := { d.bel with yarns := [{ (default : BelYarn) with byid := 24576, hasGain := true, appl := 5 }, { (default : BelYarn) with byid := 8192, hasGain := true, appl := 7 }] } }).dev),
      by decide +kernel⟩,
   ⟨0, 2, 6982, ({ yarns := [], peers := [] }),
      ({ (default : Slot) with bg := 0, idx := 2, eid := 7, entry := 5, on := true, closed := true, shut := 0 }),
      ((on (formed .relaySteered) fun d =>
      { d with beams := { d.beams with slots := [{ (default : Slot) with bg := 0, idx := 2, eid := 7, entry := 5, on := true, closed := true, shut := 0 }] } }).feed
      { yarns := [], peers := [] }), ((on (formed .relaySteered) fun d =>
      { d with beams := { d.beams with slots := [{ (default : Slot) with bg := 0, idx := 2, eid := 7, entry := 5, on := true, closed := true, shut := 0 }] } })),
      rfl, by decide +kernel⟩,
   ⟨({ yarns := [], peers := [] }), 127, (up .relaySteered), by decide +kernel⟩⟩

theorem witness_BookCommands :
    (∃ (h : CmdHdr) (bg : Nat) (basisId : Nat) (b : InBuf) (vs : List Vec) (s : State), (bg ≤ 7) ∧ (InBufGood b
      16384) ∧ (vs = (List.range 32).map (fun i => vecOf (b.data.take b.len) (512 * i))) ∧ ((∀ v, v ∈ vs → vecBad
      s.dev.plan.loaded 2 v = false)) ∧ (basisId ≠ 0) ∧ (modeAccepts s.modes.mode 0x0501 = true) ∧ ((∀ r, r ∈
      s.dev.book.recs → r.bg ≠ bg)) ∧ (s.dev.book.load = none)) ∧
    (∃ (h : CmdHdr) (a : BookSetArgs) (r : Rec) (s : State), (a.mask % 8 ≠ 0) ∧ (s.dev.book.rec? a.eid = some r) ∧
      ((maskBit a.mask 1 = true → a.widx ≤ 4095 ∨ a.widx = 0xFFFF)) ∧ ((maskBit a.mask 2 = true → -320 ≤ a.offset ∧
      a.offset ≤ 320)) ∧ (modeAccepts s.modes.mode 0x0504 = true)) ∧
    (∃ (h : CmdHdr) (a : BookSetArgs) (s : State), (a.mask % 8 = 0) ∧ (modeAccepts s.modes.mode 0x0504 = true)) ∧
    (∃ (h : CmdHdr) (first : Nat) (count : Nat) (mask : Nat) (s : State), (count ≠ 0) ∧ (mask % 4 ≠ 0) ∧ (first +
      count ≤ 262144) ∧ (modeAccepts s.modes.mode 0x0505 = true)) ∧
    (∃ (h : CmdHdr) (first : Nat) (count : Nat) (dirtyOnly : Nat) (clean : Nat) (o : OutBuf) (mine : Rec → Bool) (rs
      : List Rec) (s : State), (OutBufGood o) ∧ (count ≠ 0) ∧ (first + count ≤ 262144) ∧ (dirtyOnly ≤ 1) ∧ (clean ≤
      1) ∧ (bookReads s.modes.mode = true) ∧ (mine = (fun r => decide (first ≤ r.eid) && decide (r.eid < first +
      count) && (dirtyOnly == 0 || maskBit r.flags 3))) ∧ (rs = sortBy (fun a b => decide (a.eid ≤ b.eid))
      (s.dev.book.recs.filter mine))) ∧
    (∃ (h : CmdHdr) (o : OutBuf) (xs : List Cand) (s : State), (OutBufGood o) ∧ (bookReads s.modes.mode = true) ∧
      (xs = sortBy (fun a b => decide (a.idx ≤ b.idx)) s.dev.ptr.cands) ∧ (32 * xs.length ≤ o.len)) ∧
    (∃ (h : CmdHdr) (o : OutBuf) (xs : List Nbr) (s : State), (OutBufGood o) ∧ (bookReads s.modes.mode = true) ∧ (xs
      = sortBy (fun a b => decide (a.idx ≤ b.idx)) s.dev.book.nbrs) ∧ (32 * xs.length ≤ o.len)) :=
  ⟨basisPremises,
   ⟨hdr, ({ eid := 7, mask := 7, flags := 3, widx := 4095, offset := -320 }),
      ({ (default : Rec) with eid := 7, state := 1, flags := 8, sig := demoSig, acc := demoSig, key := keyOf demoSig }),
      ((on (up .standby) fun d =>
      { d with book := { d.book with recs := [{ (default : Rec) with eid := 7, state := 1, flags := 8, sig := demoSig, acc := demoSig, key := keyOf demoSig }] } })),
      by decide +kernel⟩,
   ⟨hdr, ({ eid := 7, mask := 8, flags := 0, widx := 0, offset := 0 }), (up .standby), by decide +kernel⟩,
   ⟨hdr, 262143, 1, 3, (up .standby), by decide +kernel⟩,
   ⟨hdr, 7, 1, 1, 1, (outb 320), (fun r => decide (7 ≤ r.eid) && decide (r.eid < 7 + 1) && (1 == 0 || maskBit
      r.flags 3)),
      ([{ (default : Rec) with eid := 7, state := 1, flags := 8, sig := demoSig, acc := demoSig, key := keyOf demoSig }]),
      ((on (up .standby) fun d =>
      { d with book := { d.book with recs := [{ (default : Rec) with eid := 7, state := 1, flags := 8, sig := demoSig, acc := demoSig, key := keyOf demoSig }] } })),
      by decide +kernel, by decide +kernel, by decide +kernel, by decide +kernel, by decide +kernel,
      by decide +kernel, rfl, by decide +kernel⟩,
   ⟨hdr, (outb 32), ([{ (default : Cand) with idx := 3 }]), ((on (up .standby) fun d =>
      { d with ptr := { d.ptr with cands := [{ (default : Cand) with idx := 3 }] } })), by decide +kernel⟩,
   ⟨hdr, (outb 32), ([{ (default : Nbr) with idx := 3 }]), ((on (up .standby) fun d =>
      { d with book := { d.book with nbrs := [{ (default : Nbr) with idx := 3 }] } })), by decide +kernel⟩⟩

theorem witness_BookLoadIsCheckedAndInstalled :
    (∃ (h : CmdHdr) (b : InBuf) (k : ImageCheck) (s : State), (InBufGood b 64) ∧ (bookLoads s.modes.mode = true) ∧
      (s.dev.book.load = none) ∧ ((∀ r, r ∈ s.dev.book.recs → r.state ≠ 2)) ∧ (k = s.dev.checkImage s.ctx
      (b.data.take b.len)) ∧ (k.status = 0)) ∧
    (∃ (h : CmdHdr) (b : InBuf) (k : ImageCheck) (s : State), (InBufGood b 64) ∧ (bookLoads s.modes.mode = true) ∧
      (s.dev.book.load = none) ∧ ((∀ r, r ∈ s.dev.book.recs → r.state ≠ 2)) ∧ (k = s.dev.checkImage s.ctx
      (b.data.take b.len)) ∧ (k.status ≠ 0)) ∧
    (∃ (h : CmdHdr) (b : InBuf) (s : State), (bookLoads s.modes.mode = true) ∧ (s.dev.book.load.isSome = true)) ∧
    (∃ (l : BookLoadSt) (s : State), (s.dev.book.load = some l) ∧ (s.time.running = true) ∧ (s.time.window = .plan)
      ∧ (s.dev.basisWaits = false)) :=
  ⟨⟨hdr, (inb demoBook), ((on (up .standby) fun d =>
      { d with book := { d.book with bases := [(0, 3, [])] } }).dev.checkImage (up .standby).ctx (demoBook.take
      demoBook.length)), ((on (up .standby) fun d => { d with book := { d.book with bases := [(0, 3, [])] } })),
      by decide +kernel⟩,
   ⟨hdr, (inb (zeros 64)), ((up .standby).dev.checkImage (up .standby).ctx ((zeros 64).take (zeros 64).length)), (up
      .standby), by decide +kernel⟩,
   ⟨hdr, (inb (zeros 64)), ((on (up .standby) fun d =>
      { d with book := { d.book with load := some { hdr := hdr, recs := [{ (default : Rec) with eid := 7, state := 2, flags := 8, sig := demoSig, acc := demoSig, key := keyOf demoSig }], skipped := 0, exportBhf := 5, exportUtc := 0, deadline := 400 } } })),
      by decide +kernel⟩,
   ⟨({ hdr := hdr, recs := [{ (default : Rec) with eid := 7, state := 2, flags := 8, sig := demoSig, acc := demoSig, key := keyOf demoSig }], skipped := 0, exportBhf := 5, exportUtc := 0, deadline := 400 }),
      ((on (up .standby .plan) fun d =>
      { d with book := { d.book with load := some { hdr := hdr, recs := [{ (default : Rec) with eid := 7, state := 2, flags := 8, sig := demoSig, acc := demoSig, key := keyOf demoSig }], skipped := 0, exportBhf := 5, exportUtc := 0, deadline := 400 } } })),
      by decide +kernel⟩⟩

theorem witness_BurstsAreMatchedToRecords :
    (∃ (bg : Nat) (pos : Nat) (sub : Nat) (back : Nat) (x : Samples) (u : State) (s : State), (u = s.feed x) ∧
      (u.dev.onsetTick u.ctx bg pos sub = some back) ∧ (¬(u.ctx.matcher bg ∈ u.dev.boot.blkRun)) ∧ (u.dev.matcherOut
      (u.ctx.matcher bg) = false) ∧ (u.dev.book.burst bg pos = none)) ∧
    (∃ (bg : Nat) (pos : Nat) (sub : Nat) (back : Nat) (n : Nat) (x : Samples) (b : Burst) (u : State) (s : State),
      (u = s.feed x) ∧ (u.dev.book.burst bg pos = some b) ∧ (u.dev.endTickOf u.ctx bg pos sub = some back) ∧ (n =
      (u.time.n + 2 ^ 32 - back) % 2 ^ 32) ∧ (elapsed10 b.onTick b.on10 n sub < 1600) ∧ (u.dev.beams.slots.filter
      (fun w => w.bg == bg && w.pos == pos) = [])) ∧
    (∃ (bg : Nat) (pos : Nat) (sub : Nat) (back : Nat) (n : Nat) (x : Samples) (b : Burst) (w : Slot) (u : State) (s
      : State), (u = s.feed x) ∧ (u.dev.book.burst bg pos = some b) ∧ (u.dev.endTickOf u.ctx bg pos sub = some back)
      ∧ (n = (u.time.n + 2 ^ 32 - back) % 2 ^ 32) ∧ (1600 ≤ elapsed10 b.onTick b.on10 n sub) ∧ (b.done = false) ∧
      ((u.dev.book.basis bg).isSome = true) ∧ (u.dev.beams.slots.filter (fun w => w.bg == bg && w.pos == pos) = [w])
      ∧ (w.on = true)) ∧
    (∃ (bg : Nat) (pos : Nat) (x : Samples) (b : Burst) (f : BurstSig) (u : State) (s : State), (u = s.feed x) ∧
      (u.time.running = true) ∧ (u.dev.book.bursts.find? (fun x => x.bg == bg && x.pos == pos && !x.done &&
      x.sig.isNone) = some b) ∧ (u.dev.signature u.ctx b = some f)) ∧
    (∃ (bg : Nat) (pos : Nat) (sub : Nat) (code : Nat) (lost : List Nat) (x : Burst) (f : BurstSig) (r : Rec) (s :
      State), (s.dev.book.inMatch bg pos = some x) ∧ (x.sig = some f) ∧ (elapsed10 x.onTick x.on10 s.time.n sub ≤
      5000) ∧ (bookRuns s.modes.mode = true) ∧ (s.dev.matcherOut (s.ctx.matcher x.bg) = false) ∧ (sigCollides f
      s.dev.use = false) ∧ (verdict s.dev.use (s.dev.candidates s.ctx x.bg (keyOf f.sig) lost fun q => scoreOf q
      f.sig) = .hit r code)) ∧
    (∃ (bg : Nat) (pos : Nat) (sub : Nat) (eid : Nat) (lost : List Nat) (x : Burst) (f : BurstSig) (s : State),
      (s.dev.book.inMatch bg pos = some x) ∧ (x.sig = some f) ∧ (elapsed10 x.onTick x.on10 s.time.n sub ≤ 5000) ∧
      (bookRuns s.modes.mode = true) ∧ (s.dev.matcherOut (s.ctx.matcher x.bg) = false) ∧ (sigCollides f s.dev.use =
      false) ∧ (verdict s.dev.use (s.dev.candidates s.ctx x.bg (keyOf f.sig) lost fun q => scoreOf q f.sig) = .miss)
      ∧ (s.dev.reef.plan.bookShed = false) ∧ (16 * (s.dev.use.sigSnrMin : Int) ≤ f.quality) ∧ (s.dev.book.freeEid =
      some eid) ∧ ((s.dev.book.bucket s.ctx.hawsers x.bg (keyOf f.sig)).length < 64)) ∧
    (∃ (bg : Nat) (pos : Nat) (x : Burst) (s : State), (s.dev.book.inMatch bg pos = some x) ∧ ((s.dev.book.basis
      bg).isSome = true)) :=
  ⟨⟨0, 0, 100, 0, ({ yarns := [], peers := [] }), ((burstState 8 20000 [] .survey).feed
      { yarns := [], peers := [] }), (burstState 8 20000 [] .survey), rfl, by decide +kernel⟩,
   ⟨0, 0, 1599, 0, 0, ({ yarns := [], peers := [] }), ({ (default : Burst) with isOpen := true }), ((burstState 90 0
      [{ (default : Burst) with isOpen := true }] .survey).feed { yarns := [], peers := [] }), (burstState 90 0
      [{ (default : Burst) with isOpen := true }] .survey), rfl, by decide +kernel⟩,
   ⟨0, 0, 1600, 0, 0, ({ yarns := [], peers := [] }), ({ (default : Burst) with isOpen := true }),
      ({ (default : Slot) with bg := 0, idx := 2, eid := 7, entry := 5, on := true, closed := false, shut := 0 }),
      (((on (burstState 90 0 [{ (default : Burst) with isOpen := true }] .relaySteered) fun d =>
      { d with beams := { d.beams with slots := [{ (default : Slot) with bg := 0, idx := 2, eid := 7, entry := 5, on := true, closed := false, shut := 0 }] } })).feed
      { yarns := [], peers := [] }), ((on (burstState 90 0 [{ (default : Burst) with isOpen := true }]
      .relaySteered) fun d =>
      { d with beams := { d.beams with slots := [{ (default : Slot) with bg := 0, idx := 2, eid := 7, entry := 5, on := true, closed := false, shut := 0 }] } })),
      rfl, by decide +kernel⟩,
   ⟨0, 0, ({ yarns := [], peers := [] }), ({ (default : Burst) with isOpen := true }), (((((burstState 62 20000
      [{ (default : Burst) with isOpen := true }] .survey).feed { yarns := [], peers := [] }).dev.signature
      (((burstState 62 20000 [{ (default : Burst) with isOpen := true }] .survey).feed
      { yarns := [], peers := [] }).ctx) { (default : Burst) with isOpen := true }).getD default)), ((burstState 62
      20000 [{ (default : Burst) with isOpen := true }] .survey).feed { yarns := [], peers := [] }), (burstState 62
      20000 [{ (default : Burst) with isOpen := true }] .survey), rfl, by decide +kernel, by decide +kernel,
      some_getD _ (by decide +kernel)⟩,
   ⟨0, 0, 5000, 255, ([]),
      ({ (default : Burst) with sig := some { power := -5, sig := demoSig, sig2 := demoSig, quality := 496, lambda2 := -1, spread := 0 } }),
      ({ power := -5, sig := demoSig, sig2 := demoSig, quality := 496, lambda2 := -1, spread := 0 }),
      ({ (default : Rec) with eid := 7, state := 1, flags := 8, sig := demoSig, acc := demoSig, key := keyOf demoSig }),
      ((on (planned .survey) fun d =>
      { d with book := { d.book with bursts := [{ (default : Burst) with sig := some { power := -5, sig := demoSig, sig2 := demoSig, quality := 496, lambda2 := -1, spread := 0 } }], recs := [{ (default : Rec) with eid := 7, state := 1, flags := 8, sig := demoSig, acc := demoSig, key := keyOf demoSig }] } })),
      by decide +kernel⟩,
   ⟨0, 0, 5000, 0, ([]),
      ({ (default : Burst) with sig := some { power := -5, sig := demoSig, sig2 := demoSig, quality := 496, lambda2 := -1, spread := 0 } }),
      ({ power := -5, sig := demoSig, sig2 := demoSig, quality := 496, lambda2 := -1, spread := 0 }), ((on (planned
      .survey) fun d =>
      { d with book := { d.book with bursts := [{ (default : Burst) with sig := some { power := -5, sig := demoSig, sig2 := demoSig, quality := 496, lambda2 := -1, spread := 0 } }] } })),
      by decide +kernel⟩,
   ⟨0, 0,
      ({ (default : Burst) with sig := some { power := -5, sig := demoSig, sig2 := demoSig, quality := 496, lambda2 := -1, spread := 0 } }),
      ((on (planned .survey) fun d =>
      { d with book := { d.book with bursts := [{ (default : Burst) with sig := some { power := -5, sig := demoSig, sig2 := demoSig, quality := 496, lambda2 := -1, spread := 0 } }], bases := [(0, 3, [])] } })),
      by decide +kernel⟩⟩

theorem witness_TracerEpochsKeepTheNeighbourTable :
    (∃ (ss : List Sighting) (s : State), (s.time.running = true) ∧ (s.time.window = .plan) ∧ ((s.ctx.tih % 64 = 0 ∨
      s.reloadSfn ≠ none)) ∧ (s.dev.can.epochConv ≠ s.time.conv)) ∧
    (∃ (x : Sighting) (s : State), (s.time.running = true) ∧ (s.time.window = .plan) ∧ (s.ctx.tih % 64 = 0) ∧
      (s.dev.can.epochConv ≠ s.time.conv) ∧ (s.dev.searches s.ctx x = true) ∧ (s.dev.book.nbrs = [])) ∧
    (∃ (ss : List Sighting) (s : State), (s.time.running = true) ∧ (s.time.window = .plan) ∧ (s.ctx.tih % 64 = 0) ∧
      (s.dev.can.epochConv = s.time.conv)) ∧
    (∃ (ss : List Sighting) (s : State), (s.ctx.tih % 64 ≠ 0) ∧ (s.reloadSfn = none)) :=
  ⟨⟨([]), ({ up .standby .plan with time := { (up .standby .plan).time with conv := 1 } }), by decide +kernel,
      by decide +kernel, .inl (by decide +kernel), by decide +kernel⟩,
   ⟨({ tracer := 4095, tile := 15, bg := 0, pos := 0, dir := 1, guard := true, rho := 1, centreHz := 1710000000, lag := 3, power := -7, snr := 240 }),
      ((on (formed .survey .plan) fun d => { d with can := { d.can with watch := [4095], epochConv := 1 } })),
      by decide +kernel⟩,
   ⟨([]), (up .standby .plan), by decide +kernel⟩,
   ⟨([]), ({ up .standby .plan with time := { (up .standby .plan).time with tif := 1 } }), by decide +kernel⟩⟩

theorem witness_MeasurementCommands :
    (∃ (h : CmdHdr) (a : MeasArgs) (e : Dev) (g : Nat) (s : State), (s.dev.fetched.measBad s.ident.member a = false)
      ∧ (modeAccepts s.modes.mode 0x0601 = true) ∧ ((a.action = 1 → s.dev.fetched.subsFull s.ctx.hawsers a = false))
      ∧ (s.dev.fetched.admitAll (subYarns s.ctx.effTick a) = some e) ∧ ((if a.action = 2 then g = 0 else
      s.dev.fetched.gdelay a = some g))) ∧
    (∃ (h : CmdHdr) (a : SnapArgs) (o : OutBuf) (e : Dev) (s : State), (OutBufGood o) ∧ (a.strand < s.ctx.strands) ∧
      (centreOk a.centreKhz = true) ∧ (1 ≤ a.rho) ∧ (a.rho ≤ 8) ∧ (a.mresp ≤ 5) ∧ (1 ≤ a.avg) ∧ (a.avg ≤ 64) ∧
      (modeAccepts s.modes.mode 0x0602 = true) ∧ (16384 ≤ o.len) ∧ (s.dev.fetched.admitAll
      [mkYarn 3 (s.dev.fetched.snapKey a.tag) s.ctx.effTick a.strand a.centreKhz a.rho a.mresp] = some e)) ∧
    (∃ (h : CmdHdr) (a : SnapArgs) (o : OutBuf) (s : State), (OutBufGood o) ∧ (a.strand < s.ctx.strands) ∧ (centreOk
      a.centreKhz = true) ∧ (1 ≤ a.rho) ∧ (a.rho ≤ 8) ∧ (a.mresp ≤ 5) ∧ (1 ≤ a.avg) ∧ (a.avg ≤ 64) ∧ (modeAccepts
      s.modes.mode 0x0602 = true) ∧ (o.len < 16384)) ∧
    (∃ (h : CmdHdr) (a : CapArgs) (b : InBuf) (s : State), (a.nsrc = 0) ∧ (a.bufc ≤ 15) ∧ (modeAccepts s.modes.mode
      0x0603 = true)) ∧
    (∃ (h : CmdHdr) (a : CapArgs) (b : InBuf) (es : List Bytes) (rates : List Nat) (e : Dev) (s : State), (a.nsrc ≠
      0) ∧ (capArmBad s.ident.member s.dev.mem.dens a = false) ∧ (InBufGood b (16 * a.nsrc)) ∧ (es = capEntries
      a.nsrc (b.data.take b.len)) ∧ ((∀ x, x ∈ es → s.dev.fetched.capSrcBad s.ident.member (capSrcOf x) = false)) ∧
      (rates = es.map (fun x => s.dev.fetched.capRate a.format (capSrcOf x))) ∧ ((∀ r, r ∈ rates → r * (a.preUs +
      a.postUs) ≤ 8000000 * subRing a.sizeMb a.nsrc)) ∧ (modeAccepts s.modes.mode 0x0603 = true) ∧
      ((s.dev.ldl.caps.getD a.bufc default).state ≠ 1) ∧ ((s.dev.ldl.caps.getD a.bufc default).state ≠ 2) ∧ ((∀ m, m
      ∈ s.dev.mem.march → m.a.die ≠ 8 ∨ m.a.mode ≠ 2)) ∧ (s.dev.capRates + rates.sum ≤ 2000000000000) ∧
      (s.dev.capMbOthers a.bufc + a.sizeMb ≤ captureMb s.dev.mem.dens) ∧ (s.dev.fetched.admitAll (capYarns
      s.ctx.effTick a.bufc (es.map capSrcOf)) = some e)) ∧
    (∃ (h : CmdHdr) (bufc : Nat) (offset : Nat) (o : OutBuf) (b : Cap) (s : State), (OutBufGood o) ∧ (bufc ≤ 15) ∧
      (offset % 4 = 0) ∧ (o.len % 4 = 0) ∧ (modeAccepts s.modes.mode 0x0604 = true) ∧ (b = s.dev.ldl.caps.getD bufc
      default)) :=
  ⟨⟨hdr,
      ({ subId := 1, action := 1, src := 3, target := 1, rho := 1, mresp := 0, centreKhz := 1810000, n := 3, k := 1, outr := 0, gridSeg := 0xFF, gate := 0, div := 0 }),
      (((formed .standby).dev.fetched.admitAll (subYarns (formed .standby).ctx.effTick
      { subId := 1, action := 1, src := 3, target := 1, rho := 1, mresp := 0, centreKhz := 1810000, n := 3, k := 1, outr := 0, gridSeg := 0xFF, gate := 0, div := 0 })).getD
      default), (((formed .standby).dev.fetched.gdelay
      { subId := 1, action := 1, src := 3, target := 1, rho := 1, mresp := 0, centreKhz := 1810000, n := 3, k := 1, outr := 0, gridSeg := 0xFF, gate := 0, div := 0 }).getD
      0), ((formed .standby)), by decide +kernel⟩,
   ⟨hdr, ({ strand := 1, tag := 5, centreKhz := 1810000, rho := 1, mresp := 0, avg := 64 }), (outb 16384), (((formed
      .standby).dev.fetched.admitAll [mkYarn 3 5 (formed .standby).ctx.effTick 1 1810000 1 0]).getD default),
      ((formed .standby)), by decide +kernel⟩,
   ⟨hdr, ({ strand := 1, tag := 5, centreKhz := 1810000, rho := 1, mresp := 0, avg := 64 }), (outb 16383), ((formed
      .standby)), by decide +kernel⟩,
   ⟨hdr, ({ bufc := 15, format := 0, trig := 1, nsrc := 0, sizeMb := 1, preUs := 1, postUs := 1, targ := 0 }), (inb
      []), (up .standby), by decide +kernel⟩,
   ⟨hdr, ({ bufc := 15, format := 0, trig := 1, nsrc := 1, sizeMb := 1, preUs := 1, postUs := 1, targ := 0 }), (inb
      (leBytes 1 3 ++ leBytes 1 1 ++ zeros 2 ++ leBytes 2 1 ++ zeros 2 ++ leBytes 4 1810000 ++ zeros 4)),
      ([leBytes 1 3 ++ leBytes 1 1 ++ zeros 2 ++ leBytes 2 1 ++ zeros 2 ++ leBytes 4 1810000 ++ zeros 4]),
      ([(on (formed .standby) fun d => { d with mem := { d.mem with dens := 4 } }).dev.fetched.capRate 0 (capSrcOf (leBytes 1 3 ++ leBytes 1 1 ++ zeros 2 ++ leBytes 2 1 ++ zeros 2 ++ leBytes 4 1810000 ++ zeros 4))]),
      (((on (formed .standby) fun d => { d with mem := { d.mem with dens := 4 } }).dev.fetched.admitAll (capYarns
      (on (formed .standby) fun d => { d with mem := { d.mem with dens := 4 } }).ctx.effTick 15
      [capSrcOf (leBytes 1 3 ++ leBytes 1 1 ++ zeros 2 ++ leBytes 2 1 ++ zeros 2 ++ leBytes 4 1810000 ++ zeros 4)])).getD
      default), ((on (formed .standby) fun d => { d with mem := { d.mem with dens := 4 } })), by decide +kernel⟩,
   ⟨hdr, 15, 4092, (outb 4),
      ({ (default : Cap) with state := 3, a := { bufc := 15, format := 0, trig := 1, nsrc := 1, sizeMb := 1, preUs := 1, postUs := 1, targ := 0 }, srcs := [zeros 16], subRing := 4096, recDue := false }),
      ((on (up .standby) fun d =>
      { d with ldl := { d.ldl with caps := d.ldl.caps.set 15 { (default : Cap) with state := 3, a := { bufc := 15, format := 0, trig := 1, nsrc := 1, sizeMb := 1, preUs := 1, postUs := 1, targ := 0 }, srcs := [zeros 16], subRing := 4096, recDue := false } } })),
      by decide +kernel⟩⟩

theorem witness_SnapshotsAndCapturesEnd :
    (∃ (tag : Nat) (w : Samples) (x : Snap) (u : State) (s : State), (u = (s.feed w).onDev (fun c d => d.fillSnaps c
      (c.time.at10 c.time.sub))) ∧ (u.dev.snapReady tag = some x) ∧ (x.shed = 0)) ∧
    (∃ (tag : Nat) (w : Samples) (x : Snap) (u : State) (s : State), (u = (s.feed w).onDev (fun c d => d.fillSnaps c
      (c.time.at10 c.time.sub))) ∧ (u.dev.snapReady tag = some x) ∧ (x.shed ≠ 0)) ∧
    (∃ (c : Nat) (sub : Nat) (b : Cap) (s : State), (s.dev.ldl.caps[c]? = some b) ∧ (b.state = 1) ∧ (s.capFires b
      sub = true)) ∧
    (∃ (c : Nat) (sub : Nat) (b : Cap) (s : State), (s.dev.ldl.caps[c]? = some b) ∧ (b.state = 2) ∧ (0 ≤ elapsed10
      b.endTick b.endSub s.time.n sub)) ∧
    (∃ (c : Nat) (till : Int) (w : Samples) (b : Cap) (b' : Cap) (y : Cap) (u : State) (s : State), (u = s.feed w) ∧
      (u.dev.ldl.caps[c]? = some b) ∧ (b.state = 3) ∧ (b.recDue = true) ∧ (u.dev.sampledTo u.ctx (u.time.at10
      u.time.sub) = some till) ∧ (b' = u.dev.fillCap u.ctx till c b) ∧ (y =
      { b'.startFirst u.ctx with recDue := false, rings := [], marks := [], data := (List.range b'.srcs.length).map fun i => b'.held u.ctx i }))
      :=
  ⟨⟨5, ({ yarns := [], peers := [] }), demoSnap, (((on hosted fun d =>
      { d with ldl := { d.ldl with snaps := [demoSnap] } }).feed { yarns := [], peers := [] }).onDev fun c d =>
      d.fillSnaps c (c.time.at10 c.time.sub)), ((on hosted fun d =>
      { d with ldl := { d.ldl with snaps := [demoSnap] } })), rfl, demoSnap_ready, rfl⟩,
   ⟨5, ({ yarns := [], peers := [] }),
      ({ key := 5, mark := 0, words := [], a := { strand := 1, tag := 5, centreKhz := 1810000, rho := 1, mresp := 0, avg := 1 }, addr := 64, shed := 1 }),
      (((on hosted fun d =>
      { d with ldl := { d.ldl with snaps := [{ key := 5, mark := 0, words := [], a := { strand := 1, tag := 5, centreKhz := 1810000, rho := 1, mresp := 0, avg := 1 }, addr := 64, shed := 1 }] } }).feed
      { yarns := [], peers := [] }).onDev fun c d => d.fillSnaps c (c.time.at10 c.time.sub)), ((on hosted fun d =>
      { d with ldl := { d.ldl with snaps := [{ key := 5, mark := 0, words := [], a := { strand := 1, tag := 5, centreKhz := 1810000, rho := 1, mresp := 0, avg := 1 }, addr := 64, shed := 1 }] } })),
      rfl, by decide +kernel⟩,
   ⟨15, 0,
      ({ (default : Cap) with state := 1, a := { bufc := 15, format := 0, trig := 1, nsrc := 1, sizeMb := 1, preUs := 1, postUs := 1, targ := 0 }, srcs := [zeros 16], subRing := 4096, recDue := false }),
      ((on (up .standby) fun d =>
      { d with ldl := { d.ldl with caps := d.ldl.caps.set 15 { (default : Cap) with state := 1, a := { bufc := 15, format := 0, trig := 1, nsrc := 1, sizeMb := 1, preUs := 1, postUs := 1, targ := 0 }, srcs := [zeros 16], subRing := 4096, recDue := false } } })),
      by decide +kernel⟩,
   ⟨15, 0,
      ({ (default : Cap) with state := 2, a := { bufc := 15, format := 0, trig := 1, nsrc := 1, sizeMb := 1, preUs := 1, postUs := 1, targ := 0 }, srcs := [zeros 16], subRing := 4096, recDue := false }),
      ((on (up .standby) fun d =>
      { d with ldl := { d.ldl with caps := d.ldl.caps.set 15 { (default : Cap) with state := 2, a := { bufc := 15, format := 0, trig := 1, nsrc := 1, sizeMb := 1, preUs := 1, postUs := 1, targ := 0 }, srcs := [zeros 16], subRing := 4096, recDue := false } } })),
      by decide +kernel⟩,
   ⟨15, (((on (up .standby) fun d =>
      { d with ldl := { d.ldl with caps := d.ldl.caps.set 15 { (default : Cap) with state := 3, a := { bufc := 15, format := 0, trig := 1, nsrc := 1, sizeMb := 1, preUs := 1, postUs := 1, targ := 0 }, srcs := [zeros 16], subRing := 4096, recDue := true } } }).feed
      { yarns := [], peers := [] }).time.at10 ((on (up .standby) fun d =>
      { d with ldl := { d.ldl with caps := d.ldl.caps.set 15 { (default : Cap) with state := 3, a := { bufc := 15, format := 0, trig := 1, nsrc := 1, sizeMb := 1, preUs := 1, postUs := 1, targ := 0 }, srcs := [zeros 16], subRing := 4096, recDue := true } } }).feed
      { yarns := [], peers := [] }).time.sub), ({ yarns := [], peers := [] }),
      ({ (default : Cap) with state := 3, a := { bufc := 15, format := 0, trig := 1, nsrc := 1, sizeMb := 1, preUs := 1, postUs := 1, targ := 0 }, srcs := [zeros 16], subRing := 4096, recDue := true }),
      (((on (up .standby) fun d =>
      { d with ldl := { d.ldl with caps := d.ldl.caps.set 15 { (default : Cap) with state := 3, a := { bufc := 15, format := 0, trig := 1, nsrc := 1, sizeMb := 1, preUs := 1, postUs := 1, targ := 0 }, srcs := [zeros 16], subRing := 4096, recDue := true } } }).feed
      { yarns := [], peers := [] }).dev.fillCap ((on (up .standby) fun d =>
      { d with ldl := { d.ldl with caps := d.ldl.caps.set 15 { (default : Cap) with state := 3, a := { bufc := 15, format := 0, trig := 1, nsrc := 1, sizeMb := 1, preUs := 1, postUs := 1, targ := 0 }, srcs := [zeros 16], subRing := 4096, recDue := true } } }).feed
      { yarns := [], peers := [] }).ctx (((on (up .standby) fun d =>
      { d with ldl := { d.ldl with caps := d.ldl.caps.set 15 { (default : Cap) with state := 3, a := { bufc := 15, format := 0, trig := 1, nsrc := 1, sizeMb := 1, preUs := 1, postUs := 1, targ := 0 }, srcs := [zeros 16], subRing := 4096, recDue := true } } }).feed
      { yarns := [], peers := [] }).time.at10 ((on (up .standby) fun d =>
      { d with ldl := { d.ldl with caps := d.ldl.caps.set 15 { (default : Cap) with state := 3, a := { bufc := 15, format := 0, trig := 1, nsrc := 1, sizeMb := 1, preUs := 1, postUs := 1, targ := 0 }, srcs := [zeros 16], subRing := 4096, recDue := true } } }).feed
      { yarns := [], peers := [] }).time.sub) 15
      ({ (default : Cap) with state := 3, a := { bufc := 15, format := 0, trig := 1, nsrc := 1, sizeMb := 1, preUs := 1, postUs := 1, targ := 0 }, srcs := [zeros 16], subRing := 4096, recDue := true })),
      ({ (((on (up .standby) fun d => { d with ldl := { d.ldl with caps := d.ldl.caps.set 15 { (default : Cap) with state := 3, a := { bufc := 15, format := 0, trig := 1, nsrc := 1, sizeMb := 1, preUs := 1, postUs := 1, targ := 0 }, srcs := [zeros 16], subRing := 4096, recDue := true } } }).feed { yarns := [], peers := [] }).dev.fillCap ((on (up .standby) fun d => { d with ldl := { d.ldl with caps := d.ldl.caps.set 15 { (default : Cap) with state := 3, a := { bufc := 15, format := 0, trig := 1, nsrc := 1, sizeMb := 1, preUs := 1, postUs := 1, targ := 0 }, srcs := [zeros 16], subRing := 4096, recDue := true } } }).feed { yarns := [], peers := [] }).ctx (((on (up .standby) fun d => { d with ldl := { d.ldl with caps := d.ldl.caps.set 15 { (default : Cap) with state := 3, a := { bufc := 15, format := 0, trig := 1, nsrc := 1, sizeMb := 1, preUs := 1, postUs := 1, targ := 0 }, srcs := [zeros 16], subRing := 4096, recDue := true } } }).feed { yarns := [], peers := [] }).time.at10 ((on (up .standby) fun d => { d with ldl := { d.ldl with caps := d.ldl.caps.set 15 { (default : Cap) with state := 3, a := { bufc := 15, format := 0, trig := 1, nsrc := 1, sizeMb := 1, preUs := 1, postUs := 1, targ := 0 }, srcs := [zeros 16], subRing := 4096, recDue := true } } }).feed { yarns := [], peers := [] }).time.sub) 15 ({ (default : Cap) with state := 3, a := { bufc := 15, format := 0, trig := 1, nsrc := 1, sizeMb := 1, preUs := 1, postUs := 1, targ := 0 }, srcs := [zeros 16], subRing := 4096, recDue := true })).startFirst ((on (up .standby) fun d => { d with ldl := { d.ldl with caps := d.ldl.caps.set 15 { (default : Cap) with state := 3, a := { bufc := 15, format := 0, trig := 1, nsrc := 1, sizeMb := 1, preUs := 1, postUs := 1, targ := 0 }, srcs := [zeros 16], subRing := 4096, recDue := true } } }).feed { yarns := [], peers := [] }).ctx with recDue := false, rings := [], marks := [], data := (List.range (((on (up .standby) fun d => { d with ldl := { d.ldl with caps := d.ldl.caps.set 15 { (default : Cap) with state := 3, a := { bufc := 15, format := 0, trig := 1, nsrc := 1, sizeMb := 1, preUs := 1, postUs := 1, targ := 0 }, srcs := [zeros 16], subRing := 4096, recDue := true } } }).feed { yarns := [], peers := [] }).dev.fillCap ((on (up .standby) fun d => { d with ldl := { d.ldl with caps := d.ldl.caps.set 15 { (default : Cap) with state := 3, a := { bufc := 15, format := 0, trig := 1, nsrc := 1, sizeMb := 1, preUs := 1, postUs := 1, targ := 0 }, srcs := [zeros 16], subRing := 4096, recDue := true } } }).feed { yarns := [], peers := [] }).ctx (((on (up .standby) fun d => { d with ldl := { d.ldl with caps := d.ldl.caps.set 15 { (default : Cap) with state := 3, a := { bufc := 15, format := 0, trig := 1, nsrc := 1, sizeMb := 1, preUs := 1, postUs := 1, targ := 0 }, srcs := [zeros 16], subRing := 4096, recDue := true } } }).feed { yarns := [], peers := [] }).time.at10 ((on (up .standby) fun d => { d with ldl := { d.ldl with caps := d.ldl.caps.set 15 { (default : Cap) with state := 3, a := { bufc := 15, format := 0, trig := 1, nsrc := 1, sizeMb := 1, preUs := 1, postUs := 1, targ := 0 }, srcs := [zeros 16], subRing := 4096, recDue := true } } }).feed { yarns := [], peers := [] }).time.sub) 15 ({ (default : Cap) with state := 3, a := { bufc := 15, format := 0, trig := 1, nsrc := 1, sizeMb := 1, preUs := 1, postUs := 1, targ := 0 }, srcs := [zeros 16], subRing := 4096, recDue := true })).srcs.length).map fun i => (((on (up .standby) fun d => { d with ldl := { d.ldl with caps := d.ldl.caps.set 15 { (default : Cap) with state := 3, a := { bufc := 15, format := 0, trig := 1, nsrc := 1, sizeMb := 1, preUs := 1, postUs := 1, targ := 0 }, srcs := [zeros 16], subRing := 4096, recDue := true } } }).feed { yarns := [], peers := [] }).dev.fillCap ((on (up .standby) fun d => { d with ldl := { d.ldl with caps := d.ldl.caps.set 15 { (default : Cap) with state := 3, a := { bufc := 15, format := 0, trig := 1, nsrc := 1, sizeMb := 1, preUs := 1, postUs := 1, targ := 0 }, srcs := [zeros 16], subRing := 4096, recDue := true } } }).feed { yarns := [], peers := [] }).ctx (((on (up .standby) fun d => { d with ldl := { d.ldl with caps := d.ldl.caps.set 15 { (default : Cap) with state := 3, a := { bufc := 15, format := 0, trig := 1, nsrc := 1, sizeMb := 1, preUs := 1, postUs := 1, targ := 0 }, srcs := [zeros 16], subRing := 4096, recDue := true } } }).feed { yarns := [], peers := [] }).time.at10 ((on (up .standby) fun d => { d with ldl := { d.ldl with caps := d.ldl.caps.set 15 { (default : Cap) with state := 3, a := { bufc := 15, format := 0, trig := 1, nsrc := 1, sizeMb := 1, preUs := 1, postUs := 1, targ := 0 }, srcs := [zeros 16], subRing := 4096, recDue := true } } }).feed { yarns := [], peers := [] }).time.sub) 15 ({ (default : Cap) with state := 3, a := { bufc := 15, format := 0, trig := 1, nsrc := 1, sizeMb := 1, preUs := 1, postUs := 1, targ := 0 }, srcs := [zeros 16], subRing := 4096, recDue := true })).held ((on (up .standby) fun d => { d with ldl := { d.ldl with caps := d.ldl.caps.set 15 { (default : Cap) with state := 3, a := { bufc := 15, format := 0, trig := 1, nsrc := 1, sizeMb := 1, preUs := 1, postUs := 1, targ := 0 }, srcs := [zeros 16], subRing := 4096, recDue := true } } }).feed { yarns := [], peers := [] }).ctx i }),
      ((on (up .standby) fun d =>
      { d with ldl := { d.ldl with caps := d.ldl.caps.set 15 { (default : Cap) with state := 3, a := { bufc := 15, format := 0, trig := 1, nsrc := 1, sizeMb := 1, preUs := 1, postUs := 1, targ := 0 }, srcs := [zeros 16], subRing := 4096, recDue := true } } }).feed
      { yarns := [], peers := [] }), ((on (up .standby) fun d =>
      { d with ldl := { d.ldl with caps := d.ldl.caps.set 15 { (default : Cap) with state := 3, a := { bufc := 15, format := 0, trig := 1, nsrc := 1, sizeMb := 1, preUs := 1, postUs := 1, targ := 0 }, srcs := [zeros 16], subRing := 4096, recDue := true } } })),
      rfl, by decide +kernel, by decide +kernel, by decide +kernel, rfl, rfl, rfl⟩⟩

theorem witness_TemperatureSetsTheStep :
    (∃ (rs : List Reading) (sub : Nat) (s : State), (s.dev.boot.powered = true)) ∧
    (∃ (die : Nat) (sub : Nat) (s : State), (s.dev.boot.powered = true) ∧ (s.modes.mode ≠ .reset) ∧
      (s.dev.thm.latched = false) ∧ ((die = 8 ∨ die < s.ctx.hawsers ∨ (9 ≤ die ∧ die < 9 + Config.tiles
      s.ident.member)))) ∧
    (∃ (die : Nat) (sub : Nat) (s : State), (s.dev.boot.powered = false)) :=
  ⟨⟨([]), 0, (up .standby), by decide +kernel⟩,
   ⟨24, 0, (up .relayOpen), by decide +kernel⟩,
   ⟨8, 0, ((on (up .reset) fun d => { d with boot := { d.boot with powered := false } })), by decide +kernel⟩⟩

theorem witness_MarchTestsRunWindowByWindow :
    (∃ (h : CmdHdr) (a : MarchArgs) (s : State), (marchBad s.ident.member a = false) ∧ (modeAccepts s.modes.mode
      0x0703 = true) ∧ (s.dev.marchDenied s.ctx a = false) ∧ ((∀ m, m ∈ s.dev.mem.march → m.a.die ≠ marchDie
      a.die))) ∧
    (∃ (die : Nat) (w : Nat) (fails : List Nat) (m : March) (s : State), (s.dev.mem.test die = some m) ∧ (m.borrows
      = true) ∧ (m.window = some w) ∧ ((m.a.die = 8 ∨ s.time.window = .run)) ∧ (m.here < m.pace)) ∧
    (∃ (die : Nat) (offset : Nat) (m : March) (s : State), (s.dev.mem.test die = some m) ∧ (m.borrows = true) ∧
      (m.next < m.windows) ∧ (offset / 4096 = m.a.offs / 4096 + m.next) ∧ ((m.a.die = 8 ∨ s.time.window = .run)) ∧
      (m.here < m.pace)) ∧
    (∃ (die : Nat) (fails : List Nat) (m : March) (s : State), (s.dev.mem.test die = some m) ∧ (m.over = true) ∧
      (m.a.mode = 1) ∧ (m.fails = 0)) ∧
    (∃ (die : Nat) (fails : List Nat) (m : March) (s : State), (s.dev.mem.test die = some m) ∧ (m.over = true)) :=
  ⟨⟨hdr, ({ die := 15, bank := 1, mode := 1, offs := 0, len := 4096 }), (up .standby), by decide +kernel⟩,
   ⟨8, 0, ([]),
      ({ hdr := hdr, a := { die := 8, bank := 1, mode := 1, offs := 0, len := 4096 }, started := true, next := 0, tested := 0, touched := 0, fails := 0, firstFail := 0, retry := [], untested := 0, partial_ := false, here := 0 }),
      ((on (up .standby) fun d =>
      { d with mem := { d.mem with march := [{ hdr := hdr, a := { die := 8, bank := 1, mode := 1, offs := 0, len := 4096 }, started := true, next := 0, tested := 0, touched := 0, fails := 0, firstFail := 0, retry := [], untested := 0, partial_ := false, here := 0 }] } })),
      by decide +kernel⟩,
   ⟨8, 4095,
      ({ hdr := hdr, a := { die := 8, bank := 1, mode := 1, offs := 0, len := 4096 }, started := true, next := 0, tested := 0, touched := 0, fails := 0, firstFail := 0, retry := [], untested := 0, partial_ := false, here := 0 }),
      ((on (up .standby) fun d =>
      { d with mem := { d.mem with march := [{ hdr := hdr, a := { die := 8, bank := 1, mode := 1, offs := 0, len := 4096 }, started := true, next := 0, tested := 0, touched := 0, fails := 0, firstFail := 0, retry := [], untested := 0, partial_ := false, here := 0 }] } })),
      by decide +kernel⟩,
   ⟨8, ([]),
      ({ hdr := hdr, a := { die := 8, bank := 1, mode := 1, offs := 0, len := 4096 }, started := true, next := 1, tested := 0, touched := 0, fails := 0, firstFail := 0, retry := [], untested := 0, partial_ := false, here := 0 }),
      ((on (up .standby) fun d =>
      { d with mem := { d.mem with march := [{ hdr := hdr, a := { die := 8, bank := 1, mode := 1, offs := 0, len := 4096 }, started := true, next := 1, tested := 0, touched := 0, fails := 0, firstFail := 0, retry := [], untested := 0, partial_ := false, here := 0 }] } })),
      by decide +kernel⟩,
   ⟨8, ([]),
      ({ hdr := hdr, a := { die := 8, bank := 1, mode := 1, offs := 0, len := 4096 }, started := true, next := 1, tested := 0, touched := 0, fails := 0, firstFail := 0, retry := [], untested := 0, partial_ := false, here := 0 }),
      ((on (up .standby) fun d =>
      { d with mem := { d.mem with march := [{ hdr := hdr, a := { die := 8, bank := 1, mode := 1, offs := 0, len := 4096 }, started := true, next := 1, tested := 0, touched := 0, fails := 0, firstFail := 0, retry := [], untested := 0, partial_ := false, here := 0 }] } })),
      by decide +kernel⟩⟩

theorem witness_StartUpStages :
    (∃ (s : State), (s.modes.mode = .reset) ∧ (s.dev.boot.powered = true) ∧ (s.ident.testN = true)) ∧
    (∃ (s : State), (s.ident.testN = false)) ∧
    (∃ (s : State), (s.modes.mode = .boot) ∧ (s.dev.boot.stage = 0)) ∧
    (∃ (fails : List (Nat × Nat)) (s : State), (fails ≠ []) ∧ (s.modes.mode = .boot) ∧ (s.dev.boot.stage = 0)) ∧
    (∃ (v : Nat) (s : State), (s.modes.mode = .boot) ∧ (s.dev.boot.stage = 1)) ∧
    (∃ (v : Nat) (s : State), (s.modes.mode = .boot) ∧ (s.dev.boot.stage = 1)) ∧
    (∃ (x : Nat) (s : State), (1 ≤ x) ∧ (x ≤ 4) ∧ (s.modes.mode = .boot) ∧ (s.dev.boot.fwOk = true) ∧
      (s.dev.boot.dramOk = false) ∧ (s.dev.mem.failed = 0)) ∧
    (∃ (dens : List Nat) (ch : Nat) (s : State), (ch < 8) ∧ (dens.getD ch 0 = 0) ∧ (s.modes.mode = .boot) ∧
      (s.dev.boot.fwOk = true) ∧ (s.dev.boot.dramOk = false) ∧ (s.dev.mem.failed = 0)) :=
  ⟨⟨(up .reset), by decide +kernel⟩,
   ⟨({ up .reset with ident := { Ident.reset with testN := false } }), by decide +kernel⟩,
   ⟨State.reset, by decide +kernel⟩,
   ⟨([(8, 1)]), State.reset, by decide +kernel⟩,
   ⟨16777216, ((on (up .boot) fun d => { d with boot := { d.boot with stage := 1 } })), by decide +kernel⟩,
   ⟨0, ((on (up .boot) fun d => { d with boot := { d.boot with stage := 1 } })), by decide +kernel⟩,
   ⟨4, ((on (up .boot) fun d => { d with boot := { d.boot with fwOk := true } })), by decide +kernel⟩,
   ⟨([1, 1, 1, 1, 1, 1, 1]), 7, ((on (up .boot) fun d => { d with boot := { d.boot with fwOk := true } })),
      by decide +kernel⟩⟩

theorem witness_FaultsAreRaisedAndAcknowledged :
    (∃ (src : Nat) (sev : Nat) (unit : Nat) (sub : Nat) (s : State), (src ≤ 95) ∧ (sev ≤ 5) ∧ (s.modes.mode ≠
      .reset) ∧ (sourceFits s.ident.member src unit = true) ∧ ((∀ x, namedHawser src unit = some x → ¬(x ∈
      s.dev.boot.blkRun))) ∧ (src < s.dev.stop.srcs.length) ∧ ((s.dev.stop.src src).bit = false)) ∧
    (∃ (k : Nat) (v : Word) (s : State), (k ≤ 2)) ∧
    (∃ (x : Nat) (s : State), (x ∈ s.dev.boot.blkRun)) ∧
    (∃ (src : Nat) (l : Nat × Nat × Nat × Bool) (s : State), (60 ≤ src) ∧ (src ≤ 95) ∧ (sourceFits s.ident.member
      src 0 = true) ∧ (s.dev.stop.link src = some l) ∧ ((l.2.1 + 1) % 2 ^ 32 = s.time.n) ∧ (l.2.1 ≠ s.time.n) ∧ (1 ≤
      l.2.2.1)) ∧
    (∃ (src : Nat) (s : State), (60 ≤ src) ∧ (src ≤ 95) ∧ (sourceFits s.ident.member src 0 = true)) ∧
    (∃ (src : Nat) (l : Nat × Nat × Nat × Bool) (s : State), (68 ≤ src) ∧ (s.dev.stop.link src = some l) ∧ (l.2.2.2
      = true) ∧ (20 < sub32 s.time.n l.2.1)) :=
  ⟨⟨95, 5, 0, 0, (up .standby), by decide +kernel⟩,
   ⟨2, (0xFFFFFFFF#32), (up .standby), by decide +kernel⟩,
   ⟨3, ((on (up .standby) fun d => { d with boot := { d.boot with blkRun := [3] } })), by decide +kernel⟩,
   ⟨60, ((60, 4294967295, 1, false)), ((on (up .standby) fun d =>
      { d with stop := { d.stop with links := [(60, 4294967295, 1, false)] } })), by decide +kernel⟩,
   ⟨68, (up .standby), by decide +kernel⟩,
   ⟨68, ((68, 4294967275, 1, true)), ((on (up .standby) fun d =>
      { d with stop := { d.stop with links := [(68, 4294967275, 1, true)] } })), by decide +kernel⟩⟩

theorem witness_LoglineRecordsAreWrittenAndRead :
    (∃ (r : StagedLog) (rest : List StagedLog) (s : State), (s.dev.log.staged = r :: rest) ∧ (s.dev.log.clear =
      none) ∧ (r.pinned = true) ∧ (s.nv.pinRoom (16 + r.payload.length) = true)) ∧
    (∃ (r : StagedLog) (rest : List StagedLog) (s : State), (s.dev.log.staged = r :: rest) ∧ (s.dev.log.clear =
      none) ∧ (r.pinned = false) ∧ (r.payload.length ≤ 1024)) ∧
    (∃ (r : StagedLog) (rest : List StagedLog) (s : State), (s.dev.log.staged = r :: rest) ∧ (s.dev.log.clear =
      none) ∧ (s.modes.mode ≠ .reset) ∧ (s.dev.stop.srcs.length = 96)) ∧
    (∃ (s : State), (s.nv.optime + 60 ≤ s.dev.log.optime)) ∧
    (∃ (s : State), (s.dev.log.optime < s.nv.optime + 60)) ∧
    (∃ (h : CmdHdr) (region : Nat) (fromSeq : Nat) (o : OutBuf) (items : List (Nat × Bytes)) (out : List Bytes) (s :
      State), (OutBufGood o) ∧ (o.len % 4 = 0) ∧ (1 ≤ region) ∧ (region ≤ 4) ∧ (modeAccepts s.modes.mode 0x0801 =
      true) ∧ (items = s.logItems region fromSeq) ∧ (out = takeWhole o.len (items.map (·.2))) ∧ ((items = [] ∨ out ≠
      []))) :=
  ⟨⟨({ typ := 0x0200, pinned := true, payload := zeros 16 }), ([]), ((on (up .standby) fun d =>
      { d with log := { d.log with staged := [{ typ := 0x0200, pinned := true, payload := zeros 16 }] } })),
      by decide +kernel⟩,
   ⟨({ typ := 0x0200, pinned := false, payload := zeros 16 }), ([]), ((on (up .standby) fun d =>
      { d with log := { d.log with staged := [{ typ := 0x0200, pinned := false, payload := zeros 16 }] } })),
      by decide +kernel⟩,
   ⟨({ typ := 0x0200, pinned := false, payload := zeros 16 }), ([]), ((on (up .standby) fun d =>
      { d with log := { d.log with staged := [{ typ := 0x0200, pinned := false, payload := zeros 16 }] } })),
      by decide +kernel⟩,
   ⟨((on (up .standby) fun d => { d with log := { d.log with optime := 60 } })), by decide +kernel⟩,
   ⟨(up .standby), by decide +kernel⟩,
   ⟨hdr, 1, 0, (outb 32), ((logged .standby).logItems 1 0), (takeWhole 32 (((logged .standby).logItems 1 0).map
      (·.2))), (logged .standby), by decide +kernel⟩⟩

theorem witness_ClearingNeedsAToken :
    (∃ (h : CmdHdr) (o : OutBuf) (nonce : Nat) (s : State), (OutBufGood o) ∧ (96 ≤ o.len) ∧ (modeAccepts
      s.modes.mode 0x0802 = true) ∧ (nonce = (Config.freeNonce s.dev.free).toNat)) ∧
    (∃ (h : CmdHdr) (b : InBuf) (t : Bytes) (s : State), (InBufGood b 144) ∧ (t = b.data.take b.len) ∧ (1 ≤ fieldAt
      t 6 2) ∧ (fieldAt t 6 2 ≤ 3) ∧ (modeAccepts s.modes.mode 0x0803 = true) ∧ (s.dev.log.clear = none) ∧ (tokenOk
      s.nv s.ident.serial s.dev.log.nonce t 1 (fieldAt t 6 2) (fieldAt t 40 4) (zeros 32) = true)) ∧
    (∃ (h : CmdHdr) (b : InBuf) (t : Bytes) (s : State), (InBufGood b 144) ∧ (t = b.data.take b.len) ∧ (1 ≤ fieldAt
      t 6 2) ∧ (fieldAt t 6 2 ≤ 3) ∧ (modeAccepts s.modes.mode 0x0803 = true) ∧ (tokenOk s.nv s.ident.serial
      s.dev.log.nonce t 1 (fieldAt t 6 2) (fieldAt t 40 4) (zeros 32) = false)) ∧
    (∃ (w : LogClearSt) (s : State), (s.dev.log.clear = some w)) :=
  ⟨⟨hdr, (outb 96), ((Config.freeNonce 0).toNat), (up .standby), by decide +kernel, by decide +kernel,
      by decide +kernel, rfl⟩,
   ⟨hdr, (inb clearToken), (clearToken.take clearToken.length), (keyed .standby), by decide +kernel⟩,
   ⟨hdr, (inb lifeToken), (lifeToken.take lifeToken.length), (keyed .standby), by decide +kernel⟩,
   ⟨({ hdr := hdr, scope := 3, slot := 0, upto := 0 }), ((on (logged .standby) fun d =>
      { d with log := { d.log with clear := some { hdr := hdr, scope := 3, slot := 0, upto := 0 } } })),
      by decide +kernel⟩⟩

theorem witness_LifecycleAndKeys :
    (∃ (h : CmdHdr) (state : Nat) (group : Nat) (b : InBuf) (new : Life) (s : State), (lifeOfId state = some new) ∧
      (firstFail (lifeChecks s (some new) group b) = none) ∧ (s.nv.lifeFrom = none) ∧ ((lifeTransition s.nv.life new
      = some false ∨ tokenOk s.nv s.ident.serial s.dev.log.nonce (b.data.take b.len) 2 state 0 (zeros 32) = true)))
      ∧
    (∃ (h : CmdHdr) (state : Nat) (group : Nat) (b : InBuf) (new : Life) (s : State), (lifeOfId state = some new) ∧
      (lifeTransition s.nv.life new = none)) ∧
    (∃ (h : CmdHdr) (state : Nat) (group : Nat) (b : InBuf) (new : Life) (s : State), (lifeOfId state = some new) ∧
      (firstFail (lifeChecks s (some new) group b) = none) ∧ (lifeTransition s.nv.life new = some true) ∧ (tokenOk
      s.nv s.ident.serial s.dev.log.nonce (b.data.take b.len) 2 state 0 (zeros 32) = false)) ∧
    (∃ (h : CmdHdr) (slot : Nat) (b : InBuf) (s : State), (s.nv.life = .provisioned) ∧ (slot ≤ 3) ∧ (InBufGood b 64)
      ∧ (keyOk (b.data.take 64) = true) ∧ (modeAccepts s.modes.mode 0x0805 = true)) ∧
    (∃ (h : CmdHdr) (slot : Nat) (b : InBuf) (s : State), (s.nv.life = .provisioned) ∧ (1 ≤ slot) ∧ (slot ≤ 3) ∧
      (modeAccepts s.modes.mode 0x0805 = true)) ∧
    (∃ (h : CmdHdr) (slot : Nat) (action : Nat) (b : InBuf) (s : State), (s.nv.life = .blank ∨ s.nv.life = .retired)
      ∧ (slot ≤ 3) ∧ ((action = 2 ∨ (action = 1 ∧ InBufGood b 64 ∧ keyOk (b.data.take 64) = true)))) :=
  ⟨⟨hdr, 2, 0, (inb lifeToken), .deployed, (keyed .standby), by decide +kernel⟩,
   ⟨hdr, 1, 0, (inb []), .provisioned, (keyed .standby .retired), by decide +kernel⟩,
   ⟨hdr, 2, 0, (inb clearToken), .deployed, (keyed .standby), by decide +kernel⟩,
   ⟨hdr, 3, (inb demoKey), (keyed .standby), by decide +kernel⟩,
   ⟨hdr, 3, (inb []), (keyed .standby), by decide +kernel⟩,
   ⟨hdr, 3, 2, (inb []), (keyed .standby .retired), by decide +kernel⟩⟩

theorem witness_PowerCyclesResetTheModule :
    (∃ (i : Instr) (s : State), (i = .brownOut ∨ i = .ilimHold) ∧ (s.dev.boot.powered = true)) ∧
    (∃ (i : Instr) (s : State), (i = .brownOut ∨ i = .ilimHold) ∧ (s.dev.boot.powered = false)) :=
  ⟨⟨.ilimHold, (up .relayOpen), by decide +kernel⟩,
   ⟨.brownOut, ((on (up .reset) fun d => { d with boot := { d.boot with powered := false } })), by decide +kernel⟩⟩

theorem witness_ResetsKeepWhatTheirKindKeeps :
    (∃ (i : Instr) (cause : Nat) (s : State), (s.modes.mode ≠ .latched) ∧ (s.dev.level5 = false) ∧ (((∃ v, i =
      .chipResetRequest v ∧ v.field 8 8 = 0xA5 ∧ v.bit 0 = false ∧ v.bit 1 = true ∧ cause = 1) ∨ (i =
      .chipResetBegin ∧ s.dev.boot.due = some 2 ∧ s.secured = true ∧ cause = 2) ∨ (i = .lifecycleReset ∧
      s.dev.boot.lifeDue = true ∧ cause = 4)))) ∧
    (∃ (v : Word) (s : State), (s.modes.mode ≠ .latched) ∧ (s.dev.level5 = false) ∧ (v.field 8 8 = 0xA5) ∧ (v.bit 0
      = true) ∧ (v.bit 1 = false)) ∧
    (∃ (v : Word) (s : State), (s.modes.mode = .latched ∨ s.dev.level5 = true)) ∧
    (∃ (v : Word) (s : State), (v.field 8 8 ≠ 0xA5 ∨ v.bit 0 = v.bit 1)) :=
  ⟨⟨.lifecycleReset, 4, ((on (up .standby) fun d => { d with boot := { d.boot with lifeDue := true } })),
      by decide +kernel, by decide +kernel, .inr (.inr ⟨rfl, by decide +kernel, rfl⟩)⟩,
   ⟨(0xA501#32), (up .standby), by decide +kernel⟩,
   ⟨(0xA501#32), (up .latched), by decide +kernel⟩,
   ⟨(0xA503#32), (up .standby), by decide +kernel⟩⟩

theorem witness_TickEdgeAdvancesTheCounters :
    (∃ (env : TickEnv) (s : State), (s.time.running = true) ∧ (s.modes.mode ≠ .reset)) ∧
    (∃ (env : TickEnv) (s : State), (s.time.running = false ∨ s.modes.mode = .reset)) :=
  ⟨⟨default, (up .standby .close), by decide +kernel⟩,
   ⟨default, State.reset, by decide +kernel⟩⟩

theorem witness_WindowsFollowEachOther :
    (∃ (s : State), (s.time.running = true) ∧ (s.time.window = .plan)) ∧
    (∃ (env : CloseEnv) (s : State), (s.time.running = true) ∧ (s.time.window = .run)) ∧
    (∃ (s : State), (3000 ≤ (if s.dev.srcPrio = 2 then s.dev.qual.standbyTicks else s.dev.qual.lockTicks))) :=
  ⟨⟨(up .standby .plan), by decide +kernel⟩,
   ⟨default, (up .coil .run), by decide +kernel⟩,
   ⟨((on (up .standby) fun d => { d with qual := { d.qual with lockTicks := 3000 } })), by decide +kernel⟩⟩

theorem witness_OverrunsDiscardTheirResult :
    (∃ (item : WorkItem) (s : State), (s.time.running = true) ∧ (s.modes.mode ≠ .reset) ∧ (sourceFits s.ident.member
      (overrunSource item) 0 = true) ∧ ((∀ x, namedHawser (overrunSource item) 0 = some x → ¬(x ∈
      s.dev.boot.blkRun))) ∧ (overrunSource item < s.dev.stop.srcs.length)) ∧
    (∃ (s : State), (s.time.running = true) ∧ (s.modes.mode ≠ .reset)) ∧
    (∃ (x : Nat) (late : List Nat) (s : State), (s.time.running = true) ∧ (s.modes.mode ≠ .reset)) ∧
    (∃ (k : Nat) (s : State), (s.time.running = true) ∧ (s.modes.mode ≠ .reset) ∧ (3 ≤ k) ∧ (k ≤ 5)) :=
  ⟨⟨(.belay 7), (up .standby), by decide +kernel⟩,
   ⟨(up .standby), by decide +kernel⟩,
   ⟨7, ([]), (up .standby), by decide +kernel⟩,
   ⟨5, (up .standby), by decide +kernel⟩⟩

theorem witness_PainterFollowsItsSources :
    (∃ (k : Bool) (sp : Nat) (ph : Nat) (s : State), (s.time.running = true) ∧ (s.modes.mode ≠ .reset) ∧ (k =
      !s.dev.use.ptrCfg.bit 2) ∧ (999999000 ≤ sp) ∧ (sp ≤ 1000001000) ∧ (2 ≤ s.dev.ptr.ppsRun)) ∧
    (∃ (k : Bool) (sp : Nat) (ph : Nat) (s : State), (s.time.running = true) ∧ (s.modes.mode ≠ .reset) ∧ (k =
      !s.dev.use.ptrCfg.bit 2) ∧ (sp < 999999000 ∨ 1000001000 < sp)) ∧
    (∃ (k : Bool) (sp : Nat) (ph : Nat) (s : State), (k = s.dev.use.ptrCfg.bit 2)) ∧
    (∃ (s : State), (s.dev.ptr.st = .search) ∧ (4000 ≤ s.dev.ptr.searchTicks)) ∧
    (∃ (idx : Nat) (x : Cand) (s : State), (s.dev.ptr.cands.find? (fun x => x.idx == idx) = some x) ∧ (2000 ≤
      x.missTicks)) ∧
    (∃ (o : Occasion) (x : Cand) (s : State), (s.time.running = true) ∧ (occasionMode s.modes.mode = true) ∧
      (s.dev.srcPrio ≠ 2) ∧ (s.dev.plan.committed.isSome = true) ∧ (s.dev.ptr.cand o.rat o.pci = some x) ∧ (x.src =
      none) ∧ (occasionHit o = false)) :=
  ⟨⟨true, 1000001000, 0, ((on (up .standby) fun d => { d with ptr := { d.ptr with ppsRun := 2 } })),
      by decide +kernel⟩,
   ⟨true, 1000001001, 0, ((on (up .standby) fun d =>
      { d with ptr := { d.ptr with ppsRun := 3, ppsValid := true, st := .lockedPps } })), by decide +kernel⟩,
   ⟨false, 0, 0, (up .standby), by decide +kernel⟩,
   ⟨((on (up .standby) fun d => { d with ptr := { d.ptr with st := .search, searchTicks := 4000 } })),
      by decide +kernel⟩,
   ⟨2, ({ (default : Cand) with idx := 2, rat := 0, pci := 5, missTicks := 2000, strong := 0 }), ((on (up .standby)
      fun d =>
      { d with ptr := { d.ptr with cands := [{ (default : Cand) with idx := 2, rat := 0, pci := 5, missTicks := 2000, strong := 0 }] } })),
      by decide +kernel⟩,
   ⟨({ (default : Occasion) with rat := 0, pci := 5 }),
      ({ (default : Cand) with idx := 2, rat := 0, pci := 5, missTicks := 0, strong := 0 }), ((on (planned .survey)
      fun d =>
      { d with ptr := { d.ptr with cands := [{ (default : Cand) with idx := 2, rat := 0, pci := 5, missTicks := 0, strong := 0 }] } })),
      by decide +kernel⟩⟩

theorem witness_TheDonorIsReplacedAndReloaded :
    (∃ (cur : Cand) (x : Cand) (s : State), (s.dev.ptr.donorCand = some cur) ∧ (s.dev.ptr.st = .lockedDonor) ∧
      (s.dev.preferred cur = false) ∧ (strongest (s.dev.ptr.cands.filter fun x => x.eligible s.modes.mode && decide
      (200 ≤ x.strong)) = some x) ∧ (-12500 ≤ tickPhase x.timing) ∧ (tickPhase x.timing ≤ 12500)) ∧
    (∃ (x : Cand) (new : Nat) (s : State), (s.dev.ptr.donorCand = some x) ∧ (s.time.running = true) ∧ (s.time.window
      = .plan) ∧ (s.dev.ptr.reload = true) ∧ (s.dev.ptr.st = .lockedDonor) ∧ ((s.time.tif : Int) * tickPeriods -
      x.timing - cellFrames s.time.tif x.timing * framePeriods < 3125000) ∧ (new = sfnMod ((s.time.sfn : Int) +
      cellFrames s.time.tif x.timing + x.sfnOffs))) :=
  ⟨⟨({ (default : Cand) with idx := 2, rat := 0, pci := 5, missTicks := 0, strong := 0 }),
      ({ (default : Cand) with idx := 3, rat := 0, pci := 6, missTicks := 0, strong := 200 }), ((on (up .survey) fun
      d =>
      { d with ptr := { d.ptr with st := .lockedDonor, donor := some (0, 5), cands := [{ (default : Cand) with idx := 2, rat := 0, pci := 5, missTicks := 0, strong := 0 }, { (default : Cand) with idx := 3, rat := 0, pci := 6, missTicks := 0, strong := 200 }] } })),
      by decide +kernel⟩,
   ⟨({ (default : Cand) with idx := 2, rat := 0, pci := 5, missTicks := 0, strong := 0 }), (sfnMod ((0 : Int) +
      cellFrames 0 0 + 0)), ((on (up .survey .plan) fun d =>
      { d with ptr := { d.ptr with st := .lockedDonor, reload := true, donor := some (0, 5), cands := [{ (default : Cand) with idx := 2, rat := 0, pci := 5, missTicks := 0, strong := 0 }] } })),
      by decide +kernel⟩⟩

theorem witness_SplicedModulesShareTheirTiming :
    (∃ (port : Nat) (modId : Nat) (serial : Nat) (tracer : Nat) (s : State), (port ≤ 3) ∧ (port <
      s.dev.splice.linkUp.length) ∧ (s.modes.mode ≠ .reset)) ∧
    (∃ (s : State), (s.time.running = true) ∧ (400 ≤ s.time.n) ∧ (s.dev.splice.elected = false) ∧ (s.dev.hasLower
      s.ctx = false)) ∧
    (∃ (i : Instr) (s : State), (s.dev.isSlave = true) ∧ (s.dev.hasLower s.ctx = false) ∧ (((i = .masterTakeover ∧
      s.time.running = true ∧ s.time.window = .plan) ∨ (i = .masterLost ∧ 3 ≤ s.dev.splice.lost)))) ∧
    (∃ (t0 : MasterTick) (tif : Nat) (sfn : Nat) (hfc : Nat) (s : State), (s.time.running = true) ∧ (s.modes.mode ≠
      .reset) ∧ (s.dev.isSlave = true) ∧ (s.dev.splice.master = false)) ∧
    (∃ (port : Nat) (s : State), (port ≤ 3) ∧ (s.dev.splice.linkUp.getD port false = true)) ∧
    (∃ (port : Nat) (s : State), (port ≤ 3) ∧ (s.dev.splice.linkUp.getD port false = true)) ∧
    (∃ (m : Nat) (r : CandReport) (i : Nat) (s : State), (s.time.running = true) ∧ (s.dev.splice.master = true) ∧
      (s.dev.ptr.cand r.rat r.pci = none) ∧ (s.dev.ptr.freeIdx = some i)) ∧
    (∃ (modId : Nat) (s : State), (s.dev.splice.master = true)) :=
  ⟨⟨3, 7, 5, 9, (up .standby), by decide +kernel⟩,
   ⟨({ up .standby with time := { TimeSt.reset with running := true, n := 400 } }), by decide +kernel⟩,
   ⟨.masterTakeover, ((on (up .standby .plan) fun d => { d with ptr := { d.ptr with st := .slave } })),
      by decide +kernel⟩,
   ⟨(⟨7, -12⟩), 3, 5, 9, ((on (up .standby .plan) fun d => { d with ptr := { d.ptr with st := .slave } })),
      by decide +kernel⟩,
   ⟨3, ((on (up .standby) fun d => { d with splice := { d.splice with linkUp := d.splice.linkUp.set 3 true } })),
      by decide +kernel⟩,
   ⟨3, ((on (up .standby) fun d => { d with splice := { d.splice with linkUp := d.splice.linkUp.set 3 true } })),
      by decide +kernel⟩,
   ⟨2, ({ rat := 0, pci := 5, beam := 0, sfnOffs := 0, timing := 0, power := -5 }), 0, ((on (up .survey) fun d =>
      { d with splice := { d.splice with master := true } })), by decide +kernel⟩,
   ⟨2, ((on (up .standby) fun d => { d with splice := { d.splice with master := true } })), by decide +kernel⟩⟩

end Sys2Proof.Tests
end

section
/-! PROOFS. The windows of a tick (R16, R36): what T0, the beginning of Run and the beginning of Close leave of the
grid, the stores and the device. -/

namespace Sys2Proof.Machine

/-! ### The counters of T0 (Table TCK-3) -/

@[simp] theorem TimeSt.tick_n (t : TimeSt) (extra : Int) : (t.tick extra).n = (t.n + 1) % 2 ^ 32 := rfl
@[simp] theorem TimeSt.tick_tif (t : TimeSt) (extra : Int) : (t.tick extra).tif = (t.tif + 1) % 20 := rfl
@[simp] theorem TimeSt.tick_sfn (t : TimeSt) (extra : Int) :
    (t.tick extra).sfn = if (t.tif + 1) % 20 = 0 then (t.sfn + 1) % 1024 else t.sfn := rfl
@[simp] theorem TimeSt.tick_window (t : TimeSt) (extra : Int) : (t.tick extra).window = .plan := rfl
@[simp] theorem TimeSt.tick_running (t : TimeSt) (extra : Int) : (t.tick extra).running = t.running := rfl

/-- HFC counts where TIF and SFN both come to 0; SFN comes to 0 only where TIF does. -/
@[simp] theorem TimeSt.tick_hfc (t : TimeSt) (extra : Int) :
    (t.tick extra).hfc =
      if (t.tif + 1) % 20 = 0 ∧ (t.sfn + 1) % 1024 = 0 then (t.hfc + 1) % 2 ^ 32 else t.hfc := by
  by_cases htif : (t.tif + 1) % 20 = 0
  · simp [TimeSt.tick, htif, succ32, two32]
  · simp [TimeSt.tick, htif]

theorem State.openTick_time (s : State) : ∃ extra, s.openTick.time = s.time.tick extra := ⟨_, rfl⟩

/-! ### What a Plan window leaves of the grid

A lock taken at T0 may lengthen the tick by a step (R55); nothing else of the grid changes. -/

theorem State.step55_time (s : State) (delta : Int) :
    ∃ len, (s.step55 delta).time = { s.time with periods := len } := by
  unfold State.step55
  split
  · exact ⟨s.time.periods, rfl⟩
  · exact ⟨_, rfl⟩

theorem State.adopt_time (s : State) (x : Cand) (freq : Int) :
    ∃ len, (s.adopt x freq).time = { s.time with periods := len } := by
  unfold State.adopt
  dsimp only
  split
  · exact ⟨s.time.periods, rfl⟩
  split
  · exact s.step55_time _
  · exact ⟨s.time.periods, rfl⟩

/-- Only the adoption of a cell can move the grid when Painter takes a lock. -/
theorem State.settleLock_time (s : State) (o : Option Occasion) :
    ∃ len, (s.settleLock o).time = { s.time with periods := len } := by
  have same : ∃ len, s.time = { s.time with periods := len } := ⟨s.time.periods, rfl⟩
  unfold State.settleLock
  dsimp only
  split
  · exact same
  split
  · split
    · split
      · split
        · exact same
        · exact s.adopt_time _ _
      · exact same
    · split
      · exact s.adopt_time _ _
      · exact same
  split
  · split
    · exact same
    · exact same
  · exact same

/-- Before a lock is taken the changes of a Plan window leave the grid as T0 set it. -/
theorem State.changeWindow_time (s s0 : State) :
    ∃ len, (s.changeWindow s0).time = { s.time with periods := len } := by
  have locked : ∀ q : State, q.time = s.time → ∃ len, (q.settleLock none).time = { s.time with periods := len } :=
    fun q hq => hq ▸ q.settleLock_time none
  rw [State.changeWindow, State.settleSync_time]
  exact locked _ (by simp)

theorem State.planWork_time (s : State) (env : TickEnv) (s0 : State) :
    ∃ len, (s.planWork env s0).time = { s.time with periods := len } :=
  State.changeWindow_time _ s0

/-! ### What a Plan window leaves of the stores

A commit leaves run counts, a sequence floor and TIME_FLOOR (R266, R272, R274), and nothing else of the MRAM. -/

theorem State.commitPlan_nv (s : State) : ∃ runs floors floor,
    s.commitPlan.nv = { s.nv with runCounts := runs, seqFloors := floors, timeFloor := floor } := by
  unfold State.commitPlan
  repeat' split
  all_goals exact ⟨_, _, _, rfl⟩

theorem State.planWindow_nv (s : State) : ∃ runs floors floor,
    s.planWindow.nv = { s.nv with runCounts := runs, seqFloors := floors, timeFloor := floor } := by
  unfold State.planWindow
  dsimp only
  split
  · exact ⟨_, _, _, rfl⟩
  · exact State.commitPlan_nv _

theorem State.planWork_nv (s : State) (env : TickEnv) (s0 : State) : ∃ runs floors floor,
    (s.planWork env s0).nv = { s.nv with runCounts := runs, seqFloors := floors, timeFloor := floor } := by
  obtain ⟨runs, floors, floor, hnv⟩ := State.planWindow_nv
    (s.onDev fun c d => ((d.takeSetup c.setup).countEnv c env).tddFrames c.time.tif env.tddFrames)
  exact ⟨runs, floors, floor, by simpa [State.planWork, State.changeWindow] using hnv⟩

theorem State.countPlan_nv (s : State) : ∃ runs, s.countPlan.nv = { s.nv with runCounts := runs } := by
  unfold State.countPlan
  split <;> exact ⟨_, rfl⟩

/-! ### T0 -/

/-- The state at the end of a tick, before T0 counts: the last samples have passed and the Close is taken up. -/
def State.endedTick (s : State) (env : TickEnv) : State :=
  (s.endTick env).onDev fun c d => d.takeClose c c.time.sub

/-- The state that T0 hands to the Plan window: the device's counts, the counters of the grid and the plan's run count
have advanced. -/
def State.countedTick (s : State) (env : TickEnv) : State :=
  (((s.endedTick env).onDev fun c d => d.countTick c.mode c.n).openTick).countPlan

theorem exec_tickEdge {s : State} (env : TickEnv) (hrun : s.time.running = true) (hmode : s.modes.mode ≠ .reset) :
    exec (.tickEdge env) s = .next ((s.countedTick env).planWork env (s.endedTick env)).writeIndex := by
  change execTickEdge env s = _
  rw [execTickEdge, if_neg (by simp [hrun, hmode])]
  rfl

/-- The model's choice (assumptions 3 and 60): without a running grid, and in RESET, T0 does nothing. -/
theorem exec_tickEdge_idle {s : State} (env : TickEnv) (h : s.time.running = false ∨ s.modes.mode = .reset) :
    exec (.tickEdge env) s = .next s := by
  change execTickEdge env s = _
  rw [execTickEdge, if_pos (by simpa using h)]

@[simp] theorem State.countedTick_setup (s : State) (env : TickEnv) : (s.countedTick env).setup = s.setup := by
  simp [State.countedTick, State.endedTick]
@[simp] theorem State.countedTick_ident (s : State) (env : TickEnv) : (s.countedTick env).ident = s.ident := by
  simp [State.countedTick, State.endedTick]
@[simp] theorem State.countedTick_rings (s : State) (env : TickEnv) : (s.countedTick env).rings = s.rings := by
  simp [State.countedTick, State.endedTick]

theorem State.countedTick_time (s : State) (env : TickEnv) :
    ∃ extra, (s.countedTick env).time = s.time.tick extra := by
  obtain ⟨extra, htime⟩ := State.openTick_time ((s.endedTick env).onDev fun c d => d.countTick c.mode c.n)
  exact ⟨extra, by simpa [State.countedTick, State.endedTick] using htime⟩

theorem State.countedTick_nv (s : State) (env : TickEnv) :
    ∃ runs, (s.countedTick env).nv = { s.nv with runCounts := runs } := by
  obtain ⟨runs, hnv⟩ := State.countPlan_nv ((s.endedTick env).onDev fun c d => d.countTick c.mode c.n).openTick
  exact ⟨runs, by simpa [State.countedTick, State.endedTick] using hnv⟩

/-- Settles O55: T0 counts once, and the Plan window that follows changes of the grid only the tick's length and of the
stores only what a commit leaves. -/
theorem tickEdgeAdvancesTheCounters : Obligations.TickEdgeAdvancesTheCounters := by
  refine ⟨fun env s hrun hmode => ?_, fun env s h => exec_tickEdge_idle env h⟩
  obtain ⟨extra, hcount⟩ := s.countedTick_time env
  obtain ⟨len, htime⟩ := (s.countedTick env).planWork_time env (s.endedTick env)
  obtain ⟨runs, hruns⟩ := s.countedTick_nv env
  obtain ⟨runs', floors, floor, hnv⟩ := (s.countedTick env).planWork_nv env (s.endedTick env)
  exact ⟨_, exec_tickEdge env hrun hmode, by simp [htime, hcount, hnv, hruns, hrun]⟩

/-! ### RUN_START and LOCK_QUAL -/

/-- The beginning of Run moves the window and its offset, and its work is the device's alone. -/
theorem exec_runStart {s : State} (hrun : s.time.running = true) (hwin : s.time.window = .plan) :
    exec .runStart s = .next (({ s with time := { s.time with window := .run, sub := 2400 } } : State).onDev
      fun c d => ((d.takeReef c.setup).startDraft c).pollNodes c) := by
  change execRunStart s = _
  rw [execRunStart, if_neg (by simp [State.inPlan, hrun, hwin])]

theorem exec_lockQual {s : State} (hcount : 3000 ≤ s.dev.lockCount) :
    exec .lockQual s = .next { s with dev := { s.dev with qual := { s.dev.qual with lockQual := true } } } := by
  change execLockQual s = _
  rw [execLockQual, if_neg (Nat.not_lt.mpr hcount)]

/-! ### What a Close changes of the device in every mode -/

/-- Saturations of the strand sums reach nothing but the strands' counts (R137). -/
theorem Dev.foldl_countTx (clips : List Nat) (d : Dev) : ∃ strands,
    clips.foldl (fun d g => d.countTx g 1) d = { d with conv := { d.conv with strands := strands } } := by
  induction clips generalizing d with
  | nil => exact ⟨d.conv.strands, rfl⟩
  | cons g clips ih => exact ih (d.countTx g 1)

theorem State.feed_dev (s : State) (x : Samples) : ∃ tapes strands,
    (s.feed x).dev = { s.dev with tapes := tapes, conv := { s.dev.conv with strands := strands } } := by
  unfold State.feed
  split
  · exact ⟨_, Dev.foldl_countTx _ _⟩
  · exact ⟨s.dev.tapes, s.dev.conv.strands, rfl⟩

theorem Dev.fillSnaps_eq (d : Dev) (c : Ctx) (now : Int) : ∃ ldl, d.fillSnaps c now = { d with ldl := ldl } := by
  unfold Dev.fillSnaps
  split
  · exact ⟨d.ldl, rfl⟩
  · exact ⟨_, rfl⟩

theorem Dev.fillRings_eq (d : Dev) (c : Ctx) (now : Int) : ∃ ldl, d.fillRings c now = { d with ldl := ldl } := by
  unfold Dev.fillRings
  split
  · exact ⟨d.ldl, rfl⟩
  · obtain ⟨ldl, hsnaps⟩ := d.fillSnaps_eq c now
    exact ⟨_, by rw [hsnaps]⟩

theorem Dev.wakeRest_eq (d : Dev) (c : Ctx) : ∃ power retained,
    d.wakeRest c = { d with
      conv := { d.conv with power := power }, mem := { d.mem with retained := retained } } := by
  unfold Dev.wakeRest
  split
  · exact ⟨_, _, rfl⟩
  · exact ⟨d.conv.power, d.mem.retained, rfl⟩

/-- Outside a waking COIL no tile and no bank changes at a Close. -/
theorem Dev.wakeRest_of_not_waking (d : Dev) {c : Ctx} (hwake : c.modes.waking = false) : d.wakeRest c = d := by
  simp [Dev.wakeRest, hwake]

/-- In COIL and LATCHED the work of a Close is the book's scan (R312, R336, assumption 46). -/
theorem Dev.closeWork_of_coil_or_latched (d : Dev) {c : Ctx} (hmode : c.mode = .coil ∨ c.mode = .latched) :
    d.closeWork c = d.scanBook c := by
  have hldl : leadlineRuns c.mode = false := by rcases hmode with h | h <;> simp [h, leadlineRuns]
  simp [Dev.closeWork, hldl, hmode]

/-! ### CLOSE_START -/

/-- The state as Close begins: the samples up to then have passed the relay path. -/
def State.closed (s : State) (x : Samples) : State :=
  { s.feed x with time := { s.time with window := .close, sub := s.time.closeSub } }

@[simp] theorem State.closed_time (s : State) (x : Samples) :
    (s.closed x).time = { s.time with window := .close, sub := s.time.closeSub } := rfl
@[simp] theorem State.closed_ident (s : State) (x : Samples) : (s.closed x).ident = s.ident := s.feed_ident x
@[simp] theorem State.closed_setup (s : State) (x : Samples) : (s.closed x).setup = s.setup := s.feed_setup x
@[simp] theorem State.closed_modes (s : State) (x : Samples) : (s.closed x).modes = s.modes := s.feed_modes x
@[simp] theorem State.closed_nv (s : State) (x : Samples) : (s.closed x).nv = s.nv := s.feed_nv x
@[simp] theorem State.closed_rings (s : State) (x : Samples) : (s.closed x).rings = s.rings := s.feed_rings x
@[simp] theorem State.closed_dev (s : State) (x : Samples) : (s.closed x).dev = (s.feed x).dev := rfl

/-- What the device does at a Close once its samples have passed: they reach their buffers, the DRAM meter is read, the
other tiles of a wake power up, and the work of the mode follows. -/
def Dev.close (d : Dev) (c : Ctx) (bytes : Nat) : Dev :=
  let d := d.fillRings c (c.time.at10 c.time.sub)
  (({ d with reef := { d.reef with dramBytes := bytes } } : Dev).wakeRest c).closeWork c

theorem exec_closeStart {s : State} (env : CloseEnv) (hrun : s.time.running = true) (hwin : s.time.window = .run) :
    exec (.closeStart env) s = .next ((s.closed env.samples).onDev fun c d => d.close c env.dramBytes) := by
  change execCloseStart env s = _
  rw [execCloseStart, if_neg (by simp [hrun, hwin])]
  simp only [State.closed, Dev.close]

/-- In COIL and LATCHED a Close reaches the buffers, the DRAM meter, the tiles and the retention of a wake, and the
book's scan. -/
theorem Dev.close_of_coil_or_latched (d : Dev) {c : Ctx} (bytes : Nat) (hmode : c.mode = .coil ∨ c.mode = .latched) :
    ∃ ldl power retained aged, d.close c bytes = { d with
      ldl := ldl, reef := { d.reef with dramBytes := bytes }
      conv := { d.conv with power := power }
      mem := { d.mem with retained := retained }
      book := { d.book with scan := (d.book.scan + 64) % 262144, aged := aged } } := by
  obtain ⟨ldl, hrings⟩ := d.fillRings_eq c (c.time.at10 c.time.sub)
  obtain ⟨power, retained, hwake⟩ :=
    ({ d with ldl := ldl, reef := { d.reef with dramBytes := bytes } } : Dev).wakeRest_eq c
  rw [Dev.close, closeWork_of_coil_or_latched _ hmode, hrings, hwake]
  exact ⟨ldl, power, retained, _, rfl⟩

/-- Without a wake the tiles and the memory stay at such a Close. -/
theorem Dev.close_keeps_power_and_mem (d : Dev) {c : Ctx} (bytes : Nat)
    (hmode : c.mode = .coil ∨ c.mode = .latched) (hwake : c.modes.waking = false) :
    (d.close c bytes).conv.power = d.conv.power ∧ (d.close c bytes).mem = d.mem := by
  obtain ⟨ldl, hrings⟩ := d.fillRings_eq c (c.time.at10 c.time.sub)
  rw [Dev.close, closeWork_of_coil_or_latched _ hmode, wakeRest_of_not_waking _ hwake, hrings]
  exact ⟨rfl, rfl⟩

/-- A tick that no step lengthens closes 476 us after T0. -/
theorem TimeSt.closeSub_of_unstepped {t : TimeSt} (h : t.periods = 6250000) : t.closeSub = 47600 := by
  simp [TimeSt.closeSub, h]

/-- Settles O56: the work of Run and Close is the device's alone, and in COIL and LATCHED that of Close is the book's scan
(assumptions 46 and 99). -/
theorem windowsFollowEachOther : Obligations.WindowsFollowEachOther := by
  refine ⟨fun s hrun hwin => ?run, fun env s hrun hwin => ?close, fun s hcount => exec_lockQual hcount⟩
  case run => exact ⟨_, exec_runStart hrun hwin, rfl, rfl, rfl, rfl, rfl, rfl⟩
  case close =>
    obtain ⟨tapes, strands, hfeed⟩ := s.feed_dev env.samples
    refine ⟨_, exec_closeStart env hrun hwin, rfl, TimeSt.closeSub_of_unstepped, s.closed_modes _, s.closed_setup _,
      s.closed_nv _, s.closed_rings _, s.closed_ident _, fun hmode => ?_, fun hmode hwake => ?_⟩
    · obtain ⟨ldl, power, retained, aged, hclose⟩ := (s.closed env.samples).dev.close_of_coil_or_latched
        (c := (s.closed env.samples).ctx) env.dramBytes (by simpa using hmode)
      rw [State.onDev_dev, hclose, State.closed_dev, hfeed]
    · simpa only [State.onDev_dev, State.closed_dev, hfeed] using
        (s.closed env.samples).dev.close_keeps_power_and_mem (c := (s.closed env.samples).ctx) env.dramBytes
          (by simpa using hmode) (by simpa using hwake)

end Sys2Proof.Machine
end

section
/-! PROOFS. The grid's counters (R44, R46): which commands move time at all, that each of them keeps the counters of
Table TCK-3 in range, and that only a read of BWL_TICK_CNT latches the shadows. -/

namespace Sys2Proof.Machine

/-! ### Time that follows -/

/-- How time may go on: counters in range stay there, and the shadows of R46 stay as they are. -/
structure TimeSt.Follows (t u : TimeSt) : Prop where
  inRange : t.InRange → u.InRange
  shTif : u.shTif = t.shTif
  shSfn : u.shSfn = t.shSfn
  shHfc : u.shHfc = t.shHfc

theorem TimeSt.Follows.refl (t : TimeSt) : t.Follows t := ⟨id, rfl, rfl, rfl⟩

theorem TimeSt.Follows.of_eq {t u : TimeSt} (h : u = t) : t.Follows u := h ▸ .refl t

theorem TimeSt.Follows.trans {t u v : TimeSt} (h : t.Follows u) (k : u.Follows v) : t.Follows v :=
  ⟨k.inRange ∘ h.inRange, k.shTif.trans h.shTif, k.shSfn.trans h.shSfn, k.shHfc.trans h.shHfc⟩

/-- A tick's length, its place on the converters' grid and the window within it are free. -/
theorem TimeSt.Follows.grid (t : TimeSt) (run : Bool) (w : Window) (sub periods conv sync utc : Nat) :
    t.Follows { t with
      running := run, window := w, sub := sub, periods := periods, conv := conv, syncConv := sync, shUtcHi := utc } :=
  ⟨id, rfl, rfl, rfl⟩

theorem TimeSt.Follows.of_periods {t u : TimeSt} (h : ∃ len, u = { t with periods := len }) : t.Follows u := by
  obtain ⟨len, rfl⟩ := h
  exact .grid ..

theorem TimeSt.Follows.counters (t : TimeSt) {n tif sfn hfc : Nat} (hn : n < two32) (htif : tif < 20)
    (hsfn : sfn < 1024) (hhfc : hfc < two32) : t.Follows { t with n := n, tif := tif, sfn := sfn, hfc := hfc } :=
  ⟨fun _ => ⟨hn, htif, hsfn, hhfc⟩, rfl, rfl, rfl⟩

theorem TimeSt.Follows.tick (t : TimeSt) (extra : Int) : t.Follows (t.tick extra) := by
  refine ⟨fun ⟨_, _, hsfn, hhfc⟩ => ⟨?_, ?_, ?_, ?_⟩, rfl, rfl, rfl⟩
  · exact Nat.mod_lt _ (by decide)
  · exact Nat.mod_lt _ (by decide)
  · rw [TimeSt.tick_sfn]
    split
    · exact Nat.mod_lt _ (by decide)
    · exact hsfn
  · rw [TimeSt.tick_hfc]
    split
    · exact Nat.mod_lt _ (by decide)
    · exact hhfc

theorem TimeSt.Follows.ite {t : TimeSt} {p : Prop} [Decidable p] {a b : State} (ha : t.Follows a.time)
    (hb : t.Follows b.time) : t.Follows (if p then a else b).time := by
  split
  · exact ha
  · exact hb

/-! ### What moves the grid -/

@[simp] theorem State.renumber_time (s : State) (tif sfn : Nat) :
    (s.renumber tif sfn).time = { s.time with tif := tif, sfn := sfn } := rfl

theorem State.renumber_follows (s : State) {tif sfn : Nat} (htif : tif < 20)
    (hsfn : s.time.InRange → sfn < 1024) : s.time.Follows (s.renumber tif sfn).time :=
  ⟨fun h => ⟨h.1, htif, hsfn h, h.2.2.2⟩, rfl, rfl, rfl⟩

theorem State.step55_follows (s : State) (delta : Int) : s.time.Follows (s.step55 delta).time :=
  .of_periods (s.step55_time delta)

theorem State.adopt_follows (s : State) (x : Cand) (freq : Int) : s.time.Follows (s.adopt x freq).time :=
  .of_periods (s.adopt_time x freq)

theorem State.settleLock_follows {t : TimeSt} {s : State} (h : s.time = t) (o : Option Occasion) :
    t.Follows (s.settleLock o).time :=
  h ▸ .of_periods (s.settleLock_time o)

theorem State.planWork_follows (s : State) (env : TickEnv) (s0 : State) : s.time.Follows (s.planWork env s0).time :=
  .of_periods (s.planWork_time env s0)

theorem State.countedTick_follows (s : State) (env : TickEnv) : s.time.Follows (s.countedTick env).time := by
  obtain ⟨extra, htime⟩ := s.countedTick_time env
  exact htime ▸ .tick ..

theorem State.moveT0_follows (s : State) (by_ : Int) : s.time.Follows (s.moveT0 by_).time := .grid ..

/-- A PPS edge sets TIF and keeps SFN. -/
theorem State.ppsTick_follows (s : State) (phase : Int) : s.time.Follows (s.ppsTick phase).time :=
  s.renumber_follows (by split <;> decide) (·.2.2.1)

theorem State.ppsEnter_follows (s : State) (ph err freq : Int) : s.time.Follows (s.ppsEnter ph err freq).time :=
  s.ppsTick_follows ph

theorem State.ppsLock_follows (s : State) (phase : Nat) (freq : Int) : s.time.Follows (s.ppsLock phase freq).time := by
  exact .ite (s.ppsEnter_follows ..) (.ite ((s.step55_follows _).trans (State.ppsEnter_follows ..)) (.refl _))

/-- A PPS edge that Painter takes, and what PPS_OUT makes of it. -/
theorem State.ppsMark_follows {t : TimeSt} {s : State} (h : s.time = t) (phase : Nat) (freq : Int) :
    t.Follows (s.ppsLock phase freq).markPps.time := by
  rw [State.markPps_time, ← h]
  exact s.ppsLock_follows phase freq

theorem State.reloadSfn_lt {s : State} {new : Nat} (h : s.reloadSfn = some new) : new < 1024 := by
  unfold State.reloadSfn at h
  split at h
  · cases h
  · dsimp only at h
    split at h
    · cases h
    · cases h
      exact (Int.toNat_lt (Int.emod_nonneg _ (by decide))).mpr (Int.emod_lt_of_pos _ (by decide))

/-! ### What a command leaves of time -/

/-- An outcome after which time goes on, or stands at its start in RESET. -/
def State.TimeKept (s : State) (o : Host.Outcome State Fault Refusal) : Prop :=
  ∀ t, o = .next t → s.time.Follows t.time ∨ (t.time = TimeSt.reset ∧ t.modes.mode = .reset)

namespace State.TimeKept

theorem next {s t : State} (h : s.time.Follows t.time) : s.TimeKept (.next t) := by
  rintro _ ⟨⟩
  exact .inl h

/-- A command that leaves time alone. -/
theorem same {s t : State} (h : t.time = s.time) : s.TimeKept (.next t) := next (.of_eq h)

theorem reset {s t : State} (h : t.time = TimeSt.reset) (hmode : t.modes.mode = .reset) : s.TimeKept (.next t) := by
  rintro _ ⟨⟩
  exact .inr ⟨h, hmode⟩

theorem ite {s : State} {p : Prop} [Decidable p] {a b : Host.Outcome State Fault Refusal} (ha : s.TimeKept a)
    (hb : s.TimeKept b) : s.TimeKept (if p then a else b) := by
  split
  · exact ha
  · exact hb

/-- A command whose condition does not hold leaves the state as it is (assumption 3). -/
theorem guard {s : State} {p : Prop} [Decidable p] {o : Host.Outcome State Fault Refusal} (h : s.TimeKept o) :
    s.TimeKept (if p then .next s else o) := ite (same rfl) h

end State.TimeKept

/-! ### Host commands leave time alone -/

theorem cmdTimeSet_time (h : CmdHdr) (u : Nat) (s : State) : (cmdTimeSet h u s).time = s.time := by
  unfold cmdTimeSet
  split <;> rfl

theorem cmdPlanLoad_time (h : CmdHdr) (b : InBuf) (s : State) : (cmdPlanLoad h b s).time = s.time := by
  unfold cmdPlanLoad
  split <;> rfl

theorem cmdLogClear_time (h : CmdHdr) (b : InBuf) (s : State) : (cmdLogClear h b s).time = s.time := by
  unfold cmdLogClear
  dsimp only
  split <;> rfl

theorem State.ite_time {p : Prop} [Decidable p] {a b : State} {t : TimeSt} (ha : a.time = t) (hb : b.time = t) :
    (if p then a else b).time = t := by
  split
  · exact ha
  · exact hb

theorem cmdLifeSet_time (h : CmdHdr) (st group : Nat) (b : InBuf) (s : State) :
    (cmdLifeSet h st group b s).time = s.time := by
  unfold cmdLifeSet
  dsimp only
  split
  · rfl
  split
  · exact State.ite_time s.spendNonce_time rfl
  · exact (State.logNow_time ..).trans (State.ite_time s.spendNonce_time rfl)

theorem cmdKeySet_time (h : CmdHdr) (slot action : Nat) (b : InBuf) (s : State) :
    (cmdKeySet h slot action b s).time = s.time := by
  unfold cmdKeySet
  dsimp only
  split
  · rfl
  · exact State.ite_time (State.ite_time s.spendNonce_time rfl)
      ((State.logNow_time ..).trans (State.ite_time s.spendNonce_time rfl))

/-- No host command moves time: what it plans waits for its Plan window (R39). -/
theorem runCommand_time (i : Instr) (s : State) : (runCommand i s).time = s.time := by
  cases i with
  | timeSet h u => exact cmdTimeSet_time h u s
  | planLoad h b => exact cmdPlanLoad_time h b s
  | logClear h b => exact cmdLogClear_time h b s
  | lifeSet h st group b => exact cmdLifeSet_time h st group b s
  | keySet h slot action b => exact cmdKeySet_time h slot action b s
  | _ => rfl

theorem evaluate_time (cidx : Nat) (x : Descriptor) (s : State) : (evaluate cidx x s).time = s.time := by
  unfold evaluate
  dsimp only
  split
  · rfl
  split
  · rfl
  split
  · exact runCommand_time _ s
  · rfl

theorem runWaiting_time (l : List (Nat × Descriptor)) (s : State) : (runWaiting l s).time = s.time := by
  induction l generalizing s with
  | nil => rfl
  | cons x xs ih =>
    unfold runWaiting
    split
    · rfl
    · rw [ih, evaluate_time]

theorem State.fetchOne_time (s : State) (x : Descriptor) : (s.fetchOne x).time = s.time := by
  unfold State.fetchOne
  dsimp only
  split
  · rfl
  · exact evaluate_time ..

theorem fetchAll_time (ds : List Descriptor) (s : State) : (fetchAll ds s).time = s.time := by
  induction ds generalizing s with
  | nil => rfl
  | cons x xs ih =>
    unfold fetchAll
    split
    · rw [ih, State.fetchOne_time]
    · rfl

/-! ### The commands that move time -/

theorem State.resetUnlessLatched_timeKept (s : State) (cause : Nat) :
    s.TimeKept (.next (s.resetUnlessLatched cause)) := by
  unfold State.resetUnlessLatched
  split
  · exact .same rfl
  · exact .reset rfl rfl

theorem execChipResetBegin_timeKept (s : State) : s.TimeKept (execChipResetBegin s) := by
  unfold execChipResetBegin
  split
  · exact .same rfl
  · exact .ite (.same rfl) (.ite (.reset rfl rfl) (.same rfl))

/-- The lock of the synthesizer starts the grid at tick 0 (R416, assumption 44). -/
theorem execSynthLock_timeKept (s : State) : s.TimeKept (execSynthLock s) := by
  have started : s.time.Follows { s.time with
      n := 0, tif := 0, sfn := 0, hfc := 0, running := true, window := .plan, sub := 0 } :=
    (TimeSt.Follows.counters s.time (by decide) (by decide) (by decide) (by decide)).trans (.grid ..)
  exact .guard (.ite (.same rfl) (.next started))

theorem execTickEdge_timeKept (env : TickEnv) (s : State) : s.TimeKept (execTickEdge env s) := by
  refine .guard (.next ?_)
  rw [State.writeIndex_time]
  exact (s.countedTick_follows env).trans (State.planWork_follows ..)

theorem execSyncInstant_timeKept (s : State) : s.TimeKept (execSyncInstant s) := .guard (.next (.grid ..))

theorem execPpsInEdge_timeKept (e : PpsEdge) (phase : Nat) (s : State) : s.TimeKept (execPpsInEdge e phase s) := by
  refine .guard (.next ?_)
  rw [State.settleSync_time]
  refine .ite (State.ppsMark_follows ?_ ..) (.refl _)
  rfl

theorem execSyncOccasion_timeKept (o : Occasion) (s : State) : s.TimeKept (execSyncOccasion o s) := by
  refine .guard (.next ?_)
  rw [State.settleSync_time]
  exact State.settleLock_follows (State.onDev_time ..) _

theorem execDonorReplace_timeKept (s : State) : s.TimeKept (execDonorReplace s) := by
  unfold execDonorReplace
  dsimp only
  split
  · exact .same rfl
  · refine .guard ?_
    split
    · exact .same rfl
    · refine .next ?_
      rw [State.settleSync_time]
      exact .ite (s.adopt_follows ..) (.refl _)

/-- The reload puts TIF 0 and a frame number of the donor in force (R45). -/
theorem execSfnReload_timeKept (s : State) : s.TimeKept (execSfnReload s) := by
  unfold execSfnReload
  split
  · exact .same rfl
  next new hnew => exact .next (s.renumber_follows (by decide) fun _ => State.reloadSfn_lt hnew)

/-- A slave takes the master's counters within their widths (R63). -/
theorem execSpliceTimingMessage_timeKept (t0 : MasterTick) (tif sfn hfc : Nat) (s : State) :
    s.TimeKept (execSpliceTimingMessage t0 tif sfn hfc s) := by
  have taken := TimeSt.Follows.counters (s.moveT0 t0.after).time (n := t0.n % two32) (tif := tif % 20)
    (sfn := sfn % 1024) (hfc := hfc % two32) (Nat.mod_lt _ (by decide)) (Nat.mod_lt _ (by decide))
    (Nat.mod_lt _ (by decide)) (Nat.mod_lt _ (by decide))
  exact .guard (.next ((s.moveT0_follows t0.after).trans taken))

theorem execSpliceCandidateReport_timeKept (r : CandReports) (s : State) :
    s.TimeKept (execSpliceCandidateReport r s) := by
  refine .guard (.next ?_)
  rw [State.settleSync_time]
  exact State.settleLock_follows (State.onDev_time ..) _

theorem execReadClear_timeKept {off : Nat} (h : off ≠ 0x40) (s : State) : s.TimeKept (execReadClear off s) := by
  unfold execReadClear
  dsimp only
  rw [if_neg h]
  exact .ite (.same rfl) (.ite (.next (.grid ..)) (.same (State.readClears_time ..)))


/-! ### What every command leaves of time -/

@[simp] theorem State.closeBurst_time (s : State) (bg pos sub : Nat) : (s.closeBurst bg pos sub).time = s.time := by
  unfold State.closeBurst
  split
  · exact State.onDev_time ..
  · rfl

@[simp] theorem State.evaluateOsc_time (s : State) (byid sub : Nat) : (s.evaluateOsc byid sub).time = s.time := by
  unfold State.evaluateOsc
  dsimp only
  split
  · rfl
  · exact State.onDev_time ..

/-- No command but a read of BWL_TICK_CNT does more to time than to let it go on or to reset it. The first rows are those
that do either; the rows of the engines leave time alone in each branch. -/
theorem exec_timeKept (c : Instr) (hread : readsTickCnt c = false) (s : State) : s.TimeKept (exec c s) := by
  cases c with
  | tickCntRead => cases hread
  | readClear off => exact execReadClear_timeKept (fun h => by subst h; cases hread) s
  | tickEdge env => exact execTickEdge_timeKept env s
  | runStart | closeStart => exact .guard (.next (.grid ..))
  | syncInstant => exact execSyncInstant_timeKept s
  | synthLock => exact execSynthLock_timeKept s
  | ppsInEdge e phase => exact execPpsInEdge_timeKept e phase s
  | syncOccasion o => exact execSyncOccasion_timeKept o s
  | donorReplace => exact execDonorReplace_timeKept s
  | sfnReload => exact execSfnReload_timeKept s
  | spliceTimingMessage t0 tif sfn hfc => exact execSpliceTimingMessage_timeKept t0 tif sfn hfc s
  | spliceCandidateReport r => exact execSpliceCandidateReport_timeKept r s
  | utcLoRead => exact .next (.grid ..)
  | powerGood => exact .reset rfl rfl
  | brownOut | ilimHold => exact .guard (.reset rfl rfl)
  | warmResetRequest | chipResetRequest => exact .ite (s.resetUnlessLatched_timeKept _) (.same rfl)
  | lifecycleReset => exact .guard (s.resetUnlessLatched_timeKept _)
  | chipResetBegin => exact execChipResetBegin_timeKept s
  | timeSet h u => exact .same (cmdTimeSet_time h u s.fetched)
  | planLoad h b => exact .same (cmdPlanLoad_time h b s.fetched)
  | logClear h b => exact .same (cmdLogClear_time h b s.fetched)
  | lifeSet h st group b => exact .same (cmdLifeSet_time h st group b s.fetched)
  | keySet h slot action b => exact .same (cmdKeySet_time h slot action b s.fetched)
  | commandFetch ds =>
    exact .same ((State.writeIndex_time _).trans ((fetchAll_time ..).trans (runWaiting_time ..)))
  | modeSet | coilEnter | coilWake | sync | calRun | txTest | muteSet | muteClr | netInd | ulSched | feLoad | yarnMap
  | beamSet | arrayCal | cancSet | entryLearn | trcScan | gainSet | belBank | belRead | bookBasis | bookLoad
  | bookRead | bookSet | bookDel | partnerRead | measSub | specSnap | captureArm | captureRead | reefCap | thmClr
  | marchRun | logRead | logNonce => exact .same rfl
  | stopFirstUnlatch | jtagInstruction | vinSample | ppsInTimeout | spliceRefLoss | spliceRefRestore | muteNFall
  | muteNRise | endpointWriteback | entryAged | txTestEnd | faultNHoldEnd => exact .same rfl
  | doorbellProducer | idxBaseHiWrite | setupLock | stopperAcknowledge | registerWrite | i2cRead | pcieLinkEvent
  | sramWipeDone | firmwareLoaded | dramTrained | synth | lanyardDiscovery | lanyardRediscovery | lanyardRsp
  | lanyardRspMissing | syncInEdge | searchTimeout | spliceLinkUp | spliceSyncMessage | splicePortDown | marlineFrame
  | donorLoss | lockQual | tracerEpoch | coilWakeStart | stopperRaise | blockResetDone | optimeSave | spliceCalReport =>
    exact .ite (.same rfl) (.same rfl)
  | burstOnset | signatureReady | weightSwitch | slotRelease | burstClose | oscEvaluate => exact .same (by simp)
  | bookLoadCommit => exact .same (State.ite_time rfl rfl)
  | resetRelease | planExpiry => exact .guard (.same (State.settleMutes_time _))
  | muteRelease => exact .guard (.same (State.leaveMuted_time _))
  | tickOverrun item => exact .guard (.same (State.overrun_time s item))
  | electionTimeout | masterTakeover => exact .guard (.same s.becomeMaster_time)
  | masterLost => exact .guard (.same (State.ite_time rfl (State.becomeMaster_time _)))
  | thermalSample => exact .guard (.same (State.ite_time (State.thermalShutdown_time ..) rfl))
  | thermalCritical die sub => exact .guard (.same (State.thermalShutdown_time s sub))
  | ringRecordWrite | interruptDue | donorHoldExpiry | entryLearned | specSnapDone | captureRecord
  | loglineRecordWrite | logClearDone | calWaveDone =>
    dsimp only [exec, execRingRecordWrite, execInterruptDue, execDonorHoldExpiry, execEntryLearned, execSpecSnapDone,
      execCaptureRecord, execLoglineRecordWrite, execLogClearDone, execCalWaveDone]
    (repeat' split) <;> exact .same (by simp)
  | doorbellConsumer | commandOutputDone | ringRecordDrop | ringCfgWrite | w1cClear | lanyardFrameSend
  | candidateExpire | marlineLinkRestore | clockSecond | timeFloorRaise | feedbackDecay | matchComplete | entryLearnDone
  | arrayCalDone | calRunDone | captureTrigger | captureEnd | marchWindow | portATouch | marchDone | tddSwitch
  | matchLate =>
    dsimp only [exec, execDoorbellConsumer, execCommandOutputDone, execRingRecordDrop, execRingCfgWrite, execW1cClear,
      execLanyardFrameSend, execCandidateExpire, execMarlineLinkRestore, execClockSecond, execTimeFloorRaise,
      execFeedbackDecay, execMatchComplete, execEntryLearnDone, execArrayCalDone, execCalRunDone, execCaptureTrigger,
      execCaptureEnd, execMarchWindow, execPortATouch, execMarchDone, execTddSwitch, execMatchLate]
    (repeat' split) <;> exact .same rfl

/-! ### A read of BWL_TICK_CNT (R46) -/

theorem readsTickCnt_cases {c : Instr} (h : readsTickCnt c = true) : c = .tickCntRead ∨ c = .readClear 0x40 := by
  unfold readsTickCnt at h
  split at h
  · exact .inl rfl
  · exact .inr rfl
  · cases h

/-- Either row that reads BWL_TICK_CNT latches the shadows and leaves the counters. -/
theorem exec_time_of_readsTickCnt {c : Instr} (h : readsTickCnt c = true) (s : State) :
    ∃ w, exec c s = .next (s.returns w).latchTick := by
  rcases readsTickCnt_cases h with rfl | rfl
  · exact ⟨_, rfl⟩
  · exact ⟨_, rfl⟩

/-- Every command keeps the counters in the ranges of Table TCK-3. -/
theorem exec_inRange {c : Instr} {s t : State} (hs : s.time.InRange) (h : exec c s = .next t) : t.time.InRange := by
  cases hread : readsTickCnt c with
  | true =>
    obtain ⟨w, hexec⟩ := exec_time_of_readsTickCnt hread s
    obtain rfl : (s.returns w).latchTick = t := by simpa [hexec] using h
    exact hs
  | false =>
    rcases exec_timeKept c hread s t h with hfollows | ⟨hreset, -⟩
    · exact hfollows.inRange hs
    · rw [hreset]
      decide

/-- Settles O5: the counters of Table TCK-3 stay in range through every step. -/
theorem countersStayInRange : Obligations.CountersStayInRange := by
  intro s t hs h
  unfold step at h
  split at h
  · cases h
    exact hs
  next c rest _ => exact exec_inRange (s := { s with pending := rest }) hs h

/-- Two fields side by side: the word is their sum. -/
theorem toNat_pack_two {a b m n : Nat} (ha : a < 2 ^ m) (hb : b < 2 ^ n) (hlen : m + n ≤ 32) :
    (pack [(0, m, a), (m, n, b)]).toNat = a + 2 ^ m * b := by
  have hab : 2 ^ m * b + a < 2 ^ 32 := calc
    2 ^ m * b + a < 2 ^ m * (b + 1) := by rw [Nat.mul_succ]; omega
    _ ≤ 2 ^ m * 2 ^ n := Nat.mul_le_mul_left _ hb
    _ = 2 ^ (m + n) := (Nat.pow_add ..).symm
    _ ≤ 2 ^ 32 := Nat.pow_le_pow_right (by decide) hlen
  have hb' : b ≤ 2 ^ m * b := Nat.le_mul_of_pos_left _ (Nat.two_pow_pos m)
  have hor : b <<< m ||| a = 2 ^ m * b + a := by
    rw [← Nat.shiftLeft_add_eq_or_of_lt ha, Nat.shiftLeft_eq, Nat.mul_comm]
  simp only [pack, packWord, List.map, List.foldl, Nat.mod_eq_of_lt ha, Nat.mod_eq_of_lt hb, BitVec.zero_or,
    BitVec.shiftLeft_zero, BitVec.toNat_or, BitVec.toNat_shiftLeft, BitVec.toNat_ofNat]
  rw [Nat.mod_eq_of_lt (by omega : a < 2 ^ 32), Nat.mod_eq_of_lt (by omega : b < 2 ^ 32),
    Nat.mod_eq_of_lt (by rw [Nat.shiftLeft_eq, Nat.mul_comm]; omega), Nat.or_comm, hor, Nat.add_comm]
/-- BWL_TICK_POS reads the shadows of TIF and SFN, BWL_HFC that of HFC. -/
theorem State.reg_tickPos (s : State) : s.reg 0x44 = pack [(0, 5, s.time.shTif), (5, 10, s.time.shSfn)] := rfl

theorem State.reg_hfc (s : State) : s.reg 0x48 = BitVec.ofNat 32 s.time.shHfc := rfl

/-- Settles O10: a read of BWL_TICK_CNT latches TIF, SFN and HFC, which BWL_TICK_POS and BWL_HFC return, and nothing else
but a reset changes them. -/
theorem tickCountReadLatchesShadows : Obligations.TickCountReadLatchesShadows := by
  refine ⟨fun s => ⟨_, rfl, rfl, rfl⟩, fun s htif hsfn hhfc => ?_, fun c s t hread h => ?_⟩
  · have hpos : (s.reg 0x44).toNat = s.time.shTif + 32 * s.time.shSfn := toNat_pack_two htif hsfn (by decide)
    rw [Word.field, Word.field, hpos, State.reg_hfc, BitVec.toNat_ofNat, Nat.shiftRight_eq_div_pow]
    exact ⟨by omega, by omega, Nat.mod_eq_of_lt hhfc⟩
  · rcases exec_timeKept c hread s t h with hfollows | ⟨-, hmode⟩
    · exact .inl ⟨hfollows.shTif, hfollows.shSfn, hfollows.shHfc⟩
    · exact .inr hmode

end Sys2Proof.Machine
end

section
/-! PROOFS. Reset, and the host commands that are judged and wait for their Plan window (R39): MODE.SET, host mutes,
NET.IND, UL.SCHED, TX.TEST and PLAN.LOAD. -/

namespace Sys2Proof.Machine

/-! ### Reset -/

/-- Settles O4: each field as reset leaves it, and the ranges that every step keeps. -/
theorem resetState : Obligations.ResetState :=
  ⟨⟨rfl, rfl, rfl, rfl, rfl, rfl, rfl, rfl, rfl, by decide, rfl, rfl, rfl, rfl, rfl, rfl, rfl, rfl, rfl, rfl, rfl⟩,
    by decide, by decide, by decide⟩

/-! ### MODE.SET (R405 to R407) -/

@[simp] theorem Dev.fetched_modeDenied (d : Dev) (c : Ctx) (t : Mode) : d.fetched.modeDenied c t = d.modeDenied c t := rfl
@[simp] theorem Dev.fetched_modeBusy (d : Dev) (c : Ctx) (t : Mode) : d.fetched.modeBusy c t = d.modeBusy c t := rfl

/-- What MODE.SET does while no mode command waits. -/
def modeSetJudged (h : CmdHdr) (mode : Option Mode) (s : State) : State :=
  match mode with
  | none => s.denied 0x0101 h stBadArg
  | some t =>
    if t = s.modes.mode then s.answered 0x0101 h 0 0 none []
    else s.fetched.onDev fun c d => guarded 0x0101 h [(d.modeDenied c t, stDenied), (d.modeBusy c t, stBusy)]
      (fun d => ({ d with qual := { d.qual with
        pend := some { opcode := 0x0101, target := t, tick := c.effTick, tag := h.tag } } }).okAt 0x0101 h c.effTick) d

theorem exec_modeSet {s : State} (hpend : s.dev.qual.pend = none) (h : CmdHdr) (m : Nat) :
    exec (.modeSet h m) s = .next (modeSetJudged h (modeField m) s) := by
  change Host.Outcome.next (cmdModeSet h m s.fetched) = _
  congr 1
  simp only [cmdModeSet, State.onDev, State.fetched_dev, Dev.fetched_qual, hpend, modeSetJudged]
  cases modeField m with
  | none => rfl
  | some t =>
    by_cases ht : t = s.modes.mode
    · simp [ht]
    · simp [ht]

/-- Settles O20: while a mode command waits MODE.SET is BUSY; else its MODE field, the mode in force and the denials
judge it in that order, and what they allow waits for the Plan window of R39. -/
theorem modeSetIsJudgedAndWaits : Obligations.ModeSetIsJudgedAndWaits := by
  refine ⟨fun h m t s hpend hfield ht hden hbusy => ?accept, fun h m s hpend hfield => ?same,
    fun h m s hpend => ?busy, fun h m s hpend hm => ?unknown, fun h m t s hpend hfield ht hden => ?denied⟩
  case accept =>
    rw [exec_modeSet hpend, hfield, modeSetJudged, if_neg ht, State.onDev_accept (by simp [hden, hbusy])]
    rfl
  case same => rw [exec_modeSet hpend, hfield, modeSetJudged, if_pos rfl]
  case busy =>
    change Host.Outcome.next (cmdModeSet h m s.fetched) = _
    simp only [cmdModeSet, State.onDev, State.fetched_dev, Dev.fetched_qual, hpend, if_true]
    rfl
  case unknown =>
    rw [exec_modeSet hpend, modeField, if_neg hm]
    rfl
  case denied =>
    have hfail (busy : Bool) : firstFail [(s.dev.fetched.modeDenied s.ctx t, stDenied), (busy, stBusy)] = some 3 := by
      rw [Dev.fetched_modeDenied, hden, firstFail_true]
      rfl
    rw [exec_modeSet hpend, hfield, modeSetJudged, if_neg ht, State.onDev_refuse (hfail _)]

/-! ### Host mutes (R282) -/

/-- A level and a scope that Table PRT-7 knows for a member. -/
theorem muteScope_of_named {a : MuteArgs} {m : Member} {x : Nat}
    (h : (a.level = 1 ∧ byidBeam a.id < Config.serviceBeams m ∧ x = a.id % 2 ^ 15) ∨
      (a.level = 2 ∧ a.bg ≤ 7 ∧ a.dir ≤ 1 ∧ x = loopScope a.bg a.dir) ∨
      (a.level = 3 ∧ a.id < Config.strands m ∧ x = a.id) ∨ ((a.level = 4 ∨ a.level = 5) ∧ x = 0)) :
    muteScope a m = some x := by
  rcases h with ⟨hl, hb, rfl⟩ | ⟨hl, hbg, hdir, rfl⟩ | ⟨hl, hid, rfl⟩ | ⟨hl | hl, rfl⟩
  · simp [muteScope, hl, hb]
  · simp [muteScope, hl, Nat.lt_succ_of_le hbg, Nat.lt_succ_of_le hdir]
  · simp [muteScope, hl, hid]
  · simp [muteScope, hl]
  · simp [muteScope, hl]

theorem muteScope_of_no_level {a : MuteArgs} {m : Member} (h : a.level = 0 ∨ 5 < a.level) : muteScope a m = none := by
  unfold muteScope
  rw [if_neg (by omega), if_neg (by omega), if_neg (by omega), if_neg (by omega)]

theorem exec_muteSet_accepted {h : CmdHdr} {a : MuteArgs} {x : Nat} {s : State}
    (hscope : muteScope a s.ident.member = some x) (hmode : modeAccepts s.modes.mode 0x0202 = true) :
    exec (.muteSet h a) s = .next (s.accepted 0x0202 h (.hostMute a.level x true)) := by
  change Host.Outcome.next (cmdMuteSet h a s.fetched) = _
  rw [cmdMuteSet, State.onDev_accept (by simp [hscope, hmode])]
  simp [hscope]

theorem exec_muteClr_accepted {h : CmdHdr} {a : MuteArgs} {x : Nat} {s : State}
    (hscope : muteScope a s.ident.member = some x) (hmode : modeAccepts s.modes.mode 0x0203 = true)
    (hlevel : a.level ≠ 5) :
    exec (.muteClr h a) s = .next (s.accepted 0x0203 h (.hostMute a.level x false)) := by
  change Host.Outcome.next (cmdMuteClr h a s.fetched) = _
  rw [cmdMuteClr, State.onDev_accept (by simp [hscope, hmode, beq_false_of_ne hlevel])]
  simp [hscope]

/-- Level 5 has no release but power-on (R282). -/
theorem exec_muteClr_level5 {h : CmdHdr} {a : MuteArgs} (hlevel : a.level = 5) (s : State) :
    exec (.muteClr h a) s = .next (s.denied 0x0203 h 3) := by
  have hscope : muteScope a s.ident.member = some 0 := muteScope_of_named (by simp [hlevel])
  change Host.Outcome.next (cmdMuteClr h a s.fetched) = _
  rw [cmdMuteClr, State.onDev_refuse (st := 3) (by simp [hscope, hlevel]; rfl)]

theorem exec_muteSet_no_level {h : CmdHdr} {a : MuteArgs} (hlevel : a.level = 0 ∨ 5 < a.level) (s : State) :
    exec (.muteSet h a) s = .next (s.denied 0x0202 h 1) := by
  change Host.Outcome.next (cmdMuteSet h a s.fetched) = _
  rw [cmdMuteSet, State.onDev_refuse (st := 1) (by simp [muteScope_of_no_level hlevel]; rfl)]

/-! ### NET.IND (R286 to R288) -/

/-- The checks of NET.IND before its distance pass. -/
theorem netInd_unmapped {a : NetIndArgs} {b : Beams} (h : a.kind = 1 → (b.mapped a.bg a.beamK).isSome = true) :
    (a.kind == 1 && (b.mapped a.bg a.beamK).isNone) = false := by
  by_cases hk : a.kind = 1
  · simp [hk, h hk]
  · simp [hk]

/-- The indication that NET.IND stores, with its first tick (R287). -/
def Ctx.indOf (c : Ctx) (a : NetIndArgs) (order : Nat) : NetInd where
  kind := a.kind
  bg := a.bg
  k := a.beamK
  on := a.on
  first := ((c.n : Int) + 2 ^ 32 + niDistance c.tih a.sfn a.scs a.slot).toNat % 2 ^ 32
  len := if a.scs = 0 then 2 * a.nslots else a.nslots
  order := order

section
variable {h : CmdHdr} {a : NetIndArgs} {s : State} (hbad : netIndBad a = false) (hnet : networkRules s.modes = true)
  (hmap : a.kind = 1 → (s.dev.beams.mapped a.bg a.beamK).isSome = true)
include hbad hnet hmap

theorem exec_netInd_stored (hfar : 2 < niDistance s.ctx.tih a.sfn a.scs a.slot)
    (hnear : niDistance s.ctx.tih a.sfn a.scs a.slot ≤ 2048) (hroom : s.dev.prt.ni.length < 256) :
    exec (.netInd h a) s = .next (({ s with dev := { s.dev with prt := { s.dev.prt with
      ni := s.dev.prt.ni ++ [s.ctx.indOf a s.dev.prt.niNext]
      niNext := s.dev.prt.niNext + 1 } } }).answered 0x0204 h 0 0 (some (s.ctx.indOf a s.dev.prt.niNext).first) []) := by
  have hfar' : ¬ niDistance s.ctx.tih a.sfn a.scs a.slot ≤ 2 := Int.not_le.mpr hfar
  have hnear' : ¬ 2048 < niDistance s.ctx.tih a.sfn a.scs a.slot := Int.not_lt.mpr hnear
  change Host.Outcome.next (cmdNetInd h a s.fetched) = _
  simp [cmdNetInd, State.onDev, netInd_unmapped hmap, hbad, hnet, hfar', hnear', Nat.not_le.mpr hroom]
  rfl

theorem exec_netInd_late (hlate : niDistance s.ctx.tih a.sfn a.scs a.slot ≤ 2) :
    exec (.netInd h a) s = .next (({ s with dev := { s.dev with prt := { s.dev.prt with
      niLate := min (s.dev.prt.niLate + 1) 255 } } }).denied 0x0204 h 4) := by
  have hnear : ¬ 2048 < niDistance s.ctx.tih a.sfn a.scs a.slot := by omega
  change Host.Outcome.next (cmdNetInd h a s.fetched) = _
  simp [cmdNetInd, State.onDev, netInd_unmapped hmap, hbad, hnet, hlate, hnear]
  rfl

end

/-! ### UL.SCHED (R367) -/

/-- A schedule starts at the one tick of its period's length at which a period begins. -/
theorem schedDelay_eq {tih period k : Nat} (hk : k < 20 * period) (hbegin : (tih + k) % (20 * period) = 0) :
    schedDelay tih period = k := by
  have first : (List.range (20 * period)).find? (fun k => (tih + k) % (20 * period) == 0) = some k := by
    refine List.find?_range_eq_some.mpr ⟨by simpa using hbegin, by simpa using hk, fun j hj => ?_⟩
    have hne : (tih + j) % (20 * period) ≠ 0 := fun hj0 => by
      have hdvd := Nat.dvd_sub (Nat.dvd_of_mod_eq_zero hbegin) (Nat.dvd_of_mod_eq_zero hj0)
      have := Nat.le_of_dvd (by omega) hdvd
      omega
    simpa using hne
  rw [schedDelay, first, Option.getD_some]

/-- The hyperframe holds a whole number of periods, so that the delay may be counted within it. -/
theorem schedDelay_hyperframe {tih p k : Nat} (hp : p ≤ 10) (hk : k < 20 * 2 ^ p)
    (hbegin : (tih + k) % (20 * 2 ^ p) = 0) : schedDelay (tih % 20480) (2 ^ p) = k := by
  have hdvd : 20 * 2 ^ p ∣ 20480 := Nat.mul_dvd_mul_left 20 (Nat.pow_dvd_pow 2 hp)
  exact schedDelay_eq hk (by rw [Nat.add_mod, Nat.mod_mod_of_dvd _ hdvd, ← Nat.add_mod, hbegin])

/-- The schedule that UL.SCHED names; a clear has none. -/
def schedOf (bg action p : Nat) (b : InBuf) : UlSched :=
  { bg := bg, log2 := p, bits := if action = 1 then schedBits p b.data else [] }

theorem exec_ulSched {h : CmdHdr} {bg action p k n : Nat} {b : InBuf} {q : Pend} {s : State} (hbg : bg ≤ 7)
    (hp : p ≤ 10) (haction : action = 1 ∧ InBufGood b ((20 * 2 ^ p + 7) / 8) ∨ action = 2)
    (hmode : modeAccepts s.modes.mode 0x0205 = true) (hk : k < 20 * 2 ^ p)
    (hbegin : (s.ctx.tih + sub32 s.ctx.effTick s.time.n + k) % (20 * 2 ^ p) = 0)
    (hn : n = (s.ctx.effTick + k) % 2 ^ 32)
    (hq : q = { tick := n, opcode := 0x0205, tag := h.tag,
                what := .sched (action == 1) (schedOf bg action p b) s.ctx.effTick }) :
    exec (.ulSched h bg action p b) s = .next (({ s with
      dev := { s.dev with pend := s.dev.pend ++ [q] } }).answered 0x0205 h 0 0 (some n) []) := by
  have hbg' : ¬ 7 < bg := Nat.not_lt.mpr hbg
  have hp' : ¬ 10 < p := Nat.not_lt.mpr hp
  have hdelay := schedDelay_hyperframe hp hk hbegin
  change Host.Outcome.next (cmdUlSched h bg action p b s.fetched) = _
  subst hn hq
  rcases haction with ⟨rfl, hb⟩ | rfl
  · rw [cmdUlSched, State.onDev_accept (by simp [hbg', hp', hmode, firstFail_inChecks hb, outside])]
    simp only [State.ctx_n, hdelay]
    rfl
  · rw [cmdUlSched, State.onDev_accept (by simp [hbg', hp', hmode, outside])]
    simp only [State.ctx_n, hdelay]
    rfl

/-- Settles O24: a host mute waits with its scope, an indication is stored with its first tick unless its first slot is too
near, and a schedule waits for the first tick that begins one of its periods. -/
theorem mutesAndIndicationsAreAccepted : Obligations.MutesAndIndicationsAreAccepted := by
  refine ⟨fun h a x s hscope hmode => exec_muteSet_accepted (muteScope_of_named hscope) hmode,
    fun h a x s hscope hmode => ?clr, fun h a s hlevel => exec_muteClr_level5 hlevel s,
    fun h a s hlevel => exec_muteSet_no_level hlevel s,
    fun h a s hbad hnet hfar hnear hmap hroom => ⟨_, rfl, exec_netInd_stored hbad hnet hmap hfar hnear hroom⟩,
    fun h a s hbad hnet hlate hmap => exec_netInd_late hbad hnet hmap hlate,
    fun h bg p k n b q s hbg hp hmode hb _ hk hbegin hn hq =>
      exec_ulSched hbg hp (.inl ⟨rfl, hb⟩) hmode hk hbegin hn hq,
    fun h bg p k n b q s hbg hp hmode _ hk hbegin hn hq => exec_ulSched hbg hp (.inr rfl) hmode hk hbegin hn hq⟩
  case clr =>
    have hlevel : a.level ≠ 5 := by omega
    exact exec_muteClr_accepted (muteScope_of_named (by tauto)) hmode hlevel

/-! ### TX.TEST (R415) -/

@[simp] theorem Dev.fetched_txTestDenied (d : Dev) (a : TxTestArgs) : d.fetched.txTestDenied a = d.txTestDenied a := rfl

theorem exec_txTest_start {h : CmdHdr} {a : TxTestArgs} {e : Dev} {s : State} (hkind : a.kind ≠ 0)
    (hbad : txTestBad s.ctx a = false) (hmode : s.modes.mode = .maintenance) (hden : s.dev.txTestDenied a = false)
    (hidle : ∀ g, g ∈ testStrands a → ∀ x, x ∈ s.dev.conv.tests → x.g = g → x.ended = true)
    (hadmit : s.dev.fetched.admitAll (testYarns s.ctx.effTick a) = some e) :
    exec (.txTest h a) s = .next { s with dev := (e.startTests a s.ctx.effTick).okAt 0x0107 h s.ctx.effTick } := by
  have hbusy : ((testStrands a).any fun g => s.dev.conv.tests.any fun x => x.g == g && !x.ended) = false := by
    simpa [List.any_eq_false] using hidle
  have haccept : modeAccepts .maintenance 0x0107 = true := rfl
  change Host.Outcome.next (cmdTxTest h a s.fetched) = _
  simp only [cmdTxTest, if_neg hkind, State.onDev, State.ctx_fetched, State.fetched_dev]
  rw [guarded_accept (by simp [hbad, hmode, haccept, hden, hbusy, hadmit]), hadmit]
  rfl

theorem exec_txTest_stop {h : CmdHdr} {a : TxTestArgs} {s : State} (hkind : a.kind = 0)
    (hmode : s.modes.mode = .maintenance) :
    exec (.txTest h a) s = .next (({ s with dev := { s.dev with conv := { s.dev.conv with
      tests := s.dev.conv.tests.map fun x : TxTest =>
        if 0 < dist32 x.stop s.ctx.effTick then { x with stop := s.ctx.effTick } else x } } }).answered 0x0107 h 0 0
        (some s.ctx.effTick) []) := by
  have haccept : modeAccepts s.modes.mode 0x0107 = true := hmode ▸ rfl
  change Host.Outcome.next (cmdTxTest h a s.fetched) = _
  simp only [cmdTxTest, if_pos hkind, State.onDev, State.ctx_fetched, State.fetched_dev]
  rw [guarded_accept (by simp [haccept])]
  rfl

/-- Settles O29: a start is admitted at the Plan window of R39, to which KIND 0 brings the stop of every test that would
stop later (assumption 62), and a test ends at its stop. -/
theorem txTestsStartAndStop : Obligations.TxTestsStartAndStop :=
  ⟨fun _ _ _ _ hkind hbad hmode hden hidle hadmit => exec_txTest_start hkind hbad hmode hden hidle hadmit,
    fun _ _ _ hkind hmode => exec_txTest_stop hkind hmode, fun _ => rfl⟩

/-! ### PLAN.LOAD (R271, R272) -/

theorem exec_planLoad_good {h : CmdHdr} {b : InBuf} {p : Plan} {s : State} (hgood : s.planDecision b = .good p) :
    exec (.planLoad h b) s = .next (({ s with dev := { s.dev with plan := { s.dev.plan with
      pending := some { plan := p, tick := s.ctx.effTick } } } }).answered 0x0201 h 0 0 (some s.ctx.effTick)
        [0xFF#8]) := by
  change Host.Outcome.next (cmdPlanLoad h b s.fetched) = _
  have hfetched : s.fetched.planDecision b = .good p := hgood
  simp only [cmdPlanLoad, hfetched]
  rfl

theorem exec_planLoad_bad {h : CmdHdr} {b : InBuf} {st det seg : Nat} {s : State}
    (hbad : s.planDecision b = .bad st det seg) :
    exec (.planLoad h b) s = .next (s.answered 0x0201 h st det none (leBytes 1 seg)) := by
  change Host.Outcome.next (cmdPlanLoad h b s.fetched) = _
  have hfetched : s.fetched.planDecision b = .bad st det seg := hbad
  simp only [cmdPlanLoad, hfetched]
  rfl

theorem State.planDecision_busy {s : State} (b : InBuf) (hmode : modeAccepts s.modes.mode 0x0201 = true)
    (hpend : s.dev.plan.pending.isSome = true) : s.planDecision b = .bad stBusy 1 0xFF := by
  simp [State.planDecision, hmode, hpend]

/-- A plan that passes the checks passes each of them. -/
theorem PlanCheck.good_of_ite {c : Prop} [Decidable c] {st det seg : Nat} {p : Plan} {x : PlanCheck}
    (h : (if c then PlanCheck.bad st det seg else x) = .good p) : ¬c ∧ x = .good p := by
  split at h
  · cases h
  next hc => exact ⟨hc, h⟩

/-- Checks 3 to 8 of Table PRT-3 stand behind every plan that passes. -/
theorem State.planChecks_good {s : State} {b : Bytes} {p : Plan} (h : s.planChecks b = .good p) :
    (∃ key, s.nv.key p.slot = some key ∧ planSigned key b = true) ∧
      s.nv.seqFloors.getD p.slot 0 ≤ p.seq ∧ planValidAt s.nv s.dev.clk.utc p = true := by
  unfold State.planChecks at h
  dsimp only at h
  split at h
  · cases h
  next key hkey =>
    obtain ⟨hsigned, h⟩ := PlanCheck.good_of_ite h
    obtain ⟨-, h⟩ := PlanCheck.good_of_ite h
    obtain ⟨hseq, h⟩ := PlanCheck.good_of_ite h
    obtain ⟨-, h⟩ := PlanCheck.good_of_ite h
    obtain ⟨hvalid, h⟩ := PlanCheck.good_of_ite h
    obtain ⟨-, h⟩ := PlanCheck.good_of_ite h
    split at h
    · cases h
    · cases h
      exact ⟨⟨key, hkey, by simpa using hsigned⟩, Nat.not_lt.mp hseq, by simpa using hvalid⟩

theorem State.planDecision_good {s : State} {b : InBuf} {p : Plan} (h : s.planDecision b = .good p) :
    s.planChecks (b.data.take b.len) = .good p := by
  unfold State.planDecision at h
  obtain ⟨-, h⟩ := PlanCheck.good_of_ite h
  obtain ⟨-, h⟩ := PlanCheck.good_of_ite h
  split at h
  · cases h
  · exact (PlanCheck.good_of_ite h).2

/-- Settles O23: what the decision of Table PRT-3 is, PLAN.LOAD does, and a plan that passes has the signature, the
sequence number and the validity of checks 4, 6 and 8. -/
theorem planLoadIsCheckedAndWaits : Obligations.PlanLoadIsCheckedAndWaits :=
  ⟨fun _ _ _ _ hgood => exec_planLoad_good hgood,
    fun _ b _ hmode hpend => exec_planLoad_bad (State.planDecision_busy b hmode hpend),
    fun _ _ _ _ _ _ hbad => exec_planLoad_bad hbad,
    fun _ _ _ hgood => State.planChecks_good (State.planDecision_good hgood)⟩

end Sys2Proof.Machine
end

section
/-! PROOFS. TDD boundaries at the front ends (R59, R110 to R112): the frames that they queue and the steps of Table CNV-7
that they take. -/

namespace Sys2Proof.Machine

/-! ### Timed frames -/

theorem Dev.queueTimed_eq (d : Dev) (c : Ctx) (g op path data : Nat) (ps : Int) : ∃ queue nodes,
    d.queueTimed c g op path data ps = { d with lyd := { d.lyd with queue := queue, nodes := nodes } } := ⟨_, _, rfl⟩

/-- The frames of a sequence reach the queue and the node's pending commands, and nothing else. -/
theorem Dev.foldl_queueTimed (steps : List SwitchStep) (d : Dev) (c : Ctx) (g path : Nat) : ∃ queue nodes,
    steps.foldl (fun d t => d.queueTimed c g t.op path t.data t.ps) d =
      { d with lyd := { d.lyd with queue := queue, nodes := nodes } } := by
  induction steps generalizing d with
  | nil => exact ⟨d.lyd.queue, d.lyd.nodes, rfl⟩
  | cons t steps ih =>
    obtain ⟨queue, nodes, hfirst⟩ := d.queueTimed_eq c g t.op path t.data t.ps
    obtain ⟨queue', nodes', hrest⟩ := ih (d.queueTimed c g t.op path t.data t.ps)
    exact ⟨queue', nodes', by rw [List.foldl_cons, hrest, hfirst]⟩

/-! ### The sequences of Table CNV-7 -/

/-- The steps of a boundary on a path, and whether the direction that begins starts late: `dir` ends at `e`, the other
begins at `b`. -/
def Dev.boundarySteps (d : Dev) (g : Nat) (s : Seg) (p : FePath) (dir e b : Nat) : List SwitchStep × Bool :=
  let side := d.side g
  switchSteps p (side == txSide dir) (p.serves (serveDir side dir)) (p.serves (serveDir side (1 - dir)))
    (d.bel.set s.bg (if side = 1 then 0 else 1)).lna (s.edgePs p side dir e) (s.edgePs p side (1 - dir) b)

/-- The PA is enabled only where the strand may transmit (R29, R105). -/
def mayStep (may : Bool) (t : SwitchStep) : Bool := may || !(t.op == opPa && t.data == 1)

/-- The steps that the device takes of those. -/
def Dev.takenSteps (d : Dev) (m : Mode) (a : SwitchArgs) (s : Seg) (p : FePath) (dir e b : Nat) : List SwitchStep :=
  (d.boundarySteps a.g s p dir e b).1.filter (mayStep (maskBit (d.tddAllowed m a.g) a.path))

theorem filter_mayStep_of_no_paOn {l : List SwitchStep} (may : Bool) (h : ∀ t, t ∈ l → t.op ≠ opPa ∨ t.data ≠ 1) :
    l.filter (mayStep may) = l :=
  List.filter_eq_self.mpr fun t ht => by rcases h t ht with h | h <;> simp [mayStep, h]

theorem filter_mayStep_paOn (may : Bool) (ps : Int) :
    [({ op := opPa, data := 1, ps := ps } : SwitchStep)].filter (mayStep may) =
      if may then [{ op := opPa, data := 1, ps := ps }] else [] := by
  cases may
  · rfl
  · rfl

theorem Dev.tddSwitch_eq (d : Dev) (c : Ctx) (a : SwitchArgs) (s : Seg) (p : FePath) (dir e b : Nat) :
    ∃ queue nodes, d.tddSwitch c a s p dir e b = { d with lyd := { d.lyd with
      queue := queue
      nodes := nodes
      steps := d.takenSteps c.mode a s p dir e b
      lateSw := if (d.boundarySteps a.g s p dir e b).2 then min (d.lyd.lateSw + 1) 65535 else d.lyd.lateSw } } := by
  obtain ⟨queue, nodes, hqueue⟩ := Dev.foldl_queueTimed (d.takenSteps c.mode a s p dir e b) d c a.g a.path
  have hswitch : d.tddSwitch c a s p dir e b =
      let q := (d.takenSteps c.mode a s p dir e b).foldl (fun d t => d.queueTimed c a.g t.op a.path t.data t.ps) d
      { q with lyd := { q.lyd with
        steps := d.takenSteps c.mode a s p dir e b
        lateSw := if (d.boundarySteps a.g s p dir e b).2 then satAdd 16 q.lyd.lateSw 1 else q.lyd.lateSw } } := rfl
  exact ⟨queue, nodes, by rw [hswitch, hqueue]; rfl⟩

/-- A path that leaves transmit and serves both directions: PA off, the switch, LNA on. -/
theorem Dev.boundarySteps_leavesTx {d : Dev} {g : Nat} {s : Seg} {p : FePath} {dir : Nat} (e b : Nat)
    (hside : d.side g = txSide dir) (hleave : p.serves (serveDir (d.side g) dir) = true)
    (henter : p.serves (serveDir (d.side g) (1 - dir)) = true) :
    d.boundarySteps g s p dir e b =
      let E := s.edgePs p (d.side g) dir e
      let B := s.edgePs p (d.side g) (1 - dir) b
      ([{ op := opPa, data := 0, ps := E }, { op := opTrx, data := 0, ps := E + 1000 * p.paOff },
        { op := opLna, data := 4 + (d.bel.set s.bg (if d.side g = 1 then 0 else 1)).lna,
          ps := E + 1000 * p.paOff + 1000 * p.swSettle }],
        decide (B < E + 1000 * p.paOff + 1000 * p.swSettle + 1000 * p.lnaSettle)) := by
  simp only [Dev.boundarySteps, switchSteps, beq_iff_eq.mpr hside, hleave, henter, if_true, Bool.true_and]
  rfl

/-- A path that leaves receive and serves both directions: LNA off, the switch, PA on. -/
theorem Dev.boundarySteps_leavesRx {d : Dev} {g : Nat} {s : Seg} {p : FePath} {dir : Nat} (e b : Nat)
    (hside : d.side g ≠ txSide dir) (hleave : p.serves (serveDir (d.side g) dir) = true)
    (henter : p.serves (serveDir (d.side g) (1 - dir)) = true) :
    d.boundarySteps g s p dir e b =
      let E := s.edgePs p (d.side g) dir e
      let B := s.edgePs p (d.side g) (1 - dir) b
      let T := max (E + 100000) (B - 1000 * p.paOn - 1000 * p.swSettle)
      ([{ op := opLna, data := 0, ps := E }, { op := opTrx, data := 1, ps := T }] ++
          [{ op := opPa, data := 1, ps := T + 1000 * p.swSettle }],
        decide (B < T + 1000 * p.swSettle + 1000 * p.paOn)) := by
  simp only [Dev.boundarySteps, switchSteps, beq_false_of_ne hside, hleave, henter, if_true, Bool.true_and]
  rfl

/-- A boundary that the committed plan gives the path takes its steps, those that may be taken. -/
theorem exec_tddSwitch {a : SwitchArgs} {seg : Seg} {p : FePath} {dir e b : Nat} {s : State}
    (hswitch : s.switchOf a = some (seg, p, dir, e, b)) (hclk : s.dev.lyd.clk = true) :
    ∃ t, exec (.tddSwitch a) s = .next t ∧
      t.dev.lyd.steps = s.dev.takenSteps s.modes.mode a seg p dir e b ∧
      t.dev.lyd.lateSw = (if (s.dev.boundarySteps a.g seg p dir e b).2 then min (s.dev.lyd.lateSw + 1) 65535
        else s.dev.lyd.lateSw) ∧
      s.SameOutside t ∧ t.dev = { s.dev with lyd := t.dev.lyd } := by
  obtain ⟨queue, nodes, hdev⟩ := s.dev.tddSwitch_eq s.ctx a seg p dir e b
  refine ⟨s.onDev fun c d => d.tddSwitch c a seg p dir e b, ?_, ?_⟩
  · change execTddSwitch a s = _
    simp [execTddSwitch, hswitch, hclk]
  · rw [State.onDev_dev, hdev]
    exact ⟨rfl, rfl, ⟨rfl, rfl, rfl, rfl, rfl, rfl, rfl⟩, rfl⟩

/-- A strand that the plan gives no side has no boundary. -/
theorem State.switchOf_of_unused {s : State} {a : SwitchArgs} (hside : s.dev.side a.g = 0) : s.switchOf a = none := by
  unfold State.switchOf
  split
  · exact if_neg fun h => h.2.1 hside
  · rfl

/-- The model's choice (assumption 3): a boundary that there is not steps nothing. -/
theorem exec_tddSwitch_none {s : State} {a : SwitchArgs} (hnone : s.switchOf a = none) :
    exec (.tddSwitch a) s = .next s := by
  change execTddSwitch a s = _
  simp [execTddSwitch, hnone]

/-- Settles O32: the sequences of Table CNV-7 with their instants, the PA only where it is allowed (assumptions 67 and
68). -/
theorem tddBoundariesStepTheirPaths : Obligations.TddBoundariesStepTheirPaths := by
  refine ⟨fun a seg p dir e b E B s hswitch hclk _ hside hleave henter hE hB => ?tx,
    fun a seg p dir e b E B T s hswitch hclk _ hside hleave henter hE hB hT => ?rx,
    fun a s hnone => exec_tddSwitch_none hnone, fun a s hside => exec_tddSwitch_none (State.switchOf_of_unused hside)⟩
  case tx =>
    subst hE hB
    obtain ⟨t, hexec, hsteps, hlate, hout, hdev⟩ := exec_tddSwitch hswitch hclk
    rw [Dev.boundarySteps_leavesTx e b hside hleave henter] at hlate
    rw [Dev.takenSteps, Dev.boundarySteps_leavesTx e b hside hleave henter,
      filter_mayStep_of_no_paOn _ (by simp [opTrx, opLna, opPa])] at hsteps
    exact ⟨t, hexec, hsteps, by simpa using hlate, hout, hdev⟩
  case rx =>
    subst hE hB hT
    obtain ⟨t, hexec, hsteps, hlate, hout, hdev⟩ := exec_tddSwitch hswitch hclk
    rw [Dev.boundarySteps_leavesRx e b hside hleave henter] at hlate
    rw [Dev.takenSteps, Dev.boundarySteps_leavesRx e b hside hleave henter,
      List.filter_append, filter_mayStep_of_no_paOn _ (by simp [opTrx, opLna, opPa]),
      filter_mayStep_paOn] at hsteps
    exact ⟨t, hexec, hsteps, by simpa using hlate, hout, hdev⟩

end Sys2Proof.Machine
end

section
/-! PROOFS. Work that misses its deadline (R41, Table TCK-2): what a raise of the Stopper reaches, and the result that
the overrun discards. -/

namespace Sys2Proof.Machine

/-! ### What a raise notes, apart from a block reset -/

/-- The host interface stages no more records than it did, but for events. -/
def HostIf.AddsEvents (h h' : HostIf) : Prop := ∀ r, r ∈ h'.staged → r ∈ h.staged ∨ r.ring = 2

theorem HostIf.AddsEvents.refl (h : HostIf) : h.AddsEvents h := fun _ hr => .inl hr

theorem mem_insertEvent (e r : Staged) (l : List Staged) : r ∈ insertEvent l e → r ∈ l ∨ r = e := by
  induction l with
  | nil => simp [insertEvent]
  | cons x xs ih =>
    rw [insertEvent]
    split
    · simp only [List.mem_cons]
      rintro (h | h | h) <;> simp [h]
    · simp only [List.mem_cons]
      rintro (h | h)
      · exact .inl (.inl h)
      · exact (ih h).imp_left .inr

/-- `e` is `d` with what a raise leaves behind: the Stopper's registers, log records, events and the reset that it asks
for. -/
def Dev.Noted (d e : Dev) : Prop :=
  ∃ stop log host boot free, e = { d with stop := stop, log := log, host := host, boot := boot, free := free } ∧
    d.host.AddsEvents host

theorem Dev.Noted.refl (d : Dev) : d.Noted d := ⟨d.stop, d.log, d.host, d.boot, d.free, rfl, .refl _⟩

theorem Dev.Noted.trans {d e f : Dev} (hde : d.Noted e) (hef : e.Noted f) : d.Noted f := by
  obtain ⟨_, _, host, _, _, rfl, hhost⟩ := hde
  obtain ⟨stop, log, host', boot, free, rfl, hhost'⟩ := hef
  exact ⟨stop, log, host', boot, free, rfl, fun r hr => (hhost' r hr).elim (hhost r) .inr⟩

theorem Dev.noted_event (d : Dev) (c : Ctx) (kind a sub b cc : Nat) : d.Noted (d.event c kind a sub b cc) := by
  unfold Dev.event
  split
  · refine ⟨d.stop, d.log, _, d.boot, d.free, rfl, fun r hr => ?_⟩
    exact (mem_insertEvent _ r _ hr).imp_right fun h => by rw [h]
  · exact .refl d

theorem Dev.noted_msi (d : Dev) (v : Nat) : d.Noted (d.msi v) := by
  unfold Dev.msi
  split
  · exact ⟨d.stop, d.log, _, d.boot, d.free, rfl, .refl _⟩
  · exact .refl d

theorem Dev.noted_logRec (d : Dev) (typ : Nat) (pinned : Bool) (payload : Bytes) :
    d.Noted (d.logRec typ pinned payload) := ⟨d.stop, _, d.host, d.boot, d.free, rfl, .refl _⟩

theorem Dev.noted_stop (d : Dev) (stop : Stopper) : d.Noted { d with stop := stop } :=
  ⟨stop, d.log, d.host, d.boot, d.free, rfl, .refl _⟩

/-- What a raise on a source with that hawser (`none` where it names none) makes of the device part: what `Noted` says,
and a block reset of the hawser at most. -/
def Dev.Raised (d : Dev) (c : Ctx) (hawser : Option Nat) (sub : Nat) (x : Dev) : Prop :=
  d.Noted x ∨ ∃ e h, d.Noted e ∧ hawser = some h ∧ x = e.startBlockReset c h sub

theorem Dev.Noted.raised {d e x : Dev} {c : Ctx} {hawser : Option Nat} {sub : Nat} (hde : d.Noted e)
    (hx : e.Raised c hawser sub x) : d.Raised c hawser sub x := by
  obtain hx | ⟨f, h, hf, hname, rfl⟩ := hx
  · exact .inl (hde.trans hx)
  · exact .inr ⟨f, h, hde.trans hf, hname, rfl⟩

theorem Dev.react_raised (d : Dev) (c : Ctx) (src sev unit sub : Nat) (r : Reaction) :
    d.Raised c (namedHawser src unit) sub (d.react c src sev unit sub r) := by
  unfold Dev.react
  extract_lets lvl0 lvl supp drive s stop t low flags logged posted sent
  have hsent : d.Noted sent := by
    have hposted : d.Noted posted := ((d.noted_stop _).trans (noted_logRec ..)).trans (noted_event ..)
    unfold sent
    split
    · exact hposted.trans (noted_msi ..)
    · exact hposted
  refine hsent.raised ?_
  split
  · exact .inl ((noted_logRec ..).trans ⟨_, _, sent.host, sent.boot, _, rfl, .refl _⟩)
  split
  · split
    next h hname => exact .inr ⟨sent, h, .refl sent, hname, rfl⟩
    next => exact .inl (.refl sent)
  split
  · exact .inl ⟨sent.stop, sent.log, sent.host, _, sent.free, rfl, .refl _⟩
  · exact .inl (.refl sent)

theorem Dev.raise_raised (d : Dev) (c : Ctx) (src sev unit sub : Nat) :
    d.Raised c (namedHawser src unit) sub (d.raise c src sev unit sub) := by
  unfold Dev.raise
  split
  · exact .inl (.refl d)
  split
  · exact .inl (.refl d)
  dsimp only
  split
  · refine Noted.raised ?_ (react_raised ..)
    exact ⟨_, _, d.host, d.boot, d.free, rfl, .refl _⟩
  split
  · exact (d.noted_stop _).raised (react_raised ..)
  split
  · exact (d.noted_stop _).raised (react_raised ..)
  · exact .inl (d.noted_stop _)

/-- A source that names no hawser starts no block reset. -/
theorem Dev.raise_noted (d : Dev) (c : Ctx) {src unit : Nat} (sev sub : Nat) (hname : namedHawser src unit = none) :
    d.Noted (d.raise c src sev unit sub) := by
  obtain h | ⟨e, h, -, hsome, -⟩ := d.raise_raised c src sev unit sub
  · exact h
  · simp [hname] at hsome

/-! ### The raised bit -/

theorem Dev.event_eq (d : Dev) (c : Ctx) (kind a sub b cc : Nat) :
    ∃ host, d.event c kind a sub b cc = { d with host := host } := by
  unfold Dev.event
  split
  · exact ⟨_, rfl⟩
  · exact ⟨d.host, rfl⟩

theorem discardPend_eq (c : Ctx) (sub : Nat) (l : List Pend) (d : Dev) :
    ∃ host, discardPend c sub l d = { d with host := host } := by
  induction l generalizing d with
  | nil => exact ⟨d.host, rfl⟩
  | cons p ps ih =>
    rw [discardPend]
    split
    · exact ih d
    · obtain ⟨_, hposted⟩ := d.event_eq c 9 p.opcode sub 0 p.tag
      rw [Dev.discardEvent, hposted]
      exact ih _

/-- A block reset leaves the Stopper as it stands. -/
theorem Dev.blockState_stop (d : Dev) (c : Ctx) (h sub : Nat) : (d.blockState c h sub).stop = d.stop := by
  obtain ⟨_, hpend⟩ := discardPend_eq c sub d.pend d
  unfold Dev.blockState Dev.discardBook Dev.discardMode
  rw [hpend]
  dsimp only
  split <;> split <;> simp [Dev.discardEvent]

@[simp] theorem Dev.startBlockReset_stop (d : Dev) (c : Ctx) (h sub : Nat) :
    (d.startBlockReset c h sub).stop = d.stop := by
  unfold Dev.startBlockReset
  split
  · rfl
  · rw [chooseDefaults_stop, blockState_stop]

theorem Dev.startBlockReset_insts (d : Dev) (c : Ctx) (h sub : Nat) :
    (d.startBlockReset c h sub).can.insts = d.can.insts ∨ (d.startBlockReset c h sub).can.insts = [] := by
  unfold Dev.startBlockReset
  split
  · exact .inl rfl
  · exact .inr (by rw [chooseDefaults_can]; rfl)

/-- A raise binds no canceller and leaves those bound as they are, but where a block reset takes them all. -/
theorem Dev.mem_raise_insts {d : Dev} {c : Ctx} {src sev unit sub : Nat} {i : Inst}
    (hi : i ∈ (d.raise c src sev unit sub).can.insts) : i ∈ d.can.insts := by
  obtain ⟨_, _, _, _, _, hraise, -⟩ | ⟨e, h, ⟨_, _, _, _, _, rfl, -⟩, -, hraise⟩ := d.raise_raised c src sev unit sub
  · rwa [hraise] at hi
  · rw [hraise] at hi
    obtain hsame | hnone := startBlockReset_insts _ c h sub
    · rwa [hsame] at hi
    · simp [hnone] at hi

theorem getD_set_src {srcs : List Src} {src : Nat} (e : Src) (hsrc : src < srcs.length) :
    (srcs.set src e).getD src Src.reset = e := by
  simp [List.getD, hsrc]

/-- A reaction sets the FAULT_N part of its source alone. -/
theorem Dev.react_srcs (d : Dev) (c : Ctx) (src sev unit sub : Nat) (r : Reaction) :
    ∃ drive, (d.react c src sev unit sub r).stop.srcs =
      d.stop.srcs.set src { d.stop.src src with fault := drive } := by
  unfold Dev.react
  extract_lets lvl0 lvl supp drive s stop t low flags logged posted sent
  have hsent : sent.stop.srcs = d.stop.srcs.set src { s with fault := drive } := by
    unfold sent
    split
    · rw [msi_stop, event_stop, logRec_stop]
    · rw [event_stop, logRec_stop]
  refine ⟨drive, ?_⟩
  split
  · exact hsent
  split
  · split
    · simpa using hsent
    · exact hsent
  split
  · exact hsent
  · exact hsent

theorem Dev.react_bit (d : Dev) (c : Ctx) {src : Nat} (sev unit sub : Nat) (r : Reaction)
    (hsrc : src < d.stop.srcs.length) (hbit : (d.stop.src src).bit = true) :
    ((d.react c src sev unit sub r).stop.src src).bit = true := by
  obtain ⟨drive, hsrcs⟩ := d.react_srcs c src sev unit sub r
  rw [Stopper.src, hsrcs, getD_set_src _ hsrc]
  exact hbit

theorem Stopper.latchFirst_srcs (t : Stopper) (n src sev unit sub : Nat) :
    (t.latchFirst n src sev unit sub).1.srcs = t.srcs := by
  unfold Stopper.latchFirst
  dsimp only
  split
  · rfl
  split <;> rfl

/-- A raise that the member fits sets its source's bit, unless it names a hawser in block reset (R461, R468). -/
theorem Dev.raise_bit (d : Dev) {c : Ctx} {src unit : Nat} (sev sub : Nat) (hmode : c.mode ≠ .reset)
    (hfits : sourceFits c.ident.member src unit = true)
    (hblk : ∀ x, namedHawser src unit = some x → ¬(x ∈ d.boot.blkRun)) (hsrc : src < d.stop.srcs.length) :
    ((d.raise c src sev unit sub).stop.src src).bit = true := by
  have hfree : ¬((namedHawser src unit).any (· ∈ d.boot.blkRun)) := by
    cases hname : namedHawser src unit with
    | none => simp
    | some x => simpa using hblk x hname
  rw [raise, if_neg (by simp [hmode, hfits]), if_neg hfree]
  dsimp only
  split
  case isTrue =>
    refine react_bit _ _ _ _ _ _ ?_ ?_
    · simpa [Stopper.latchFirst_srcs] using hsrc
    · simp [Stopper.src, Stopper.latchFirst_srcs, hsrc]
  case isFalse hbit =>
    split
    · refine react_bit _ _ _ _ _ _ ?_ ?_
      · simpa using hsrc
      · simpa [Stopper.src, hsrc] using hbit
    split
    · refine react_bit _ _ _ _ _ _ ?_ ?_
      · simpa using hsrc
      · simpa [Stopper.src, hsrc] using hbit
    · simpa [Stopper.src, hsrc] using hbit

/-! ### What an overrun takes back -/

/-- The Stopper and the block resets under way are the same. -/
def Dev.SameStop (d e : Dev) : Prop := e.stop = d.stop ∧ e.boot = d.boot

theorem Dev.SameStop.refl (d : Dev) : d.SameStop d := ⟨rfl, rfl⟩

theorem Dev.SameStop.trans {d e f : Dev} (hde : d.SameStop e) (hef : e.SameStop f) : d.SameStop f :=
  ⟨hef.1.trans hde.1, hef.2.trans hde.2⟩

theorem Dev.SameStop.ite {p : Prop} [Decidable p] {d e f : Dev} (he : d.SameStop e) (hf : d.SameStop f) :
    d.SameStop (if p then e else f) := by
  split
  · exact he
  · exact hf

theorem Dev.SameStop.foldl {α : Type} {step : Dev → α → Dev} (hstep : ∀ (d : Dev) a, d.SameStop (step d a))
    (l : List α) (d : Dev) : d.SameStop (l.foldl step d) := by
  induction l generalizing d with
  | nil => exact .refl d
  | cons a l ih => exact (hstep d a).trans (ih _)

theorem Dev.putLoop_sameStop (d : Dev) (l : Option Loop) : d.SameStop (d.putLoop l) := by
  cases l <;> exact ⟨rfl, rfl⟩

theorem Dev.closeYarn_sameStop (d : Dev) (c : Ctx) (w : CloseView) (fs : List YarnFig) (y : BelYarn) :
    d.SameStop (d.closeYarn c w fs y) := by
  obtain ⟨hstop, hboot⟩ := d.putLoop_sameStop (d.usedIso c w (d.initIf d.reef.plan c.mode y).byid _).2.2
  exact ⟨hstop, hboot⟩

theorem Dev.mutedYarn_sameStop (d : Dev) (c : Ctx) (w : CloseView) (fs : List YarnFig) (byid : Nat) :
    d.SameStop (d.mutedYarn c w fs byid) := by
  unfold Dev.mutedYarn
  dsimp only
  split
  · exact d.putLoop_sameStop _
  · exact (d.putLoop_sameStop _).trans ⟨rfl, rfl⟩

theorem Dev.closeServed_sameStop (d : Dev) (c : Ctx) (w : CloseView) (fs : List YarnFig) (sel : Nat → Bool) :
    d.SameStop (d.closeServed c w fs sel) := by
  unfold Dev.closeServed
  dsimp only
  split
  · exact .foldl (fun (d : Dev) b => d.mutedYarn_sameStop c w fs b) _ d
  · exact .trans (e := d.idleYarns _) ⟨rfl, rfl⟩ (.foldl (fun (d : Dev) y => d.closeYarn_sameStop c w fs y) _ _)

theorem Dev.leadlineOverrun_sameStop (d : Dev) (c : Ctx) (h : Nat) : d.SameStop (d.leadlineOverrun c h) := by
  unfold Dev.leadlineOverrun
  dsimp only
  split
  · exact ⟨rfl, rfl⟩
  · exact .trans ⟨rfl, rfl⟩ (closeServed_sameStop ..)

theorem Dev.record_sameStop (d : Dev) (c : Ctx) (k : Nat) (bytes : Bytes) (deadline : Nat) :
    d.SameStop (d.record c k bytes deadline) := by
  unfold Dev.record
  split <;> exact ⟨rfl, rfl⟩

theorem Dev.powerRecord_sameStop (d : Dev) (c : Ctx) (s : Sub) : d.SameStop (d.powerRecord c s) :=
  .trans ⟨rfl, rfl⟩ (record_sameStop ..)

theorem Dev.isoRecord_sameStop (d : Dev) (c : Ctx) (ok : Bool) (s : Sub) : d.SameStop (d.isoRecord c ok s) :=
  record_sameStop ..

theorem Dev.donorRecord_sameStop (d : Dev) (c : Ctx) (donors : List DonorFig) (s : Sub) :
    d.SameStop (d.donorRecord c donors s) := .trans ⟨rfl, rfl⟩ (record_sameStop ..)

theorem Dev.closeSub_sameStop (d : Dev) (c : Ctx) (donors : List DonorFig) (ok : Bool) (id : Nat) :
    d.SameStop (d.closeSub c donors ok id) := by
  unfold Dev.closeSub
  split
  · exact .refl d
  · extract_lets parts formed s due recorded
    have hrecorded : d.SameStop recorded :=
      .ite (.ite (d.powerRecord_sameStop c s) (.ite (d.isoRecord_sameStop c ok s) (d.donorRecord_sameStop c donors s)))
        (.refl d)
    exact hrecorded.trans ⟨rfl, rfl⟩

theorem Dev.undeliver_sameStop (d : Dev) (c : Ctx) (id : Nat) : d.SameStop (d.undeliver c id) := by
  unfold Dev.undeliver
  extract_lets mine counted noval old host ldl undone
  have hclosed : d.SameStop (undone.closeSub c [] false id) := .trans ⟨rfl, rfl⟩ (undone.closeSub_sameStop ..)
  split
  · exact hclosed.trans ⟨rfl, rfl⟩
  · exact hclosed

theorem Dev.subsOverrun_sameStop (d : Dev) (c : Ctx) (h : Nat) : d.SameStop (d.subsOverrun c h) := by
  unfold Dev.subsOverrun
  exact .trans ⟨rfl, rfl⟩ (.foldl (fun (d : Dev) id => d.undeliver_sameStop c id) _ _)

theorem State.dropLate_sameStop (s : State) (k : Nat) : s.dev.SameStop (s.dropLate k).dev := by
  unfold State.dropLate
  dsimp only
  split <;> exact ⟨rfl, rfl⟩

theorem State.overrun_sameStop (s : State) (item : WorkItem) : s.dev.SameStop (s.overrun item).dev := by
  cases item with
  | draft => exact ⟨rfl, rfl⟩
  | solve h late => exact ⟨rfl, rfl⟩
  | belay h =>
    unfold State.overrun
    dsimp only
    split <;> exact ⟨rfl, rfl⟩
  | leadline h =>
    unfold State.overrun
    dsimp only
    split
    · exact (s.dev.leadlineOverrun_sameStop s.ctx h).trans (Dev.subsOverrun_sameStop ..)
    · exact .refl _
  | records k =>
    unfold State.overrun
    dsimp only
    split
    · exact s.dropLate_sameStop k
    · exact .refl _

theorem exec_tickOverrun {s : State} (item : WorkItem) (hrun : s.time.running = true) (hmode : s.modes.mode ≠ .reset) :
    exec (.tickOverrun item) s =
      .next ((s.overrun item).onDev fun c d => d.raise c (overrunSource item) 3 0 c.time.sub) := by
  change execTickOverrun item s = _
  rw [execTickOverrun, if_neg (by simp [hrun, hmode])]

/-- The late records of a ring are dropped, which leaves the other rings (R41, R499). -/
theorem State.mem_dropLate_staged {s : State} {k : Nat} {r : Staged} (hr : r ∈ (s.dropLate k).dev.host.staged)
    (hring : r.ring = k) : deadlinePassed s.time r = false := by
  unfold State.dropLate at hr
  dsimp only at hr
  split at hr
  case isTrue hnone =>
    have hlate := List.countP_eq_zero.mp hnone r hr
    simpa [hring] using hlate
  case isFalse =>
    simp only [State.setRing_dev, List.mem_filter] at hr
    simpa [hring] using hr.2

theorem State.dropLate_ring (s : State) {k j : Nat} (hj : j ≠ k) : (s.dropLate k).ring j = s.ring j := by
  unfold State.dropLate
  dsimp only
  split
  · rfl
  · simp [State.ring, List.getD, hj.symm]

/-- Settles O57: the overrun discards the item's result first, and the raise that follows leaves it discarded. -/
theorem overrunsDiscardTheirResult : Obligations.OverrunsDiscardTheirResult := by
  refine ⟨fun item s hrun hmode hfits hblk hsrc => ?raises, fun s hrun hmode => ?draft,
    fun x late s hrun hmode => ?solve, fun k s hrun hmode hlow hhigh => ?records⟩
  case raises =>
    obtain ⟨hstop, hboot⟩ := s.overrun_sameStop item
    refine ⟨_, exec_tickOverrun item hrun hmode, ?_, s.overrun_time item, s.overrun_modes item, s.overrun_setup item,
      s.overrun_nv item⟩
    refine Dev.raise_bit _ _ _ ?_ ?_ ?_ ?_
    · simpa using hmode
    · simpa using hfits
    · simpa [hboot] using hblk
    · simpa [hstop] using hsrc
  case draft =>
    obtain ⟨_, _, _, _, _, hraise, -⟩ := ({ s.dev with reef := { s.dev.reef with draft := none } } : Dev).raise_noted
      s.ctx (src := 18) (unit := 0) 3 s.time.sub rfl
    refine ⟨_, exec_tickOverrun .draft hrun hmode, ?_, rfl, rfl, rfl, rfl, rfl, rfl, rfl⟩
    exact congrArg (·.reef.draft) hraise
  case solve =>
    refine ⟨_, exec_tickOverrun (.solve x late) hrun hmode, ?_, rfl, rfl, rfl, rfl, rfl, rfl, rfl⟩
    intro i hi hwhere hwhich
    obtain ⟨j, -, rfl⟩ := List.mem_map.mp (Dev.mem_raise_insts hi)
    by_cases hlate : j.a.inst / 64 = x ∧ j.a.inst ∈ late
    · rw [if_pos hlate]
    · rw [if_neg hlate] at hwhere hwhich
      exact absurd ⟨hwhere, hwhich⟩ hlate
  case records =>
    have hlate : s.overrun (.records k) = s.dropLate k := if_pos ⟨by omega, hhigh⟩
    obtain ⟨_, _, _, _, _, hraise, hevents⟩ := (s.dropLate k).dev.raise_noted (s.dropLate k).ctx (src := 18) (unit := 0)
      3 (s.dropLate k).ctx.time.sub rfl
    refine ⟨_, exec_tickOverrun (.records k) hrun hmode, fun r hr hring => ?_, fun j hj => ?_⟩
    · rw [hlate, State.onDev_dev, overrunSource, hraise] at hr
      obtain hr | htwo := hevents r hr
      · exact State.mem_dropLate_staged hr hring
      · omega
    · rw [hlate]
      exact s.dropLate_ring hj

end Sys2Proof.Machine
end

section
/-! PROOFS. Painter's sources and its timing donor (R45, R50 to R58, R187, R330): what a change of state, a lock, a step
and an edge of PPS_IN reach. -/

namespace Sys2Proof.Machine

/-! ### What the choice of a source keeps -/

/-- A cell as a move of the grid and the restart of rule 3's count of R52 leave it. -/
def Cand.Moved (x y : Cand) : Prop := ∃ timing base offs decodes strong,
  y = { x with timing := timing, base := base, sfnOffs := offs, decodes := decodes, strong := strong }

theorem Cand.Moved.refl (x : Cand) : x.Moved x := ⟨x.timing, x.base, x.sfnOffs, x.decodes, x.strong, rfl⟩

theorem Cand.Moved.trans {x y z : Cand} (hxy : x.Moved y) (hyz : y.Moved z) : x.Moved z := by
  obtain ⟨_, _, _, _, _, rfl⟩ := hxy
  obtain ⟨timing, base, offs, decodes, strong, rfl⟩ := hyz
  exact ⟨timing, base, offs, decodes, strong, rfl⟩

theorem Cand.shift_moved (x : Cand) (by_ dSfn : Int) : x.Moved (x.shift by_ dSfn) := ⟨_, _, _, _, x.strong, rfl⟩

theorem Cand.Moved.is_eq {x y : Cand} (h : x.Moved y) (rat pci : Nat) : y.is rat pci = x.is rat pci := by
  obtain ⟨_, _, _, _, _, rfl⟩ := h
  rfl

/-- The sources that Painter knows stay: PPS_IN as it was last judged, and the cells of the list. -/
structure Painter.SameSources (p q : Painter) : Prop where
  ppsValid : q.ppsValid = p.ppsValid
  ppsRun : q.ppsRun = p.ppsRun
  cands : ∃ move : Cand → Cand, q.cands = p.cands.map move ∧ ∀ x : Cand, x.Moved (move x)

theorem Painter.SameSources.of_cands_eq {p q : Painter} (hvalid : q.ppsValid = p.ppsValid) (hrun : q.ppsRun = p.ppsRun)
    (hcands : q.cands = p.cands) : p.SameSources q := ⟨hvalid, hrun, id, by simpa using hcands, .refl⟩

theorem Painter.SameSources.refl (p : Painter) : p.SameSources p := .of_cands_eq rfl rfl rfl

theorem Painter.SameSources.trans {p q r : Painter} (hpq : p.SameSources q) (hqr : q.SameSources r) :
    p.SameSources r := by
  obtain ⟨move, hmap, hmove⟩ := hpq.cands
  obtain ⟨move', hmap', hmove'⟩ := hqr.cands
  refine ⟨hqr.ppsValid.trans hpq.ppsValid, hqr.ppsRun.trans hpq.ppsRun, move' ∘ move, ?_, fun x => ?_⟩
  · rw [hmap', hmap, List.map_map]
  · exact (hmove x).trans (hmove' _)

theorem Painter.shift_sameSources (p : Painter) (by_ dSfn : Int) : p.SameSources (p.shift by_ dSfn) :=
  ⟨rfl, rfl, _, rfl, fun x => x.shift_moved by_ dSfn⟩

theorem Painter.SameSources.cand {p q : Painter} (h : p.SameSources q) {rat pci : Nat} {x : Cand}
    (hx : p.cand rat pci = some x) : ∃ y, q.cand rat pci = some y ∧ x.Moved y := by
  obtain ⟨move, hmap, hmove⟩ := h.cands
  have his : ((·.is rat pci) ∘ move) = fun x : Cand => x.is rat pci := funext fun x => (hmove x).is_eq rat pci
  refine ⟨move x, ?_, hmove x⟩
  rw [Painter.cand, hmap, List.find?_map, his]
  exact congrArg _ hx

theorem Painter.SameSources.mem {p q : Painter} (h : p.SameSources q) {x : Cand} (hx : x ∈ p.cands) :
    ∃ y, y ∈ q.cands ∧ x.Moved y := by
  obtain ⟨move, hmap, hmove⟩ := h.cands
  exact ⟨move x, hmap ▸ List.mem_map_of_mem hx, hmove x⟩

/-- Painter's state, Painter sync and the reports about its donor change, with nothing else of the device part. -/
def Dev.Steered (d e : Dev) : Prop :=
  ∃ ptr prt host, e = { d with ptr := ptr, prt := prt, host := host } ∧ d.ptr.SameSources ptr

theorem Dev.Steered.refl (d : Dev) : d.Steered d := ⟨d.ptr, d.prt, d.host, rfl, .refl _⟩

theorem Dev.Steered.trans {d e f : Dev} (hde : d.Steered e) (hef : e.Steered f) : d.Steered f := by
  obtain ⟨_, _, _, rfl, hptr⟩ := hde
  obtain ⟨ptr, prt, host, rfl, hptr'⟩ := hef
  exact ⟨ptr, prt, host, rfl, hptr.trans hptr'⟩

theorem Dev.Steered.of_ptr {d : Dev} {ptr : Painter} (h : d.ptr.SameSources ptr) : d.Steered { d with ptr := ptr } :=
  ⟨ptr, d.prt, d.host, rfl, h⟩

/-- The device part steers, and the tick may be longer for it (R55). -/
def State.Steered (s t : State) : Prop :=
  ∃ len e, t = { s with time := { s.time with periods := len }, dev := e } ∧ s.dev.Steered e

theorem State.Steered.refl (s : State) : s.Steered s := ⟨s.time.periods, s.dev, rfl, .refl _⟩

theorem State.Steered.trans {s t u : State} (hst : s.Steered t) (htu : t.Steered u) : s.Steered u := by
  obtain ⟨_, _, rfl, hdev⟩ := hst
  obtain ⟨len, e, rfl, hdev'⟩ := htu
  exact ⟨len, e, rfl, hdev.trans hdev'⟩

theorem State.Steered.onDev {s : State} {f : Ctx → Dev → Dev} (h : s.dev.Steered (f s.ctx s.dev)) :
    s.Steered (s.onDev f) := ⟨s.time.periods, _, rfl, h⟩

/-! ### Reports, states and Painter sync -/

theorem Dev.reportNone_eq (d : Dev) (c : Ctx) (kind aux : Nat) :
    ∃ host, d.reportNone c kind aux = { d with host := host } := by
  unfold Dev.reportNone Dev.record
  split
  · exact ⟨_, rfl⟩
  · exact ⟨d.host, rfl⟩

theorem Dev.donorReport_eq (d : Dev) (c : Ctx) (idx code : Nat) :
    ∃ host, d.donorReport c idx code = { d with host := host } := d.reportNone_eq c 11 _

/-- A state that follows a donor or PPS_IN, or keeps what they showed, leaves the rest of Painter as it is. -/
theorem Dev.ptrTo_of_following (d : Dev) (c : Ctx) {st : PtrState}
    (hst : ¬(st = .freerun ∨ st = .search ∨ st = .slave)) :
    ∃ host, d.ptrTo c st = { d with ptr := { d.ptr with st := st }, host := host } := by
  unfold Dev.ptrTo
  split
  case isTrue hsame =>
    subst hsame
    exact ⟨d.host, rfl⟩
  case isFalse =>
    have hsearch : st ≠ .search := fun h => hst (.inr (.inl h))
    simp only [if_neg hsearch]
    obtain ⟨host, hevent⟩ := Dev.event_eq { d with ptr := { d.ptr with st := st } } c 10
      (ptrId st + 8 * ptrId d.ptr.st) 0 ((d.ptr.donor.map fun e : Nat × Nat => e.2).getD 0) 0
    exact ⟨host, hevent⟩

theorem Dev.ptrTo_freerun (d : Dev) (c : Ctx) (hst : d.ptr.st ≠ .freerun) :
    ∃ host, d.ptrTo c .freerun = { d with
      ptr := { d.ptr with
        st := .freerun, donor := none, freq := 0, phaseErr := 0, frac := 0, misses := 0, reload := false }
      host := host } := by
  rw [Dev.ptrTo, if_neg hst]
  exact Dev.event_eq ..

theorem Dev.setSync_eq (d : Dev) (c : Ctx) (b : Bool) :
    ∃ prt, d.setSync c b = { d with ptr := { d.ptr with sync := b }, prt := prt } := by
  unfold Dev.setSync
  dsimp only
  split
  · split
    · exact ⟨_, rfl⟩
    · exact ⟨d.prt, rfl⟩
  · exact ⟨d.prt, rfl⟩

theorem State.settleSync_eq (s : State) :
    ∃ b prt, s.settleSync = { s with dev := { s.dev with ptr := { s.dev.ptr with sync := b }, prt := prt } } := by
  obtain ⟨prt, hsync⟩ := s.dev.setSync_eq s.ctx (s.dev.ptr.inSync && decide (s.time.periods + s.dev.ptr.step < 6250200))
  exact ⟨_, prt, congrArg (fun d => { s with dev := d }) hsync⟩

theorem State.settleSync_steered (s : State) : s.Steered s.settleSync := by
  obtain ⟨_, prt, hsync⟩ := s.settleSync_eq
  exact ⟨s.time.periods, _, hsync, _, prt, s.dev.host, rfl, .of_cands_eq rfl rfl rfl⟩

/-! ### Locks and steps -/

theorem Dev.donorReport_ptrTo_locked (d : Dev) (c : Ctx) (idx code : Nat) : ∃ host,
    (d.donorReport c idx code).ptrTo c .lockedDonor =
      { d with ptr := { d.ptr with st := .lockedDonor }, host := host } := by
  obtain ⟨host, hreport⟩ := d.donorReport_eq c idx code
  rw [hreport]
  exact Dev.ptrTo_of_following { d with host := host } c (by decide)

theorem Dev.lockTo_eq (d : Dev) (c : Ctx) (x : Cand) (freq : Int) :
    ∃ ptr host, d.lockTo c x freq = { d with ptr := ptr, host := host } ∧ d.ptr.SameSources ptr ∧
      ptr.st = .lockedDonor ∧ ptr.donor = some (x.rat, x.pci) ∧ ptr.misses = 0 ∧
      ptr.phaseErr = tickPhase x.timing := by
  obtain ⟨host, hlock⟩ := Dev.donorReport_ptrTo_locked { d with ptr := { d.ptr with
    donor := some (x.rat, x.pci)
    misses := 0
    phaseErr := tickPhase x.timing
    freq := satSigned 16 freq
    reload := x.offFrame
    cands := d.ptr.cands.map fun y => { y with strong := 0 } } } c x.idx 3
  refine ⟨_, host, hlock, ⟨rfl, rfl, fun y => { y with strong := 0 }, rfl, fun y => ?_⟩, rfl, rfl, rfl, rfl⟩
  exact ⟨y.timing, y.base, y.sfnOffs, y.decodes, 0, rfl⟩

theorem Dev.lockTo_steered (d : Dev) (c : Ctx) (x : Cand) (freq : Int) : d.Steered (d.lockTo c x freq) := by
  obtain ⟨ptr, host, hlock, hsame, -⟩ := d.lockTo_eq c x freq
  exact ⟨ptr, d.prt, host, hlock, hsame⟩

theorem Dev.takeDonor_steered (d : Dev) (c : Ctx) (x : Cand) : d.Steered (d.takeDonor c x) := by
  unfold Dev.takeDonor
  split
  · exact .refl d
  · obtain ⟨host, hreport⟩ := Dev.donorReport_eq { d with ptr := { d.ptr with
      donor := some (x.rat, x.pci)
      misses := 0
      cands := d.ptr.cands.map fun y => { y with strong := 0 } } } c x.idx 3
    refine ⟨_, d.prt, host, hreport, rfl, rfl, fun y => { y with strong := 0 }, rfl, fun y => ?_⟩
    exact ⟨y.timing, y.base, y.sfnOffs, y.decodes, 0, rfl⟩

theorem State.step55_steered (s : State) (delta : Int) : s.Steered (s.step55 delta) := by
  unfold State.step55
  dsimp only
  have hshift := s.dev.ptr.shift_sameSources delta 0
  split
  · exact ⟨s.time.periods, _, rfl, .of_ptr ⟨hshift.ppsValid, hshift.ppsRun, hshift.cands⟩⟩
  · exact ⟨_, _, rfl, .of_ptr hshift⟩

theorem State.adopt_of_near (s : State) {x : Cand} (freq : Int) (hlow : -usPeriods ≤ tickPhase x.timing)
    (hhigh : tickPhase x.timing ≤ usPeriods) : s.adopt x freq = s.onDev fun c d => d.lockTo c x freq := by
  rw [State.adopt, if_pos ⟨hlow, hhigh⟩]

theorem State.adopt_steered (s : State) (x : Cand) (freq : Int) : s.Steered (s.adopt x freq) := by
  unfold State.adopt
  dsimp only
  split
  · exact .onDev (s.dev.lockTo_steered _ _ _)
  split
  · exact (s.step55_steered _).trans (.onDev (Dev.lockTo_steered ..))
  · exact .refl s

theorem State.settleLock_steered (s : State) (o : Option Occasion) : s.Steered (s.settleLock o) := by
  unfold State.settleLock
  dsimp only
  split
  · exact .refl s
  split
  · split
    · split
      · split
        · exact .refl s
        · exact s.adopt_steered _ _
      · exact .refl s
    · split
      · exact s.adopt_steered _ _
      · exact .refl s
  split
  · split
    · exact .onDev (s.dev.takeDonor_steered _ _)
    · exact .refl s
  · exact .refl s

/-! ### Occasions -/

theorem Dev.trackDonor_steered (d : Dev) (c : Ctx) (o : Occasion) : d.Steered (d.trackDonor c o) := by
  unfold Dev.trackDonor
  split
  · exact .refl d
  extract_lets hit p misses x p'
  have hp' : d.ptr.SameSources p' := by
    unfold p'
    split <;> exact .of_cands_eq rfl rfl rfl
  have hmisses : d.Steered { d with ptr := { d.ptr with misses := misses } } := .of_ptr (.of_cands_eq rfl rfl rfl)
  split
  · split
    · obtain ⟨host, hhold⟩ := Dev.ptrTo_of_following { d with ptr := p' } c (st := .holdover) (by decide)
      exact ⟨_, d.prt, host, hhold, hp'.trans (.of_cands_eq rfl rfl rfl)⟩
    · exact .of_ptr hp'
  · exact hmisses

/-- The cells of the list after a miss of one: a cell that a slave reports stays as reported (R64, assumption 78). -/
def Cand.afterMiss (o : Occasion) (x : Cand) : Cand :=
  if x.is o.rat o.pci then (if x.src.isSome then x else x.miss) else x

theorem Cand.afterMiss_is (o : Occasion) (x : Cand) (rat pci : Nat) : (x.afterMiss o).is rat pci = x.is rat pci := by
  unfold Cand.afterMiss
  split
  · split <;> rfl
  · rfl

theorem Dev.trackCell_of_miss {d : Dev} (c : Ctx) {o : Occasion} {x : Cand} (hx : d.ptr.cand o.rat o.pci = some x)
    (hmiss : occasionHit o = false) :
    d.trackCell c o = { d with ptr := { d.ptr with cands := d.ptr.cands.map (Cand.afterMiss o) } } := by
  unfold Dev.trackCell
  simp only [hx, hmiss, Bool.false_eq_true, false_and, if_false]
  rfl

/-- A miss of a listed cell that this module received itself ends its run (R50, R54). -/
theorem Painter.cand_of_miss {p : Painter} {o : Occasion} {x : Cand} (hx : p.cand o.rat o.pci = some x)
    (hsrc : x.src = none) :
    ({ p with cands := p.cands.map (Cand.afterMiss o) } : Painter).cand o.rat o.pci = some x.miss := by
  have his : ((·.is o.rat o.pci) ∘ Cand.afterMiss o) = fun y : Cand => y.is o.rat o.pci :=
    funext fun y => y.afterMiss_is o o.rat o.pci
  have hmiss : x.afterMiss o = x.miss := by
    simp [Cand.afterMiss, List.find?_some hx, hsrc]
  rw [Painter.cand, List.find?_map, his, ← hmiss]
  exact congrArg _ hx

/-- A missed occasion of a listed cell counts first, and Painter chooses its source after that. -/
theorem exec_syncOccasion_of_miss {s : State} {o : Occasion} {x : Cand} (hrun : s.time.running = true)
    (hmode : occasionMode s.modes.mode = true) (hprio : s.dev.srcPrio ≠ 2)
    (hplan : s.dev.plan.committed.isSome = true) (hx : s.dev.ptr.cand o.rat o.pci = some x)
    (hmiss : occasionHit o = false) :
    ∃ t, exec (.syncOccasion o) s = .next t ∧
      ({ s with dev := { s.dev with ptr := { s.dev.ptr with
        cands := s.dev.ptr.cands.map (Cand.afterMiss o) } } } : State).Steered t := by
  let o' : Occasion := { o with power := s.dev.portPower s.ctx o }
  let u : State := { s with dev := s.dev.trackCell s.ctx o' }
  have hu : u = { s with dev := { s.dev with ptr := { s.dev.ptr with
      cands := s.dev.ptr.cands.map (Cand.afterMiss o) } } } :=
    congrArg (fun d => { s with dev := d }) (s.dev.trackCell_of_miss s.ctx (o := o') hx hmiss)
  have hnone : s.dev.plan.committed.isNone = false := by simpa using hplan
  have hoccasion : exec (.syncOccasion o) s =
      .next ((u.onDev fun c d => d.trackDonor c o').settleLock (some o')).settleSync := by
    change execSyncOccasion o s = _
    rw [execSyncOccasion, if_neg (by simp [hrun, hmode, hprio, hnone])]
    rfl
  refine ⟨_, hoccasion, hu ▸ ?_⟩
  exact ((State.Steered.onDev (u.dev.trackDonor_steered u.ctx o')).trans (State.settleLock_steered _ _)).trans
    (State.settleSync_steered _)

/-- A cell that was not received leaves the list, and gives up the place of the timing donor (R330). -/
theorem exec_candidateExpire {s : State} {idx : Nat} {x : Cand}
    (hx : s.dev.ptr.cands.find? (fun x => x.idx == idx) = some x) (hticks : 2000 ≤ x.missTicks) :
    ∃ host, exec (.candidateExpire idx) s = .next ({ s with dev := { s.dev with
      ptr := { s.dev.ptr with
        cands := s.dev.ptr.cands.erase x
        donor := if s.dev.ptr.donor = some (x.rat, x.pci) then none else s.dev.ptr.donor }
      host := host } } : State).settleSync := by
  obtain ⟨host, hreport⟩ := Dev.donorReport_eq { s.dev with ptr := { s.dev.ptr with
    cands := s.dev.ptr.cands.erase x
    donor := if s.dev.ptr.donor = some (x.rat, x.pci) then none else s.dev.ptr.donor } } s.ctx idx 2
  refine ⟨host, ?_⟩
  change execCandidateExpire idx s = _
  rw [execCandidateExpire, hx]
  dsimp only
  rw [if_neg (by omega)]
  exact congrArg (fun d => Host.Outcome.next ({ s with dev := d } : State).settleSync) hreport

/-! ### PPS_IN (R58) -/

/-- PPS_IN is judged after `run` edges in spacing; Painter leaves LOCKED_PPS where it is not valid. -/
def Dev.judgePps (d : Dev) (c : Ctx) (run : Nat) (valid : Bool) : Dev :=
  let d : Dev := { d with ptr := { d.ptr with ppsRun := run, ppsValid := valid } }
  if !valid && d.ptr.st == .lockedPps then d.ptrTo c .holdover else d

theorem Dev.judgePps_valid (d : Dev) (c : Ctx) (run : Nat) :
    d.judgePps c run true = { d with ptr := { d.ptr with ppsRun := run, ppsValid := true } } := rfl

theorem Dev.judgePps_invalid (d : Dev) (c : Ctx) (run : Nat) : ∃ st host,
    d.judgePps c run false = { d with
      ptr := { d.ptr with ppsRun := run, ppsValid := false, st := st }, host := host } ∧
      (d.ptr.st = .lockedPps → st = .holdover) ∧ (d.ptr.st ≠ .lockedPps → st = d.ptr.st) := by
  unfold Dev.judgePps
  dsimp only
  split
  case isTrue hlock =>
    obtain ⟨host, hhold⟩ := Dev.ptrTo_of_following { d with ptr := { d.ptr with ppsRun := run, ppsValid := false } } c
      (st := .holdover) (by decide)
    exact ⟨_, host, hhold, fun _ => rfl, fun h => absurd (by simpa using hlock) h⟩
  case isFalse hlock =>
    exact ⟨d.ptr.st, d.host, rfl, fun h => absurd (by simpa using h) hlock, fun _ => rfl⟩

/-- An edge of the kind that PPS_EDGE selects. -/
theorem exec_ppsInEdge {s : State} {k : Bool} (sp ph : Nat) (hrun : s.time.running = true)
    (hmode : s.modes.mode ≠ .reset) (hkind : k = !s.dev.use.ptrCfg.bit 2) :
    exec (.ppsInEdge ⟨k, sp⟩ ph) s =
      let run := if !outside sp 999999000 1000001000 then min (s.dev.ptr.ppsRun + 1) 3 else 1
      let u := s.onDev fun c d => d.judgePps c run (decide (3 ≤ run))
      .next (if u.dev.wantsPps && u.modes.mode != .coil then (u.ppsLock ph ((sp : Int) - 1000000000)).markPps
        else u).settleSync := by
  change execPpsInEdge ⟨k, sp⟩ ph s = _
  rw [execPpsInEdge, if_neg (by simp [hrun, hmode, hkind])]
  rfl

theorem exec_ppsInTimeout (s : State) :
    exec .ppsInTimeout s = .next (s.onDev fun c d => d.judgePps c 0 false).settleSync := by
  change execPpsInTimeout s = _
  rw [execPpsInTimeout]
  simp [Dev.judgePps]

theorem Dev.wantsPps_of_invalid {d : Dev} (h : d.ptr.ppsValid = false) : d.wantsPps = false := by
  simp [Dev.wantsPps, h]

/-- n, SFN and HFC count on, PPS_IN stays as it was judged, and only the device part changes beside the tick. -/
structure State.CountsOn (s t : State) : Prop where
  ppsValid : t.dev.ptr.ppsValid = s.dev.ptr.ppsValid
  n : t.time.n = s.time.n
  sfn : t.time.sfn = s.time.sfn
  hfc : t.time.hfc = s.time.hfc
  modes : t.modes = s.modes
  setup : t.setup = s.setup
  nv : t.nv = s.nv
  rings : t.rings = s.rings

theorem State.CountsOn.trans {s t u : State} (hst : s.CountsOn t) (htu : t.CountsOn u) : s.CountsOn u :=
  ⟨htu.ppsValid.trans hst.ppsValid, htu.n.trans hst.n, htu.sfn.trans hst.sfn, htu.hfc.trans hst.hfc,
    htu.modes.trans hst.modes, htu.setup.trans hst.setup, htu.nv.trans hst.nv, htu.rings.trans hst.rings⟩

theorem State.CountsOn.refl (s : State) : s.CountsOn s := ⟨rfl, rfl, rfl, rfl, rfl, rfl, rfl, rfl⟩

theorem State.Steered.countsOn {s t : State} (h : s.Steered t) : s.CountsOn t := by
  obtain ⟨_, _, rfl, _, _, _, rfl, hptr⟩ := h
  exact ⟨hptr.ppsValid, rfl, rfl, rfl, rfl, rfl, rfl, rfl⟩

theorem Dev.foldl_applySched (l : List Pend) (d : Dev) : ∃ sched,
    l.foldl (fun d p => match p.what with
      | .sched on u _ => d.applySched on u
      | _ => d) d = { d with reef := { d.reef with sched := sched } } := by
  induction l generalizing d with
  | nil => exact ⟨d.reef.sched, rfl⟩
  | cons p l ih =>
    rw [List.foldl_cons]
    split
    · exact ih (d.applySched _ _)
    · exact ih d

theorem Dev.takeScheds_eq (d : Dev) (t : TimeSt) : d.takeScheds t = { d with
    reef := { d.reef with sched := (d.takeScheds t).reef.sched }, pend := (d.takeScheds t).pend } := by
  obtain ⟨sched, hfold⟩ := Dev.foldl_applySched (d.pend.filter _) { d with pend := d.pend.filter _ }
  rw [show d.takeScheds t = _ from hfold]

/-- A renumbered tick refers the cells to the grid's new frame, and brings that frame's pattern and schedules (R51). -/
theorem State.renumber_eq (s : State) (tif sfn : Nat) : ∃ sched pend ptr plan,
    s.renumber tif sfn = { s with
      time := { s.time with tif := tif, sfn := sfn }
      dev := { s.dev with
        reef := { s.dev.reef with sched := sched }, pend := pend, ptr := ptr, plan := plan } } ∧
      ptr.ppsValid = s.dev.ptr.ppsValid := by
  have hdev : ∃ sched pend ptr plan, (s.renumber tif sfn).dev = { s.dev with
      reef := { s.dev.reef with sched := sched }, pend := pend, ptr := ptr, plan := plan } ∧
      ptr.ppsValid = s.dev.ptr.ppsValid := by
    unfold State.renumber
    dsimp only
    split
    · exact ⟨s.dev.reef.sched, s.dev.pend, _, s.dev.plan, rfl, rfl⟩
    · exact ⟨_, _, _, _, Dev.takeScheds_eq _ _, rfl⟩
  obtain ⟨sched, pend, ptr, plan, hdev, hvalid⟩ := hdev
  refine ⟨sched, pend, ptr, plan, ?_, hvalid⟩
  exact congrArg (fun d : Dev => { s with time := { s.time with tif := tif, sfn := sfn }, dev := d }) hdev

theorem State.ppsTick_countsOn (s : State) (phase : Int) : s.CountsOn (s.ppsTick phase) := by
  obtain ⟨_, _, _, _, hmove, hvalid⟩ := s.renumber_eq (if phase < 0 then 19 else 0) s.time.sfn
  rw [State.ppsTick, hmove]
  exact ⟨hvalid, rfl, rfl, rfl, rfl, rfl, rfl, rfl⟩

theorem Dev.ptrTo_steered (d : Dev) (c : Ctx) {st : PtrState} (hst : ¬(st = .freerun ∨ st = .search ∨ st = .slave)) :
    d.Steered (d.ptrTo c st) := by
  obtain ⟨host, hto⟩ := d.ptrTo_of_following c hst
  exact ⟨_, d.prt, host, hto, .of_cands_eq rfl rfl rfl⟩

theorem State.ppsEnter_countsOn (s : State) (ph err freq : Int) : s.CountsOn (s.ppsEnter ph err freq) := by
  let u : State := s.ppsTick ph
  let v : State := { u with dev := { u.dev with ptr := { u.dev.ptr with phaseErr := err, freq := satSigned 16 freq } } }
  have hv : u.CountsOn v := ⟨rfl, rfl, rfl, rfl, rfl, rfl, rfl, rfl⟩
  have hlock : v.CountsOn (v.onDev fun c d => d.ptrTo c .lockedPps) :=
    (State.Steered.onDev (v.dev.ptrTo_steered v.ctx (by decide))).countsOn
  exact ((s.ppsTick_countsOn ph).trans hv).trans hlock

theorem State.ppsLock_countsOn (s : State) (phase : Nat) (freq : Int) : s.CountsOn (s.ppsLock phase freq) := by
  unfold State.ppsLock
  split
  · exact s.ppsEnter_countsOn _ _ _
  split
  · exact (s.step55_steered _).countsOn.trans (State.ppsEnter_countsOn ..)
  · have hleave : s.dev.Steered (if s.dev.ptr.st = .lockedPps then s.dev.ptrTo s.ctx .holdover else s.dev) := by
      split
      · exact s.dev.ptrTo_steered s.ctx (by decide)
      · exact .refl _
    exact (State.Steered.onDev hleave).countsOn

theorem State.markPps_countsOn (s : State) : s.CountsOn s.markPps := by
  unfold State.markPps
  dsimp only
  split
  · exact .refl s
  split
  · exact ⟨rfl, rfl, rfl, rfl, rfl, rfl, rfl, rfl⟩
  · exact ⟨rfl, rfl, rfl, rfl, rfl, rfl, rfl, rfl⟩

theorem State.CountsOn.ite {p : Prop} [Decidable p] {s t u : State} (ht : s.CountsOn t) (hu : s.CountsOn u) :
    s.CountsOn (if p then t else u) := by
  split
  · exact ht
  · exact hu

/-- Settles O58: an edge, a time-out or an occasion is judged first, and the source that Painter then takes leaves that
judgement, n, SFN and HFC as they are. -/
theorem painterFollowsItsSources : Obligations.PainterFollowsItsSources := by
  refine ⟨fun k sp ph s hrun hmode hkind hlow hhigh hruns => ?third,
    fun k sp ph s hrun hmode hkind hout => ?outOfSpacing, fun k sp ph s hkind => ?otherKind, fun s => ?timeout,
    fun s hst hticks => ?search, fun idx x s hx hticks => ?expire,
    fun o x s hrun hmode hprio hplan hx hsrc hmiss => ?miss⟩
  case third =>
    have hin : outside sp 999999000 1000001000 = false := by simp [outside]; omega
    have hthree : min (s.dev.ptr.ppsRun + 1) 3 = 3 := by omega
    let u := s.onDev fun c d => d.judgePps c 3 true
    have hedge : exec (.ppsInEdge ⟨k, sp⟩ ph) s = .next (if u.dev.wantsPps && u.modes.mode != .coil then
        (u.ppsLock ph ((sp : Int) - 1000000000)).markPps else u).settleSync := by
      rw [exec_ppsInEdge sp ph hrun hmode hkind]
      simp only [hin, Bool.not_false, if_true, hthree]
      rfl
    obtain ⟨hvalid, hn, hsfn, hhfc, hmodes, hsetup, hnv, hrings⟩ :=
      (State.CountsOn.ite (p := u.dev.wantsPps && u.modes.mode != .coil)
        ((u.ppsLock_countsOn ph ((sp : Int) - 1000000000)).trans (State.markPps_countsOn _)) (.refl u)).trans
        (State.settleSync_steered _).countsOn
    exact ⟨_, hedge, hvalid, hn, hsfn, hhfc, hmodes, hsetup, hnv, hrings⟩
  case outOfSpacing =>
    have hbad : outside sp 999999000 1000001000 = true := by simp [outside]; omega
    obtain ⟨st, host, hjudge, hlocked, hother⟩ := s.dev.judgePps_invalid s.ctx 1
    let u := s.onDev fun c d => d.judgePps c 1 false
    have hu : u = { s with dev := _ } := congrArg (fun d => { s with dev := d }) hjudge
    have hedge : exec (.ppsInEdge ⟨k, sp⟩ ph) s = .next u.settleSync := by
      have hwants : u.dev.wantsPps = false := Dev.wantsPps_of_invalid (by rw [hu])
      rw [exec_ppsInEdge sp ph hrun hmode hkind]
      simp only [hbad, Bool.not_true, Bool.false_eq_true, if_false]
      change Host.Outcome.next (ite ((u.dev.wantsPps && _) = true) _ u).settleSync = _
      rw [hwants, Bool.false_and, if_neg Bool.false_ne_true]
    obtain ⟨b, prt, hsync⟩ := u.settleSync_eq
    refine ⟨_, hedge, ?_⟩
    rw [hsync, hu]
    refine ⟨rfl, rfl, ?_, ⟨rfl, rfl, rfl, rfl, rfl, rfl, rfl⟩, rfl⟩
    by_cases hlock : s.dev.ptr.st = .lockedPps
    · simp [hlocked hlock]
    · simpa [hother hlock] using hlock
  case otherKind =>
    change execPpsInEdge ⟨k, sp⟩ ph s = _
    rw [execPpsInEdge, if_pos (.inr (.inr hkind))]
  case timeout =>
    obtain ⟨st, host, hjudge, hlocked, hother⟩ := s.dev.judgePps_invalid s.ctx 0
    let u := s.onDev fun c d => d.judgePps c 0 false
    have hu : u = { s with dev := _ } := congrArg (fun d => { s with dev := d }) hjudge
    obtain ⟨b, prt, hsync⟩ := u.settleSync_eq
    refine ⟨_, exec_ppsInTimeout s, ?_⟩
    rw [hsync, hu]
    exact ⟨rfl, rfl, hlocked, hother, ⟨rfl, rfl, rfl, rfl, rfl, rfl, rfl⟩, rfl⟩
  case search =>
    obtain ⟨host, hfree⟩ := s.dev.ptrTo_freerun s.ctx (by rw [hst]; decide)
    have htimeout : exec .searchTimeout s = .next { s with dev := _ } :=
      (if_pos ⟨hst, hticks⟩).trans (congrArg (fun d => Host.Outcome.next { s with dev := d }) hfree)
    exact ⟨_, htimeout, rfl, rfl, rfl, ⟨rfl, rfl, rfl, rfl, rfl, rfl, rfl⟩, rfl⟩
  case expire =>
    obtain ⟨host, hexpire⟩ := exec_candidateExpire hx hticks
    obtain ⟨b, prt, hsync⟩ := State.settleSync_eq { s with dev := { s.dev with
      ptr := { s.dev.ptr with
        cands := s.dev.ptr.cands.erase x
        donor := if s.dev.ptr.donor = some (x.rat, x.pci) then none else s.dev.ptr.donor }
      host := host } }
    refine ⟨_, hexpire.trans (congrArg _ hsync), rfl, ?_, ⟨rfl, rfl, rfl, rfl, rfl, rfl, rfl⟩, rfl⟩
    dsimp only
    split
    · simp
    · assumption
  case miss =>
    obtain ⟨_, hoccasion, _, _, rfl, _, _, _, rfl, hsame⟩ :=
      exec_syncOccasion_of_miss hrun hmode hprio hplan hx hmiss
    obtain ⟨y, hy, _, _, _, _, _, rfl⟩ := hsame.cand (Painter.cand_of_miss hx hsrc)
    exact ⟨_, _, hoccasion, hy, rfl, rfl, rfl, rfl, rfl, rfl, rfl, rfl, rfl, rfl, rfl⟩

end Sys2Proof.Machine
end

section
/-! PROOFS. The timing donor: its replacement within 1 us and the reload of SFN and TIF at its frame boundary (R45, R52,
R55, R187). -/

namespace Sys2Proof.Machine

/-! ### The replacement of the donor (R52) -/

theorem exec_donorReplace_of_near {s : State} {cur x : Cand} (hcur : s.dev.ptr.donorCand = some cur)
    (hst : s.dev.ptr.st = .lockedDonor) (hpref : s.dev.preferred cur = false)
    (hx : strongest (s.dev.ptr.cands.filter fun x => x.eligible s.modes.mode && decide (200 ≤ x.strong)) = some x)
    (hlow : -12500 ≤ tickPhase x.timing) (hhigh : tickPhase x.timing ≤ 12500) :
    exec .donorReplace s = .next (s.onDev fun c d => d.lockTo c x s.dev.ptr.freq).settleSync := by
  have hfollows : s.dev.ptr.followsDonor s.dev.srcPrio = true := by simp [Painter.followsDonor, hst]
  change execDonorReplace s = _
  rw [execDonorReplace]
  dsimp only
  rw [hcur]
  dsimp only
  rw [if_neg (by simp [hfollows, hpref]), hx]
  dsimp only
  rw [if_pos hst, s.adopt_of_near s.dev.ptr.freq hlow hhigh]

/-! ### The reload (R45, R187) -/

theorem State.reloadSfn_eq {s : State} {x : Cand} (hx : s.dev.ptr.donorCand = some x) (hplan : s.inPlan = true)
    (hreload : s.dev.ptr.reload = true) (hst : s.dev.ptr.st = .lockedDonor)
    (hbound : (s.time.tif : Int) * tickPeriods - x.timing - cellFrames s.time.tif x.timing * framePeriods < 3125000) :
    s.reloadSfn = some (sfnMod ((s.time.sfn : Int) + cellFrames s.time.tif x.timing + x.sfnOffs)) := by
  rw [State.reloadSfn, hx]
  dsimp only
  rw [if_neg (by simp only [hplan, hreload, hst]; simp; omega)]

theorem Dev.foldl_reportNone (c : Ctx) (l : List Nbr) (d : Dev) : ∃ host,
    l.foldl (fun d x => d.reportNone c 12 (x.idx + 256 * 2)) d = { d with host := host } := by
  induction l generalizing d with
  | nil => exact ⟨d.host, rfl⟩
  | cons x l ih =>
    obtain ⟨_, hreport⟩ := d.reportNone_eq c 12 (x.idx + 256 * 2)
    rw [List.foldl_cons, hreport]
    exact ih _

theorem Dev.ageNbrs_eq (d : Dev) (c : Ctx) : ∃ book host, d.ageNbrs c = { d with book := book, host := host } := by
  obtain ⟨host, hreports⟩ := Dev.foldl_reportNone c (d.book.nbrs.filter _) { d with book := _ }
  exact ⟨_, host, hreports⟩

/-- An epoch ends without sightings: the next one begins at this T0, unless it has begun (R187). -/
theorem Dev.endEpoch_eq (d : Dev) (c : Ctx) : ∃ can book host,
    d.endEpoch c [] = { d with can := can, book := book, host := host } ∧ can.epochConv = c.time.conv ∧
      (d.can.epochConv ≠ c.time.conv → can.epochs = d.can.epochs + 1) := by
  unfold Dev.endEpoch
  split
  case isTrue hbegun => exact ⟨d.can, d.book, d.host, rfl, hbegun, fun h => absurd hbegun h⟩
  case isFalse =>
    obtain ⟨book, host, hage⟩ := ({ d with can := { d.can with epochs := d.can.epochs + 1 } } : Dev).ageNbrs_eq c
    dsimp only [List.filter_nil, List.foldl_nil]
    rw [hage]
    exact ⟨_, book, host, rfl, rfl, fun _ => rfl⟩

theorem exec_sfnReload {s : State} {new : Nat} (hnew : s.reloadSfn = some new) :
    ∃ sched pend ptr plan can book host, exec .sfnReload s = .next { s with
      time := { s.time with tif := 0, sfn := new }
      dev := { s.dev with
        reef := { s.dev.reef with sched := sched }
        pend := pend, ptr := ptr, plan := plan, can := can, book := book, host := host } } ∧
      ptr.reload = false ∧ can.epochConv = s.time.conv ∧
      (s.dev.can.epochConv ≠ s.time.conv → can.epochs = s.dev.can.epochs + 1) := by
  obtain ⟨sched, pend, ptr, plan, hmove, -⟩ := s.renumber_eq 0 new
  obtain ⟨can, book, reports, hepoch, hconv, hepochs⟩ := Dev.endEpoch_eq { s.dev with
    reef := { s.dev.reef with sched := sched }
    pend := pend, ptr := { ptr with reload := false }, plan := plan } s.ctx
  obtain ⟨host, hevent⟩ := Dev.event_eq { s.dev with
    reef := { s.dev.reef with sched := sched }
    pend := pend, ptr := { ptr with reload := false }, plan := plan, can := can, book := book, host := reports }
    s.ctx 7 new 0 s.time.sfn 0
  refine ⟨sched, pend, { ptr with reload := false }, plan, can, book, host, ?_, rfl, hconv, hepochs⟩
  change execSfnReload s = _
  rw [execSfnReload, hnew]
  dsimp only
  rw [hmove]
  dsimp only
  rw [hepoch]
  exact congrArg (fun d => Host.Outcome.next { s with time := { s.time with tif := 0, sfn := new }, dev := d }) hevent

/-- Settles O59: within 1 us the grid takes no step, and the reload renumbers the tick before its epoch ends. -/
theorem theDonorIsReplacedAndReloaded : Obligations.TheDonorIsReplacedAndReloaded := by
  refine ⟨fun cur x s hcur hst hpref hx hlow hhigh => ?replaced,
    fun x new s hx hrun hwin hreload hst hbound hnew => ?reloaded⟩
  case replaced =>
    obtain ⟨ptr, host, hlock, -, hlocked, hdonor, hmisses, hphase⟩ := s.dev.lockTo_eq s.ctx x s.dev.ptr.freq
    have hadopt : s.onDev (fun c d => d.lockTo c x s.dev.ptr.freq) =
        { s with dev := { s.dev with ptr := ptr, host := host } } := congrArg (fun d => { s with dev := d }) hlock
    obtain ⟨b, prt, hsync⟩ := State.settleSync_eq { s with dev := { s.dev with ptr := ptr, host := host } }
    refine ⟨_, exec_donorReplace_of_near hcur hst hpref hx hlow hhigh, ?_⟩
    rw [hadopt, hsync]
    exact ⟨hdonor, hlocked, hmisses, hphase, ⟨rfl, rfl, rfl, rfl, rfl, rfl, rfl⟩, rfl⟩
  case reloaded =>
    have hplan : s.inPlan = true := by simp [State.inPlan, hrun, hwin]
    obtain ⟨_, _, _, _, _, _, _, hexec, hdone, hconv, hepochs⟩ :=
      exec_sfnReload (hnew ▸ State.reloadSfn_eq hx hplan hreload hst hbound)
    exact ⟨_, hexec, rfl, hdone, hconv, hepochs, rfl, rfl, rfl, rfl, rfl⟩

end Sys2Proof.Machine
end

section
/-! PROOFS. Spliced modules: their links, the choice of the timing master and what modules tell each other (R63 to R66,
R419, R463). -/

namespace Sys2Proof.Machine

/-! ### Links (R419, R463) -/

/-- A raise that names no hawser leaves what is known of the spliced modules. -/
theorem Dev.raise_splice (d : Dev) (c : Ctx) {src unit : Nat} (sev sub : Nat) (hname : namedHawser src unit = none) :
    (d.raise c src sev unit sub).splice = d.splice := by
  obtain ⟨_, _, _, _, _, hraise, -⟩ := d.raise_noted c sev sub hname
  rw [hraise]

/-- A module that becomes a slave knows the same peers and links. -/
theorem Dev.enslave_links (d : Dev) (c : Ctx) :
    (d.enslave c).splice.peers = d.splice.peers ∧ (d.enslave c).splice.linkUp = d.splice.linkUp := by
  unfold Dev.enslave
  rw [setSync_splice, ptrTo_splice]
  exact ⟨rfl, rfl⟩

/-- The links with that of a port up, and its peer in place of an older entry of the same module. -/
def Splice.linked (x : Splice) (p : Peer) : Splice :=
  { x with
    peers := (x.peers.filter fun q => !(q.modId == p.modId && q.serial == p.serial)) ++ [p]
    linkUp := x.linkUp.set p.port true }

/-- A peer comes into view; one that carries this module's ID raises DUP_ID (R66). -/
def Dev.meetPeer (d : Dev) (c : Ctx) (p : Peer) : Dev :=
  let d : Dev := { d with splice := d.splice.linked p }
  if p.modId = c.ident.modId then d.raise c 6 3 0 c.time.sub else d

theorem Dev.meetPeer_splice (d : Dev) (c : Ctx) (p : Peer) : (d.meetPeer c p).splice = d.splice.linked p := by
  unfold Dev.meetPeer
  dsimp only
  split
  · exact raise_splice _ c 3 c.time.sub rfl
  · rfl

/-- Before the election a module becomes slave once a peer in view ranks below it (R419). -/
def Dev.heedPeer (d : Dev) (c : Ctx) (p : Peer) : Dev :=
  if d.splice.elected then d else if rankBelow p.rank c.rank then d.enslave c else d

theorem Dev.heedPeer_links (d : Dev) (c : Ctx) (p : Peer) :
    (d.heedPeer c p).splice.peers = d.splice.peers ∧ (d.heedPeer c p).splice.linkUp = d.splice.linkUp := by
  unfold Dev.heedPeer
  split
  · exact ⟨rfl, rfl⟩
  split
  · exact d.enslave_links c
  · exact ⟨rfl, rfl⟩

theorem exec_spliceLinkUp {s : State} {port : Nat} (modId serial tracer : Nat) (hport : port ≤ 3)
    (hmode : s.modes.mode ≠ .reset) :
    exec (.spliceLinkUp port modId serial tracer) s = .next (s.onDev fun c d =>
      let p : Peer := { modId := modId % 4, serial := serial, tracer := tracer, port := port, calDone := false }
      (d.meetPeer c p).heedPeer c p) := by
  change execSpliceLinkUp port modId serial tracer s = _
  rw [execSpliceLinkUp, if_neg (by simp [hmode]; omega)]
  rfl

/-! ### The timing master (R65, R419) -/

theorem Dev.postCalSync_eq (d : Dev) (n : Nat) : ∃ syncPend calSyncDue syncSent,
    d.postCalSync n = { d with
      conv := { d.conv with syncPend := syncPend, calSyncDue := calSyncDue }
      splice := { d.splice with syncSent := syncSent } } := by
  have hask (d : Dev) (due : Bool) (tick : Nat) : ∃ syncPend calSyncDue syncSent,
      ({ d with conv := { d.conv with calSyncDue := due } } : Dev).askSync tick = { d with
        conv := { d.conv with syncPend := syncPend, calSyncDue := calSyncDue }
        splice := { d.splice with syncSent := syncSent } } := by
    unfold Dev.askSync
    split
    · exact ⟨d.conv.syncPend, due, d.splice.syncSent, rfl⟩
    · exact ⟨_, _, _, rfl⟩
  unfold Dev.postCalSync
  split
  · exact ⟨d.conv.syncPend, d.conv.calSyncDue, d.splice.syncSent, rfl⟩
  split
  · exact hask d false _
  split
  · exact hask d false _
  · exact ⟨d.conv.syncPend, d.conv.calSyncDue, d.splice.syncSent, rfl⟩

theorem State.settleNear_isSlave {s : State} (h : s.dev.isSlave = false) : s.settleNear.dev.isSlave = false := by
  unfold State.settleNear
  dsimp only
  split
  · exact h
  split
  · split
    · obtain ⟨_, _, hlock, -, hst, -⟩ := s.dev.lockTo_eq s.ctx _ s.dev.ptr.freq
      rw [State.onDev_dev, hlock]
      simp [Dev.isSlave, hst]
    · exact h
  · exact h

theorem State.settleSync_isSlave (s : State) : s.settleSync.dev.isSlave = s.dev.isSlave := by
  obtain ⟨b, prt, hsync⟩ := s.settleSync_eq
  rw [hsync]
  rfl

/-- The module is timing master under its own ID, and follows no other. -/
def Dev.Masters (d : Dev) (modId : Nat) : Prop :=
  d.splice.master = true ∧ d.splice.elected = true ∧ d.splice.masterId = modId ∧ d.isSlave = false

theorem State.settleNear_splice (s : State) : s.settleNear.dev.splice = s.dev.splice := by
  unfold State.settleNear
  dsimp only
  split
  · rfl
  split
  · split
    · rw [State.onDev_dev, Dev.lockTo_splice]
    · rfl
  · rfl

theorem State.settleSync_splice (s : State) : s.settleSync.dev.splice = s.dev.splice := by
  rw [State.settleSync, State.onDev_dev, Dev.setSync_splice]

/-- A slave that becomes master keeps its grid in FREERUN or HOLDOVER (R65). -/
theorem Dev.ptrTo_leaves_slave {d : Dev} (c : Ctx) {st : PtrState} (hst : st = .freerun ∨ st = .holdover)
    (hslave : d.isSlave = true) : (d.ptrTo c st).isSlave = false := by
  have hslave : d.ptr.st = .slave := by simpa [Dev.isSlave] using hslave
  obtain rfl | rfl := hst
  · obtain ⟨host, hfree⟩ := d.ptrTo_freerun c (by rw [hslave]; decide)
    rw [hfree]
    rfl
  · obtain ⟨host, hhold⟩ := d.ptrTo_of_following c (st := .holdover) (by decide)
    rw [hhold]
    rfl

/-- The module names itself the master. -/
def Dev.claimMaster (d : Dev) (c : Ctx) : Dev :=
  { d with splice := { d.splice with
      elected := true, master := true, masterId := c.ident.modId, masterSerial := c.ident.serial, lost := 0 } }

/-- A slave lets go of its master. -/
def Dev.leaveSlave (d : Dev) (c : Ctx) : Dev :=
  if d.isSlave then d.ptrTo c (if d.srcPrio = 2 then .freerun else .holdover) else d

theorem Dev.leaveSlave_splice (d : Dev) (c : Ctx) : (d.leaveSlave c).splice = d.splice := by
  unfold Dev.leaveSlave
  split
  · rw [ptrTo_splice]
  · rfl

theorem Dev.leaveSlave_isSlave (d : Dev) (c : Ctx) : (d.leaveSlave c).isSlave = false := by
  unfold Dev.leaveSlave
  split
  case isTrue hslave => exact d.ptrTo_leaves_slave c (by split <;> simp) hslave
  case isFalse hslave => simpa using hslave

theorem State.becomeMaster_eq (s : State) : s.becomeMaster = (s.onDev fun c d =>
    ((d.claimMaster c).leaveSlave c).postCalSync c.n).settleNear.settleSync := rfl

theorem State.becomeMaster_masters (s : State) : s.becomeMaster.dev.Masters s.ident.modId := by
  obtain ⟨syncPend, due, syncSent, hsync⟩ := ((s.dev.claimMaster s.ctx).leaveSlave s.ctx).postCalSync_eq s.ctx.n
  have hslave : (((s.dev.claimMaster s.ctx).leaveSlave s.ctx).postCalSync s.ctx.n).isSlave = false := by
    rw [hsync]
    exact Dev.leaveSlave_isSlave _ _
  rw [Dev.Masters, State.becomeMaster_eq, State.settleSync_splice, State.settleNear_splice, State.settleSync_isSlave,
    State.settleNear_isSlave hslave, State.onDev_dev, hsync, Dev.leaveSlave_splice]
  exact ⟨rfl, rfl, rfl, rfl⟩

theorem exec_electionTimeout {s : State} (hrun : s.time.running = true) (hn : 400 ≤ s.time.n)
    (helected : s.dev.splice.elected = false) (hlower : s.dev.hasLower s.ctx = false) :
    exec .electionTimeout s = .next s.becomeMaster := by
  change execElectionTimeout s = _
  rw [execElectionTimeout, if_neg (by simp [hrun, helected, hlower]; omega)]

theorem exec_masterTakeover {s : State} (hrun : s.time.running = true) (hwin : s.time.window = .plan)
    (hslave : s.dev.isSlave = true) (hlower : s.dev.hasLower s.ctx = false) :
    exec .masterTakeover s = .next s.becomeMaster := by
  change execMasterTakeover s = _
  rw [execMasterTakeover, if_neg (by simp [State.inPlan, hrun, hwin, hslave, hlower])]

/-- A slave that ranks lowest takes over from a lost master (R65): the lowest of the others is named first. -/
theorem exec_masterLost {s : State} (hslave : s.dev.isSlave = true) (hlost : 3 ≤ s.dev.splice.lost)
    (hlower : s.dev.hasLower s.ctx = false) :
    ∃ d, exec .masterLost s = .next ({ s with dev := d } : State).becomeMaster := by
  change ∃ _, execMasterLost s = _
  rw [execMasterLost, if_neg (by simp [hslave]; omega)]
  cases hlow : s.dev.splice.lowest with
  | none =>
    refine ⟨s.dev, ?_⟩
    simp only [State.onDev, hlow]
    exact congrArg Host.Outcome.next (if_neg (by simpa using hlower))
  | some p =>
    have hnamed : (s.dev.nameMaster s.ctx).hasLower s.ctx = false := hlower
    refine ⟨s.dev.nameMaster s.ctx, ?_⟩
    simp only [State.onDev, hlow, hlower, Bool.false_and, Bool.false_eq_true, if_false]
    exact congrArg Host.Outcome.next (if_neg (by simpa using hnamed))

/-! ### Messages (R63, R64, R419) -/

/-- A slave takes T0 and the counters of the master's message (R63). -/
theorem exec_spliceTimingMessage {s : State} (t0 : MasterTick) (tif sfn hfc : Nat) (hrun : s.time.running = true)
    (hmode : s.modes.mode ≠ .reset) (hslave : s.dev.isSlave = true) (hmaster : s.dev.splice.master = false) :
    ∃ sched pend ptr plan, exec (.spliceTimingMessage t0 tif sfn hfc) s = .next { s with
      time := { s.time with
        conv := ((s.time.conv : Int) + t0.after).toNat
        n := t0.n % two32, tif := tif % 20, sfn := sfn % 1024, hfc := hfc % two32 }
      dev := { s.dev with
        reef := { s.dev.reef with sched := sched }
        pend := pend, ptr := ptr, plan := plan, splice := { s.dev.splice with lost := 0 } } } := by
  have hkeep : s.onDev (fun c d => if d.isSlave then d else d.enslave c) = s :=
    congrArg (fun d => { s with dev := d }) (if_pos hslave)
  obtain ⟨sched, pend, ptr, plan, hmove, -⟩ := (s.moveT0 t0.after).renumber_eq (tif % 20) (sfn % 1024)
  refine ⟨sched, pend, ptr, plan, ?_⟩
  change execSpliceTimingMessage t0 tif sfn hfc s = _
  rw [execSpliceTimingMessage, if_neg (by simp [hrun, hmode, hmaster]), hkeep]
  dsimp only
  rw [hmove]
  rfl

/-- A cell that only a slave reports takes a free entry (R64). -/
theorem Dev.mergeReport_of_new {d : Dev} (c : Ctx) (m : Nat) {r : CandReport} {i : Nat}
    (hnew : d.ptr.cand r.rat r.pci = none) (hfree : d.ptr.freeIdx = some i) :
    ∃ host, d.mergeReport c m r = { d with
      ptr := { d.ptr with cands := d.ptr.cands ++
        [{ Cand.ofReport m r d.book.bhf c.tih with idx := i, strong := 0, firstBhf := d.book.bhf }] }
      host := host } := by
  unfold Dev.mergeReport
  simp only [hnew, Dev.addCand, hfree]
  exact Dev.donorReport_eq ..

theorem exec_spliceCandidateReport {s : State} (m : Nat) (r : CandReport) (hrun : s.time.running = true)
    (hmaster : s.dev.splice.master = true) :
    exec (.spliceCandidateReport ⟨m, [r]⟩) s =
      .next ((s.onDev fun c d => d.mergeReport c m r).settleLock none).settleSync := by
  change execSpliceCandidateReport ⟨m, [r]⟩ s = _
  rw [execSpliceCandidateReport, if_neg (by simp [hrun, hmaster])]
  rfl

theorem exec_splicePortDown {s : State} {port : Nat} (stays : Bool) (hport : port ≤ 3)
    (hup : s.dev.splice.linkUp.getD port false = true) :
    exec (.splicePortDown port stays) s = .next (s.onDev fun c d =>
      if stays then
        let x : Splice := { d.splice with
          peers := d.splice.peers.filter fun p => p.port != port
          linkUp := d.splice.linkUp.set port false }
        ({ d with splice := x }).raise c 11 3 port c.time.sub
      else d.raise c 11 1 port c.time.sub) := by
  change execSplicePortDown port stays s = _
  rw [execSplicePortDown, if_neg (by simp only [hup]; simp; omega)]

theorem exec_spliceCalReport {s : State} (modId : Nat) (hmaster : s.dev.splice.master = true) :
    ∃ syncPend calSyncDue syncSent, exec (.spliceCalReport modId) s = .next { s with dev := { s.dev with
      conv := { s.dev.conv with syncPend := syncPend, calSyncDue := calSyncDue }
      splice := { s.dev.splice with
        peers := s.dev.splice.peers.map fun p => if p.modId = modId then { p with calDone := true } else p
        syncSent := syncSent } } } := by
  obtain ⟨syncPend, due, syncSent, hsync⟩ := Dev.postCalSync_eq { s.dev with splice := { s.dev.splice with
    peers := s.dev.splice.peers.map fun p => if p.modId = modId then { p with calDone := true } else p } } s.time.n
  refine ⟨syncPend, due, syncSent, ?_⟩
  change execSpliceCalReport modId s = _
  rw [execSpliceCalReport, if_neg (by simp [hmaster])]
  exact congrArg (fun d => Host.Outcome.next { s with dev := d }) hsync

theorem getD_set_false (l : List Bool) (i : Nat) : (l.set i false).getD i false = false := by
  rw [List.getD_eq_getElem?_getD, List.getElem?_set_self']
  cases l[i]? with
  | none => rfl
  | some _ => rfl

/-- Settles O60: links and messages change the splice's part first, and a raise or the choice of a source leaves it.
That the module succeeds at 3 counted ticks and that T0 moves by a count of periods is assumption 43. -/
theorem splicedModulesShareTheirTiming : Obligations.SplicedModulesShareTheirTiming := by
  refine ⟨fun port modId serial tracer s hport hlink hmode => ?linkUp,
    fun s hrun hn helected hlower => ?election, fun i s hslave hlower hwhen => ?succession,
    fun t0 tif sfn hfc s hrun hmode hslave hmaster => ?timing, fun port s hport hup => ?staysDown,
    fun port s hport hup => ?retrains, fun m r i s hrun hmaster hnew hfree => ?candidate,
    fun modId s hmaster => ?calibration⟩
  case linkUp =>
    let p : Peer := { modId := modId % 4, serial := serial, tracer := tracer, port := port, calDone := false }
    obtain ⟨hpeers, hlinks⟩ := (s.dev.meetPeer s.ctx p).heedPeer_links s.ctx p
    rw [Dev.meetPeer_splice] at hpeers hlinks
    refine ⟨_, p, exec_spliceLinkUp modId serial tracer hport hmode, ?_, rfl, rfl, rfl, rfl, ?_,
      ⟨rfl, rfl, rfl, rfl, rfl, rfl, rfl⟩⟩
    · rw [State.onDev_dev, hpeers]
      exact List.mem_append_right _ (List.mem_singleton_self _)
    · rw [State.onDev_dev, hlinks]
      simp [Splice.linked, List.getD, hlink, p]
  case election =>
    obtain ⟨hmaster, helect, hid, -⟩ := s.becomeMaster_masters
    exact ⟨_, exec_electionTimeout hrun hn helected hlower, hmaster, helect, hid, s.becomeMaster_modes,
      s.becomeMaster_setup, s.becomeMaster_nv, s.becomeMaster_rings⟩
  case succession =>
    have hbecomes : ∃ d, exec i s = .next ({ s with dev := d } : State).becomeMaster := by
      obtain ⟨rfl, hrun, hwin⟩ | ⟨rfl, hlost⟩ := hwhen
      · exact ⟨s.dev, exec_masterTakeover hrun hwin hslave hlower⟩
      · exact exec_masterLost hslave hlost hlower
    obtain ⟨d, hexec⟩ := hbecomes
    obtain ⟨hmaster, -, hid, hfollows⟩ := ({ s with dev := d } : State).becomeMaster_masters
    exact ⟨_, hexec, hmaster, hid, hfollows, congrArg _ (State.becomeMaster_time _), State.becomeMaster_modes _,
      State.becomeMaster_setup _, State.becomeMaster_nv _, State.becomeMaster_rings _⟩
  case timing =>
    obtain ⟨_, _, _, _, hexec⟩ := exec_spliceTimingMessage t0 tif sfn hfc hrun hmode hslave hmaster
    exact ⟨_, hexec, rfl, rfl, rfl, rfl, rfl, rfl⟩
  case staysDown =>
    have hsplice := Dev.raise_splice { s.dev with splice := { s.dev.splice with
      peers := s.dev.splice.peers.filter fun p => p.port != port
      linkUp := s.dev.splice.linkUp.set port false } } s.ctx (src := 11) (unit := port) 3 s.time.sub rfl
    refine ⟨_, exec_splicePortDown true hport hup, fun p => ?_, ?_, ⟨rfl, rfl, rfl, rfl, rfl, rfl, rfl⟩⟩
    · rw [State.onDev_dev, if_pos rfl]
      dsimp only
      rw [State.ctx_time, hsplice]
      simp
    · rw [State.onDev_dev, if_pos rfl]
      dsimp only
      rw [State.ctx_time, hsplice]
      exact getD_set_false _ _
  case retrains =>
    exact ⟨_, exec_splicePortDown false hport hup, s.dev.raise_splice s.ctx (src := 11) (unit := port) 1 s.time.sub rfl,
      rfl, rfl, rfl, rfl, rfl, rfl, rfl⟩
  case candidate =>
    obtain ⟨host, hmerge⟩ := Dev.mergeReport_of_new s.ctx m hnew hfree
    let u := s.onDev fun c d => d.mergeReport c m r
    have hu : u = { s with dev := _ } := congrArg (fun d => { s with dev := d }) hmerge
    obtain ⟨len, _, hsettle, ptr, prt, host', rfl, hsame⟩ :=
      (u.settleLock_steered none).trans (State.settleSync_steered _)
    rw [hu] at hsame
    obtain ⟨y, hy, _, _, _, _, _, rfl⟩ := hsame.mem (List.mem_append_right _ (List.mem_singleton_self _))
    exact ⟨_, _, (exec_spliceCandidateReport m r hrun hmaster).trans (congrArg _ hsettle), hy, rfl, rfl, rfl, rfl, rfl,
      rfl, rfl, rfl, rfl, rfl⟩
  case calibration =>
    obtain ⟨_, _, _, hexec⟩ := exec_spliceCalReport modId hmaster
    refine ⟨_, hexec, fun p hp hid => ?_, ⟨rfl, rfl, rfl, rfl, rfl, rfl, rfl⟩, rfl⟩
    obtain ⟨q, -, rfl⟩ := List.mem_map.mp hp
    by_cases hq : q.modId = modId
    · rw [if_pos hq]
    · rw [if_neg hq] at hid
      exact absurd hid hq

end Sys2Proof.Machine
end

section
/-! PROOFS. The synthesizer's lock and its loss, and SYNC: who may ask for one, when, and what its instant restarts
(R79, R80, R86 to R90, R133, R416). -/

namespace Sys2Proof.Machine

/-! ### The synthesizer (R79, R80) -/

theorem exec_synthLock_starts {s : State} (hmode : s.modes.mode ≠ .reset) (hpower : s.dev.boot.powered = true)
    (hrun : s.time.running = false) :
    exec .synthLock s = .next { s with
      time := { s.time with n := 0, tif := 0, sfn := 0, hfc := 0, running := true, window := .plan, sub := 0 }
      dev := ({ s.dev with conv := { s.dev.conv with refOk := true, locked := true } } : Dev).powerTiles
        s.ident.member 2 } := by
  change execSynthLock s = _
  rw [execSynthLock, if_neg (by simp [hmode, hpower]), if_neg (by simp [hrun])]

theorem exec_synthLock_running {s : State} (hmode : s.modes.mode ≠ .reset) (hpower : s.dev.boot.powered = true)
    (hrun : s.time.running = true) :
    exec .synthLock s = .next { s with
      dev := { s.dev with conv := { s.dev.conv with refOk := true, locked := true } } } := by
  change execSynthLock s = _
  rw [execSynthLock, if_neg (by simp [hmode, hpower]), if_pos hrun]

/-- A trigger that holds no mute yet waits for the next Plan window, and changes nothing else (R277). -/
theorem Dev.dueTrigger_of_not_holds {d : Dev} {trig level scope : Nat} (hfree : d.holds trig level scope = false) :
    ∃ due, d.dueTrigger trig level scope = { d with prt := { d.prt with due := due } } ∧
      ∃ w, w ∈ due ∧ w.trig = trig ∧ w.level = level ∧ w.scope = scope := by
  rw [Dev.dueTrigger, if_neg (by simp [hfree])]
  split
  case isTrue hany =>
    obtain ⟨w, hw, hsame⟩ := List.any_eq_true.mp hany
    exact ⟨d.prt.due, rfl, w, hw, by simpa [and_assoc] using hsame⟩
  case isFalse =>
    exact ⟨_, rfl, _, List.mem_append_right _ (List.mem_singleton_self _), rfl, rfl, rfl⟩

theorem exec_synth_unlocks {s : State} (lost : Bool) (hmode : s.modes.mode ≠ .reset)
    (hlocked : s.dev.conv.locked = true) :
    exec (.synth lost) s = .next { s with dev := ({ s.dev with conv := { s.dev.conv with
      refOk := s.dev.conv.refOk && !lost
      locked := false } } : Dev).dueTrigger 10 4 0 } := by
  change execSynth lost s = _
  rw [execSynth, if_neg hmode]
  dsimp only
  rw [if_pos hlocked]

/-! ### Asking for a SYNC (R86 to R88) -/

theorem Dev.askSync_of_none {d : Dev} (tick : Nat) (hnone : d.conv.syncPend = none) :
    d.askSync tick = { d with
      conv := { d.conv with syncPend := some tick }
      splice := { d.splice with syncSent := some tick } } := by
  simp only [Dev.askSync, hnone]

theorem Dev.askSync_of_some {d : Dev} {n : Nat} (tick : Nat) (hsome : d.conv.syncPend = some n) :
    d.askSync tick = d := by
  simp only [Dev.askSync, hsome]

/-- The first SYNC asked for stands, whatever tick is asked for later (R88). -/
@[simp] theorem Dev.askSync_conv (d : Dev) (tick : Nat) :
    (d.askSync tick).conv = { d.conv with syncPend := some (d.conv.syncPend.getD tick) } := by
  cases hpend : d.conv.syncPend with
  | none => rw [askSync_of_none tick hpend, Option.getD_none]
  | some n => rw [askSync_of_some tick hpend, Option.getD_some, ← hpend]

theorem Dev.askSync_syncTick (d : Dev) (tick : Nat) : (d.askSync tick).syncTick = d.conv.syncPend.getD tick := by
  rw [Dev.syncTick, askSync_conv, Option.getD_some]

theorem exec_sync {h : CmdHdr} {s : State} (hmode : modeAccepts s.modes.mode 0x0105 = true)
    (hslave : s.dev.isSlave = false) (hbars : s.dev.qual.bars = false) :
    exec (.sync h) s = .next { s with
      dev := (s.dev.fetched.askSync ((s.time.n + 2) % 2 ^ 32)).okAt 0x0105 h
        (s.dev.conv.syncPend.getD ((s.time.n + 2) % 2 ^ 32)) } := by
  have hslave' : s.dev.fetched.isSlave = false := hslave
  change Host.Outcome.next (cmdSync h s.fetched) = _
  rw [cmdSync, State.onDev_accept (by simp [hmode, hslave', hbars])]
  dsimp only
  rw [Dev.askSync_syncTick]
  rfl

theorem exec_sync_first {h : CmdHdr} {s : State} (hmode : modeAccepts s.modes.mode 0x0105 = true)
    (hslave : s.dev.isSlave = false) (hbars : s.dev.qual.bars = false) (hnone : s.dev.conv.syncPend = none) :
    exec (.sync h) s = .next (({ s with dev := { s.dev with
      conv := { s.dev.conv with syncPend := some ((s.time.n + 2) % 2 ^ 32) }
      splice := { s.dev.splice with syncSent := some ((s.time.n + 2) % 2 ^ 32) } } }).answered 0x0105 h 0 0
        (some ((s.time.n + 2) % 2 ^ 32)) []) := by
  rw [exec_sync hmode hslave hbars, Dev.askSync_of_none (d := s.dev.fetched) _ hnone, hnone, Option.getD_none]
  rfl

theorem exec_sync_again {h : CmdHdr} {n : Nat} {s : State} (hmode : modeAccepts s.modes.mode 0x0105 = true)
    (hslave : s.dev.isSlave = false) (hbars : s.dev.qual.bars = false) (hsome : s.dev.conv.syncPend = some n) :
    exec (.sync h) s = .next (s.answered 0x0105 h 0 0 (some n) []) := by
  rw [exec_sync hmode hslave hbars, Dev.askSync_of_some (d := s.dev.fetched) _ hsome, hsome, Option.getD_some,
    State.fetched_okAt]

theorem exec_syncInEdge_first {s : State} (hmode : syncMode s.modes.mode = true) (hslave : s.dev.isSlave = false)
    (hbars : s.dev.qual.bars = false) (hnone : s.dev.conv.syncPend = none) :
    exec .syncInEdge s = .next { s with dev := { s.dev with
      conv := { s.dev.conv with syncPend := some ((s.time.n + 2) % 2 ^ 32) }
      splice := { s.dev.splice with syncSent := some ((s.time.n + 2) % 2 ^ 32) } } } := by
  have hreset : s.modes.mode ≠ .reset := fun h => by simp [h, syncMode] at hmode
  have haccept : syncMode s.modes.mode && !s.dev.isSlave && !s.dev.qual.bars := by simp [hmode, hslave, hbars]
  change execSyncInEdge s = _
  rw [execSyncInEdge, if_neg hreset]
  exact congrArg (fun d => Host.Outcome.next { s with dev := d })
    ((if_pos haccept).trans (Dev.askSync_of_none _ hnone))

theorem syncMode_of_isRelay : {m : Mode} → isRelay m = true → syncMode m = false
  | .relayOpen, _ | .relaySteered, _ | .relayNetwork, _ => rfl

theorem exec_syncInEdge_ignored {s : State} (hmode : s.modes.mode ≠ .reset) (hrefuse : syncMode s.modes.mode = false) :
    exec .syncInEdge s = .next (s.onDev fun c d =>
      ({ d with conv := { d.conv with syncIgn := satAdd 8 d.conv.syncIgn 1 } } : Dev).raise c 13 0 0 c.time.sub) := by
  have hrefuse' : ¬(syncMode s.modes.mode && !s.dev.isSlave && !s.dev.qual.bars) := by simp [hrefuse]
  change execSyncInEdge s = _
  rw [execSyncInEdge, if_neg hmode]
  exact congrArg (fun d => Host.Outcome.next { s with dev := d }) (if_neg hrefuse')

/-! ### The SYNC instant (R86, R133) -/

theorem exec_syncInstant {s : State} (hrun : s.time.running = true) (hwin : s.time.window = .plan)
    (hpend : s.dev.conv.syncPend = some s.time.n) :
    exec .syncInstant s = .next { s with
      time := { s.time with syncConv := s.time.conv }
      dev := ({ s.dev with conv := { s.dev.conv with
        syncPend := none
        lastSync := s.time.n } } : Dev).restartGrid.markUns s.dev.reef.plan 0 fun _ => true } := by
  change execSyncInstant s = _
  rw [execSyncInstant, if_neg (by simp [hrun, hwin, hpend])]

/-- A restarted grid has the same running yarns. -/
theorem Dev.restartGrid_runningYarns (d : Dev) (r : RPlan) (keep : Nat → Bool) :
    d.restartGrid.runningYarns r keep = d.runningYarns r keep := rfl

/-- Each yarn that is selected has a run of unsettled samples from the instant on (R133). -/
theorem Dev.mem_markUns {d : Dev} {r : RPlan} {u : Int} {sel : Nat × Nat × Nat → Bool} {e : Nat × Nat × Nat}
    (he : e ∈ d.runningYarns r fun _ => true) (hsel : sel e = true) :
    (e.1, unsettled e.2.1, firstSample (indexRho e.2.1) u) ∈ (d.markUns r u sel).conv.uns :=
  List.mem_append_right _ (List.mem_map_of_mem (List.mem_filter.mpr ⟨he, hsel⟩))

/-- Settles O27: that the grid starts with tick 0 in its Plan window at the lock is assumption 44. -/
theorem synthesizerAndSync : Obligations.SynthesizerAndSync := by
  refine ⟨fun s hmode hpower hrun => exec_synthLock_starts hmode hpower hrun,
    fun s hmode hpower hrun => exec_synthLock_running hmode hpower hrun,
    fun lost s hmode hlocked hfree => ?unlocks,
    fun h s hmode hslave hbars hnone => exec_sync_first hmode hslave hbars hnone,
    fun h n s hmode hslave hbars hsome => exec_sync_again hmode hslave hbars hsome,
    fun s hmode hslave hbars hnone => exec_syncInEdge_first ?accepts hslave hbars hnone,
    fun s hrelay => ?ignored, fun s hrun hwin hpend => ?instant, fun n s hslave => ?message⟩
  case unlocks =>
    obtain ⟨due, hdue, hw⟩ := Dev.dueTrigger_of_not_holds (d := { s.dev with conv := { s.dev.conv with
      refOk := s.dev.conv.refOk && !lost
      locked := false } }) hfree
    rw [exec_synth_unlocks lost hmode hlocked, hdue]
    exact ⟨_, rfl, rfl, rfl, hw, ⟨rfl, rfl, rfl, rfl, rfl, rfl, rfl⟩, rfl⟩
  case accepts =>
    obtain h | h | h := hmode <;> simp [h, syncMode]
  case ignored =>
    have hmode : s.modes.mode ≠ .reset := fun h => by simp [h, isRelay] at hrelay
    obtain ⟨_, _, _, _, _, hraise, -⟩ := Dev.raise_noted
      { s.dev with conv := { s.dev.conv with syncIgn := satAdd 8 s.dev.conv.syncIgn 1 } } s.ctx (src := 13) (unit := 0)
      0 s.ctx.time.sub rfl
    refine ⟨_, exec_syncInEdge_ignored hmode (syncMode_of_isRelay hrelay), ?_, ?_, ⟨rfl, rfl, rfl, rfl, rfl, rfl, rfl⟩⟩
    · rw [State.onDev_dev, hraise]
      rfl
    · rw [State.onDev_dev, hraise]
  case instant =>
    refine ⟨_, exec_syncInstant hrun hwin hpend, rfl, rfl, rfl, rfl, fun e he => ?_, rfl, rfl, rfl, rfl, rfl⟩
    refine Dev.mem_markUns ?_ rfl
    rw [Dev.restartGrid_runningYarns]
    exact he
  case message =>
    change execSpliceSyncMessage n s = _
    rw [execSpliceSyncMessage, if_neg (by simp [hslave])]
    rfl

end Sys2Proof.Machine
end

section
/-! PROOFS. Converter calibration (R90 to R94, R483, R511): what a calibrated strand holds, the waves of start-up, and
the groups and the end of a CAL.RUN. -/

namespace Sys2Proof.Machine

/-! ### What the raises of failed strands leave -/

/-- The same in what calibration writes and reads: the converters, Painter, the spliced modules, and whether start-up
calibration is done. A raise changes none of these. -/
def Dev.SameCal (d e : Dev) : Prop :=
  e.conv = d.conv ∧ e.ptr = d.ptr ∧ e.splice = d.splice ∧ e.boot.calDone = d.boot.calDone

theorem Dev.SameCal.refl (d : Dev) : d.SameCal d := ⟨rfl, rfl, rfl, rfl⟩

theorem Dev.SameCal.trans {d e f : Dev} (hde : d.SameCal e) (hef : e.SameCal f) : d.SameCal f := by
  obtain ⟨hconv, hptr, hsplice, hdone⟩ := hde
  obtain ⟨hconv', hptr', hsplice', hdone'⟩ := hef
  exact ⟨hconv'.trans hconv, hptr'.trans hptr, hsplice'.trans hsplice, hdone'.trans hdone⟩

theorem Dev.SameCal.foldl {α : Type} {step : Dev → α → Dev} (hstep : ∀ (d : Dev) a, d.SameCal (step d a))
    (l : List α) (d : Dev) : d.SameCal (l.foldl step d) := by
  induction l generalizing d with
  | nil => exact .refl d
  | cons a l ih => exact (hstep d a).trans (ih _)

theorem Dev.blockState_sameCal (d : Dev) (c : Ctx) (h sub : Nat) : d.SameCal (d.blockState c h sub) := by
  obtain ⟨_, hpend⟩ := discardPend_eq c sub d.pend d
  unfold Dev.blockState Dev.discardBook Dev.discardMode
  rw [hpend]
  dsimp only
  split <;> split <;> simp [SameCal, Dev.discardEvent]

theorem Dev.startBlockReset_sameCal (d : Dev) (c : Ctx) (h sub : Nat) : d.SameCal (d.startBlockReset c h sub) := by
  unfold Dev.startBlockReset
  split
  · exact .refl d
  · refine (d.blockState_sameCal c h sub).trans ?_
    simp [SameCal]

theorem Dev.react_sameCal (d : Dev) (c : Ctx) (src sev unit sub : Nat) (r : Reaction) :
    d.SameCal (d.react c src sev unit sub r) := by
  unfold Dev.react
  extract_lets lvl0 lvl supp drive s stop t low flags logged posted sent
  have hsent : d.SameCal sent := by
    unfold sent
    split <;> simp [SameCal, posted, logged, low]
  split
  · exact hsent.trans ⟨rfl, rfl, rfl, rfl⟩
  split
  · split
    · exact hsent.trans (startBlockReset_sameCal ..)
    · exact hsent
  split
  · exact hsent
  · exact hsent

theorem Dev.raise_sameCal (d : Dev) (c : Ctx) (src sev unit sub : Nat) : d.SameCal (d.raise c src sev unit sub) := by
  unfold Dev.raise
  split
  · exact .refl d
  split
  · exact .refl d
  have hreact (stop : Stopper) (log) (r : Reaction) :
      d.SameCal (({ d with stop := stop, log := log } : Dev).react c src sev unit sub r) :=
    SameCal.trans ⟨rfl, rfl, rfl, rfl⟩ (react_sameCal { d with stop := stop, log := log } ..)
  dsimp only
  split
  · exact hreact ..
  split
  · exact hreact ..
  split
  · exact hreact ..
  · exact ⟨rfl, rfl, rfl, rfl⟩

/-! ### Calibrated strands (R93, R483) -/

/-- Places changed one after the other, none of them twice. -/
theorem getElem?_foldl_modify {α : Type} (f : Nat → α → α) {gs : List Nat} (hgs : gs.Nodup) (l : List α) (i : Nat) :
    (gs.foldl (fun l g => l.modify g (f g)) l)[i]? = if i ∈ gs then l[i]?.map (f i) else l[i]? := by
  induction gs generalizing l with
  | nil => simp
  | cons g gs ih =>
    obtain ⟨hg, hgs⟩ := List.nodup_cons.mp hgs
    rw [List.foldl_cons, ih hgs, List.getElem?_modify]
    by_cases hi : g = i
    · subst hi
      simp [hg]
    · simp [hi, Ne.symm hi]

theorem getD_foldl_modify_of_mem {α : Type} (f : Nat → α → α) {gs : List Nat} (hgs : gs.Nodup) {l : List α} {i : Nat}
    (hi : i ∈ gs) (hlt : i < l.length) (x : α) :
    (gs.foldl (fun l g => l.modify g (f g)) l).getD i x = f i (l.getD i x) := by
  simp [List.getD_eq_getElem?_getD, getElem?_foldl_modify f hgs, hi, hlt]

theorem getD_foldl_modify_of_not_mem {α : Type} (f : Nat → α → α) {gs : List Nat} (hgs : gs.Nodup) (l : List α)
    {i : Nat} (hi : ¬(i ∈ gs)) (x : α) :
    (gs.foldl (fun l g => l.modify g (f g)) l).getD i x = l.getD i x := by
  simp [List.getD_eq_getElem?_getD, getElem?_foldl_modify f hgs, hi]

/-- What the end of its calibration makes of strand g. -/
def State.strandAfter (s : State) (res : List StrandCal) (g : Nat) (x : Strand) : Strand :=
  (x.calibrated (s.nv.calStore.getD g default) (calResult res g)).saturate

/-- The strand entries after strands gs end their calibration. -/
def State.strandsAfter (s : State) (gs : List Nat) (res : List StrandCal) : List Strand :=
  gs.foldl (fun l g => l.modify g (s.strandAfter res g)) s.dev.conv.strands

/-- What the end of its calibration makes of the entry of strand g. -/
def entryAfter (res : List StrandCal) (g : Nat) (e : CalEntry) : CalEntry := e.after (calResult res g)

@[simp] theorem entryAfter_valid (res : List StrandCal) (g : Nat) (e : CalEntry) :
    (entryAfter res g e).valid = strandOk (calResult res g) := by
  rw [entryAfter, CalEntry.after]
  split
  case isTrue hok => exact hok.symm
  case isFalse hfail => exact (Bool.eq_false_iff.mpr hfail).symm

theorem entryAfter_temp {res : List StrandCal} {g : Nat} (e : CalEntry) (hok : strandOk (calResult res g) = true) :
    (entryAfter res g e).temp = (calResult res g).temp := by
  rw [entryAfter, CalEntry.after, if_pos hok]

/-- The calibration store after strands gs end their calibration. -/
def State.storeAfter (s : State) (gs : List Nat) (res : List StrandCal) : List CalEntry :=
  gs.foldl (fun l g => l.modify g (entryAfter res g)) s.nv.calStore

theorem State.calibrate_nv (s : State) (gs : List Nat) (res : List StrandCal) :
    (s.calibrate gs res).nv = { s.nv with calStore := s.storeAfter gs res } := rfl

/-- Raises of the strands that failed leave what else calibration has done. -/
theorem State.calibrate_sameCal (s : State) (gs : List Nat) (res : List StrandCal) :
    ({ s.dev with conv := { s.dev.conv with strands := s.strandsAfter gs res } } : Dev).SameCal
      (s.calibrate gs res).dev :=
  Dev.SameCal.foldl (fun d _ => d.raise_sameCal ..) _ _

theorem State.calibrate_conv (s : State) (gs : List Nat) (res : List StrandCal) :
    (s.calibrate gs res).dev.conv = { s.dev.conv with strands := s.strandsAfter gs res } :=
  (s.calibrate_sameCal gs res).1

theorem State.calibrate_hawsers (s : State) (gs : List Nat) (res : List StrandCal) :
    (s.calibrate gs res).ctx.hawsers = s.ctx.hawsers := by
  rw [Ctx.hawsers, State.ctx_ident, calibrate_ident, Ctx.hawsers, State.ctx_ident]

theorem State.Calibrated.congr {t u : State} {res : List StrandCal} {g : Nat} (h : t.Calibrated res g)
    (hstrands : u.dev.conv.strands = t.dev.conv.strands) (hstore : u.nv.calStore = t.nv.calStore) :
    u.Calibrated res g := by
  simpa only [State.Calibrated, Dev.strand, hstrands, hstore] using h

/-- A calibrated strand holds its result, and so does its entry of the store. -/
theorem State.calibrate_calibrated {s : State} {gs : List Nat} (res : List StrandCal) {g : Nat} (hgs : gs.Nodup)
    (hg : g ∈ gs) (hstrand : g < s.dev.conv.strands.length) (hstore : g < s.nv.calStore.length) :
    (s.calibrate gs res).Calibrated res g := by
  have hx : (s.calibrate gs res).dev.strand g = s.strandAfter res g (s.dev.strand g) := by
    rw [Dev.strand, calibrate_conv]
    exact getD_foldl_modify_of_mem (s.strandAfter res) hgs hg hstrand _
  have he : (s.calibrate gs res).nv.calStore.getD g default = entryAfter res g (s.nv.calStore.getD g default) :=
    getD_foldl_modify_of_mem (entryAfter res) hgs hg hstore _
  rw [State.Calibrated, hx, he]
  exact ⟨rfl, rfl, rfl, entryAfter_valid .., entryAfter_temp _⟩

theorem State.calibrate_other {s : State} {gs : List Nat} (res : List StrandCal) {g : Nat} (hgs : gs.Nodup)
    (hg : ¬(g ∈ gs)) :
    (s.calibrate gs res).dev.strand g = s.dev.strand g ∧
      (s.calibrate gs res).nv.calStore.getD g default = s.nv.calStore.getD g default := by
  constructor
  · rw [Dev.strand, calibrate_conv]
    exact getD_foldl_modify_of_not_mem (s.strandAfter res) hgs _ hg _
  · exact getD_foldl_modify_of_not_mem (entryAfter res) hgs _ hg _

/-! ### Start-up waves (R90, R94) -/

/-- The 16 strands of a start-up wave. -/
def waveStrands (wave : Nat) : List Nat := (List.range 16).map fun i => 16 * wave + i

theorem waveStrands_nodup (wave : Nat) : (waveStrands wave).Nodup :=
  List.nodup_range.map fun _ _ h => Nat.add_left_cancel h

theorem mem_waveStrands {wave g : Nat} : g ∈ waveStrands wave ↔ g / 16 = wave := by
  simp only [waveStrands, List.mem_map, List.mem_range]
  constructor
  · rintro ⟨i, hi, rfl⟩
    omega
  · rintro rfl
    exact ⟨g % 16, by omega, by omega⟩

theorem exec_calWaveDone_startUp {s : State} (res : List StrandCal) (hmode : s.modes.mode = .boot)
    (hrun : s.time.running = true) (hdone : s.dev.boot.calDone = false) (hnone : s.dev.conv.calRun = none) :
    exec (.calWaveDone res) s =
      .next ((s.calibrate (waveStrands s.dev.conv.wave) res).nextWave s.dev.conv.wave) := by
  change execCalWaveDone res s = _
  simp only [execCalWaveDone, hnone]
  rw [if_neg (by simp [hmode, hrun, hdone])]
  rfl

theorem State.nextWave_strands (s : State) (wave : Nat) :
    (s.nextWave wave).dev.conv.strands = s.dev.conv.strands := by
  unfold State.nextWave
  split
  · rfl
  · obtain ⟨_, _, _, hsync⟩ := Dev.postCalSync_eq { s.dev with
      conv := { s.dev.conv with calSyncDue := true }
      boot := { s.dev.boot with calDone := true } } s.ctx.n
    rw [State.onDev_dev, hsync]

theorem State.nextWave_begins {s : State} {wave : Nat} (h : wave + 1 < s.ctx.hawsers) :
    (s.nextWave wave).dev.conv.wave = wave + 1 ∧ (s.nextWave wave).dev.boot = s.dev.boot := by
  rw [State.nextWave, if_pos h]
  exact ⟨rfl, rfl⟩

theorem State.nextWave_ends {s : State} {wave : Nat} (h : s.ctx.hawsers ≤ wave + 1) :
    (s.nextWave wave).dev.boot.calDone = true := by
  rw [State.nextWave, if_neg (Nat.not_lt.mpr h), State.onDev_dev, Dev.postCalSync_boot]

/-! ### CAL.RUN (R511) -/

theorem exec_calRun_begins {h : CmdHdr} {first count : Nat} {s : State} (hcount : count ≠ 0)
    (hfit : first + count ≤ s.ctx.strands) (hmode : s.modes.mode = .maintenance)
    (hnone : s.dev.conv.calRun = none) :
    exec (.calRun h first count) s = .next (s.fetched.setCalRun
      { hdr := h, first := first, count := count, good := 0, failed := 0 }) := by
  have haccept : modeAccepts .maintenance 0x0106 = true := rfl
  change Host.Outcome.next (cmdCalRun h first count s.fetched) = _
  rw [cmdCalRun, State.onDev_accept (by simp [beq_false_of_ne hcount, Nat.not_lt.mpr hfit, hmode, haccept, hnone])]
  rfl

theorem exec_calWaveDone_group {s : State} {w : CalRunSt} (res : List StrandCal)
    (hsome : s.dev.conv.calRun = some w) :
    exec (.calWaveDone res) s = .next ((s.calibrate w.group res).setCalRun (w.took w.group res)) := by
  change execCalWaveDone res s = _
  simp only [execCalWaveDone, hsome]

theorem CalRunSt.group_nodup (w : CalRunSt) : w.group.Nodup := List.nodup_range.map fun _ _ h => Nat.add_left_cancel h
theorem CalRunSt.rest_nodup (w : CalRunSt) : w.rest.Nodup := List.nodup_range.map fun _ _ h => Nat.add_left_cancel h

theorem CalRunSt.group_subset_rest (w : CalRunSt) : w.group ⊆ w.rest :=
  List.map_subset _ (List.range_subset.mpr (Nat.min_le_right ..))

theorem CalRunSt.lt_of_mem_rest {w : CalRunSt} {g : Nat} (hg : g ∈ w.rest) : g < w.first + w.count := by
  obtain ⟨i, hi, rfl⟩ := List.mem_map.mp hg
  have := List.mem_range.mp hi
  omega

theorem Dev.askSync_isSlave (d : Dev) (tick : Nat) : (d.askSync tick).isSlave = d.isSlave := by
  rw [Dev.isSlave, askSync_ptr, Dev.isSlave]

/-- A module alone asks a SYNC for the next T0 and completes with the tick of the one that is then pending (R94). -/
theorem exec_calRunDone_alone {s : State} {w : CalRunSt} (res : List StrandCal) (hsome : s.dev.conv.calRun = some w)
    (hslave : s.dev.isSlave = false) (hpeers : s.dev.splice.peers = []) :
    exec (.calRunDone res) s = .next ((s.calibrate w.rest res).onDev fun c d =>
      (({ d with conv := { d.conv with calRun := none } } : Dev).askSync ((c.n + 1) % 2 ^ 32)).complete 0x0106 w.hdr 0 0
        (some (s.dev.conv.syncPend.getD ((c.n + 1) % 2 ^ 32)))
        (leBytes 2 (w.took w.rest res).good ++ leBytes 2 (w.took w.rest res).failed)) := by
  obtain ⟨hconv, hptr, hsplice, -⟩ := s.calibrate_sameCal w.rest res
  have hslave' (conv : Conv) : ({ (s.calibrate w.rest res).dev with conv := conv } : Dev).isSlave = false := by
    rw [Dev.isSlave, hptr]
    exact hslave
  have hpeers' : (s.calibrate w.rest res).dev.splice.peers.isEmpty = true := by simp [hsplice, hpeers]
  have hpend : (s.calibrate w.rest res).dev.conv.syncPend = s.dev.conv.syncPend := by rw [hconv]
  change execCalRunDone res s = _
  simp only [execCalRunDone, hsome, State.onDev, hslave', hpeers', Dev.askSync_isSlave, Dev.askSync_syncTick, hpend,
    Bool.false_eq_true, if_false, if_true]
  rfl

/-- Settles O28: calibration changes the strands and the store at its strands alone, and the raises of those that failed
leave both. -/
theorem calibrationRunsAndEnds : Obligations.CalibrationRunsAndEnds := by
  refine ⟨fun h first count s hcount hfit hmode hnone => exec_calRun_begins hcount hfit hmode hnone,
    fun res s hmode hrun hdone hnone hstrands hstore hwave => ?wave,
    fun w res s hsome hstrands hstore hfit => ?group,
    fun w res good failed tick s hsome hstrands hstore hfit hslave hpeers hgood hfailed htick => ?done⟩
  case wave =>
    obtain ⟨-, -, -, hkeep⟩ := s.calibrate_sameCal (waveStrands s.dev.conv.wave) res
    have hnodup := waveStrands_nodup s.dev.conv.wave
    have hnext := State.nextWave_strands (s.calibrate (waveStrands s.dev.conv.wave) res) s.dev.conv.wave
    have hhaw := s.calibrate_hawsers (waveStrands s.dev.conv.wave) res
    refine ⟨_, exec_calWaveDone_startUp res hmode hrun hdone hnone, fun g hg => ?_, fun g hg => ?_, fun hmore => ?_,
      fun hlast => State.nextWave_ends (hhaw.symm ▸ hlast), ?_, ?_, ?_, ?_⟩
    · refine (State.calibrate_calibrated res hnodup (mem_waveStrands.mpr hg) ?_ ?_).congr hnext ?_
      · omega
      · omega
      · rw [State.nextWave_nv]
    · rw [Dev.strand, hnext, State.nextWave_nv]
      exact State.calibrate_other res hnodup (mt mem_waveStrands.mp hg)
    · obtain ⟨hw, hboot⟩ := State.nextWave_begins (hhaw.symm ▸ hmore)
      exact ⟨hw, by rw [hboot, hkeep]; exact hdone⟩
    · rw [State.nextWave_time, State.calibrate_time]
    · rw [State.nextWave_modes, State.calibrate_modes]
    · rw [State.nextWave_setup, State.calibrate_setup]
    · rw [State.nextWave_rings, State.calibrate_rings]
  case group =>
    refine ⟨_, exec_calWaveDone_group res hsome, fun g hg => ?_, rfl, rfl, rfl, rfl, rfl⟩
    have hlt := CalRunSt.lt_of_mem_rest (w.group_subset_rest hg)
    exact (State.calibrate_calibrated res w.group_nodup hg (by omega) (by omega)).congr rfl rfl
  case done =>
    subst hgood hfailed htick
    refine ⟨_, exec_calRunDone_alone res hsome hslave hpeers, fun g hg => ?_, ?_, ?_, ?_, rfl, rfl, rfl, rfl⟩
    · have hlt := CalRunSt.lt_of_mem_rest hg
      refine (State.calibrate_calibrated res w.rest_nodup hg (by omega) (by omega)).congr ?_ rfl
      simp
    · rw [State.onDev_dev, Dev.complete_conv, Dev.askSync_conv]
    · rw [State.onDev_dev, Dev.complete_conv, Dev.askSync_conv, State.calibrate_conv]
      rfl
    · exact ⟨_, List.mem_append_right _ (List.mem_singleton_self _), rfl, rfl⟩

end Sys2Proof.Machine
end

section
/-! PROOFS. The front-end tables that FE.LOAD replaces and the yarn map that YARN.MAP reads (R114, R144). -/

namespace Sys2Proof.Machine

theorem exec_feLoad {h : CmdHdr} {nblk : Nat} {b : InBuf} {ns : List FeNode} {s : State} (hblk : nblk ≠ 0)
    (hbuf : InBufGood b 1) (hnodes : feNodesOf s.ctx.strands nblk (b.data.take b.len) = some ns)
    (hnodup : (ns.map (·.g)).Nodup) (hmode : modeAccepts s.modes.mode 0x0301 = true) :
    exec (.feLoad h nblk b) s = .next (({ s with dev := { s.dev with lyd := { s.dev.lyd with
      fe := (s.dev.lyd.fe.filter fun f : FeNode => ns.all fun m : FeNode => m.g != f.g) ++ ns } } }).answered
        0x0301 h 0 0 none []) := by
  change Host.Outcome.next (cmdFeLoad h nblk b s.fetched) = _
  rw [cmdFeLoad, State.onDev_accept (by
    simp [beq_false_of_ne hblk, firstFail_inChecks hbuf, hnodes, hnodup, hmode])]
  simp only [hnodes]
  rfl

theorem exec_yarnMap {h : CmdHdr} {first count : Nat} {o : OutBuf} {s : State} (hbuf : OutBufGood o)
    (hcount : count ≠ 0) (hfit : first + count ≤ Config.yarns s.ident.member)
    (hmode : modeAccepts s.modes.mode 0x0302 = true) (hroom : 16 * count ≤ o.len) :
    exec (.yarnMap h first count o) s = .next (s.outputs 0x0302 h o.addr
      ((List.range count).flatMap fun i => s.dev.fetched.mapEntry (first + i)) (leBytes 2 count)) := by
  change Host.Outcome.next (cmdYarnMap h first count o s.fetched) = _
  rw [cmdYarnMap, State.onDev_accept (by
    simp [firstFail_outChecks hbuf, beq_false_of_ne hcount, Nat.not_lt.mpr hfit, hmode, Nat.not_lt.mpr hroom]),
    State.fetched_startOutput]

/-- Settles O30: both commands pass their checks, and what they write is what the statement says. -/
theorem frontEndTablesAndYarnMap : Obligations.FrontEndTablesAndYarnMap :=
  ⟨fun _ _ _ _ _ hblk hbuf hnodes hnodup hmode => exec_feLoad hblk hbuf hnodes hnodup hmode,
    fun _ _ _ _ _ hbuf hcount hfit hmode hroom => exec_yarnMap hbuf hcount hfit hmode hroom⟩

end Sys2Proof.Machine
end

section
/-! PROOFS. Array calibration: the yarns that ARRAY.CAL reserves and the results that it delivers (R162, R163, R504). -/

namespace Sys2Proof.Machine

theorem modeAccepts_arrayCal {m : Mode} (hmode : m = .survey ∨ m = .maintenance) : modeAccepts m 0x0304 = true := by
  obtain rfl | rfl := hmode <;> rfl

theorem outside_of_within {x lo hi : Nat} (hlo : lo ≤ x) (hhi : x ≤ hi) : outside x lo hi = false := by
  simp [outside, hlo, hhi]

theorem exec_arrayCal {h : CmdHdr} {a : ArrayCalArgs} {o : OutBuf} {e : Dev} {s : State} (hbuf : OutBufGood o)
    (hside : outside a.side 1 2 = false) (hrho : outside a.rho 1 8 = false) (hticks : outside a.ticks 1 64 = false)
    (href : a.gRef ∈ sideStrands s.dev.plan.loaded a.side)
    (hseg : inSegment s.dev.plan.loaded a.centreKhz = true) (hmode : modeAccepts s.modes.mode 0x0304 = true)
    (hidle : s.dev.beams.arrayCal = none) (hroom : 16 * (sideStrands s.dev.plan.loaded a.side).length ≤ o.len)
    (hadmit : s.dev.fetched.admitAll ((sideStrands s.dev.plan.loaded a.side).map fun g =>
      mkYarn 4 0 s.ctx.effTick g a.centreKhz a.rho 0) = some e) :
    exec (.arrayCal h a o) s = .next { s with dev := { e with
      beams := { e.beams with arrayCal := some {
        gs := sideStrands s.dev.plan.loaded a.side, start := s.ctx.effTick, done := 0, hdr := h, a := a,
        addr := o.addr } } } } := by
  have hplan : s.dev.fetched.plan = s.dev.plan := rfl
  change Host.Outcome.next (cmdArrayCal h a o s.fetched) = _
  simp only [cmdArrayCal, State.onDev, State.ctx_fetched, State.fetched_dev, hplan]
  rw [guarded_accept (by
    simp [firstFail_outChecks hbuf, hside, hrho, hticks, href, hseg, hmode, hidle, Nat.not_lt.mpr hroom,
      hadmit]), hadmit]
  rfl

/-- Once it has integrated for its length, ARRAY.CAL delivers: a strand without a result gets 0 (assumption 65). -/
theorem exec_arrayCalDone_delivers {w : ArrayCalSt} {s : State} (rs : List ArrayRes)
    (hsome : s.dev.beams.arrayCal = some w) (hmaster : s.dev.host.mastering = true) (hdone : w.a.ticks ≤ w.done) :
    exec (.arrayCalDone rs) s = .next (s.onDev fun _ d =>
      let out := w.gs.map fun g =>
        (rs.find? fun r => r.g == g).getD { g := g, tau := 0, phase := 0, ampl := 0, qual := 0 }
      ({ d.freeYarns 4 0 with
        beams := { d.beams with arrayCal := none }
        host := { d.host with written := some (w.addr, out.flatMap arrayResult) } }).complete 0x0304 w.hdr 0 0 none
          (leBytes 2 out.length)) := by
  change execArrayCalDone rs s = _
  simp only [execArrayCalDone, hsome]
  rw [if_neg (by simp [hmaster, hdone])]
  rfl

/-- Before the end of its integration the end of ARRAY.CAL does nothing (assumption 3). -/
theorem exec_arrayCalDone_early {w : ArrayCalSt} {s : State} (rs : List ArrayRes)
    (hsome : s.dev.beams.arrayCal = some w) (hearly : w.done < w.a.ticks) : exec (.arrayCalDone rs) s = .next s := by
  change execArrayCalDone rs s = _
  simp only [execArrayCalDone, hsome]
  rw [if_pos (.inr hearly)]

/-- Settles O34: ARRAY.CAL passes its checks and reserves its yarns, and delivers once its length has passed. That a
strand without a result reads 0 is assumption 65, and that nothing happens before is assumption 3. -/
theorem arrayCalibration : Obligations.ArrayCalibration := by
  refine ⟨fun h a o e s hbuf hside1 hside2 hrho1 hrho8 hticks1 hticks64 href hseg hmode hidle hroom
      hadmit => ?admitted, fun w rs out s hsome hmaster hdone hout => ?delivered,
    fun _ rs _ hsome hearly => exec_arrayCalDone_early rs hsome hearly⟩
  case admitted =>
    exact exec_arrayCal hbuf (outside_of_within hside1 hside2) (outside_of_within hrho1 hrho8)
      (outside_of_within hticks1 hticks64) href hseg (modeAccepts_arrayCal hmode) hidle hroom hadmit
  case delivered =>
    subst hout
    exact exec_arrayCalDone_delivers rs hsome hmaster hdone

end Sys2Proof.Machine
end

section
/-! PROOFS. The endpoint weight switch: what the samples before an instant leave alone, the switch of a slot and its
release (R168 to R170, R207). -/

namespace Sys2Proof.Machine

/-! ### The samples before an instant -/

theorem State.feed_eq (s : State) (x : Samples) : s.feed x = { s with dev := { s.dev with
    tapes := (s.feed x).dev.tapes
    conv := { s.dev.conv with strands := (s.feed x).dev.conv.strands } } } := by
  obtain ⟨tapes, strands, hdev⟩ := s.feed_dev x
  have hframe : s.feed x = { s with dev := (s.feed x).dev } := by
    unfold State.feed
    split <;> rfl
  rw [hframe, hdev]

/-- A strand whose count of saturated TX words alone may differ (R137). -/
abbrev Strand.SameButClip (x y : Strand) : Prop := y = { x with txClip := y.txClip }

theorem Strand.SameButClip.trans {x y z : Strand} (hxy : x.SameButClip y) (hyz : y.SameButClip z) :
    x.SameButClip z := by
  rw [hxy] at hyz
  exact hyz

theorem Dev.countTx_strand (d : Dev) (g k i : Nat) : (d.strand i).SameButClip ((d.countTx g k).strand i) := by
  simp only [Dev.strand, Dev.countTx, List.getD_eq_getElem?_getD, List.getElem?_modify]
  cases d.conv.strands[i]? with
  | none => rfl
  | some x => by_cases hg : g = i <;> simp [hg]

theorem Dev.foldl_countTx_strand (clips : List Nat) (d : Dev) (i : Nat) :
    (d.strand i).SameButClip ((clips.foldl (fun d g => d.countTx g 1) d).strand i) := by
  induction clips generalizing d with
  | nil => rfl
  | cons g clips ih => exact (d.countTx_strand g 1 i).trans (ih (d.countTx g 1))

theorem State.feed_strand (s : State) (x : Samples) (i : Nat) :
    (s.dev.strand i).SameButClip ((s.feed x).dev.strand i) := by
  unfold State.feed
  split
  · exact Dev.foldl_countTx_strand _ { s.dev with tapes := _ } i
  · rfl

/-! ### The switch (R168, R169, R207) -/

/-- The device after the switch of a slot to an entry with recorded coefficients. -/
def Dev.switched (d : Dev) (c : Ctx) (bg slot : Nat) (w : Slot) (r : EntryRec) : Dev :=
  { d with
    beams := d.beams.onSlot bg slot fun y =>
      { y with on := true, vec := d.beams.entryVec bg w.entry, gains := d.slotGains w }
    can := { d.can with insts := d.can.insts.map fun i =>
      if i.a.vkind = 3 ∧ i.a.bg = bg ∧ i.a.beam = slot then i.load r.ul else i }
    hwsA := d.hwsA.modify ((bg + slot) % c.hawsers) fun h => { h with steerSw := min (h.steerSw + 1) 255 } }

theorem State.switchWeights_at_instant {u : State} {bg slot sub : Nat} {w : Slot} {r : EntryRec} {g : Int}
    (hslot : u.dev.beams.slot bg slot = some w) (hon : w.on = false) (hclosed : w.closed = false)
    (hmute : u.dev.slotMuted w = false) (hrun : u.time.window = .run)
    (hfirst : u.firstStart bg w.t0 w.at10 sub = true) (hformed : u.dev.slotFormed u.modes.mode w = true)
    (hgain : u.dev.slotGain w w.pos = some g) (hiso : u.dev.beams.entryIso bg w.entry = some r) :
    u.switchWeights bg slot sub = { u with dev := u.dev.switched u.ctx bg slot w r } := by
  simp [State.switchWeights, hslot, hon, hclosed, hmute, hrun, hfirst, hformed, hgain, hiso, State.onDev, Dev.onHwsA,
    Dev.switched, satAdd]

/-- min(C, G_guard + OFFSET) where both have a gain (R169). -/
theorem Dev.slotGain_eq_some {d : Dev} {w : Slot} {p : Nat} {c g : Int}
    (hceil : d.belGain (16384 + mkByid 1 w.bg 0 p) = some c) (hguard : d.belGain (mkByid 1 w.bg 0 p) = some g) :
    d.slotGain w p = some (min c (g + w.offset * dB16)) := by
  simp [Dev.slotGain, hceil, hguard]

theorem Dev.mem_slotGains {d : Dev} {w : Slot} {q : Seg} {p : Nat} {x : Int} (hseg : d.seg w.bg 1 = some q)
    (hp : p < q.ycount) (hgain : d.slotGain w p = some x) : (p, x) ∈ d.slotGains w := by
  refine List.mem_filterMap.mpr ⟨p, ?_, ?_⟩
  · simpa [hseg] using hp
  · simp [hgain]

/-! ### The release (R170, R207) -/

/-- A release takes the slot away and clears the coefficients of its instances; where its switch was still to come, its
hawser counts it as dropped. -/
theorem Dev.releaseSlot_eq (d : Dev) (c : Ctx) (w : Slot) : ∃ hwsA, d.releaseSlot c w = { d with
    beams := { d.beams with slots := d.beams.slots.erase w }
    can := { d.can with insts := d.can.insts.map fun i =>
      if i.a.vkind = 3 ∧ i.a.bg = w.bg ∧ i.a.beam = w.idx then { i with coefs := zeroCoefs i.a } else i }
    hwsA := hwsA } := by
  unfold Dev.releaseSlot
  dsimp only
  split
  · exact ⟨_, rfl⟩
  · exact ⟨d.hwsA, rfl⟩

theorem State.dropSlot_at_instant {u : State} {bg slot sub : Nat} {w : Slot}
    (hslot : u.dev.beams.slot bg slot = some w) (hclosed : w.closed = true) (hrun : u.time.window = .run)
    (hfirst : u.firstStart bg u.time.n w.shut sub = true) :
    u.dropSlot bg slot sub = { u with dev := u.dev.releaseSlot u.ctx w } := by
  simp [State.dropSlot, hslot, hclosed, hrun, hfirst, State.onDev]

/-- Settles O39: at its instant the samples have passed the relay path, which leaves all but the tapes and the counts of
saturated TX words, and then the slot switches or is released. -/
theorem steeringSlotsSwitchAndRelease : Obligations.SteeringSlotsSwitchAndRelease := by
  refine ⟨fun bg slot sub x w r g u s hu hslot hon hclosed hmute hrun hfirst hformed hgain hiso => ?switched,
    fun w q p c g d hseg hp hceil hguard => Dev.mem_slotGains hseg hp (Dev.slotGain_eq_some hceil hguard),
    fun bg slot sub x w u s hu hslot hclosed hrun hfirst => ?released,
    fun x s => s.feed_eq x, fun x g s _ => s.feed_strand x g⟩
  case switched =>
    subst hu
    change Host.Outcome.next ((s.feed x).switchWeights bg slot sub) = _
    rw [State.switchWeights_at_instant hslot hon hclosed hmute hrun hfirst hformed hgain hiso]
    rfl
  case released =>
    subst hu
    obtain ⟨hwsA, hrelease⟩ := (s.feed x).dev.releaseSlot_eq (s.feed x).ctx w
    refine ⟨(s.feed x).dropSlot bg slot sub, rfl, ?_⟩
    rw [State.dropSlot_at_instant hslot hclosed hrun hfirst, hrelease]
    exact ⟨rfl, rfl, ⟨rfl, rfl, rfl, rfl, rfl, rfl, rfl⟩, rfl⟩

end Sys2Proof.Machine
end

section
/-! PROOFS. What BEAM.SET, CANC.SET and TRC.SCAN accept (R157, R179, R180, R214). -/

namespace Sys2Proof.Machine

/-- A buffer that the command takes only in some cases passes its checks: not taken, or good. -/
theorem firstFail_optInChecks {p : Prop} [Decidable p] {b : InBuf} {n : Nat} (h : p ∨ InBufGood b n)
    (l : List (Bool × Nat)) : firstFail ((if p then [] else inChecks b n) ++ l) = firstFail l := by
  by_cases hp : p
  · rw [if_pos hp, List.nil_append]
  · rw [if_neg hp, firstFail_inChecks (h.resolve_left hp)]

theorem exec_beamSet {h : CmdHdr} {a : BeamSetArgs} {b : InBuf} {s : State}
    (hargs : beamBad s.ident.member s.dev a = false) (hbuf : beamBytes a = 0 ∨ InBufGood b (beamBytes a))
    (hvecs : ∀ v, v ∈ beamVectors a (b.data.take b.len) →
      vecBad s.dev.plan.loaded (if a.target = 2 then 1 else 2) v = false)
    (hmode : modeAccepts s.modes.mode 0x0303 = true) :
    exec (.beamSet h a b) s = .next (s.accepted 0x0303 h (.beam a (beamVectors a (b.data.take b.len)))) := by
  have hfetched : beamBad s.ident.member s.dev.fetched a = false := hargs
  have hany : ((beamVectors a (b.data.take b.len)).any fun v =>
      vecBad s.dev.plan.loaded (if a.target = 2 then 1 else 2) v) = false := by
    simpa using hvecs
  change Host.Outcome.next (cmdBeamSet h a b s.fetched) = _
  rw [cmdBeamSet, State.onDev_accept (by
    simp [List.cons_append, hfetched, firstFail_optInChecks hbuf, hany, hmode]), State.fetched_planned]

theorem exec_cancSet {h : CmdHdr} {a : CancArgs} {s : State} (hargs : s.dev.fetched.cancBad s.ctx a = false)
    (hmode : modeAccepts s.modes.mode 0x0305 = true) (hroom : a.vkind ≠ 0 → s.dev.importsOver a = false) :
    exec (.cancSet h a) s = .next (({ s with dev := { s.dev with
      free := if a.vkind ≠ 0 ∧ importsOf a ≠ [] then s.dev.free + 1 else s.dev.free } }).accepted 0x0305 h
        (.canc a (s.dev.victimRho (victim a)))) := by
  have hover : (a.vkind != 0 && s.dev.fetched.importsOver a) = false := by
    by_cases hkind : a.vkind = 0
    · simp [hkind]
    · have hfetched : s.dev.fetched.importsOver a = false := hroom hkind
      simp [hfetched]
  have hdraw : (if (a.vkind != 0 && !(importsOf a).isEmpty) = true then
      ({ s.dev.fetched with free := s.dev.fetched.free + 1 } : Dev) else s.dev.fetched) =
      { s.dev.fetched with
        free := if a.vkind ≠ 0 ∧ importsOf a ≠ [] then s.dev.free + 1 else s.dev.free } := by
    by_cases himports : a.vkind ≠ 0 ∧ importsOf a ≠ []
    · rw [if_pos (by simpa using himports), if_pos himports, Dev.fetched_free]
    · rw [if_neg (by simpa using himports), if_neg himports]
      rfl
  change Host.Outcome.next (cmdCancSet h a s.fetched) = _
  simp only [cmdCancSet, State.onDev, State.ctx_fetched, State.fetched_dev]
  rw [guarded_accept (by simp [hargs, hmode, hover]), hdraw]
  rfl

/-- The watch list and the search are set at once; the full search begins at ID 0 (assumption 91). -/
theorem exec_trcScan {h : CmdHdr} {all nids : Nat} {b : InBuf} {s : State} (hall : all ≤ 1) (hnids : nids ≤ 32)
    (hbuf : nids = 0 ∨ InBufGood b (2 * nids))
    (hids : ∀ i, i < nids → fieldAt (b.data.take b.len) (2 * i) 2 ≤ 4095)
    (hmode : modeAccepts s.modes.mode 0x0307 = true) :
    exec (.trcScan h all nids b) s = .next (({ s with dev := { s.dev with can := { s.dev.can with
      watch := (List.range nids).map fun i => fieldAt (b.data.take b.len) (2 * i) 2
      scanAll := all == 1
      scanNext := 0 } } }).answered 0x0307 h 0 0 none []) := by
  have hany : (((List.range nids).map fun i => fieldAt (b.data.take b.len) (2 * i) 2).any fun i =>
      decide (4095 < i)) = false := by
    simpa using hids
  change Host.Outcome.next (cmdTrcScan h all nids b s.fetched) = _
  rw [cmdTrcScan, State.onDev_accept (by
    simp [Nat.not_lt.mpr hall, Nat.not_lt.mpr hnids, firstFail_optInChecks hbuf, hany, hmode])]
  rfl

/-- Settles O33: the three commands pass their checks. That every TRC.SCAN begins the full search at ID 0 is
assumption 91. -/
theorem beamAndCancellerCommands : Obligations.BeamAndCancellerCommands :=
  ⟨fun _ _ _ _ hargs hbuf hvecs hmode => exec_beamSet hargs hbuf hvecs hmode,
    fun _ _ _ hargs hmode hroom => exec_cancSet hargs hmode hroom,
    fun _ _ _ _ _ hall hnids hbuf hids hmode => exec_trcScan hall hnids hbuf hids hmode⟩

end Sys2Proof.Machine
end

section
/-! PROOFS. The oscillation detector, and the imported streams (R209 to R213, R221). -/

namespace Sys2Proof.Machine

/-! ### Frames -/

theorem State.sameOutside_onDev (s : State) (f : Ctx → Dev → Dev) : s.SameOutside (s.onDev f) :=
  ⟨rfl, rfl, rfl, rfl, rfl, rfl, rfl⟩

theorem State.sameOutside_feed (s : State) (x : Samples) : s.SameOutside (s.feed x) := by
  rw [s.feed_eq x]
  exact ⟨rfl, rfl, rfl, rfl, rfl, rfl, rfl⟩

/-! ### A mute that begins holds (R277) -/

/-- A block reset leaves the mutes. -/
theorem Dev.startBlockReset_mutes (d : Dev) (c : Ctx) (h sub : Nat) :
    (d.startBlockReset c h sub).prt.mutes = d.prt.mutes := by
  obtain ⟨_, hpend⟩ := discardPend_eq c sub d.pend d
  unfold Dev.startBlockReset
  split
  · rfl
  · unfold Dev.blockState Dev.discardBook Dev.discardMode
    rw [hpend, chooseDefaults_prt]
    dsimp only
    split <;> split <;> simp [Dev.discardEvent]

/-- A raise of the Stopper leaves the mutes, with the block reset that it starts at most. -/
theorem Dev.raise_mutes (d : Dev) (c : Ctx) (src sev unit sub : Nat) :
    (d.raise c src sev unit sub).prt.mutes = d.prt.mutes := by
  obtain ⟨_, _, _, _, _, hraise, -⟩ | ⟨_, h, ⟨_, _, _, _, _, rfl, -⟩, -, hraise⟩ :=
    d.raise_raised c src sev unit sub
  · rw [hraise]
  · rw [hraise, startBlockReset_mutes]

theorem Dev.cancelPending_prt (d : Dev) (c : Ctx) : (d.cancelPending c).prt = d.prt := by
  unfold Dev.cancelPending
  generalize d.beams.slots.filter _ = l
  induction l generalizing d with
  | nil => rfl
  | cons w l ih => exact ih _

theorem Dev.holds_iff {d : Dev} {trig level scope : Nat} : d.holds trig level scope = true ↔
    ∃ m, m ∈ d.prt.mutes ∧ m.trig = trig ∧ m.level = level ∧ m.scope = scope := by
  simp [Dev.holds, and_assoc]

/-- A trigger on a scope that it holds restarts its release rule, on another its mute begins: it holds then. -/
theorem Dev.impose_holds (d : Dev) (c : Ctx) (t : Trigger) : (d.impose c t).holds t.trig t.level t.scope = true := by
  unfold Dev.impose
  extract_lets held k rel prt mutes mask recorded captured stopped m prt' muted sent
  have hmutes : prt.mutes = d.prt.mutes := by
    unfold prt
    split <;> rfl
  split
  case isTrue hheld =>
    obtain ⟨m, hm, htrig, hlevel, hscope⟩ := Dev.holds_iff.mp hheld
    refine Dev.holds_iff.mpr ⟨{ m with good := 0, release := rel }, List.mem_map.mpr ⟨m, hmutes ▸ hm, ?_⟩,
      htrig, hlevel, hscope⟩
    simp [htrig, hlevel, hscope]
  case isFalse =>
    have hprt : sent.prt = prt' := by
      unfold sent
      split
      · rw [kill_prt, cancelPending_prt]
      split
      · rw [paOff_prt, cancelPending_prt]
      · rw [cancelPending_prt]
    have hsent : m ∈ sent.prt.mutes := by
      rw [hprt]
      exact List.mem_append_right _ (List.mem_singleton_self m)
    split
    · exact Dev.holds_iff.mpr ⟨m, by rwa [raise_mutes], rfl, rfl, rfl⟩
    · exact Dev.holds_iff.mpr ⟨m, hsent, rfl, rfl, rfl⟩

/-! ### The detector (R210 to R212) -/

/-- The loop that a detector's trip names is muted. -/
theorem Dev.oscTrip_holds (d : Dev) (c : Ctx) (byid sub : Nat) (loopGain : Int) (critA : Bool) :
    (d.oscTrip c byid sub loopGain critA).holds 1 2 (loopScope (byidBg byid) (byidDir byid)) = true :=
  Dev.impose_holds _ c _

/-- A beam yarn that the detector evaluates: relayed, formed, neither muted nor in a block reset (R209). -/
def State.Detects (s : State) (byid : Nat) : Prop :=
  relays s.modes.mode = true ∧ byid ∈ s.dev.formedNow s.ctx ∧ s.dev.yarnMuted byid = false ∧
    ¬(byidOwner s.ctx.hawsers byid ∈ s.dev.boot.blkRun)

/-- Criterion A: a third evaluation in a row above -1 dB trips the loop (R210). -/
theorem State.evaluateOsc_trips {s : State} {byid sub : Nat} {r : OscRun} {g : Int} (hdetects : s.Detects byid)
    (hrun : s.dev.osc.find? (fun o => o.byid == byid) = some r) (ha : 2 ≤ r.a)
    (hgain : s.dev.loopGain s.ctx (s.dev.rhoOf byid) byid (s.oscEnd byid sub) = some g) (hexceeds : -dB < g) :
    s.evaluateOsc byid sub = s.onDev fun c d =>
      ({ d with osc := d.osc.filter fun o => o.byid != byid, free := d.free + 1 }).oscTrip c byid sub (round16 g)
        true := by
  obtain ⟨hrelays, hformed, hmute, hblk⟩ := hdetects
  have hthird : 3 ≤ r.a + 1 := by omega
  rw [State.oscEnd, State.ctx_time] at hgain
  unfold State.evaluateOsc
  dsimp only
  rw [if_neg (by simp [hrelays, hformed, hmute, hblk])]
  simp [State.onDev, hrun, hgain, hexceeds, hthird]

/-- Neither criterion: a loop gain at or below -1 dB ends the run, and the spectrum is kept for the next evaluation
(R210, R211). -/
theorem State.evaluateOsc_calm {s : State} {byid sub : Nat} {r : OscRun} {g : Int} (hdetects : s.Detects byid)
    (hrun : s.dev.osc.find? (fun o => o.byid == byid) = some r)
    (hgain : s.dev.loopGain s.ctx (s.dev.rhoOf byid) byid (s.oscEnd byid sub) = some g) (hbelow : g ≤ -dB)
    (hgrows : let bins := s.dev.oscSpectrum (s.dev.rhoOf byid) byid (s.oscEnd byid sub)
      lineGrows bins (binRises r.bins bins r.rises) = false) :
    s.evaluateOsc byid sub = s.onDev fun _ d =>
      let bins := d.oscSpectrum (d.rhoOf byid) byid (s.oscEnd byid sub)
      { d with osc := (d.osc.filter fun o => o.byid != byid) ++
        [{ byid := byid, a := 0, bins := bins, rises := binRises r.bins bins r.rises }] } := by
  obtain ⟨hrelays, hformed, hmute, hblk⟩ := hdetects
  simp only [State.oscEnd, State.ctx_time] at hgain hgrows
  unfold State.evaluateOsc
  dsimp only
  rw [if_neg (by simp [hrelays, hformed, hmute, hblk])]
  simp [State.onDev, State.oscEnd, hrun, hgain, Int.not_lt.mpr hbelow, hgrows]

/-! ### Imported streams (R221) -/

theorem Dev.foldl_onHwsA_can (f : HwsA → HwsA) (hs : List Nat) (d : Dev) :
    (hs.foldl (fun d h => d.onHwsA h f) d).can = d.can := by
  induction hs generalizing d with
  | nil => rfl
  | cons h hs ih => exact ih _

/-- The Splice's raise names no hawser, so no block reset follows it. -/
theorem Dev.raise_splice_can (d : Dev) (c : Ctx) (sev unit sub : Nat) : (d.raise c 12 sev unit sub).can = d.can := by
  obtain ⟨_, _, _, _, _, hraise, -⟩ := d.raise_noted c (src := 12) (unit := unit) sev sub rfl
  rw [hraise]

theorem Import.rides_iff {x : Import} {r : SpliceFrame} :
    x.rides r = true ↔ x.modId = r.modId ∧ x.key ∈ r.streams := by
  simp [Import.rides]

theorem Dev.loseImports_can (d : Dev) (c : Ctx) (r : SpliceFrame) :
    (d.loseImports c r).can = { d.can with imports := d.can.imports.map fun x =>
      if x.modId = r.modId ∧ x.key ∈ r.streams then { x with lost := true, good := 0, bad := true } else x } := by
  unfold Dev.loseImports
  simp only [Import.rides_iff]
  split
  · rw [foldl_onHwsA_can]
  · rw [raise_splice_can, foldl_onHwsA_can]

/-- A stream that rides a frame is restored where it is lost and has been good for 20 ticks. -/
theorem exec_spliceRefRestore (r : SpliceFrame) (s : State) :
    exec (.spliceRefRestore r) s = .next { s with dev := { s.dev with
      can := { s.dev.can with imports := s.dev.can.imports.map fun x =>
        if x.modId = r.modId ∧ x.key ∈ r.streams ∧ x.lost = true ∧ 20 ≤ x.good then { x with lost := false }
        else x } } } := by
  have hrestore (x : Import) : (if x.rides r = true then x.restore else x) =
      if x.modId = r.modId ∧ x.key ∈ r.streams ∧ x.lost = true ∧ 20 ≤ x.good then { x with lost := false }
      else x := by
    simp only [Import.rides_iff, Import.restore, ← ite_and, and_assoc]
  change execSpliceRefRestore r s = _
  simp only [execSpliceRefRestore, hrestore]
  rfl

/-- Settles O36: a trip imposes the loop's mute, which its raise leaves, and an evaluation that neither criterion meets
starts the run afresh; the frame of a module decides on the streams that ride it. -/
theorem oscillationAndImports : Obligations.OscillationAndImports := by
  refine ⟨fun a r g u s hu hrelays hformed hmute hblk hrun ha hgain hexceeds => ?trips,
    fun a r g bins runs u s hu hrelays hformed hmute hblk hrun hgain hbelow hbins hruns hgrows => ?calm,
    fun r s => ⟨s.onDev fun c d => d.loseImports c r, rfl, s.dev.loseImports_can s.ctx r, s.sameOutside_onDev _⟩,
    exec_spliceRefRestore⟩
  case trips =>
    subst hu
    refine ⟨(s.feed a.samples).evaluateOsc a.byid a.sub, rfl, ?_⟩
    rw [State.evaluateOsc_trips ⟨hrelays, hformed, hmute, hblk⟩ hrun ha hgain hexceeds]
    exact ⟨Dev.oscTrip_holds .., s.sameOutside_feed a.samples⟩
  case calm =>
    subst hu hbins hruns
    change Host.Outcome.next ((s.feed a.samples).evaluateOsc a.byid a.sub) = _
    rw [State.evaluateOsc_calm ⟨hrelays, hformed, hmute, hblk⟩ hrun hgain hbelow hgrows]
    rfl

end Sys2Proof.Machine
end

section
/-! PROOFS. Entry learning: how ENTRY.LEARN starts, goes from entry to entry and ends, and how a record ages (R203 to
R205). -/

namespace Sys2Proof.Machine

/-- In SURVEY or a relay mode ENTRY.LEARN begins at its first entry, unless the host's own learning runs. -/
theorem exec_entryLearn {h : CmdHdr} {a : LearnArgs} {s : State} (hbg : a.bg ≤ 7) (hn : a.n ≠ 0)
    (hlast : a.e + a.n ≤ 4096) (hticks : outside a.learnTicks 16 1024 = false) (htaps : outside a.ltaps 1 256 = false)
    (hbudget : a.ltaps ≤ s.dev.learnBudget a.bg) (hmode : s.modes.mode = .survey ∨ isRelay s.modes.mode = true)
    (hidle : ∀ l, s.dev.can.learn = some l → l.host = false) :
    exec (.entryLearn h a) s = .next { s with dev := { s.dev with
      can := { s.dev.can with
        learn := some { host := true, hdr := h, a := a, at_ := a.e, done := 0, ticks := 0, ests := [] }
        learnTicks := a.learnTicks }
      host := { s.dev.host with owed := s.dev.host.owed + 1 } } } := by
  have hfetched : ¬s.dev.fetched.learnBudget a.bg < a.ltaps := Nat.not_lt.mpr hbudget
  have hfree : s.dev.can.learn.any (·.host) = false := by
    cases hlearn : s.dev.can.learn with
    | none => rfl
    | some l => exact hidle l hlearn
  have hallowed : (s.modes.mode == .survey || isRelay s.modes.mode) = true := by simpa using hmode
  change Host.Outcome.next (cmdEntryLearn h a s.fetched) = _
  rw [cmdEntryLearn, State.onDev_accept (by
    simp [-Bool.not_or, Nat.not_lt.mpr hbg, beq_false_of_ne hn, Nat.not_lt.mpr hlast, hticks, htaps, hfetched,
      hallowed, hfree])]
  rfl

/-- An entry that has learned for LEARN_TICKS gets its record, and the host's learning goes on to the next entry. -/
theorem exec_entryLearned {l : LearnSt} {x : Samples} {s : State} (hlearn : (s.feed x).dev.can.learn = some l)
    (hhost : l.host = true) (hticks : l.a.learnTicks ≤ l.ticks) (hat : l.at_ < l.a.e + l.a.n) :
    exec (.entryLearned x) s = .next ((s.feed x).onDev fun c d => { d with
      beams := { d.beams with code := d.beams.code.map fun y =>
        if y.bg == l.a.bg && y.e == l.at_ then { y with iso := some (d.entryRecord c l) } else y }
      can := { d.can with learn := some { l with at_ := l.at_ + 1, done := l.done + 1, ticks := 0, ests := [] } }
      free := d.free + 1 }) := by
  change execEntryLearned x s = _
  simp only [execEntryLearned, hlearn]
  rw [if_neg (by omega)]
  simp only [if_pos hhost]

theorem exec_entryLearnDone {l : LearnSt} {s : State} (hlearn : s.dev.can.learn = some l) (hhost : l.host = true)
    (hpast : l.a.e + l.a.n ≤ l.at_) :
    exec .entryLearnDone s = .next { s with
      dev := ({ s.dev with can := { s.dev.can with learn := none } }).complete 0x0306 l.hdr 0 0 none
        (leBytes 2 l.done) } := by
  change execEntryLearnDone s = _
  simp only [execEntryLearnDone, hlearn]
  rw [if_neg (by simp [hhost, hpast])]
  rfl

theorem exec_entryAged {bg e : Nat} {s : State} (hage : s.dev.use.entryAge ≠ 0) :
    exec (.entryAged bg e) s = .next { s with
      dev := { s.dev with beams := { s.dev.beams with code := s.dev.beams.code.map fun x =>
        if x.bg == bg && x.e == e then { x with iso := x.iso.map fun r =>
          if s.dev.use.entryAge * 120000 < sub32 s.time.n r.tick then { r with valid := false } else r }
        else x } } } := by
  change execEntryAged bg e s = _
  simp only [execEntryAged, State.onDev, State.ctx_n, hage, ne_eq, not_false_eq_true, true_and]

/-- Settles O35: the host's learning takes the place of the device's own (assumption 88), and the record of a finished
entry is the one that `Dev.entryRecord` makes of what the loop has learned. -/
theorem entriesAreLearnedAndAge : Obligations.EntriesAreLearnedAndAge := by
  refine ⟨fun h a s hbg hn hlast hmin hmax hone htaps hbudget hmode hidle => ?starts,
    fun l x u s hu hlearn hhost hticks hat => ?learned,
    fun l s hlearn hhost hpast => exec_entryLearnDone hlearn hhost hpast, fun bg e s hage => exec_entryAged hage⟩
  case starts =>
    exact exec_entryLearn hbg hn hlast (outside_of_within hmin hmax) (outside_of_within hone htaps) hbudget hmode hidle
  case learned =>
    subst hu
    exact ⟨_, (s.feed x).dev.entryRecord (s.feed x).ctx l, exec_entryLearned hlearn hhost hticks hat, rfl, rfl,
      rfl, rfl, rfl, rfl, rfl, rfl, rfl, (s.feed x).sameOutside_onDev _, rfl⟩

end Sys2Proof.Machine
end

section
/-! PROOFS. Tracer epochs: what the sightings of an epoch and the ageing leave of the neighbour table (R187, R214,
R215, R331). -/

namespace Sys2Proof.Machine

/-! ### Sightings (R215, R331) -/

/-- A sighting enters the neighbour table of the book, and is reported at most. -/
theorem Dev.sightNbr_eq (d : Dev) (c : Ctx) (x : Sighting) : ∃ nbrs drop host,
    d.sightNbr c x = { d with book := { d.book with nbrs := nbrs, nbrDrop := drop }, host := host } := by
  unfold Dev.sightNbr
  dsimp only
  split
  · split
    · exact ⟨_, _, d.host, rfl⟩
    · exact ⟨_, _, Dev.reportNone_eq ..⟩
  · split
    · exact ⟨_, _, d.host, rfl⟩
    · exact ⟨_, _, Dev.reportNone_eq ..⟩

theorem Dev.foldl_sightNbr (c : Ctx) (l : List Sighting) (d : Dev) : ∃ nbrs drop host,
    l.foldl (fun d x => d.sightNbr c x) d =
      { d with book := { d.book with nbrs := nbrs, nbrDrop := drop }, host := host } := by
  induction l generalizing d with
  | nil => exact ⟨_, _, d.host, rfl⟩
  | cons x l ih =>
    obtain ⟨_, _, _, hsight⟩ := d.sightNbr_eq c x
    rw [List.foldl_cons, hsight]
    exact ih _

/-! ### Ageing (R331) -/

/-- A neighbour after the ageing at the end of an epoch. -/
def Nbr.aged (epochs : Nat) (x : Nbr) : Nbr :=
  if x.present && decide (x.epoch + 1875 < epochs) then { x with present := false } else x

/-- The ageing takes the presence of the old neighbours and reports them, and does nothing else. -/
theorem Dev.ageNbrs_aged (d : Dev) (c : Ctx) : ∃ host, d.ageNbrs c = { d with
    book := { d.book with nbrs := d.book.nbrs.map (Nbr.aged d.can.epochs) }
    host := host } := Dev.foldl_reportNone c _ _

theorem Nbr.aged_epoch (epochs : Nat) (x : Nbr) : (x.aged epochs).epoch = x.epoch := by
  unfold Nbr.aged
  split <;> rfl

theorem Nbr.sighted_of_aged_present {epochs : Nat} {x : Nbr} (h : (x.aged epochs).present = true) :
    epochs ≤ x.epoch + 1875 := by
  unfold Nbr.aged at h
  split at h
  case isTrue => simp at h
  case isFalse hold =>
    rw [h, Bool.true_and, decide_eq_true_eq] at hold
    omega

/-! ### The end of an epoch (R187) -/

/-- The device as it counts the epoch that ends. -/
def Dev.countEpoch (d : Dev) : Dev := { d with can := { d.can with epochs := d.can.epochs + 1 } }

/-- The device once the sightings of the epoch that it searches for have entered the table. -/
def Dev.sighted (d : Dev) (c : Ctx) (ss : List Sighting) : Dev :=
  (ss.filter fun x => d.searches c x).foldl (fun d x => d.sightNbr c x) d.countEpoch

theorem Dev.sighted_eq (d : Dev) (c : Ctx) (ss : List Sighting) : ∃ nbrs drop host,
    d.sighted c ss = { d.countEpoch with book := { d.book with nbrs := nbrs, nbrDrop := drop }, host := host } :=
  Dev.foldl_sightNbr c _ _

/-- The device at the beginning of an epoch; a full search goes on with its next batch (R214). -/
def Dev.beginEpoch (d : Dev) (c : Ctx) : Dev :=
  { d with can := { d.can with
      epochConv := c.time.conv
      scanNext := if c.mode = .survey ∧ d.can.scanAll = true then (d.can.scanNext + 32) % 4096 else d.can.scanNext } }

theorem Dev.endEpoch_of_new {d : Dev} {c : Ctx} (ss : List Sighting) (hnew : d.can.epochConv ≠ c.time.conv) :
    d.endEpoch c ss = ((d.sighted c ss).ageNbrs c).beginEpoch c := if_neg hnew

/-- An epoch that has not begun at this T0 begins there, and the neighbours of the one that ends age. -/
theorem Dev.endEpoch_begins {d : Dev} {c : Ctx} (ss : List Sighting) (hnew : d.can.epochConv ≠ c.time.conv) :
    ∃ can drop host, d.endEpoch c ss = { d with
      can := can
      book := { d.book with
        nbrs := (d.sighted c ss).book.nbrs.map (Nbr.aged d.countEpoch.can.epochs)
        nbrDrop := drop }
      host := host } ∧ can.epochs = d.countEpoch.can.epochs ∧ can.epochConv = c.time.conv := by
  obtain ⟨nbrs, drop, _, hsighted⟩ := d.sighted_eq c ss
  obtain ⟨host, haged⟩ := (d.sighted c ss).ageNbrs_aged c
  rw [Dev.endEpoch_of_new ss hnew, haged, hsighted]
  exact ⟨_, drop, host, rfl, rfl, rfl⟩

theorem Dev.endEpoch_of_begun {d : Dev} {c : Ctx} (ss : List Sighting) (hbegun : d.can.epochConv = c.time.conv) :
    d.endEpoch c ss = d := if_pos hbegun

/-! ### The first sighting of an empty table (R331) -/

/-- The entry that a tracer takes at its first sighting. -/
def Nbr.first (d : Dev) (c : Ctx) (x : Sighting) (i : Nat) : Nbr :=
  { idx := i, tracer := x.tracer, tile := x.tile, present := true
    loc := x.pos + 16 * x.bg + 128 * x.dir + 256 * bitNat x.guard, rho := x.rho, lag := x.lag, pwr := x.power
    lastTih := c.tih, firstBhf := d.book.bhf, lastBhf := d.book.bhf, sight := 1, epoch := d.can.epochs }

/-- A tracer that was sighted in the epoch that ends does not age. -/
theorem Nbr.aged_first (d : Dev) (c : Ctx) (x : Sighting) (i : Nat) :
    (Nbr.first d c x i).aged d.can.epochs = Nbr.first d c x i := by
  have hrecent : ¬d.can.epochs + 1875 < d.can.epochs := by omega
  rw [Nbr.aged, if_neg (by simp [Nbr.first, hrecent])]

theorem Dev.nbrSlot_of_empty {d : Dev} (hempty : d.book.nbrs = []) : d.nbrSlot = some (0, false) := by
  simp [Dev.nbrSlot, hempty, List.range_succ]

theorem Dev.sightNbr_nbrs_of_empty {d : Dev} (c : Ctx) (x : Sighting) (hempty : d.book.nbrs = []) :
    (d.sightNbr c x).book.nbrs = [Nbr.first d c x 0] := by
  simp only [Dev.sightNbr, hempty, Dev.nbrSlot_of_empty hempty, List.find?_nil, Dev.reportNone_book]
  rfl

/-- In an empty table a sighting that the device searches for is the only entry, and is present. -/
theorem Dev.sighted_nbrs_of_empty {d : Dev} {c : Ctx} {x : Sighting} (hsearch : d.searches c x = true)
    (hempty : d.book.nbrs = []) :
    (d.sighted c [x]).book.nbrs = [Nbr.first d.countEpoch c x 0] := by
  rw [Dev.sighted, List.filter_cons_of_pos hsearch]
  exact Dev.sightNbr_nbrs_of_empty c x hempty

/-! ### The command at T0 (R187, assumptions 3 and 21) -/

theorem exec_tracerEpoch {s : State} (ss : List Sighting) (hrun : s.time.running = true)
    (hwin : s.time.window = .plan) (hdue : s.ctx.tih % 64 = 0 ∨ s.reloadSfn ≠ none) :
    exec (.tracerEpoch ss) s = .next (s.onDev fun c d => d.endEpoch c ss) := by
  change execTracerEpoch ss s = _
  have hplan : s.inPlan = true := by simp [State.inPlan, hrun, hwin]
  have hnot : ¬(s.ctx.tih % 64 ≠ 0 ∧ s.reloadSfn = none) := fun h => hdue.elim h.1 fun hreload => hreload h.2
  rw [execTracerEpoch, if_neg (by simpa [hplan] using hnot)]

theorem exec_tracerEpoch_undue {s : State} (ss : List Sighting) (htick : s.ctx.tih % 64 ≠ 0)
    (hreload : s.reloadSfn = none) : exec (.tracerEpoch ss) s = .next s := if_pos (.inr ⟨htick, hreload⟩)

/-- Settles O43: the next epoch begins at this T0, the table ages with the end of the one before. That a due reload
ends an epoch is assumption 21, and that nothing happens at T0 of any other tick is assumption 3. -/
theorem tracerEpochsKeepTheNeighbourTable : Obligations.TracerEpochsKeepTheNeighbourTable := by
  refine ⟨fun ss s hrun hwin hdue hnew => ?ends, fun x s hrun hwin htick hnew hsearch hempty => ?first,
    fun ss s hrun hwin htick hbegun => ?begun, fun ss s htick hreload => exec_tracerEpoch_undue ss htick hreload⟩
  case ends =>
    obtain ⟨can, drop, host, hend, hepochs, hconv⟩ := Dev.endEpoch_begins (d := s.dev) (c := s.ctx) ss hnew
    refine ⟨_, exec_tracerEpoch ss hrun hwin hdue, ?_⟩
    rw [State.onDev_dev, hend]
    refine ⟨hepochs, hconv, fun x hx hpresent => ?_, rfl, s.sameOutside_onDev _, rfl⟩
    obtain ⟨y, -, rfl⟩ := List.mem_map.mp hx
    rw [Nbr.aged_epoch, hepochs]
    exact Nbr.sighted_of_aged_present hpresent
  case first =>
    obtain ⟨can, drop, host, hend, -, -⟩ := Dev.endEpoch_begins (d := s.dev) (c := s.ctx) [x] hnew
    refine ⟨_, Nbr.first s.dev.countEpoch s.ctx x 0, exec_tracerEpoch [x] hrun hwin (.inl htick), ?_,
      rfl, rfl, rfl, rfl, rfl, rfl, rfl, rfl⟩
    rw [State.onDev_dev, hend, Dev.sighted_nbrs_of_empty hsearch hempty, List.map_singleton, Nbr.aged_first]
  case begun =>
    rw [exec_tracerEpoch ss hrun hwin (.inl htick), State.onDev, Dev.endEpoch_of_begun ss hbegun]

end Sys2Proof.Machine
end

section
/-! PROOFS. Belay's commands and Decay, with the commands of power and temperature that wait as they do (R251, R253,
R257 to R259, R359, R360, R398). -/

namespace Sys2Proof.Machine

/-! ### What a raise leaves of the beam yarns -/

/-- A block reset leaves Belay as it stands or resets it. -/
theorem Dev.startBlockReset_bel (d : Dev) (c : Ctx) (h sub : Nat) :
    (d.startBlockReset c h sub).bel = d.bel ∨ (d.startBlockReset c h sub).bel = Belay.reset := by
  unfold Dev.startBlockReset
  split
  · exact .inl rfl
  · exact .inr (by rw [chooseDefaults_bel]; rfl)

/-- A raise changes no beam yarn and adds none; a block reset takes them. -/
theorem Dev.mem_raise_belYarns {d : Dev} {c : Ctx} {src sev unit sub : Nat} {y : BelYarn}
    (hy : y ∈ (d.raise c src sev unit sub).bel.yarns) : y ∈ d.bel.yarns := by
  obtain ⟨_, _, _, _, _, hraise, -⟩ | ⟨_, h, ⟨_, _, _, _, _, rfl, -⟩, -, hraise⟩ := d.raise_raised c src sev unit sub
  · rwa [hraise] at hy
  · rw [hraise] at hy
    obtain hsame | hreset := startBlockReset_bel _ c h sub
    · rwa [hsame] at hy
    · have hnone : Belay.reset.yarns = [] := rfl
      simp [hreset, hnone] at hy

/-! ### FEEDBACK_DECAY (R251, R253) -/

/-- `z` is the beam yarn `y` gone to Decay: its applied gain stands and its next code has not risen. -/
def BelYarn.Decays (y z : BelYarn) : Prop :=
  z.fb.st = .decay ∧ z.fb.decayDue = false ∧ z.nextCode ≤ y.nextCode ∧ z.code = y.code ∧ z.appl = y.appl

/-- A code that takes the lower of two values under a condition, and stands otherwise, does not rise. -/
theorem ite_min_le (p : Prop) [Decidable p] (x q : Int) : (if p then min x q else x) ≤ x := by
  split
  · exact min_le_left x q
  · exact le_refl x

/-- Decay puts the decayed beam yarn in the place of the one that held, and raises source 16 unless it is a
slot's. -/
theorem exec_feedbackDecay {byid : Nat} {y : BelYarn} {s : State}
    (hfind : s.dev.bel.yarns.find? (fun y => y.byid == byid) = some y) (hhold : y.fb.st = .hold)
    (hdue : y.fb.decayDue = true) : ∃ z e, y.Decays z ∧ z.byid = y.byid ∧
      e.bel.yarns = (s.dev.bel.yarns.map fun x => if x.byid == byid then z else x) ∧
      exec (.feedbackDecay byid) s = .next (s.onDev fun c _ =>
        if byidSlot byid = 1 then e else e.raise c 16 2 (byidOwner c.hawsers (carrier byid)) c.time.sub) := by
  have hexec : exec (.feedbackDecay byid) s = execFeedbackDecay byid s := rfl
  simp only [hexec, execFeedbackDecay, hfind]
  rw [if_neg (by simp [hhold, hdue])]
  simp only [State.onDev]
  generalize quantise _ _ = k
  obtain ⟨code, clamped⟩ := k
  refine ⟨?z, _, ?decays, ?byid, ?yarns, rfl⟩
  case yarns => exact rfl
  case byid => rfl
  case decays => exact ⟨rfl, rfl, ite_min_le .., rfl, rfl⟩

/-- The beam yarns that are left after FEEDBACK_DECAY: the decayed one, or those of other identifiers as they were. -/
theorem mem_decayed {byid : Nat} {z x : BelYarn} {ys : List BelYarn}
    (hx : x ∈ ys.map fun x => if x.byid == byid then z else x) : x = z ∨ x.byid ≠ byid ∧ x ∈ ys := by
  obtain ⟨w, hw, rfl⟩ := List.mem_map.mp hx
  by_cases hid : w.byid = byid
  · exact .inl (if_pos (by simpa using hid))
  · rw [if_neg (by simpa using hid)]
    exact .inr ⟨hid, hw⟩

/-- After FEEDBACK_DECAY each beam yarn that is left is the decayed one, or one of another identifier as it was; the
raise takes beam yarns at most. -/
theorem exec_feedbackDecay_belYarns {byid : Nat} {y : BelYarn} {s : State}
    (hfind : s.dev.bel.yarns.find? (fun y => y.byid == byid) = some y) (hhold : y.fb.st = .hold)
    (hdue : y.fb.decayDue = true) : ∃ z t, y.Decays z ∧ z.byid = byid ∧ exec (.feedbackDecay byid) s = .next t ∧
      s.SameOutside t ∧ ∀ x, x ∈ t.dev.bel.yarns → x = z ∨ x.byid ≠ byid ∧ x ∈ s.dev.bel.yarns := by
  obtain ⟨z, e, hdecays, hbyid, hyarns, hexec⟩ := exec_feedbackDecay hfind hhold hdue
  have hid : y.byid = byid := by simpa using List.find?_some hfind
  refine ⟨z, _, hdecays, hbyid.trans hid, hexec, s.sameOutside_onDev _, fun x hx => mem_decayed (hyarns ▸ ?_)⟩
  rw [State.onDev_dev] at hx
  split at hx
  · exact hx
  · exact Dev.mem_raise_belYarns hx

/-- Settles O38: only the beam yarn that held changes, and its next code is lowered or stands. -/
theorem feedbackDecayNeverRaisesAGain : Obligations.FeedbackDecayNeverRaisesAGain := by
  intro byid y s hfind hhold hdue
  obtain ⟨z, t, hdecays, hbyid, hexec, hframe, hleft⟩ := exec_feedbackDecay_belYarns hfind hhold hdue
  refine ⟨t, hexec, fun x hx hxid => ?held, fun x hx hxid => ?other, hframe⟩
  case held =>
    obtain rfl | ⟨hother, -⟩ := hleft x hx
    · exact hdecays
    · exact absurd hxid hother
  case other =>
    obtain rfl | ⟨-, hsame⟩ := hleft x hx
    · exact absurd hbyid hxid
    · exact hsame

/-! ### GAIN.SET (R257) -/

theorem gainBad_eq_false {m : Member} {a : GainArgs} (hbg : a.bg ≤ 7) (hdir : a.dir ≤ 1)
    (hbeam : a.dir = 1 → a.beam < Config.serviceBeams m ∨ a.beam = 0xFE ∨ a.beam = 0xFF)
    (htarget : maskBit a.mask 0 = true → 480 ≤ a.target ∧ a.target ≤ 1840)
    (hpmax : maskBit a.mask 1 = true → a.pmax ≤ 960)
    (hlims : maskBit a.mask 2 = true →
      a.vlim ≤ 4000 ∧ 1 ≤ a.alim ∧ a.alim ≤ 1000 ∧ 1 ≤ a.jlim ∧ a.jlim ≤ 1000)
    (hstates : maskBit a.mask 4 = true → a.lnaSt ≤ 3 ∧ a.pagSt ≤ 3) : gainBad m a = false := by
  have hbeam' : (a.dir == 1 && decide (Config.serviceBeams m ≤ a.beam) && a.beam != 0xFE && a.beam != 0xFF) =
      false := by
    simp only [Bool.and_assoc, Bool.and_eq_false_imp, beq_iff_eq, decide_eq_true_eq, bne_iff_ne, bne_eq_false_iff_eq]
    intro hone hpast hguard
    have := hbeam hone
    omega
  have htarget' : (maskBit a.mask 0 && outside a.target 480 1840) = false := by
    rw [Bool.and_eq_false_imp]
    exact fun h => outside_of_within (htarget h).1 (htarget h).2
  have hpmax' : (maskBit a.mask 1 && decide (960 < a.pmax)) = false := by
    simpa using hpmax
  have hlims' : (maskBit a.mask 2 && (decide (4000 < a.vlim) || outside a.alim 1 1000 || outside a.jlim 1 1000)) =
      false := by
    rw [Bool.and_eq_false_imp]
    intro h
    obtain ⟨hv, ha, ha', hj, hj'⟩ := hlims h
    simp [hv, outside_of_within ha ha', outside_of_within hj hj']
  have hstates' : (maskBit a.mask 4 && (decide (3 < a.lnaSt) || decide (3 < a.pagSt))) = false := by
    simpa using hstates
  simp only [gainBad, hbeam', htarget', hpmax', hlims', hstates', Nat.not_lt.mpr hbg, Nat.not_lt.mpr hdir, decide_false,
    Bool.or_false]

theorem exec_gainSet_selects_nothing {h : CmdHdr} {a : GainArgs} {s : State} (hmask : a.mask % 32 = 0)
    (hmode : modeAccepts s.modes.mode 0x0401 = true) :
    exec (.gainSet h a) s = .next (s.answered 0x0401 h 0 0 none []) := by
  change Host.Outcome.next (cmdGainSet h a s.fetched) = _
  simp only [cmdGainSet, if_pos hmask]
  rw [State.onDev_accept (by simp [hmode]), State.fetched_ok]

theorem exec_gainSet_accepted {h : CmdHdr} {a : GainArgs} {s : State} (hmask : a.mask % 32 ≠ 0)
    (hargs : gainBad s.ident.member a = false) (hmode : modeAccepts s.modes.mode 0x0401 = true) :
    exec (.gainSet h a) s = .next (s.accepted 0x0401 h (.gain a)) := by
  change Host.Outcome.next (cmdGainSet h a s.fetched) = _
  simp only [cmdGainSet, if_neg hmask]
  rw [State.onDev_accept (by simp [hargs, hmode]), State.fetched_planned]

theorem exec_gainSet_refused {h : CmdHdr} {a : GainArgs} {s : State} (hmask : a.mask % 32 ≠ 0)
    (hargs : gainBad s.ident.member a = true) : exec (.gainSet h a) s = .next (s.denied 0x0401 h 1) := by
  change Host.Outcome.next (cmdGainSet h a s.fetched) = _
  simp only [cmdGainSet, if_neg hmask]
  rw [State.onDev_refuse (st := 1) (by simp [hargs]; rfl)]

/-! ### BEL.BANK and BEL.READ (R258, R259) -/

/-- Whether one of the eight banks has two zero gains (R258). -/
def bankZero (kp ki : List Nat) : Bool :=
  (List.range 8).any fun i => kp.getD i 0 % 65536 == 0 && ki.getD i 0 % 65536 == 0

theorem bankZero_iff {kp ki : List Nat} :
    bankZero kp ki = true ↔ ∃ i, i < 8 ∧ kp.getD i 0 % 65536 = 0 ∧ ki.getD i 0 % 65536 = 0 := by
  simp only [bankZero, List.any_eq_true, List.mem_range, Bool.and_eq_true, beq_iff_eq]

theorem exec_belBank_eq (h : CmdHdr) (xfade : Nat) (kp ki : List Nat) (s : State) :
    exec (.belBank h xfade kp ki) s = .next (s.fetched.onDev fun c d => guarded 0x0402 h
      [(outside xfade 1 64 || bankZero kp ki, stBadArg), (!modeAccepts c.mode 0x0402, stDenied)]
      (fun d => d.planned c 0x0402 h (.bank xfade kp ki)) d) := rfl

theorem exec_belBank_accepted {h : CmdHdr} {xfade : Nat} {kp ki : List Nat} {s : State} (hlo : 1 ≤ xfade)
    (hhi : xfade ≤ 64) (hbanks : ∀ i, i < 8 → kp.getD i 0 % 65536 ≠ 0 ∨ ki.getD i 0 % 65536 ≠ 0)
    (hmode : modeAccepts s.modes.mode 0x0402 = true) :
    exec (.belBank h xfade kp ki) s = .next (s.accepted 0x0402 h (.bank xfade kp ki)) := by
  have hzero : bankZero kp ki = false := by
    rw [Bool.eq_false_iff, ne_eq, bankZero_iff]
    rintro ⟨i, hi, hkp, hki⟩
    exact (hbanks i hi).elim (· hkp) (· hki)
  rw [exec_belBank_eq, State.onDev_accept (by simp [outside_of_within hlo hhi, hzero, hmode]), State.fetched_planned]

theorem exec_belBank_refused {h : CmdHdr} {xfade : Nat} {kp ki : List Nat} {s : State}
    (hbad : xfade = 0 ∨ 64 < xfade ∨ ∃ i, i < 8 ∧ kp.getD i 0 % 65536 = 0 ∧ ki.getD i 0 % 65536 = 0) :
    exec (.belBank h xfade kp ki) s = .next (s.denied 0x0402 h 1) := by
  have hcheck : (outside xfade 1 64 || bankZero kp ki) = true := by
    rw [← bankZero_iff] at hbad
    simpa [outside, or_assoc] using hbad
  rw [exec_belBank_eq, State.onDev_refuse (st := 1) (by rw [hcheck]; rfl)]

@[simp] theorem Dev.fetched_belRecords (d : Dev) (m : Mode) (first count : Nat) :
    d.fetched.belRecords m first count = d.belRecords m first count := rfl

theorem exec_belRead {h : CmdHdr} {first count : Nat} {o : OutBuf} {rs : List Bytes} {s : State} (hbuf : OutBufGood o)
    (hlo : 1 ≤ count) (hhi : count ≤ 256) (hmode : modeAccepts s.modes.mode 0x0403 = true)
    (hrs : rs = s.dev.belRecords s.modes.mode (first % 32768) count) (hroom : 32 * rs.length ≤ o.len) :
    exec (.belRead h first count o) s =
      .next (s.outputs 0x0403 h o.addr rs.flatten (leBytes 2 rs.length)) := by
  change Host.Outcome.next (cmdBelRead h first count o s.fetched) = _
  simp only [cmdBelRead, State.onDev, State.ctx_fetched, State.fetched_dev, Dev.fetched_belRecords, State.ctx_mode,
    ← hrs]
  rw [guarded_accept (by
    simp [firstFail_outChecks hbuf, outside_of_within hlo hhi, hmode, Nat.not_lt.mpr hroom])]
  rfl

/-! ### REEF.CAP and THM.CLR (R360, R398) -/

theorem exec_reefCap_accepted {h : CmdHdr} {w : Nat} {s : State} (hcap : w ≤ 560)
    (hmode : modeAccepts s.modes.mode 0x0701 = true) :
    exec (.reefCap h w) s = .next (s.accepted 0x0701 h (.cap w)) := by
  change Host.Outcome.next (cmdReefCap h w s.fetched) = _
  rw [cmdReefCap, State.onDev_accept (by simp [Nat.not_lt.mpr hcap, hmode]), State.fetched_planned]

theorem exec_reefCap_refused {h : CmdHdr} {w : Nat} {s : State} (hcap : 560 < w) :
    exec (.reefCap h w) s = .next (s.denied 0x0701 h 1) := by
  change Host.Outcome.next (cmdReefCap h w s.fetched) = _
  rw [cmdReefCap, State.onDev_refuse (st := 1) (by simp [hcap]; rfl)]

theorem exec_thmClr_accepted {h : CmdHdr} {action target : Nat} {s : State}
    (htarget : thmTargetBad s.ident.member action target = false) (hmode : modeAccepts s.modes.mode 0x0702 = true) :
    exec (.thmClr h action target) s = .next (({ s with dev := { s.dev with
      thm := { s.dev.thm with pend := s.dev.thm.pend ++ [(action, target)] } } }).answered 0x0702 h 0 0 none []) := by
  change Host.Outcome.next (cmdThmClr h action target s.fetched) = _
  rw [cmdThmClr, State.onDev_accept (by simp [htarget, hmode])]
  rfl

theorem thmTargetBad_of_no_action {action : Nat} (haction : action = 0 ∨ 2 < action) (m : Member) (target : Nat) :
    thmTargetBad m action target = true := by
  rw [thmTargetBad, if_neg (by omega), if_neg (by omega)]

theorem exec_thmClr_refused {h : CmdHdr} {action : Nat} {s : State} (target : Nat)
    (haction : action = 0 ∨ 2 < action) :
    exec (.thmClr h action target) s = .next (s.denied 0x0702 h 1) := by
  change Host.Outcome.next (cmdThmClr h action target s.fetched) = _
  rw [cmdThmClr, State.onDev_refuse (st := 1) (by simp [thmTargetBad_of_no_action haction]; rfl)]

/-- Settles O37: each command is judged by its own checks, the arguments before the mode, and its change waits for its
Plan window or the next sample. -/
theorem gainAndPowerCommands : Obligations.GainAndPowerCommands :=
  ⟨fun _ _ _ hmask hmode => exec_gainSet_selects_nothing hmask hmode,
    fun _ _ _ hmask hbg hdir hbeam htarget hpmax hlims hstates hmode =>
      exec_gainSet_accepted hmask (gainBad_eq_false hbg hdir hbeam htarget hpmax hlims hstates) hmode,
    fun _ _ _ hmask hargs => exec_gainSet_refused hmask hargs,
    fun _ _ _ _ _ hlo hhi hbanks hmode => exec_belBank_accepted hlo hhi hbanks hmode,
    fun _ _ _ _ _ hbad => exec_belBank_refused hbad,
    fun _ _ _ _ _ _ hbuf hlo hhi hmode hrs hroom => exec_belRead hbuf hlo hhi hmode hrs hroom,
    fun _ _ _ hcap hmode => exec_reefCap_accepted hcap hmode,
    fun _ _ _ hcap => exec_reefCap_refused hcap,
    fun _ _ _ _ htarget hmode => exec_thmClr_accepted htarget hmode,
    fun _ _ target _ haction => exec_thmClr_refused target haction,
    fun _ _ => rfl⟩
end Sys2Proof.Machine
end

section
/-! PROOFS. The device clock and TIME_FLOOR (R265, R266): the commands that set and advance them, and that no command
and no reset lowers TIME_FLOOR. -/

namespace Sys2Proof.Machine

/-! ### What leaves TIME_FLOOR as it is -/

@[simp] theorem NvSt.putRing_timeFloor (v : NvSt) (optime typ : Nat) (payload : Bytes) :
    (v.putRing optime typ payload).timeFloor = v.timeFloor := by
  unfold NvSt.putRing
  dsimp only
  split <;> rfl

@[simp] theorem NvSt.putLog_timeFloor (v : NvSt) (optime typ : Nat) (pinned : Bool) (payload : Bytes) :
    (v.putLog optime typ pinned payload).timeFloor = v.timeFloor := by
  unfold NvSt.putLog
  split
  · rfl
  · exact v.putRing_timeFloor ..

@[simp] theorem State.putLog_timeFloor (s : State) (typ : Nat) (pinned : Bool) (payload : Bytes) :
    (s.putLog typ pinned payload).nv.timeFloor = s.nv.timeFloor := by
  unfold State.putLog
  dsimp only
  split <;> exact s.nv.putLog_timeFloor ..

@[simp] theorem State.logNow_timeFloor (s : State) (typ : Nat) (pinned : Bool) (payload : Bytes) :
    (s.logNow typ pinned payload).nv.timeFloor = s.nv.timeFloor := by
  unfold State.logNow
  split
  · rfl
  · exact s.putLog_timeFloor ..

/-- The completion of a lifecycle change erases keys, plans' floors and records, and keeps TIME_FLOOR (Table STP-12). -/
@[simp] theorem NvSt.finishLife_timeFloor (v : NvSt) : v.finishLife.timeFloor = v.timeFloor := by
  unfold NvSt.finishLife
  split <;> rfl

/-! ### Outcomes after which TIME_FLOOR has not fallen -/

/-- An outcome after which TIME_FLOOR stands where it stood, or above. -/
def State.FloorKept (s : State) (o : Host.Outcome State Fault Refusal) : Prop :=
  ∀ t, o = .next t → s.nv.timeFloor ≤ t.nv.timeFloor

namespace State.FloorKept

theorem next {s t : State} (h : s.nv.timeFloor ≤ t.nv.timeFloor) : s.FloorKept (.next t) := by
  rintro _ ⟨⟩
  exact h

/-- A command that leaves TIME_FLOOR alone. -/
theorem same {s t : State} (h : t.nv.timeFloor = s.nv.timeFloor) : s.FloorKept (.next t) := next h.ge

theorem ite {s : State} {p : Prop} [Decidable p] {a b : Host.Outcome State Fault Refusal} (ha : s.FloorKept a)
    (hb : s.FloorKept b) : s.FloorKept (if p then a else b) := by
  split
  · exact ha
  · exact hb

/-- A command whose condition does not hold leaves the state as it is (assumption 3). -/
theorem guard {s : State} {p : Prop} [Decidable p] {o : Host.Outcome State Fault Refusal} (h : s.FloorKept o) :
    s.FloorKept (if p then .next s else o) := ite (same rfl) h

end State.FloorKept

theorem State.ite_timeFloor {p : Prop} [Decidable p] {a b : State} {n : Nat} (ha : a.nv.timeFloor = n)
    (hb : b.nv.timeFloor = n) : (if p then a else b).nv.timeFloor = n := by
  split
  · exact ha
  · exact hb

/-! ### Host commands -/

/-- TIME.SET takes no value below TIME_FLOOR (R266). -/
theorem cmdTimeSet_timeFloor_le (h : CmdHdr) (x : Nat) (s : State) :
    s.nv.timeFloor ≤ (cmdTimeSet h x s).nv.timeFloor := by
  unfold cmdTimeSet
  split
  · exact le_refl _
  next hpass =>
    rw [firstFail_eq_none_iff] at hpass
    simpa using hpass (decide (x < s.nv.timeFloor), stDenied) (by simp)

theorem cmdPlanLoad_timeFloor (h : CmdHdr) (b : InBuf) (s : State) :
    (cmdPlanLoad h b s).nv.timeFloor = s.nv.timeFloor := by
  unfold cmdPlanLoad
  split <;> rfl

theorem cmdLogClear_timeFloor (h : CmdHdr) (b : InBuf) (s : State) :
    (cmdLogClear h b s).nv.timeFloor = s.nv.timeFloor := by
  unfold cmdLogClear
  dsimp only
  split <;> rfl

theorem cmdLifeSet_timeFloor (h : CmdHdr) (st group : Nat) (b : InBuf) (s : State) :
    (cmdLifeSet h st group b s).nv.timeFloor = s.nv.timeFloor := by
  unfold cmdLifeSet
  dsimp only
  split
  · rfl
  split
  · exact State.ite_timeFloor rfl rfl
  · exact (State.logNow_timeFloor ..).trans (State.ite_timeFloor rfl rfl)

theorem cmdKeySet_timeFloor (h : CmdHdr) (slot action : Nat) (b : InBuf) (s : State) :
    (cmdKeySet h slot action b s).nv.timeFloor = s.nv.timeFloor := by
  unfold cmdKeySet
  dsimp only
  split
  · rfl
  · exact State.ite_timeFloor (State.ite_timeFloor rfl rfl)
      ((State.logNow_timeFloor ..).trans (State.ite_timeFloor rfl rfl))

/-- Of the host commands TIME.SET alone moves TIME_FLOOR, and it raises it. -/
theorem runCommand_timeFloor_le (i : Instr) (s : State) : s.nv.timeFloor ≤ (runCommand i s).nv.timeFloor := by
  cases i with
  | timeSet h x => exact cmdTimeSet_timeFloor_le h x s
  | planLoad h b => exact (cmdPlanLoad_timeFloor h b s).ge
  | logClear h b => exact (cmdLogClear_timeFloor h b s).ge
  | lifeSet h st group b => exact (cmdLifeSet_timeFloor h st group b s).ge
  | keySet h slot action b => exact (cmdKeySet_timeFloor h slot action b s).ge
  | _ => exact le_refl _

theorem evaluate_timeFloor_le (cidx : Nat) (x : Descriptor) (s : State) :
    s.nv.timeFloor ≤ (evaluate cidx x s).nv.timeFloor := by
  unfold evaluate
  dsimp only
  split
  · exact le_refl _
  split
  · exact le_refl _
  split
  · exact runCommand_timeFloor_le _ s
  · exact le_refl _

theorem runWaiting_timeFloor_le (l : List (Nat × Descriptor)) (s : State) :
    s.nv.timeFloor ≤ (runWaiting l s).nv.timeFloor := by
  induction l generalizing s with
  | nil => exact le_refl _
  | cons x xs ih =>
    unfold runWaiting
    split
    · exact le_refl _
    · exact (evaluate_timeFloor_le ..).trans (ih _)

theorem State.fetchOne_timeFloor_le (s : State) (x : Descriptor) :
    s.nv.timeFloor ≤ (s.fetchOne x).nv.timeFloor := by
  unfold State.fetchOne
  dsimp only
  split
  · exact le_refl _
  · exact (evaluate_timeFloor_le ..).trans' (le_refl s.nv.timeFloor)

theorem fetchAll_timeFloor_le (ds : List Descriptor) (s : State) :
    s.nv.timeFloor ≤ (fetchAll ds s).nv.timeFloor := by
  induction ds generalizing s with
  | nil => exact le_refl _
  | cons x xs ih =>
    unfold fetchAll
    split
    · exact (s.fetchOne_timeFloor_le x).trans (ih _)
    · exact le_refl _

theorem execCommandFetch_floorKept (ds : List Descriptor) (s : State) : s.FloorKept (execCommandFetch ds s) := by
  refine .next ?_
  rw [State.writeIndex_nv]
  exact (runWaiting_timeFloor_le ..).trans (fetchAll_timeFloor_le ..)

/-! ### The Plan window: a commit raises TIME_FLOOR (R266) -/

theorem State.commitPlan_timeFloor_le (s : State) : s.nv.timeFloor ≤ s.commitPlan.nv.timeFloor := by
  unfold State.commitPlan
  split
  · exact le_refl _
  split
  · exact le_refl _
  · exact le_max_left ..

theorem State.planWindow_timeFloor_le (s : State) : s.nv.timeFloor ≤ s.planWindow.nv.timeFloor := by
  unfold State.planWindow
  dsimp only
  split
  · exact le_refl _
  · rw [State.onDev_nv]
    exact (State.commitPlan_timeFloor_le _).trans' (le_refl s.nv.timeFloor)

theorem State.planWork_timeFloor_le (s : State) (env : TickEnv) (s0 : State) :
    s.nv.timeFloor ≤ (s.planWork env s0).nv.timeFloor := by
  have hplan := State.planWindow_timeFloor_le
    (s.onDev fun c d => ((d.takeSetup c.setup).countEnv c env).tddFrames c.time.tif env.tddFrames)
  simpa [State.planWork, State.changeWindow] using hplan

theorem execTickEdge_floorKept (env : TickEnv) (s : State) : s.FloorKept (execTickEdge env s) := by
  refine .guard (.next ?_)
  obtain ⟨runs, hcount⟩ := s.countedTick_nv env
  have hwork := (s.countedTick env).planWork_timeFloor_le env (s.endedTick env)
  rw [hcount] at hwork
  rw [State.writeIndex_nv]
  exact hwork

/-! ### The device's own rows -/

/-- TIME_FLOOR rises to the clock where that is above it. -/
theorem execTimeFloorRaise_floorKept (s : State) : s.FloorKept (execTimeFloorRaise s) := by
  unfold execTimeFloorRaise
  split
  · exact .same rfl
  · exact .guard (.next (le_max_left ..))

theorem execChipResetBegin_floorKept (s : State) : s.FloorKept (execChipResetBegin s) := by
  unfold execChipResetBegin
  split
  · exact .same rfl
  · exact .ite (.same rfl) (.ite (.same rfl) (.same rfl))

theorem execLoglineRecordWrite_floorKept (readback : Bool) (s : State) :
    s.FloorKept (execLoglineRecordWrite readback s) := by
  unfold execLoglineRecordWrite
  split
  · exact .same rfl
  · exact .guard (.ite (.same (State.putLog_timeFloor ..)) (.same rfl))

/-- A clear removes records; its own record follows (R482). -/
theorem execLogClearDone_floorKept (s : State) : s.FloorKept (execLogClearDone s) := by
  unfold execLogClearDone
  split
  · exact .same rfl
  next w _ =>
    have hcleared : (s.nv.cleared w.scope w.upto).timeFloor = s.nv.timeFloor := rfl
    exact .same (by simp [hcleared])

theorem execResetRelease_floorKept (s : State) : s.FloorKept (execResetRelease s) := by
  refine .guard (.same ?_)
  rw [State.settleMutes_nv]
  exact s.nv.finishLife_timeFloor

/-! ### Every command -/

/-- A host command, as its dispatch runs it. -/
theorem State.FloorKept.command {i : Instr} {s : State} (h : exec i s = .next (runCommand i s.fetched)) :
    s.FloorKept (exec i s) := h ▸ .next (runCommand_timeFloor_le i s.fetched)

@[simp] theorem State.closeBurst_nv (s : State) (bg pos sub : Nat) : (s.closeBurst bg pos sub).nv = s.nv := by
  unfold State.closeBurst
  split
  · exact State.onDev_nv ..
  · rfl

@[simp] theorem State.evaluateOsc_nv (s : State) (byid sub : Nat) : (s.evaluateOsc byid sub).nv = s.nv := by
  unfold State.evaluateOsc
  dsimp only
  split
  · rfl
  · exact State.onDev_nv ..

theorem execPpsInEdge_floorKept (e : PpsEdge) (phase : Nat) (s : State) : s.FloorKept (execPpsInEdge e phase s) := by
  refine .guard (.same ?_)
  rw [State.settleSync_nv]
  exact State.ite_timeFloor (by simp) rfl

/-- No command and no reset lowers TIME_FLOOR. The first rows are those that may raise it, the second those that write
other parts of the MRAM; the rest leave the MRAM as it is, in each branch. -/
theorem exec_floorKept (c : Instr) (s : State) : s.FloorKept (exec c s) := by
  cases c with
  | tickEdge env => exact execTickEdge_floorKept env s
  | timeFloorRaise => exact execTimeFloorRaise_floorKept s
  | commandFetch ds => exact execCommandFetch_floorKept ds s
  | modeSet | coilEnter | coilWake | timeSet | sync | calRun | txTest | planLoad | muteSet | muteClr | netInd | ulSched
  | feLoad | yarnMap | beamSet | arrayCal | cancSet | entryLearn | trcScan | gainSet | belBank | belRead | bookBasis
  | bookLoad | bookRead | bookSet | bookDel | partnerRead | measSub | specSnap | captureArm | captureRead | reefCap
  | thmClr | marchRun | logRead | logNonce | logClear | lifeSet | keySet => exact .command rfl
  | resetRelease => exact execResetRelease_floorKept s
  | loglineRecordWrite readback => exact execLoglineRecordWrite_floorKept readback s
  | logClearDone => exact execLogClearDone_floorKept s
  | powerGood => exact .same rfl
  | optimeSave => exact .guard (.same rfl)
  | calWaveDone | calRunDone =>
    dsimp only [exec, execCalWaveDone, execCalRunDone]
    (repeat' split) <;> exact .same (by simp [State.calibrate_nv])
  | chipResetBegin => exact execChipResetBegin_floorKept s
  | brownOut | ilimHold => exact .guard (.same rfl)
  | warmResetRequest | chipResetRequest => exact .ite (.same (by rw [State.resetUnlessLatched_nv])) (.same rfl)
  | lifecycleReset => exact .guard (.same (by rw [State.resetUnlessLatched_nv]))
  | stopFirstUnlatch | jtagInstruction | vinSample | ppsInTimeout | spliceRefLoss | spliceRefRestore | muteNFall
  | muteNRise | endpointWriteback | entryAged | txTestEnd | faultNHoldEnd | tickCntRead | utcLoRead => exact .same rfl
  | doorbellProducer | idxBaseHiWrite | setupLock | stopperAcknowledge | registerWrite | i2cRead | pcieLinkEvent
  | sramWipeDone | firmwareLoaded | dramTrained | synth | lanyardDiscovery | lanyardRediscovery | lanyardRsp
  | lanyardRspMissing | syncInEdge | searchTimeout | spliceLinkUp | spliceSyncMessage | splicePortDown | marlineFrame
  | donorLoss | lockQual | tracerEpoch | coilWakeStart | stopperRaise | blockResetDone | spliceCalReport | runStart
  | syncInstant | spliceTimingMessage =>
    exact .guard (.same rfl)
  | bookLoadCommit => exact .same (State.ite_timeFloor rfl rfl)
  | ppsInEdge e phase => exact execPpsInEdge_floorKept e phase s
  | closeStart => exact .guard (.same (by simp))
  | burstOnset | signatureReady | weightSwitch | slotRelease | burstClose | oscEvaluate => exact .same (by simp)
  | planExpiry | muteRelease | tickOverrun | electionTimeout | masterTakeover | thermalCritical
  | spliceCandidateReport => exact .guard (.same (by simp))
  | masterLost | thermalSample => exact .guard (.same (State.ite_timeFloor (by simp) (by simp)))
  | ringRecordWrite | interruptDue | donorHoldExpiry | entryLearned | specSnapDone
  | captureRecord | syncOccasion | donorReplace | sfnReload | readClear | synthLock =>
    dsimp only [exec, execRingRecordWrite, execInterruptDue, execDonorHoldExpiry, execEntryLearned, execSpecSnapDone,
      execCaptureRecord, execSyncOccasion, execDonorReplace, execSfnReload, execReadClear, execSynthLock]
    (repeat' split) <;> exact .same (by simp)
  | doorbellConsumer | commandOutputDone | ringRecordDrop | ringCfgWrite | w1cClear | lanyardFrameSend
  | candidateExpire | marlineLinkRestore | clockSecond | feedbackDecay | matchComplete | entryLearnDone
  | arrayCalDone | captureTrigger | captureEnd | marchWindow | portATouch | marchDone | tddSwitch
  | matchLate =>
    dsimp only [exec, execDoorbellConsumer, execCommandOutputDone, execRingRecordDrop, execRingCfgWrite, execW1cClear,
      execLanyardFrameSend, execCandidateExpire, execMarlineLinkRestore, execClockSecond,
      execFeedbackDecay, execMatchComplete, execEntryLearnDone, execArrayCalDone, execCaptureTrigger,
      execCaptureEnd, execMarchWindow, execPortATouch, execMarchDone, execTddSwitch, execMatchLate]
    (repeat' split) <;> exact .same rfl

/-- Settles O12: TIME.SET refuses a value below TIME_FLOOR, the clock and a commit raise it, and nothing else moves
it. -/
theorem timeFloorNeverFalls : Obligations.TimeFloorNeverFalls := fun c s t h => exec_floorKept c s t h

/-! ### TIME.SET (R266) -/

/-- The checks of TIME.SET in their order. -/
def timeSetChecks (s : State) (x : Nat) : List (Bool × Nat) :=
  [(x == 0, stBadArg), (s.modes.mode == .reset || s.modes.mode == .latched, stDenied),
    (decide (x < s.nv.timeFloor), stDenied)]

theorem exec_timeSet_accepted {h : CmdHdr} {x : Nat} {s : State} (hpass : firstFail (timeSetChecks s x) = none) :
    exec (.timeSet h x) s = .next (({ s with
      nv := { s.nv with timeFloor := x }
      dev := { s.dev with clk := { utc := some x, ticks := 0, sinceFloor := 0 } } }).answered
        0x0104 h 0 0 none []) := by
  change Host.Outcome.next (cmdTimeSet h x s.fetched) = _
  unfold cmdTimeSet
  split
  next st hfail => cases hpass.symm.trans hfail
  next => rfl

theorem exec_timeSet_refused {h : CmdHdr} {x st : Nat} {s : State} (hfail : firstFail (timeSetChecks s x) = some st) :
    exec (.timeSet h x) s = .next (s.denied 0x0104 h st) := by
  change Host.Outcome.next (cmdTimeSet h x s.fetched) = _
  unfold cmdTimeSet
  split
  next st' hfail' =>
    obtain rfl := Option.some.inj (hfail.symm.trans hfail')
    rfl
  next hpass => cases hfail.symm.trans hpass

/-! ### The clock's second (R265) -/

theorem Dev.planEvent_eq (d : Dev) (c : Ctx) (p : Plan) (code left : Nat) :
    ∃ host, d.planEvent c p code left = { d with host := host } := by
  unfold Dev.planEvent Dev.event
  split
  · exact ⟨_, rfl⟩
  · exact ⟨d.host, rfl⟩

/-- The judgement of the plan reaches the plan's status and the events that it posts (R274). -/
theorem Dev.judgePlan_eq (d : Dev) (c : Ctx) :
    ∃ plan host, d.judgePlan c = { d with plan := plan, host := host } := by
  unfold Dev.judgePlan
  split
  · exact ⟨_, d.host, rfl⟩
  next p _ =>
    extract_lets ok left due24 due7 was plan judged posted
    have hposted : ∃ host, posted = { judged with host := host } := by
      unfold posted
      split
      · exact judged.planEvent_eq ..
      split
      · exact judged.planEvent_eq ..
      · exact ⟨d.host, rfl⟩
    obtain ⟨host, hposted⟩ := hposted
    rw [hposted]
    split
    · obtain ⟨host', hended⟩ := Dev.planEvent_eq { judged with host := host } c p 3 0
      exact ⟨_, host', hended⟩
    · exact ⟨_, host, rfl⟩

/-- The clock, a second after it read `u`. -/
def ClockSt.secondAfter (k : ClockSt) (u : Nat) : ClockSt :=
  { utc := some ((u + 1) % 2 ^ 64), ticks := k.ticks - 2000, sinceFloor := k.sinceFloor + 1 }

theorem exec_clockSecond {s : State} {u : Nat} (hset : s.dev.clk.utc = some u) (hticks : 2000 ≤ s.dev.clk.ticks) :
    exec .clockSecond s = .next (s.onDev fun c d =>
      ({ d with clk := d.clk.secondAfter u } : Dev).judgePlan c) := by
  change execClockSecond s = _
  unfold execClockSecond
  rw [hset]
  dsimp only
  rw [if_neg (Nat.not_lt.mpr hticks)]
  rfl

theorem exec_timeFloorRaise {s : State} {u : Nat} (hset : s.dev.clk.utc = some u)
    (hdue : 3600 ≤ s.dev.clk.sinceFloor) :
    exec .timeFloorRaise s = .next { s with
      nv := { s.nv with timeFloor := max s.nv.timeFloor u }
      dev := { s.dev with clk := { s.dev.clk with sinceFloor := 0 } } } := by
  change execTimeFloorRaise s = _
  unfold execTimeFloorRaise
  rw [hset]
  exact if_neg (Nat.not_lt.mpr hdue)

/-- Settles O22: TIME.SET is judged by its checks in their order, and the clock's second reaches beside the clock only
the judgement of the plan. -/
theorem clockIsSetAndAdvances : Obligations.ClockIsSetAndAdvances := by
  refine ⟨fun h x s hx hreset hlatched hfloor => exec_timeSet_accepted ?accepted,
    fun h s => exec_timeSet_refused rfl, fun h x s hx hdenied => exec_timeSet_refused ?refused,
    fun u s hset hticks => ?second, fun u s hset hdue => exec_timeFloorRaise hset hdue⟩
  case accepted =>
    simp [timeSetChecks, beq_false_of_ne hx, beq_false_of_ne hreset, beq_false_of_ne hlatched, Nat.not_lt.mpr hfloor]
  case refused =>
    rw [timeSetChecks, beq_false_of_ne hx, firstFail_false]
    cases hmode : s.modes.mode == .reset || s.modes.mode == .latched with
    | true => rfl
    | false =>
      have hlow : x < s.nv.timeFloor := by
        rw [Bool.or_eq_false_iff, beq_eq_false_iff_ne, beq_eq_false_iff_ne] at hmode
        tauto
      rw [firstFail_false, decide_eq_true hlow]
      rfl
  case second =>
    obtain ⟨plan, host, hjudge⟩ := Dev.judgePlan_eq { s.dev with clk := s.dev.clk.secondAfter u } s.ctx
    refine ⟨_, exec_clockSecond hset hticks, ?_⟩
    rw [State.onDev_dev, hjudge]
    exact ⟨rfl, rfl, rfl, s.sameOutside_onDev _, rfl⟩

end Sys2Proof.Machine
end

section
/-! PROOFS. Reads that clear, flags that a write clears, the reads over SMBus and the TAP, and the PCIe link (R15, R296,
R493, R524, R552, R557, R558). -/

namespace Sys2Proof.Machine

/-! ### Reads (R296, R492, R524) -/

theorem exec_utcLoRead (s : State) : exec .utcLoRead s = .next { s with
    time := { s.time with shUtcHi := s.dev.clk.utc.getD 0 / 2 ^ 32 }
    dev := { s.dev with host := { s.dev.host with read := s.reg 0x9C } } } := rfl

/-- A host read below 1 MB reads BAR0 (R492). -/
theorem State.hostReg_of_lt (s : State) {off : Nat} (hoff : off < 0x100000) : s.hostReg off = s.reg off :=
  if_neg fun h => absurd h.1 (Nat.not_le.mpr hoff)

/-- A read of an aligned BAR0 offset, BWL_TICK_CNT and BWL_UTC_LO apart, returns the register and clears what that read
clears. -/
theorem exec_readClear {off : Nat} (s : State) (halign : off % 4 = 0) (htick : off ≠ 0x40) (hutc : off ≠ 0x9C)
    (hoff : off < 0x100000) : exec (.readClear off) s = .next ((s.returns (s.reg off)).readClears off) := by
  change execReadClear off s = _
  unfold execReadClear
  dsimp only
  rw [if_neg (not_not.mpr halign), if_neg htick, if_neg hutc, s.hostReg_of_lt hoff]

/-- DROP of ring k (R524, Table HST-14). -/
theorem State.readClears_ring (s : State) {k : Nat} (hk : k < 6) :
    s.readClears (0x1014 + 0x20 * k) = s.setRing k { s.ring k with drop := 0 } := by
  have hindex : (0x1014 + 0x20 * k - 0x1000) / 0x20 = k := by omega
  unfold State.readClears
  rw [if_pos (by omega), hindex]

theorem exec_readClear_drop (s : State) {k : Nat} (hk : k < 6) :
    exec (.readClear (0x1014 + 0x20 * k)) s = .next
      ((s.returns (s.reg (0x1014 + 0x20 * k))).setRing k { s.ring k with drop := 0 }) := by
  rw [exec_readClear s (by omega) (by omega) (by omega) (by omega), State.readClears_ring _ hk]
  rfl

theorem exec_i2cRead {off : Nat} {s : State} (hoff : off < 2 ^ 24) (hpower : s.dev.boot.powered = true) :
    exec (.i2cRead off) s = .next { s with dev := { s.dev with host := { s.dev.host with i2c := s.reg off } } } := by
  change execI2cRead off s = _
  unfold execI2cRead
  rw [if_neg (by simp [hpower]), Nat.mod_eq_of_lt hoff]

/-! ### JTAG (R558) -/

/-- The codes that the TAP takes as they are, the test mode of TEST_N being `testN = false`. -/
def jtagTaken (testN : Bool) (code : Nat) : Prop :=
  code = 1 ∨ code = 2 ∨ (testN = false ∧ (code = 0 ∨ code = 4 ∨ code = 5))

theorem jtagEffect_of_taken {testN : Bool} {code : Nat} (h : jtagTaken testN code) : jtagEffect testN code = code := by
  unfold jtagEffect
  split
  · rfl
  next hbasic =>
    unfold jtagTaken at h
    rw [if_pos (by tauto)]

theorem jtagEffect_of_not_taken {testN : Bool} {code : Nat} (h : ¬jtagTaken testN code) :
    jtagEffect testN code = 0xFF := by
  unfold jtagTaken at h
  rw [jtagEffect, if_neg (by tauto), if_neg (by tauto)]

theorem exec_jtagInstruction {code : Nat} (s : State) (hcode : code < 256) :
    exec (.jtagInstruction code) s = .next { s with dev := { s.dev with host := { s.dev.host with
      jtag := jtagEffect s.ident.testN code } } } := by
  change execJtagInstruction code s = _
  rw [execJtagInstruction, Nat.mod_eq_of_lt hcode]

/-! ### The PCIe link (R493, R552) -/

/-- Outside the test mode of TEST_N each event of the link is taken; in it the link does not come up. -/
theorem exec_pcieLinkEvent {e : PcieEvent} {s : State} (h : s.ident.testN = true ∨ e ≠ .linkUp) :
    exec (.pcieLinkEvent e) s = .next { s with dev := { s.dev with host := s.dev.host.pcie e } } := by
  refine if_neg fun ⟨htest, hup⟩ => ?_
  rcases h with h | h
  · simp [h] at htest
  · exact h hup

theorem HostIf.pcie_linkUp {h : HostIf} (hperst : h.perstLow = false) :
    h.pcie .linkUp = { h with linkUp := true, started := true } := by simp [HostIf.pcie, hperst]

/-- Hot reset, link down and PERST_N low return the configuration space and the link to their PCIe reset values. -/
theorem HostIf.pcie_of_reset {e : PcieEvent} (h : HostIf) (he : e = .hotReset ∨ e = .linkDown ∨ e = .perstLow) :
    ∃ perst, h.pcie e = { h with bme := false, d3hot := false, linkUp := false, perstLow := perst } := by
  rcases he with rfl | rfl | rfl
  · exact ⟨h.perstLow, rfl⟩
  · exact ⟨h.perstLow, rfl⟩
  · exact ⟨true, rfl⟩

/-- Settles O19: each read returns before it clears, the W1C write clears DB_ERR alone, and an event of the link changes
the host interface alone. -/
theorem readsFlagsAndLinkEvents : Obligations.ReadsFlagsAndLinkEvents := by
  refine ⟨exec_utcLoRead, fun s => exec_readClear s rfl (by decide) (by decide) (by decide),
    fun s => exec_readClear s rfl (by decide) (by decide) (by decide), fun k s hk => exec_readClear_drop s hk,
    fun v s => rfl, fun off s hoff hpower => exec_i2cRead hoff hpower,
    fun code s hcode => ⟨_, exec_jtagInstruction s hcode, rfl, jtagEffect_of_taken, jtagEffect_of_not_taken⟩,
    fun s htest hperst => ?up, fun e s he => ?resets, fun s hup hd3 => ?bmeSet, fun s => ?d3hot⟩
  case up => rw [exec_pcieLinkEvent (.inl htest), HostIf.pcie_linkUp hperst]
  case resets =>
    obtain ⟨perst, hpcie⟩ := s.dev.host.pcie_of_reset he
    refine ⟨_, exec_pcieLinkEvent (.inr ?_), ?_⟩
    · rintro rfl
      rcases he with he | he | he <;> cases he
    · rw [hpcie]
      exact ⟨rfl, rfl, rfl⟩
  case bmeSet =>
    refine ⟨_, exec_pcieLinkEvent (.inr nofun), ?_⟩
    simp [HostIf.pcie, HostIf.mastering, hup, hd3]
  case d3hot =>
    refine ⟨_, exec_pcieLinkEvent (.inr nofun), ?_⟩
    simp [HostIf.pcie, HostIf.mastering]

end Sys2Proof.Machine
end

section
/-! PROOFS. Device mutes and their release: MUTE_N, donor loss and the expiry of a plan (R274, R277, R278, R280, R281,
R283, R550). -/

namespace Sys2Proof.Machine

/-! ### Mutes by level -/

theorem Dev.level4_of_holds {d : Dev} {trig scope : Nat} (h : d.holds trig 4 scope = true) : d.level4 = true := by
  obtain ⟨m, hm, -, hlevel, -⟩ := Dev.holds_iff.mp h
  exact List.any_eq_true.mpr ⟨m, hm, by simp [hlevel]⟩

theorem Dev.holds_congr {d e : Dev} (h : e.prt.mutes = d.prt.mutes) (trig level scope : Nat) :
    e.holds trig level scope = d.holds trig level scope := by rw [Dev.holds, h, Dev.holds]

/-! ### KILL (R105) -/

/-- With LYD_CLK running KILL is queued on every enabled port. -/
theorem Dev.mem_kill_queue {d : Dev} {c : Ctx} {p : Nat} (hclk : d.lyd.clk = true) (hp : p ∈ d.ports c) :
    plainFrame p (lydFrame 0 opKill 0 0 0 true) ∈ (d.kill c).lyd.queue := by
  rw [Dev.kill, if_pos hclk]
  exact List.mem_append_left _ (List.mem_map_of_mem hp)

/-! ### A trigger fires (R277) -/

/-- Cancelled switches go from the slots, and their hawsers count them (R170). -/
theorem Dev.cancelPending_eq (d : Dev) (c : Ctx) :
    ∃ beams hwsA, d.cancelPending c = { d with beams := beams, hwsA := hwsA } := by
  unfold Dev.cancelPending
  generalize d.beams.slots.filter _ = l
  induction l generalizing d with
  | nil => exact ⟨d.beams, d.hwsA, rfl⟩
  | cons w l ih => exact ih _

theorem Dev.cancelPending_lyd (d : Dev) (c : Ctx) : (d.cancelPending c).lyd = d.lyd := by
  obtain ⟨_, _, hcancel⟩ := d.cancelPending_eq c
  rw [hcancel]

theorem Dev.cancelPending_use (d : Dev) (c : Ctx) : (d.cancelPending c).use = d.use := by
  obtain ⟨_, _, hcancel⟩ := d.cancelPending_eq c
  rw [hcancel]

/-- A trip reaches the trip history alone (R279). -/
theorem Protect.ite_setTrip_eq (p : Protect) (q : Prop) [Decidable q] (t : OscTrip) :
    ∃ trips, (if q then p.setTrip t else p) = { p with trips := trips } := by
  split
  · exact ⟨_, rfl⟩
  · exact ⟨p.trips, rfl⟩

/-- `e` is `d` but for the mutes of a level, for which a trigger has fired: no mute of another level has come or gone,
and the pin, donor loss, the Lanyard bus and the setup registers in use are the same. -/
structure Dev.Fired (d e : Dev) (level : Nat) : Prop where
  otherLevels : ∀ l, l ≠ level → (e.prt.mutes.any fun m => m.level == l) = d.prt.mutes.any fun m => m.level == l
  muteNLow : e.prt.muteNLow = d.prt.muteNLow
  declared : e.prt.declared = d.prt.declared
  lyd : e.lyd = d.lyd
  use : e.use = d.use

/-- A trigger on a scope that it holds restarts its release rule, and does that alone. -/
theorem Dev.impose_of_holds {d : Dev} (c : Ctx) {t : Trigger} (hheld : d.holds t.trig t.level t.scope = true) :
    d.Fired (d.impose c t) t.level := by
  unfold Dev.impose
  extract_lets held k rel prt mutes
  obtain ⟨trips, hprt⟩ : ∃ trips, prt = { d.prt with trips := trips } := Protect.ite_setTrip_eq ..
  rw [if_pos hheld]
  refine ⟨fun l _ => ?_, by rw [hprt], by rw [hprt], rfl, rfl⟩
  have hmutes : prt.mutes = d.prt.mutes := by rw [hprt]
  rw [show mutes = prt.mutes.map _ from rfl, List.any_map, hmutes]
  congr 1
  funext m
  dsimp only [Function.comp]
  split <;> rfl

/-- A device trigger that does not hold begins its mute: KILL goes out, and the raise of its source follows. -/
theorem Dev.impose_begins {d : Dev} (c : Ctx) {t : Trigger} {src sev unit : Nat}
    (hfree : d.holds t.trig t.level t.scope = false) (hlevel : 4 ≤ t.level) (hsrc : t.source = some (src, sev, unit)) :
    ∃ e, d.Fired e t.level ∧ d.impose c t = (e.kill c).raise c src sev unit t.sub := by
  unfold Dev.impose
  extract_lets held k rel prt mutes mask recorded captured stopped m prt' muted sent
  obtain ⟨trips, hprt⟩ : ∃ trips, prt = { d.prt with trips := trips } := Protect.ite_setTrip_eq ..
  have hmuted : muted.prt = prt' := Dev.cancelPending_prt ..
  have hlyd : muted.lyd = d.lyd := by
    simp [muted, Dev.cancelPending_lyd, stopped, hlevel, captured, recorded]
  have huse : muted.use = d.use := by
    simp [muted, Dev.cancelPending_use, stopped, hlevel, captured, recorded]
  refine ⟨muted, ⟨fun l hl => ?_, ?_, ?_, hlyd, huse⟩, ?_⟩
  · simp [hmuted, prt', hprt, m, hl.symm]
  · rw [hmuted, show prt'.muteNLow = prt.muteNLow from rfl, hprt]
  · rw [hmuted, show prt'.declared = prt.declared from rfl, hprt]
  · rw [if_neg (by simp [held, hfree]), hsrc]
    dsimp only
    rw [show sent = _ from if_pos hlevel]

/-- A raise that names no hawser leaves the mutes, donor loss and the Lanyard bus. -/
theorem Dev.raise_prt (d : Dev) (c : Ctx) {src unit : Nat} (sev sub : Nat) (hname : namedHawser src unit = none) :
    (d.raise c src sev unit sub).prt = d.prt := by
  obtain ⟨_, _, _, _, _, hraise, -⟩ := d.raise_noted c sev sub hname
  rw [hraise]

theorem Dev.raise_lyd (d : Dev) (c : Ctx) {src unit : Nat} (sev sub : Nat) (hname : namedHawser src unit = none) :
    (d.raise c src sev unit sub).lyd = d.lyd := by
  obtain ⟨_, _, _, _, _, hraise, -⟩ := d.raise_noted c sev sub hname
  rw [hraise]

/-- A device trigger whose source names no hawser mutes the device, and only its own level changes. -/
theorem Dev.impose_device {d : Dev} (c : Ctx) {t : Trigger} {src sev unit : Nat} (hlevel : t.level = 4)
    (hsrc : t.source = some (src, sev, unit)) (hname : namedHawser src unit = none) :
    (d.impose c t).level5 = d.level5 ∧ (d.impose c t).prt.muteNLow = d.prt.muteNLow ∧
      (d.impose c t).prt.declared = d.prt.declared := by
  cases hheld : d.holds t.trig t.level t.scope with
  | true =>
    have hfired := Dev.impose_of_holds c hheld
    exact ⟨hfired.otherLevels 5 (by omega), hfired.muteNLow, hfired.declared⟩
  | false =>
    obtain ⟨e, hfired, himpose⟩ := Dev.impose_begins c hheld hlevel.ge hsrc
    have hprt : (d.impose c t).prt = e.prt := by rw [himpose, raise_prt _ _ _ _ hname, kill_prt]
    simp only [Dev.level5, hprt]
    exact ⟨hfired.otherLevels 5 (by omega), hfired.muteNLow, hfired.declared⟩

/-! ### MUTE_N (R281, R550) -/

/-- The trigger of MUTE_N at an offset. -/
def muteNTrigger (sub : Nat) : Trigger := { trig := 14, level := 4, scope := 0, unit := 0, loopg := 0, sub := sub }

theorem Dev.muteN_eq (d : Dev) (c : Ctx) (sub : Nat) : d.muteN c sub =
    if d.holds 14 4 0 then (d.impose c (muteNTrigger sub)).kill c else d.impose c (muteNTrigger sub) := rfl

theorem Dev.muteN_prt (d : Dev) (c : Ctx) (sub : Nat) : (d.muteN c sub).prt = (d.impose c (muteNTrigger sub)).prt := by
  rw [Dev.muteN_eq]
  split
  · exact Dev.kill_prt ..
  · rfl

theorem Dev.muteN_holds (d : Dev) (c : Ctx) (sub : Nat) : (d.muteN c sub).holds 14 4 0 = true := by
  rw [Dev.holds_congr (congrArg Protect.mutes (d.muteN_prt c sub))]
  exact d.impose_holds c (muteNTrigger sub)

theorem Dev.muteN_muteNLow (d : Dev) (c : Ctx) (sub : Nat) : (d.muteN c sub).prt.muteNLow = d.prt.muteNLow := by
  rw [Dev.muteN_prt]
  exact (d.impose_device c (t := muteNTrigger sub) rfl rfl rfl).2.1

/-- Each falling edge queues KILL, a further one again (R105, R281). -/
theorem Dev.mem_muteN_queue {d : Dev} {c : Ctx} {p : Nat} (sub : Nat) (hclk : d.lyd.clk = true) (hp : p ∈ d.ports c) :
    plainFrame p (lydFrame 0 opKill 0 0 0 true) ∈ (d.muteN c sub).lyd.queue := by
  have hkill {e : Dev} (hfired : d.Fired e 4) :
      plainFrame p (lydFrame 0 opKill 0 0 0 true) ∈ (e.kill c).lyd.queue := by
    refine Dev.mem_kill_queue (hfired.lyd ▸ hclk) ?_
    simpa [Dev.ports, Dev.portOn, hfired.use] using hp
  rw [Dev.muteN_eq]
  cases hheld : d.holds 14 4 0 with
  | true => exact hkill (Dev.impose_of_holds c (t := muteNTrigger sub) hheld)
  | false =>
    obtain ⟨e, hfired, himpose⟩ := Dev.impose_begins c (t := muteNTrigger sub) hheld le_rfl rfl
    rw [if_neg Bool.false_ne_true, himpose, Dev.raise_lyd _ _ _ _ rfl]
    exact hkill hfired

theorem exec_muteNFall {s : State} (sub : Nat) (hmode : s.modes.mode ≠ .reset) :
    exec (.muteNFall sub) s = .next (s.onDev fun c d =>
      ({ d with prt := { d.prt with muteNLow := true, muteNHigh := 0, muteNClean := false } } : Dev).muteN c sub) := by
  change execMuteNFall sub s = _
  unfold execMuteNFall
  dsimp only
  rw [if_neg hmode]
  rfl

theorem exec_muteNFall_reset {s : State} (sub : Nat) (hmode : s.modes.mode = .reset) :
    exec (.muteNFall sub) s = .next { s with dev := { s.dev with
      prt := { s.dev.prt with muteNLow := true, muteNHigh := 0, muteNClean := false } } } := by
  change execMuteNFall sub s = _
  unfold execMuteNFall
  dsimp only
  rw [if_pos hmode]

/-! ### Release (R277, R278, R283) -/

theorem mem_foldl_erase_filter {α : Type} [DecidableEq α] (p : α → Bool) (l : List α) (a : α) :
    a ∈ (l.filter p).foldl List.erase l ↔ a ∈ l ∧ p a = false := by
  rw [← List.diff_eq_foldl, ← List.count_pos_iff, List.count_diff, ← List.count_pos_iff]
  cases hp : p a with
  | true => simp [List.count_filter hp]
  | false =>
    have hnone : (l.filter p).count a = 0 := List.count_eq_zero.mpr (by simp [hp])
    simp [hnone]

theorem Dev.releaseMute_mutes (d : Dev) (c : Ctx) (m : Mute) : (d.releaseMute c m).prt.mutes = d.prt.mutes.erase m := by
  unfold Dev.releaseMute
  dsimp only
  rw [muteRecord_prt]
  split
  · split <;> rfl
  · rfl

theorem Dev.foldl_releaseMute_mutes (c : Ctx) (go : List Mute) (d : Dev) :
    (go.foldl (fun d m => d.releaseMute c m) d).prt.mutes = go.foldl List.erase d.prt.mutes := by
  induction go generalizing d with
  | nil => rfl
  | cons m go ih => rw [List.foldl_cons, ih, releaseMute_mutes, List.foldl_cons]

/-- The mutes whose rule is met are released, however often one stands there, and the others stay. -/
theorem Dev.mem_releaseMutes {d : Dev} {c : Ctx} {m : Mute} :
    m ∈ (d.releaseMutes c).prt.mutes ↔ m ∈ d.prt.mutes ∧ d.released c m = false := by
  have hmutes : (d.releaseMutes c).prt.mutes = (d.prt.mutes.filter (d.released c)).foldl List.erase d.prt.mutes :=
    Dev.foldl_releaseMute_mutes c _ d
  rw [hmutes, mem_foldl_erase_filter]

theorem State.leaveMuted_prt (s : State) : s.leaveMuted.dev.prt = s.dev.prt := by
  unfold State.leaveMuted
  split
  · dsimp only
    split
    · rfl
    · rw [Dev.restartYarns_prt, Dev.modeEvent_prt]
  · rfl

theorem State.leaveMuted_modes {s : State} (hmode : s.modes.mode ≠ .muted) : s.leaveMuted.modes = s.modes := by
  unfold State.leaveMuted
  split
  next hmuted _ => exact absurd hmuted hmode
  · rfl

theorem exec_muteRelease {s : State} (hrun : s.time.running = true) (hwin : s.time.window = .plan) :
    exec .muteRelease s = .next (s.onDev fun c d => d.releaseMutes c).leaveMuted :=
  if_neg (by simp [State.inPlan, hrun, hwin])

/-- Settles O25: a falling edge of MUTE_N holds the device mute and sends KILL, in RESET it takes the pin's level alone
(assumption 60), and a release reaches the mutes whose rule is met. -/
theorem muteContactAndRelease : Obligations.MuteContactAndRelease := by
  refine ⟨fun sub s hmode => exec_muteNFall_reset sub hmode, fun sub s hmode => ?falls, fun s => rfl,
    fun s hrun hwin => ?release⟩
  case falls =>
    have hholds := Dev.muteN_holds { s.dev with prt := { s.dev.prt with
      muteNLow := true, muteNHigh := 0, muteNClean := false } } s.ctx sub
    exact ⟨_, exec_muteNFall sub hmode, Dev.muteN_muteNLow .., hholds, Dev.level4_of_holds hholds,
      fun hclk p hp => Dev.mem_muteN_queue sub hclk hp, s.sameOutside_onDev _⟩
  case release =>
    refine ⟨_, exec_muteRelease hrun hwin, fun m => ?_, by simp, by simp, by simp, by simp, fun hmode => ?_⟩
    · rw [State.leaveMuted_prt]
      exact Dev.mem_releaseMutes
    · exact State.leaveMuted_modes (by simpa using hmode)

/-! ### The mode under a device mute (R283) -/

theorem State.settleMutes_prt (s : State) : s.settleMutes.dev.prt = s.dev.prt := by
  unfold State.settleMutes State.settleMutesAt
  dsimp only
  split
  · rfl
  · dsimp only
    split <;> split <;> simp

theorem ne_reset_of_relays {m : Mode} (h : relays m = true) : m ≠ .reset := by
  rintro rfl
  cases h

/-- With a level 4 mute and none of level 5 HANK and the relay modes become MUTED, and return to themselves. -/
theorem State.settleMutes_modes {s : State} (hrelays : relays s.modes.mode = true) (h4 : s.dev.level4 = true)
    (h5 : s.dev.level5 = false) :
    s.settleMutes.modes = { s.modes with mode := .muted, ret := some s.modes.mode } := by
  have hmuted : s.modes.underMutes s.dev = { s.modes with mode := .muted, ret := some s.modes.mode } := by
    rw [ModeSt.underMutes, if_neg (ne_reset_of_relays hrelays), if_neg (by simp [h5]), if_pos (by simp [hrelays, h4])]
  unfold State.settleMutes State.settleMutesAt
  dsimp only
  split
  next hsame => rw [← hmuted, hsame]
  · exact hmuted

/-! ### Donor loss and the expiry of a plan (R274, R280) -/

/-- The device trigger of a Plan window: of donor loss, trigger 9, and of the expiry of a plan, trigger 11. -/
def windowTrigger (trig : Nat) : Trigger := { trig := trig, level := 4, scope := 0, unit := 0, loopg := 0, sub := 0 }

/-- A device trigger fires in a Plan window, and the mode follows. -/
def State.windowMute (s : State) (trig : Nat) : State :=
  (s.onDev fun c d => d.impose c (windowTrigger trig)).settleMutes

theorem State.windowMute_holds (s : State) (trig : Nat) : (s.windowMute trig).dev.holds trig 4 0 = true := by
  rw [State.windowMute, Dev.holds_congr (congrArg Protect.mutes (State.settleMutes_prt _))]
  exact s.dev.impose_holds s.ctx (windowTrigger trig)

/-- Donor loss and the expiry of a plan raise source 3, which names no hawser (Table PRT-5). -/
theorem Dev.impose_windowTrigger (d : Dev) (c : Ctx) {trig : Nat} (htrig : trig = 9 ∨ trig = 11) :
    (d.impose c (windowTrigger trig)).level5 = d.level5 ∧
      (d.impose c (windowTrigger trig)).prt.declared = d.prt.declared := by
  rcases htrig with rfl | rfl
  · obtain ⟨hlevel5, -, hdeclared⟩ := d.impose_device c (t := windowTrigger 9) rfl rfl rfl
    exact ⟨hlevel5, hdeclared⟩
  · obtain ⟨hlevel5, -, hdeclared⟩ := d.impose_device c (t := windowTrigger 11) rfl rfl rfl
    exact ⟨hlevel5, hdeclared⟩

theorem State.windowMute_declared (s : State) {trig : Nat} (htrig : trig = 9 ∨ trig = 11) :
    (s.windowMute trig).dev.prt.declared = s.dev.prt.declared := by
  rw [State.windowMute, State.settleMutes_prt]
  exact (s.dev.impose_windowTrigger s.ctx htrig).2

theorem State.windowMute_modes {s : State} {trig : Nat} (htrig : trig = 9 ∨ trig = 11)
    (hrelays : relays s.modes.mode = true) (h5 : s.dev.level5 = false) :
    (s.windowMute trig).modes = { s.modes with mode := .muted, ret := some s.modes.mode } :=
  State.settleMutes_modes hrelays (Dev.level4_of_holds (s.dev.impose_holds s.ctx (windowTrigger trig)))
    ((s.dev.impose_windowTrigger s.ctx htrig).1.trans h5)

theorem donorLossMode_of_relays {m : Mode} (h : relays m = true) : donorLossMode m = true := by
  simp [donorLossMode, h]

theorem exec_donorLoss {s : State} (hrun : s.time.running = true) (hwin : s.time.window = .plan)
    (hmode : donorLossMode s.modes.mode = true) (hprio : s.dev.use.ptrCfg.field 0 2 ≠ 2)
    (hlong : 40 ≤ s.dev.prt.noSync) (hnone : s.dev.prt.declared = none) (hfree : s.dev.holds 9 4 0 = false) :
    exec .donorLoss s = .next { s with dev := { s.dev with
      prt := { s.dev.prt with declared := some s.time.n } } } :=
  if_neg (by simp [State.inPlan, hrun, hwin, hmode, hprio, Nat.not_lt.mpr hlong, hnone, hfree])

/-- Donor loss is no longer declared, and its count starts again. -/
def State.lossEnded (s : State) : State :=
  { s with dev := { s.dev with prt := { s.dev.prt with declared := none, noSync := 0 } } }

/-- The hold ends with trigger 9. -/
theorem exec_donorHoldExpiry {s : State} {t0 : Nat} (hrun : s.time.running = true) (hwin : s.time.window = .plan)
    (hmode : donorLossMode s.modes.mode = true) (hloss : s.dev.prt.declared = some t0)
    (hhold : s.dev.donorHold ≤ sub32 s.time.n t0) (hprio : s.dev.use.ptrCfg.field 0 2 ≠ 2) :
    exec .donorHoldExpiry s = .next (s.lossEnded.windowMute 9) := by
  change execDonorHoldExpiry s = _
  unfold execDonorHoldExpiry
  rw [hloss]
  exact if_neg (by simp [State.inPlan, hrun, hwin, hmode, hprio, Nat.not_lt.mpr hhold])

theorem exec_planExpiry {s : State} (hrun : s.time.running = true) (hwin : s.time.window = .plan)
    (hmode : s.modes.mode ≠ .reset) (hplan : s.dev.plan.committed.isSome = true) (hvalid : s.dev.plan.valid = false)
    (hfree : s.dev.planExpired = false) : exec .planExpiry s = .next (s.windowMute 11) := by
  have hsome : s.dev.plan.committed.isNone = false := by simpa [Option.isSome_iff_ne_none] using hplan
  exact if_neg (by simp [State.inPlan, hrun, hwin, hmode, hsome, hvalid, hfree])

/-- Settles O26: either trigger mutes the device from its Plan window on, and HANK and the relay modes become MUTED with
the mode that they left as return mode. -/
theorem lossAndExpiryMute : Obligations.LossAndExpiryMute := by
  refine ⟨fun s hrun hwin hmode hprio hlong hnone hfree => exec_donorLoss hrun hwin hmode hprio hlong hnone hfree,
    fun t0 s hrun hwin hrelays hloss hhold hprio h5 => ?hold,
    fun s hrun hwin hrelays hplan hvalid hfree h5 => ?expiry⟩
  case hold =>
    refine ⟨_, exec_donorHoldExpiry hrun hwin (donorLossMode_of_relays hrelays) hloss hhold hprio,
      State.windowMute_holds .., State.windowMute_declared _ (.inl rfl), ?_⟩
    rw [State.windowMute_modes (s := s.lossEnded) (.inl rfl) hrelays h5]
    simp [State.windowMute, State.lossEnded]
  case expiry =>
    refine ⟨_, exec_planExpiry hrun hwin (ne_reset_of_relays hrelays) hplan hvalid hfree, State.windowMute_holds .., ?_⟩
    rw [State.windowMute_modes (.inr rfl) hrelays h5]
    simp [State.windowMute]

end Sys2Proof.Machine
end

section
/-! PROOFS. Uplink bursts: how one opens and ends, its signature, and what its match enters into the book (R300 to R302,
R305, R307 to R311, R320, R340). -/

namespace Sys2Proof.Machine

/-! ### Onset, end and signature (R300 to R302, R340) -/

theorem State.openBurst_at_onset {u : State} {bg pos sub back : Nat}
    (honset : u.dev.onsetTick u.ctx bg pos sub = some back) (hblk : ¬(u.ctx.matcher bg ∈ u.dev.boot.blkRun))
    (hout : u.dev.matcherOut (u.ctx.matcher bg) = false) (hnone : u.dev.book.burst bg pos = none) :
    u.openBurst bg pos sub = u.onDev fun c d => { d with book := { d.book with
      bursts := d.book.bursts ++ [c.newBurst d.book.bhf bg pos back sub] } } := by
  simp [State.openBurst, honset, hblk, hout, hnone]

theorem Dev.closeSlots_of_none {d : Dev} {bg pos : Nat} (c : Ctx) (sub : Nat)
    (hslots : d.beams.slots.filter (fun w => w.bg == bg && w.pos == pos) = []) : d.closeSlots c bg pos sub = d := by
  simp only [Dev.closeSlots, hslots, List.foldl_nil]

/-- A slot that has switched waits for its release. -/
theorem Dev.closeSlots_of_switched {d : Dev} {bg pos : Nat} {w : Slot} (c : Ctx) (sub : Nat)
    (hslots : d.beams.slots.filter (fun w => w.bg == bg && w.pos == pos) = [w]) (hon : w.on = true) :
    d.closeSlots c bg pos sub =
      { d with beams := d.beams.onSlot w.bg w.idx fun y => { y with closed := true, shut := sub } } := by
  simp only [Dev.closeSlots, hslots, List.foldl_cons, List.foldl_nil, if_pos hon]

/-- The span of a burst that ends (R340). -/
def Burst.spanTo (b : Burst) (bg pos endTick end10 : Nat) : BurstSpan :=
  { bg := bg, pos := pos, onTick := b.onTick, on10 := b.on10, endTick := endTick, end10 := end10 }

/-- A burst shorter than 16 us is dropped and counted (R301). -/
theorem State.closeBurst_short {u : State} {bg pos sub back : Nat} {b : Burst}
    (hburst : u.dev.book.burst bg pos = some b) (hend : u.dev.endTickOf u.ctx bg pos sub = some back)
    (hshort : elapsed10 b.onTick b.on10 (u.ctx.tickAgo back) sub < 1600)
    (hslots : u.dev.beams.slots.filter (fun w => w.bg == bg && w.pos == pos) = []) :
    u.closeBurst bg pos sub = u.onDev fun c d => ({ d with book := { d.book.dropBurst b with
      spans := d.book.spans ++ [b.spanTo bg pos (c.tickAgo back) sub] } }).onHwsB (c.matcher bg) fun w =>
        { w with short := satAdd 8 w.short 1 } := by
  simp only [State.closeBurst, hburst, hend, State.onDev, hshort, decide_true, Bool.true_or, if_true]
  rw [Dev.closeSlots_of_none]
  · rfl
  · exact hslots

/-- A longer burst is left to its match, and the slot that has switched to its release. -/
theorem State.closeBurst_long {u : State} {bg pos sub back : Nat} {b : Burst} {w : Slot}
    (hburst : u.dev.book.burst bg pos = some b) (hend : u.dev.endTickOf u.ctx bg pos sub = some back)
    (hlong : 1600 ≤ elapsed10 b.onTick b.on10 (u.ctx.tickAgo back) sub) (hdone : b.done = false)
    (hbasis : (u.dev.book.basis bg).isSome = true)
    (hslots : u.dev.beams.slots.filter (fun w => w.bg == bg && w.pos == pos) = [w]) (hon : w.on = true) :
    u.closeBurst bg pos sub = u.onDev fun c d => { d with
      book := { d.book.putBurst { b with isOpen := false } with
        spans := d.book.spans ++ [b.spanTo bg pos (c.tickAgo back) sub] }
      beams := d.beams.onSlot w.bg w.idx fun y =>
        { y with closed := true, shut := if back = 0 then sub else 0 } } := by
  have hnone : (u.dev.book.basis bg).isNone = false := by simpa [Option.isSome_iff_ne_none] using hbasis
  simp only [State.closeBurst, hburst, hend, State.onDev, Int.not_lt.mpr hlong, hdone, hnone, decide_false,
    Bool.false_or, Bool.false_eq_true, if_false]
  rw [Dev.closeSlots_of_switched (w := w)]
  · rfl
  · exact hslots
  · exact hon

theorem State.signBurst_ready {u : State} {bg pos : Nat} {b : Burst} {f : BurstSig} (hrun : u.time.running = true)
    (hburst : u.dev.book.bursts.find? (fun x => x.bg == bg && x.pos == pos && !x.done && x.sig.isNone) = some b)
    (hsig : u.dev.signature u.ctx b = some f) :
    u.signBurst bg pos = u.onDev fun _ d =>
      { d with book := d.book.putBurst { b with sig := some f }, free := d.free + 1 } := by
  simp only [State.signBurst, hburst, hrun, hsig, Bool.not_true, Bool.false_eq_true, if_false]

/-! ### Records and reports -/

theorem maskBit_setBit_dirty (f : Nat) : maskBit (setBit f 3 1) 3 = true := by
  simp only [maskBit, setBit, beq_iff_eq]
  omega

/-- A record with DIRTY set, as every change leaves it (R325). -/
def Rec.dirtied (r : Rec) : Rec := { r with flags := setBit r.flags 3 1 }

/-- Where `p` takes the place of the records of its endpoint, no other record of that endpoint is left. -/
theorem mem_replaced {p q : Rec} {recs : List Rec}
    (hq : q ∈ recs.map fun y => if y.eid == p.eid then p else y) : q = p ∨ q.eid ≠ p.eid ∧ q ∈ recs := by
  obtain ⟨y, hy, rfl⟩ := List.mem_map.mp hq
  by_cases hid : y.eid = p.eid
  · exact .inl (if_pos (by simpa using hid))
  · rw [if_neg (by simpa using hid)]
    exact .inr ⟨hid, hy⟩

/-- The records of the other endpoints stay. -/
theorem mem_replaced_of_other {p q : Rec} {recs : List Rec} (hid : q.eid ≠ p.eid) :
    (q ∈ recs.map fun y => if y.eid == p.eid then p else y) ↔ q ∈ recs := by
  constructor
  · intro hq
    obtain rfl | ⟨-, hmem⟩ := mem_replaced hq
    · exact absurd rfl hid
    · exact hmem
  · exact fun hq => List.mem_map.mpr ⟨q, hq, if_neg (by simpa using hid)⟩

theorem Dev.report_eq (d : Dev) (c : Ctx) (kind : Nat) (r : Rec) (steered : Bool) (rho aux : Nat) :
    ∃ host, d.report c kind r steered rho aux = { d with host := host } := by
  unfold Dev.report Dev.record
  split
  · exact ⟨_, rfl⟩
  · exact ⟨d.host, rfl⟩

theorem Dev.cacheRec_eq (d : Dev) (c : Ctx) (r : Rec) (changed : Bool) :
    ∃ cache, d.cacheRec c r changed = { d with book := { d.book with cache := cache } } := ⟨_, rfl⟩

theorem Book.endMatch_eq (b : Book) (x : Burst) : ∃ bursts, b.endMatch x = { b with bursts := bursts } := by
  unfold Book.endMatch
  split <;> exact ⟨_, rfl⟩

/-! ### The sighting of a record (R311 to R313) -/

/-- `q` is the record `r` with a sighting entered: counted, with the burst's onset and power and the code of its
match. -/
def Rec.Sighted (r : Rec) (x : Burst) (f : BurstSig) (code : Nat) (q : Rec) : Prop :=
  q.eid = r.eid ∧ q.sightings = satAdd 32 r.sightings 1 ∧ q.lastRho = code ∧ q.lastPwr = f.power ∧
    q.lastTih = x.onTih ∧ q.lastBhf = x.onBhf

theorem Dev.derive_eq (d : Dev) (r : Rec) : ∃ widx, d.derive r = { r with widx := widx } := by
  unfold Dev.derive
  split
  · exact ⟨r.widx, rfl⟩
  · exact ⟨_, rfl⟩

/-- What follows the entry of a sighting, the run of consistent sightings, the drift of the signature and the derivation
of WIDX, leaves it as it was entered. -/
theorem Dev.sight_sighted (d : Dev) (c : Ctx) (x : Burst) (f : BurstSig) (coll : Bool) (r : Rec) (code : Nat) :
    r.Sighted x f code (d.sight c x f coll r code).1 := by
  unfold Dev.sight
  extract_lets u learn seg entered steady counted enrols drifts acc sig moves drifted relearns derived relearned valid kept
  have hentered : r.Sighted x f code entered := ⟨rfl, rfl, rfl, rfl, rfl, rfl⟩
  have hcounted : r.Sighted x f code counted := by
    unfold counted
    split <;> exact hentered
  have hdrifted : r.Sighted x f code drifted := hcounted
  have hrelearned : r.Sighted x f code relearned := by
    obtain ⟨widx, hderive⟩ : ∃ widx, derived = { drifted with widx := widx } := d.derive_eq drifted
    unfold relearned
    split
    · rw [hderive]
      exact hdrifted
    · exact hdrifted
  obtain ⟨widx, hderive⟩ := d.derive_eq relearned
  unfold valid
  split
  · rw [hderive]
    exact hrelearned
  · exact hrelearned

/-! ### What a match finds (R305, R308) -/

theorem Dev.claim_eq (d : Dev) (c : Ctx) (x : Burst) (r : Rec) (sub : Nat) :
    ∃ beams hwsA, (d.claim c x r sub).1 = { d with beams := beams, hwsA := hwsA } := by
  have same : ∃ beams hwsA, d = { d with beams := beams, hwsA := hwsA } := ⟨d.beams, d.hwsA, rfl⟩
  unfold Dev.claim
  dsimp only
  split
  · exact same
  split
  · exact same
  split
  · exact ⟨_, _, rfl⟩
  · exact ⟨_, d.hwsA, rfl⟩

theorem Dev.ite_report_eq (p : Prop) [Decidable p] (d : Dev) (c : Ctx) (kind : Nat) (r : Rec) (steered : Bool)
    (rho aux : Nat) :
    ∃ host, (if p then d.report c kind r steered rho aux else d) = { d with host := host } := by
  split
  · exact d.report_eq ..
  · exact ⟨d.host, rfl⟩

/-- A matched record takes the place of its endpoint's with the sighting entered and DIRTY set; the match claims a slot
and reports at most. -/
theorem Dev.applyHit_eq (d : Dev) (c : Ctx) (x : Burst) (f : BurstSig) (sub : Nat) (coll : Bool) (r : Rec)
    (code : Nat) : ∃ q book beams host hwsA, r.Sighted x f code q ∧
      book.recs = (d.book.recs.map fun y => if y.eid == q.dirtied.eid then q.dirtied else y) ∧
      d.applyHit c x f sub coll r code =
        { d with book := book, beams := beams, host := host, hwsA := hwsA } := by
  have hsighted := d.sight_sighted c x f coll r code
  unfold Dev.applyHit
  generalize d.sight c x f coll r code = sighted at hsighted
  obtain ⟨q, pend, relearned⟩ := sighted
  dsimp only
  generalize hput : ({ ((d.cacheRec c q true).putRec q) with book := _ } : Dev) = put
  obtain ⟨beams, hwsA, hclaim⟩ := put.claim_eq c x q sub
  obtain ⟨host, hreport⟩ := Dev.ite_report_eq ((put.claim c x q sub).1.use.reportSight = true)
    (put.claim c x q sub).1 c 3 q (put.claim c x q sub).2 code (ofSigned 32 f.power)
  obtain ⟨host', hreport'⟩ := Dev.ite_report_eq (relearned = true)
    { (put.claim c x q sub).1 with host := host } c 5 q (put.claim c x q sub).2 code q.relearn
  rw [hreport, hreport', hclaim, ← hput]
  exact ⟨q, _, beams, host', hwsA, hsighted, rfl, rfl⟩

/-- What the lookup of a burst of a single source decides (R305). -/
def Dev.lookup (d : Dev) (c : Ctx) (x : Burst) (f : BurstSig) (lost : List Nat) : Verdict :=
  verdict d.use (d.candidates c x.bg (keyOf f.sig) lost fun q => scoreOf q f.sig)

theorem Dev.applySingle_hit {d : Dev} {c : Ctx} {x : Burst} {f : BurstSig} (sub : Nat) {lost : List Nat} {r : Rec}
    {code : Nat} (hverdict : d.lookup c x f lost = .hit r code) :
    ∃ hwsB, d.applySingle c x f sub lost = ({ d with hwsB := hwsB } : Dev).applyHit c x f sub false r code := by
  rw [Dev.lookup] at hverdict
  simp only [Dev.applySingle, Dev.countMiss_use, hverdict]
  exact ⟨_, rfl⟩

/-! ### What a match creates (R310) -/

/-- `r` is the provisional record of a burst that no record matched. -/
def Rec.CreatedFrom (x : Burst) (f : BurstSig) (eid : Nat) (r : Rec) : Prop :=
  r.eid = eid ∧ r.state = 1 ∧ r.bg = x.bg ∧ r.pos = x.pos ∧ r.key = keyOf f.sig ∧ r.sig = f.sig ∧
    r.sightings = 1 ∧ r.widx = 0xFFFF

/-- Where there is an endpoint ID and room in the bucket, the record joins the book and is reported. -/
theorem Dev.createRec_eq {d : Dev} {c : Ctx} {x : Burst} {f : BurstSig} {eid : Nat}
    (hshed : d.reef.plan.bookShed = false) (hquality : 16 * (d.use.sigSnrMin : Int) ≤ f.quality)
    (heid : d.book.freeEid = some eid) (hroom : (d.book.bucket c.hawsers x.bg (keyOf f.sig)).length < 64) :
    ∃ r book host, r.CreatedFrom x f eid ∧ book.recs = d.book.recs ++ [r] ∧
      d.createRec c x f = { d with book := book, host := host } := by
  have hclear : ¬(d.reef.plan.bookShed = true ∨ f.quality < 16 * (d.use.sigSnrMin : Int)) := by
    simp [hshed, hquality]
  have hfree : ¬bucketSize ≤ (d.book.bucket c.hawsers x.bg (keyOf f.sig)).length := Nat.not_le.mpr hroom
  simp only [Dev.createRec, if_neg hclear, heid, if_neg hfree]
  obtain ⟨host, hreport⟩ := Dev.report_eq _ _ _ _ _ _ _
  rw [hreport]
  exact ⟨_, _, host, ⟨rfl, rfl, rfl, rfl, rfl, rfl, rfl, rfl⟩, rfl, rfl⟩

theorem Dev.applySingle_miss {d : Dev} {c : Ctx} {x : Burst} {f : BurstSig} (sub : Nat) {lost : List Nat}
    (hverdict : d.lookup c x f lost = .miss) :
    ∃ hwsB, d.applySingle c x f sub lost = ({ d with hwsB := hwsB } : Dev).createRec c x f := by
  rw [Dev.lookup] at hverdict
  simp only [Dev.applySingle, Dev.countMiss_use, hverdict]
  exact ⟨_, rfl⟩

/-! ### The match completes, or is late (R307, R308) -/

theorem Book.inMatch_bg {b : Book} {bg pos : Nat} {x : Burst} (hburst : b.inMatch bg pos = some x) : x.bg = bg := by
  obtain ⟨⟨hbg, -⟩, -⟩ : (x.bg = bg ∧ x.pos = pos) ∧ x.done = false := by simpa using List.find?_some hburst
  exact hbg

/-- The match of a burst of a single source completes in its time (R303, R307). -/
def State.Matches (s : State) (bg pos sub : Nat) (x : Burst) (f : BurstSig) : Prop :=
  s.dev.book.inMatch bg pos = some x ∧ x.sig = some f ∧ elapsed10 x.onTick x.on10 s.time.n sub ≤ 5000 ∧
    bookRuns s.modes.mode = true ∧ s.dev.matcherOut (s.ctx.matcher x.bg) = false ∧ sigCollides f s.dev.use = false

theorem exec_matchComplete_single {s : State} {bg pos sub : Nat} {x : Burst} {f : BurstSig} (lost : List Nat)
    (hmatch : s.Matches bg pos sub x f) :
    exec (.matchComplete bg pos sub lost) s = .next (s.onDev fun c d =>
      ({ d with book := d.book.endMatch x }).applySingle c x f sub lost) := by
  obtain ⟨hburst, hsig, htime, hmode, hout, hsingle⟩ := hmatch
  have hintime : ¬5000 < elapsed10 x.onTick x.on10 s.time.n sub := Int.not_lt.mpr htime
  rw [Book.inMatch_bg hburst] at hout
  change execMatchComplete bg pos sub lost s = _
  simp only [execMatchComplete, hburst, hsig]
  rw [if_neg (by simp [hintime, hmode, hout])]
  simp [State.onDev, hsingle]

/-- The end of the match leaves the records and the cache, and so what the lookup decides; then the sighting enters. -/
theorem exec_matchComplete_hit {s : State} {bg pos sub code : Nat} {lost : List Nat} {x : Burst} {f : BurstSig}
    {r : Rec} (hmatch : s.Matches bg pos sub x f) (hverdict : s.dev.lookup s.ctx x f lost = .hit r code) :
    ∃ q book beams host hwsA hwsB, r.Sighted x f code q ∧
      book.recs = (s.dev.book.recs.map fun y => if y.eid == q.dirtied.eid then q.dirtied else y) ∧
      exec (.matchComplete bg pos sub lost) s = .next { s with dev := { s.dev with
        book := book, beams := beams, host := host, hwsA := hwsA, hwsB := hwsB } } := by
  obtain ⟨bursts, hended⟩ := s.dev.book.endMatch_eq x
  obtain ⟨hwsB, hsingle'⟩ := Dev.applySingle_hit
    (d := { s.dev with book := { s.dev.book with bursts := bursts } }) sub hverdict
  obtain ⟨q, book, beams, host, hwsA, hsighted, hrecs, happly⟩ := Dev.applyHit_eq
    { s.dev with book := { s.dev.book with bursts := bursts }, hwsB := hwsB } s.ctx x f sub false r code
  refine ⟨q, book, beams, host, hwsA, hwsB, hsighted, hrecs, ?_⟩
  rw [exec_matchComplete_single lost hmatch, State.onDev, hended, hsingle', happly]

theorem exec_matchComplete_miss {s : State} {bg pos sub eid : Nat} {lost : List Nat} {x : Burst} {f : BurstSig}
    (hmatch : s.Matches bg pos sub x f) (hverdict : s.dev.lookup s.ctx x f lost = .miss)
    (hshed : s.dev.reef.plan.bookShed = false) (hquality : 16 * (s.dev.use.sigSnrMin : Int) ≤ f.quality)
    (heid : s.dev.book.freeEid = some eid)
    (hroom : (s.dev.book.bucket s.ctx.hawsers x.bg (keyOf f.sig)).length < 64) :
    ∃ r book host hwsB, r.CreatedFrom x f eid ∧ book.recs = s.dev.book.recs ++ [r] ∧
      exec (.matchComplete bg pos sub lost) s = .next { s with dev := { s.dev with
        book := book, host := host, hwsB := hwsB } } := by
  obtain ⟨bursts, hended⟩ := s.dev.book.endMatch_eq x
  obtain ⟨hwsB, hsingle'⟩ := Dev.applySingle_miss
    (d := { s.dev with book := { s.dev.book with bursts := bursts } }) sub hverdict
  obtain ⟨r, book, host, hcreated, hrecs, hcreate⟩ := Dev.createRec_eq
    (d := { s.dev with book := { s.dev.book with bursts := bursts }, hwsB := hwsB }) (c := s.ctx) (x := x)
    hshed hquality heid hroom
  refine ⟨r, book, host, hwsB, hcreated, hrecs, ?_⟩
  rw [exec_matchComplete_single lost hmatch, State.onDev, hended, hsingle', hcreate]

theorem exec_matchLate {s : State} {bg pos : Nat} {x : Burst} (hburst : s.dev.book.inMatch bg pos = some x)
    (hbasis : (s.dev.book.basis bg).isSome = true) :
    exec (.matchLate bg pos) s = .next { s with dev := { s.dev with
      book := s.dev.book.endMatch x
      hwsB := s.dev.hwsB.modify (s.ctx.matcher bg) fun w => { w with late := satAdd 8 w.late 1 } } } := by
  have hsome : ¬(s.dev.book.basis bg).isNone = true := by simpa [Option.isSome_iff_ne_none] using hbasis
  change execMatchLate bg pos s = _
  simp only [execMatchLate, hburst, if_neg hsome]
  rfl

/-- Settles O42: after the samples before it, an onset, an end or a signature changes the book as the model's own
operations say; a match enters its sighting into the records of one endpoint, or adds one record. -/
theorem burstsAreMatchedToRecords : Obligations.BurstsAreMatchedToRecords := by
  refine ⟨fun bg pos sub back x u s hu honset hblk hout hnone => ?onset,
    fun bg pos sub back n x b u s hu hburst hend hn hshort hslots => ?short,
    fun bg pos sub back n x b w u s hu hburst hend hn hlong hdone hbasis hslots hon => ?long,
    fun bg pos x b f u s hu hrun hburst hsig => ?signature,
    fun bg pos sub code lost x f r s hburst hsig htime hmode hout hsingle hverdict => ?hit,
    fun bg pos sub eid lost x f s hburst hsig htime hmode hout hsingle hverdict hshed hquality heid hroom => ?miss,
    fun bg pos x s hburst hbasis => exec_matchLate hburst hbasis, fun eid s => rfl⟩
  case onset =>
    subst hu
    change Host.Outcome.next ((s.feed x).openBurst bg pos sub) = _
    rw [State.openBurst_at_onset honset hblk hout hnone]
    rfl
  case short =>
    subst hu hn
    change Host.Outcome.next ((s.feed x).closeBurst bg pos sub) = _
    rw [State.closeBurst_short hburst hend hshort hslots]
    rfl
  case long =>
    subst hu hn
    change Host.Outcome.next ((s.feed x).closeBurst bg pos sub) = _
    rw [State.closeBurst_long hburst hend hlong hdone hbasis hslots hon]
    rfl
  case signature =>
    subst hu
    change Host.Outcome.next ((s.feed x).signBurst bg pos) = _
    rw [State.signBurst_ready hrun hburst hsig]
    rfl
  case hit =>
    obtain ⟨q, book, beams, host, hwsA, hwsB, ⟨hid, hcount, hcode, hpower, htih, hbhf⟩, hrecs, hexec⟩ :=
      exec_matchComplete_hit ⟨hburst, hsig, htime, hmode, hout, hsingle⟩ hverdict
    refine ⟨_, hexec, fun y hy hyid => ?_, fun y hyid => ?_, ⟨rfl, rfl, rfl, rfl, rfl, rfl, rfl⟩, rfl⟩
    · obtain rfl | ⟨hother, -⟩ := mem_replaced (hrecs ▸ hy)
      · exact ⟨hcount, hcode, hpower, htih, hbhf, maskBit_setBit_dirty q.flags⟩
      · exact absurd (hyid.trans hid.symm) hother
    · have hstays := mem_replaced_of_other (p := q.dirtied) (recs := s.dev.book.recs) (hid ▸ hyid)
      rw [← hrecs] at hstays
      exact hstays
  case miss =>
    obtain ⟨r, book, host, hwsB, ⟨hid, hstate, hbg, hpos, hkey, hsig', hcount, hwidx⟩, hrecs, hexec⟩ :=
      exec_matchComplete_miss ⟨hburst, hsig, htime, hmode, hout, hsingle⟩ hverdict hshed hquality heid hroom
    exact ⟨_, r, hexec, hrecs, hid, hstate, hbg, hpos, hkey, hsig', hcount, hwidx,
      ⟨rfl, rfl, rfl, rfl, rfl, rfl, rfl⟩, rfl⟩

end Sys2Proof.Machine
end

section
/-! PROOFS. BOOK.LOAD: what its checks decide, and what the image that waits leaves of the book at its Plan window (R307,
R323, R324). -/

namespace Sys2Proof.Machine

/-! ### The checks (R323, R324) -/

/-- The checks that come before those of the image (checks 1 to 3 of Table EPB-7). -/
theorem firstFail_bookLoad {d : Dev} {m : Mode} {b : InBuf} (hbuf : InBufGood b 64) (hmode : bookLoads m = true)
    (hidle : d.book.load = none) (hrecs : ∀ r, r ∈ d.book.recs → r.state ≠ 2) :
    firstFail ([(!bookLoads m, stDenied), (d.book.load.isSome, stBusy),
      (d.book.recs.any fun r => r.state == 2, stDenied)] ++ inChecks b 64) = none := by
  have hnone : (d.book.recs.any fun r => r.state == 2) = false := by simpa using hrecs
  have hin : firstFail (inChecks b 64) = none := by simpa using firstFail_inChecks hbuf []
  simp [hmode, hidle, hnone, hin]

/-- The load that an image which passed its checks waits with. -/
def ImageCheck.loadSt (k : ImageCheck) (h : CmdHdr) (img : Bytes) (c : Ctx) : BookLoadSt :=
  { hdr := h, recs := k.recs, skipped := k.skipped, exportBhf := fieldAt img 16 4, exportUtc := fieldAt img 24 8
    deadline := (c.n + 400) % two32 }

section
variable {h : CmdHdr} {b : InBuf} {s : State} (hbuf : InBufGood b 64) (hmode : bookLoads s.modes.mode = true)
  (hidle : s.dev.book.load = none) (hrecs : ∀ r, r ∈ s.dev.book.recs → r.state ≠ 2)
include hbuf hmode hidle hrecs

theorem exec_bookLoad_good (hgood : (s.dev.checkImage s.ctx (b.data.take b.len)).status = stOk) :
    exec (.bookLoad h b) s = .next (s.fetched.onDev fun c d => { d with book := { d.book with
      load := some ((d.checkImage c (b.data.take b.len)).loadSt h (b.data.take b.len) c) } }) := by
  have hok : ¬(s.fetched.dev.checkImage s.fetched.ctx (b.data.take b.len)).status ≠ stOk := not_not.mpr hgood
  change Host.Outcome.next (cmdBookLoad h b s.fetched) = _
  simp only [cmdBookLoad, State.onDev]
  rw [firstFail_bookLoad (d := s.fetched.dev) (m := s.fetched.ctx.mode) hbuf hmode hidle hrecs]
  dsimp only
  rw [if_neg hok]
  rfl

theorem exec_bookLoad_bad (hbad : (s.dev.checkImage s.ctx (b.data.take b.len)).status ≠ stOk) :
    exec (.bookLoad h b) s = .next (s.answered 0x0502 h (s.dev.checkImage s.ctx (b.data.take b.len)).status 0 none
      (zeros 8 ++ leBytes 4 (s.dev.checkImage s.ctx (b.data.take b.len)).failRec)) := by
  have hfail : (s.fetched.dev.checkImage s.fetched.ctx (b.data.take b.len)).status ≠ stOk := hbad
  change Host.Outcome.next (cmdBookLoad h b s.fetched) = _
  simp only [cmdBookLoad, State.onDev]
  rw [firstFail_bookLoad (d := s.fetched.dev) (m := s.fetched.ctx.mode) hbuf hmode hidle hrecs]
  dsimp only
  rw [if_pos hfail]
  rfl

end

theorem exec_bookLoad_busy {h : CmdHdr} {s : State} (b : InBuf) (hmode : bookLoads s.modes.mode = true)
    (hload : s.dev.book.load.isSome = true) : exec (.bookLoad h b) s = .next (s.denied 0x0502 h stBusy) := by
  change Host.Outcome.next (cmdBookLoad h b s.fetched) = _
  simp [cmdBookLoad, State.onDev, hmode, hload]

/-! ### Matches given up (R307) -/

/-- A match in flight is given up and counted as late. -/
def Dev.giveUp (d : Dev) (c : Ctx) (x : Burst) : Dev :=
  ({ d with book := d.book.endMatch x }).onHwsB (c.matcher x.bg) fun w => { w with late := satAdd 8 w.late 1 }

/-- The end of a match leaves no burst that still waits for it. -/
theorem Book.mem_endMatch_bursts {b : Book} {x y : Burst} (hy : y ∈ (b.endMatch x).bursts) :
    y.done = true ∨ y ∈ b.bursts ∧ y.same x = false := by
  unfold Book.endMatch at hy
  split at hy
  · obtain ⟨z, hz, rfl⟩ := List.mem_map.mp hy
    by_cases hsame : z.same { x with done := true } = true
    · exact .inl (by rw [if_pos hsame])
    · rw [if_neg hsame]
      exact .inr ⟨hz, Bool.eq_false_iff.mpr hsame⟩
  · obtain ⟨hmem, hother⟩ := List.mem_filter.mp hy
    exact .inr ⟨hmem, by simpa using hother⟩

/-- Once each match of a list has been given up, a burst that waits for its match is none of the list's. -/
theorem Dev.foldl_giveUp (c : Ctx) (l : List Burst) (d : Dev) : ∃ bursts hwsB,
    l.foldl (fun d x => d.giveUp c x) d = { d with book := { d.book with bursts := bursts }, hwsB := hwsB } ∧
      ∀ y, y ∈ bursts → y.done = true ∨ y ∈ d.book.bursts ∧ ∀ x, x ∈ l → y.same x = false := by
  induction l generalizing d with
  | nil => exact ⟨d.book.bursts, d.hwsB, rfl, fun y hy => .inr ⟨hy, by simp⟩⟩
  | cons x l ih =>
    obtain ⟨ended, hended⟩ := d.book.endMatch_eq x
    obtain ⟨bursts, hwsB, hfold, hbursts⟩ := ih (d.giveUp c x)
    refine ⟨bursts, hwsB, ?_, fun y hy => ?_⟩
    · rw [List.foldl_cons, hfold, Dev.giveUp, hended]
      rfl
    · obtain hdone | ⟨hmem, hrest⟩ := hbursts y hy
      · exact .inl hdone
      · obtain hdone | ⟨hmem, hx⟩ := Book.mem_endMatch_bursts hmem
        · exact .inl hdone
        · exact .inr ⟨hmem, List.forall_mem_cons.mpr ⟨hx, hrest⟩⟩

theorem Burst.same_self (x : Burst) : x.same x = true := by simp [Burst.same]

/-! ### The installation (R324) -/

/-- The enrolled records that an image does not name. -/
def Book.unnamed (b : Book) (recs : List Rec) : List Rec :=
  b.recs.filter fun r => r.state == 2 && !decide (r.eid ∈ recs.map (·.eid))

/-- The records of an image as they are installed, without DIRTY. -/
def BookLoadSt.installed (l : BookLoadSt) : List Rec := l.recs.map fun r => { r with flags := setBit r.flags 3 0 }

theorem BookLoadSt.mem_installed {l : BookLoadSt} {r : Rec} :
    r ∈ l.installed ↔ ∃ q, q ∈ l.recs ∧ r = { q with flags := setBit q.flags 3 0 } := by
  simp only [BookLoadSt.installed, List.mem_map, eq_comm]

theorem Book.mem_unnamed {l : BookLoadSt} {b : Book} {r : Rec} :
    r ∈ b.unnamed l.installed ↔ r ∈ b.recs ∧ r.state = 2 ∧ ∀ q, q ∈ l.recs → q.eid ≠ r.eid := by
  simp [Book.unnamed, BookLoadSt.installed]

/-- The commit gives up the matches in flight, installs the image beside the enrolled records that it does not name and
completes its command. -/
theorem Dev.commitBook_eq {d : Dev} {l : BookLoadSt} (c : Ctx) (hload : d.book.load = some l) :
    ∃ bursts bhf hwsB host, d.commitBook c = Dev.complete { d with
        book := { d.book with
          bursts := bursts
          recs := d.book.unnamed l.installed ++ l.installed
          cache := d.book.cache.filter fun e => (d.book.unnamed l.installed).any fun r => r.eid == e.1
          bhf := bhf, pend := [], load := none }
        hwsB := hwsB, host := host } 0x0502 l.hdr stOk 0 (some c.n)
          (leBytes 4 l.installed.length ++ leBytes 4 l.skipped) ∧
      (∀ y, y ∈ bursts → y.done = true ∨ d.book.basis y.bg = none) ∧
      (l.exportUtc = 0 → bhf = l.exportBhf % two32) := by
  obtain ⟨bursts, hwsB, hfold, hbursts⟩ :=
    d.foldl_giveUp c (d.book.bursts.filter fun x => !x.done && (d.book.basis x.bg).isSome)
  simp only [Dev.giveUp] at hfold
  simp only [Dev.commitBook, hload]
  rw [hfold]
  obtain ⟨host, hreport⟩ := Dev.reportNone_eq _ _ _ _
  rw [hreport]
  refine ⟨bursts, _, hwsB, host, rfl, fun y hy => ?_, fun hutc => ?_⟩
  · obtain hdone | ⟨hmem, hnone⟩ := hbursts y hy
    · exact .inl hdone
    · refine or_iff_not_imp_left.mpr fun hwaits => by_contra fun hbasis => ?_
      have hflies : y ∈ d.book.bursts.filter fun x => !x.done && (d.book.basis x.bg).isSome :=
        List.mem_filter.mpr ⟨hmem, by simp [hwaits, Option.isSome_iff_ne_none, hbasis]⟩
      simpa [Burst.same_self] using hnone y hflies
  · cases d.clk.utc <;> simp [hutc]

theorem exec_bookLoadCommit {s : State} (hrun : s.time.running = true) (hwin : s.time.window = .plan)
    (hbasis : s.dev.basisWaits = false) :
    exec .bookLoadCommit s = .next (s.onDev fun c d => d.commitBook c) := by
  have hplan : s.inPlan = true := by simp [State.inPlan, hrun, hwin]
  change execBookLoadCommit s = _
  rw [execBookLoadCommit, if_pos (by simp [hplan, hbasis])]

/-- Settles O41: the checks decide whether an image waits; its commit gives up the matches in flight and replaces the
records, of which the enrolled ones that the image does not name stay. -/
theorem bookLoadIsCheckedAndInstalled : Obligations.BookLoadIsCheckedAndInstalled := by
  refine ⟨fun h b k s hbuf hmode hidle hrecs hk hgood => ?good, fun h b k s hbuf hmode hidle hrecs hk hbad => ?bad,
    fun h b s hmode hload => exec_bookLoad_busy b hmode hload, fun l s hload hrun hwin hbasis => ?commit⟩
  case good =>
    subst hk
    exact exec_bookLoad_good hbuf hmode hidle hrecs hgood
  case bad =>
    subst hk
    exact exec_bookLoad_bad hbuf hmode hidle hrecs hbad
  case commit =>
    obtain ⟨bursts, bhf, hwsB, host, hcommit, hbursts, hbhf⟩ := Dev.commitBook_eq s.ctx hload
    refine ⟨_, exec_bookLoadCommit hrun hwin hbasis, ?_⟩
    rw [State.onDev, hcommit]
    refine ⟨rfl, rfl, fun r => ?recs, fun e => ?cache, hbursts, hbhf,
      ⟨_, List.mem_append_right _ (List.mem_singleton_self _), rfl, ?record⟩, ⟨rfl, rfl, rfl, rfl, rfl, rfl, rfl⟩, rfl⟩
    case recs => exact List.mem_append.trans (or_congr Book.mem_unnamed BookLoadSt.mem_installed)
    case cache =>
      refine List.mem_filter.trans (and_congr_right fun _ => List.any_eq_true.trans (exists_congr fun r => ?_))
      rw [Book.mem_unnamed, beq_iff_eq]
      tauto
    case record =>
      rw [BookLoadSt.installed, List.length_map]
      rfl

end Sys2Proof.Machine
end

section
/-! PROOFS. The commands of the Endpoint Book: what waits for its Plan window, and what is read (R298, R325 to R327,
R332). -/

namespace Sys2Proof.Machine

/-! ### BOOK.BASIS, BOOK.SET and BOOK.DEL (R298, R326, R327) -/

theorem exec_bookBasis {h : CmdHdr} {bg basisId : Nat} {b : InBuf} {s : State} (hbg : bg ≤ 7)
    (hbuf : InBufGood b 16384) (hvecs : ∀ v, v ∈ (List.range 32).map (fun i => vecOf (b.data.take b.len) (512 * i)) →
      vecBad s.dev.plan.loaded 2 v = false) (hid : basisId ≠ 0) (hmode : modeAccepts s.modes.mode 0x0501 = true)
    (hrecs : ∀ r, r ∈ s.dev.book.recs → r.bg ≠ bg) (hidle : s.dev.book.load = none) :
    exec (.bookBasis h bg basisId b) s = .next (s.accepted 0x0501 h (.basis bg basisId
      ((List.range 32).map fun i => vecOf (b.data.take b.len) (512 * i)))) := by
  have hany : (((List.range 32).map fun i => vecOf (b.data.take b.len) (512 * i)).any fun v =>
      vecBad s.dev.plan.loaded 2 v) = false := by
    simpa only [List.any_eq_false, Bool.not_eq_true] using hvecs
  have hnone : (s.dev.book.recs.any fun r => r.bg == bg) = false := by simpa using hrecs
  change Host.Outcome.next (cmdBookBasis h bg basisId b s.fetched) = _
  simp only [cmdBookBasis]
  rw [State.onDev_accept (by
    simp only [List.cons_append, Dev.fetched_plan, Dev.fetched_book, hany]
    simp [firstFail_inChecks hbuf, Nat.not_lt.mpr hbg, beq_false_of_ne hid, hmode, hnone, hidle]), State.fetched_planned]

theorem exec_bookSet {h : CmdHdr} {a : BookSetArgs} {r : Rec} {s : State} (hmask : a.mask % 8 ≠ 0)
    (hrec : s.dev.book.rec? a.eid = some r) (hwidx : maskBit a.mask 1 = true → a.widx ≤ 4095 ∨ a.widx = 0xFFFF)
    (hoffset : maskBit a.mask 2 = true → -320 ≤ a.offset ∧ a.offset ≤ 320)
    (hmode : modeAccepts s.modes.mode 0x0504 = true) :
    exec (.bookSet h a) s = .next (s.accepted 0x0504 h (.bookSet a)) := by
  have hwidx' : (maskBit a.mask 1 && decide (4095 < a.widx) && a.widx != 0xFFFF) = false := by
    rw [Bool.and_assoc, Bool.and_eq_false_imp]
    intro h1
    have := hwidx h1
    simp only [Bool.and_eq_false_imp, decide_eq_true_eq, bne_eq_false_iff_eq]
    omega
  have hoffset' : (maskBit a.mask 2 && (decide (a.offset < -320) || decide (320 < a.offset))) = false := by
    rw [Bool.and_eq_false_imp]
    intro h2
    simpa using hoffset h2
  change Host.Outcome.next (cmdBookSet h a s.fetched) = _
  simp only [cmdBookSet, if_neg hmask]
  rw [State.onDev_accept (by simp only [Dev.fetched_book, hrec, hwidx', hoffset']; simp [hmode]),
    State.fetched_planned]

theorem exec_bookSet_selects_nothing {h : CmdHdr} {a : BookSetArgs} {s : State} (hmask : a.mask % 8 = 0)
    (hmode : modeAccepts s.modes.mode 0x0504 = true) :
    exec (.bookSet h a) s = .next (s.answered 0x0504 h 0 0 none []) := by
  change Host.Outcome.next (cmdBookSet h a s.fetched) = _
  simp only [cmdBookSet, if_pos hmask]
  rw [State.onDev_accept (by simp [hmode]), State.fetched_ok]

theorem exec_bookDel {h : CmdHdr} {first count mask : Nat} {s : State} (hcount : count ≠ 0) (hmask : mask % 4 ≠ 0)
    (hlast : first + count ≤ 262144) (hmode : modeAccepts s.modes.mode 0x0505 = true) :
    exec (.bookDel h first count mask) s = .next (s.accepted 0x0505 h (.bookDel first count (mask % 4))) := by
  have hrange : ¬bookIds < first + count := Nat.not_lt.mpr hlast
  change Host.Outcome.next (cmdBookDel h first count mask s.fetched) = _
  rw [cmdBookDel, State.onDev_accept (by
    simp [beq_false_of_ne hcount, beq_false_of_ne hmask, hrange, hmode]), State.fetched_planned]

/-! ### BOOK.READ (R325) -/

/-- The records that a read selects. -/
def Rec.readBy (first count dirtyOnly : Nat) (r : Rec) : Bool :=
  decide (first ≤ r.eid) && decide (r.eid < first + count) && (dirtyOnly == 0 || maskBit r.flags 3)

/-- The records of a read in rising order. -/
def Book.readRecs (b : Book) (first count dirtyOnly : Nat) : List Rec :=
  sortBy (fun a b => decide (a.eid ≤ b.eid)) (b.recs.filter (Rec.readBy first count dirtyOnly))

/-- The records of the book after a read, which clears DIRTY of those it wrote where it is asked to. -/
def Book.recsRead (b : Book) (first count dirtyOnly clean : Nat) : List Rec :=
  if clean = 0 then b.recs
  else b.recs.map fun r => if Rec.readBy first count dirtyOnly r then { r with flags := setBit r.flags 3 0 } else r

section
variable {h : CmdHdr} {first count dirtyOnly clean : Nat} {o : OutBuf} {s : State} (hbuf : OutBufGood o)
  (hcount : count ≠ 0) (hlast : first + count ≤ 262144) (hdirty : dirtyOnly ≤ 1) (hclean : clean ≤ 1)
  (hmode : bookReads s.modes.mode = true)
include hbuf hcount hlast hdirty hclean hmode

theorem firstFail_bookRead : firstFail (outChecks o ++
    [(count == 0 || decide (bookIds < first + count) || decide (1 < dirtyOnly) || decide (1 < clean), stBadArg),
      (!bookReads s.fetched.ctx.mode, stDenied)]) = none := by
  have hrange : ¬bookIds < first + count := Nat.not_lt.mpr hlast
  simp [firstFail_outChecks hbuf, beq_false_of_ne hcount, hrange, Nat.not_lt.mpr hdirty, Nat.not_lt.mpr hclean, hmode]

theorem exec_bookRead_output {rs : List Rec} (hrs : rs = s.dev.book.readRecs first count dirtyOnly)
    (hroom : 64 + 256 * rs.length ≤ o.len) :
    exec (.bookRead h first count dirtyOnly clean o) s =
      .next (({ s with dev := { s.dev with book := { s.dev.book with
          recs := s.dev.book.recsRead first count dirtyOnly clean } } }).outputs 0x0503 h o.addr
        (s.dev.imageHeader s.ctx rs.length (rs.flatMap Rec.bytes) ++ rs.flatMap Rec.bytes)
        (leBytes 4 (64 + 256 * rs.length) ++ leBytes 4 rs.length ++ leBytes 4 (64 + 256 * rs.length))) := by
  subst hrs
  change Host.Outcome.next (cmdBookRead h first count dirtyOnly clean o s.fetched) = _
  simp only [cmdBookRead, State.onDev]
  rw [firstFail_bookRead hbuf hcount hlast hdirty hclean hmode]
  dsimp only
  split
  case isTrue hover => exact absurd hover (Nat.not_lt.mpr hroom)
  case isFalse =>
    unfold Book.recsRead
    split <;> rfl

theorem exec_bookRead_noRoom {rs : List Rec} (hrs : rs = s.dev.book.readRecs first count dirtyOnly)
    (hroom : o.len < 64 + 256 * rs.length) :
    exec (.bookRead h first count dirtyOnly clean o) s = .next (s.answered 0x0503 h stNoRoom 0 none
      (leBytes 4 0 ++ leBytes 4 0 ++ leBytes 4 (64 + 256 * rs.length))) := by
  subst hrs
  change Host.Outcome.next (cmdBookRead h first count dirtyOnly clean o s.fetched) = _
  simp only [cmdBookRead, State.onDev]
  rw [firstFail_bookRead hbuf hcount hlast hdirty hclean hmode]
  dsimp only
  split
  case isTrue => rfl
  case isFalse hfits => exact absurd hroom hfits

end

/-! ### PARTNER.READ (R332) -/

/-- The entries that PARTNER.READ writes: the donors, or the neighbours. -/
def Dev.partners (d : Dev) (kind : Nat) : List Bytes :=
  if kind = 1 then (sortBy (fun a b => decide (a.idx ≤ b.idx)) d.ptr.cands).map d.donorEntry
  else (sortBy (fun a b => decide (a.idx ≤ b.idx)) d.book.nbrs).map d.nbrEntry

theorem exec_partnerRead {h : CmdHdr} {kind : Nat} {o : OutBuf} {s : State} (hbuf : OutBufGood o) (hlo : 1 ≤ kind)
    (hhi : kind ≤ 2) (hmode : bookReads s.modes.mode = true) (hroom : 32 * (s.dev.partners kind).length ≤ o.len) :
    exec (.partnerRead h kind o) s = .next (s.outputs 0x0506 h o.addr (s.dev.partners kind).flatten
      (leBytes 1 (s.dev.partners kind).length)) := by
  have hexec : exec (.partnerRead h kind o) s = .next (s.fetched.onDev fun c d => guarded 0x0506 h
      (outChecks o ++ [(outside kind 1 2, stBadArg), (!bookReads c.mode, stDenied),
        (decide (o.len < 32 * (d.partners kind).length), stNoRoom)])
      (fun e => e.startOutput 0x0506 h o.addr (d.partners kind).flatten (leBytes 1 (d.partners kind).length)) d) := rfl
  have hfits : ¬o.len < 32 * (s.fetched.dev.partners kind).length := Nat.not_lt.mpr hroom
  rw [hexec, State.onDev, guarded_accept (by
    rw [firstFail_outChecks hbuf]
    simp [-State.fetched_dev, outside_of_within hlo hhi, hmode, hfits])]
  rfl

/-- Settles O40: each command passes its checks; a read writes the selected records, or its result where they do not
fit. -/
theorem bookCommands : Obligations.BookCommands := by
  refine ⟨?basis, ?set, ?none, ?delete, ?read, ?donors, ?neighbours⟩
  case basis =>
    intro h bg basisId b vs s hbg hbuf hvs hvecs hid hmode hrecs hidle
    subst hvs
    exact exec_bookBasis hbg hbuf hvecs hid hmode hrecs hidle
  case set => exact fun h a r s hmask hrec hwidx hoffset hmode => exec_bookSet hmask hrec hwidx hoffset hmode
  case none => exact fun h a s hmask hmode => exec_bookSet_selects_nothing hmask hmode
  case delete => exact fun h first count mask s hcount hmask hlast hmode => exec_bookDel hcount hmask hlast hmode
  case read =>
    intro h first count dirtyOnly clean o mine rs s hbuf hcount hlast hdirty hclean hmode hmine hrs
    subst hmine
    exact ⟨exec_bookRead_output hbuf hcount hlast hdirty hclean hmode hrs,
      exec_bookRead_noRoom hbuf hcount hlast hdirty hclean hmode hrs⟩
  case donors =>
    intro h o xs s hbuf hmode hxs hroom
    have hlen : (s.dev.partners 1).length = xs.length := hxs ▸ List.length_map _
    rw [exec_partnerRead hbuf (le_refl 1) one_le_two hmode (by rwa [hlen]), hlen, hxs]
    rfl
  case neighbours =>
    intro h o xs s hbuf hmode hxs hroom
    have hlen : (s.dev.partners 2).length = xs.length := hxs ▸ List.length_map _
    rw [exec_partnerRead hbuf one_le_two (le_refl 2) hmode (by rwa [hlen]), hlen, hxs]
    rfl

end Sys2Proof.Machine
end

section
/-! PROOFS. The measurement commands: the yarns that MEAS.SUB, SPEC.SNAP and CAPTURE.ARM take up, and what CAPTURE.READ
reads (R348, R351, R353 to R355, R512). -/

namespace Sys2Proof.Machine

/-! ### Commands that act on what their checks read -/

section
variable {s : State} {op : Nat} {h : CmdHdr} {l : Ctx → Dev → List (Bool × Nat)} {f : Ctx → Dev → Dev → Dev}

/-- `State.onDev_accept` where the effect reads the device that the checks read, such as the yarns admitted to it. -/
theorem State.onDev_accept_read (hl : firstFail (l s.ctx s.dev.fetched) = none) :
    (s.fetched.onDev fun c d => guarded op h (l c d) (f c d) d) =
      { s with dev := f s.ctx s.dev.fetched s.dev.fetched } := by
  simp only [State.onDev, State.ctx_fetched, State.fetched_dev, guarded_accept hl]
  rfl

/-- `State.onDev_refuse` where the effect reads the device that the checks read. -/
theorem State.onDev_refuse_read {st : Nat} (hl : firstFail (l s.ctx s.dev.fetched) = some st) :
    (s.fetched.onDev fun c d => guarded op h (l c d) (f c d) d) = s.denied op h st := by
  simp only [State.onDev, State.ctx_fetched, State.fetched_dev, guarded_refuse hl]
  rfl

end

/-! ### MEAS.SUB (R348) -/

theorem exec_measSub {h : CmdHdr} {a : MeasArgs} {e : Dev} {g : Nat} {s : State}
    (hargs : s.dev.fetched.measBad s.ident.member a = false) (hmode : modeAccepts s.modes.mode 0x0601 = true)
    (hroom : a.action = 1 → s.dev.fetched.subsFull s.ctx.hawsers a = false)
    (hadmit : s.dev.fetched.admitAll (subYarns s.ctx.effTick a) = some e)
    (hdelay : (if a.action = 2 then some 0 else s.dev.fetched.gdelay a) = some g) :
    exec (.measSub h a) s = .next { s with
      dev := ({ e with pend := e.pend ++
        [({ tick := s.ctx.effTick, opcode := 0x0601, tag := h.tag, what := .sub a } : Pend)] }).complete 0x0601 h 0 0
          (some s.ctx.effTick) (leBytes 4 g) } := by
  have hfull : (a.action == 1 && s.dev.fetched.subsFull s.ctx.hawsers a) = false := by
    rw [Bool.and_eq_false_imp]
    simpa using hroom
  change Host.Outcome.next (cmdMeasSub h a s.fetched) = _
  simp only [cmdMeasSub]
  rw [State.onDev_accept_read (by simp [hargs, hmode, hfull, hadmit]), hadmit, hdelay]
  rfl

/-! ### SPEC.SNAP (R351) -/

section
variable {h : CmdHdr} {a : SnapArgs} {o : OutBuf} {s : State} (hbuf : OutBufGood o) (hstrand : a.strand < s.ctx.strands)
  (hcentre : centreOk a.centreKhz = true) (hrho : outside a.rho 1 8 = false) (hresp : a.mresp ≤ 5)
  (havg : outside a.avg 1 64 = false) (hmode : modeAccepts s.modes.mode 0x0602 = true)
include hbuf hstrand hcentre hrho hresp havg hmode

/-- A snapshot in its ranges comes to the checks of its room. -/
theorem firstFail_specSnap (rest : List (Bool × Nat)) : firstFail (outChecks o ++
    (decide (s.ctx.strands ≤ a.strand), stBadArg) :: (!centreOk a.centreKhz, stBadArg) ::
      (outside a.rho 1 8, stBadArg) :: (decide (5 < a.mresp), stBadArg) :: (outside a.avg 1 64, stBadArg) ::
      (!modeAccepts s.ctx.mode 0x0602, stDenied) :: rest) = firstFail rest := by
  simp [firstFail_outChecks hbuf, Nat.not_le.mpr hstrand, hcentre, hrho, Nat.not_lt.mpr hresp, havg, hmode]

theorem exec_specSnap {e : Dev} (hroom : 16384 ≤ o.len)
    (hadmit : s.dev.fetched.admitAll [mkYarn 3 (s.dev.fetched.snapKey a.tag) s.ctx.effTick a.strand a.centreKhz a.rho
      a.mresp] = some e) :
    exec (.specSnap h a o) s = .next { s with
      dev := ({ e with ldl := { e.ldl with
        snaps := e.ldl.snaps ++ [({
          key := s.dev.fetched.snapKey a.tag, mark := 0, words := [], a := a, addr := o.addr, shed := 0 } : Snap)] } }).ok
          0x0602 h } := by
  change Host.Outcome.next (cmdSpecSnap h a o s.fetched) = _
  simp only [cmdSpecSnap]
  rw [State.onDev_accept_read (by
    rw [firstFail_specSnap hbuf hstrand hcentre hrho hresp havg hmode]
    simp [Nat.not_lt.mpr hroom, hadmit]), hadmit]
  rfl

theorem exec_specSnap_noRoom (hroom : o.len < 16384) :
    exec (.specSnap h a o) s = .next (s.denied 0x0602 h stNoRoom) := by
  change Host.Outcome.next (cmdSpecSnap h a o s.fetched) = _
  simp only [cmdSpecSnap]
  rw [State.onDev_refuse_read (by
    rw [firstFail_specSnap hbuf hstrand hcentre hrho hresp havg hmode, decide_eq_true hroom, firstFail_true])]

end

/-! ### CAPTURE.ARM (R353 to R355) -/

theorem exec_captureArm_noSource {h : CmdHdr} {a : CapArgs} {s : State} (b : InBuf) (hnone : a.nsrc = 0)
    (hbufc : a.bufc ≤ 15) (hmode : modeAccepts s.modes.mode 0x0603 = true) :
    exec (.captureArm h a b) s = .next (s.accepted 0x0603 h (.arm a [] 0 0)) := by
  have hentries : capEntries a.nsrc (b.data.take b.len) = [] := by rw [hnone]; rfl
  have hyarns : s.dev.fetched.admitAll (capYarns s.ctx.effTick a.bufc []) = some s.dev.fetched := rfl
  have hargs : capArmBad s.ident.member s.dev.mem.dens a = false := by
    simp [capArmBad, hnone, Nat.not_lt.mpr hbufc]
  have hring : subRing a.sizeMb a.nsrc = 0 := if_pos hnone
  change Host.Outcome.next (cmdCaptureArm h a b s.fetched) = _
  simp only [cmdCaptureArm]
  rw [State.onDev_accept_read (by
    simp only [hentries, List.map_nil, hyarns]
    simp [hargs, hnone, hmode]), hentries, hring, List.map_nil, hyarns]
  rfl

theorem exec_captureArm {h : CmdHdr} {a : CapArgs} {b : InBuf} {es : List Bytes} {e : Dev} {s : State}
    (hsome : a.nsrc ≠ 0) (hargs : capArmBad s.ident.member s.dev.mem.dens a = false) (hbuf : InBufGood b (16 * a.nsrc))
    (hes : es = capEntries a.nsrc (b.data.take b.len))
    (hsrcs : ∀ x, x ∈ es → s.dev.fetched.capSrcBad s.ident.member (capSrcOf x) = false)
    (hspan : ∀ x, x ∈ es → s.dev.fetched.capRate a.format (capSrcOf x) * (a.preUs + a.postUs) ≤
      8000000 * subRing a.sizeMb a.nsrc)
    (hmode : modeAccepts s.modes.mode 0x0603 = true) (hidle : (s.dev.ldl.caps.getD a.bufc default).state ≠ 1)
    (hquiet : (s.dev.ldl.caps.getD a.bufc default).state ≠ 2)
    (hmarch : ∀ m, m ∈ s.dev.mem.march → m.a.die ≠ 8 ∨ m.a.mode ≠ 2)
    (hrates : s.dev.capRates + (es.map fun x => s.dev.fetched.capRate a.format (capSrcOf x)).sum ≤ 2000000000000)
    (hroom : s.dev.capMbOthers a.bufc + a.sizeMb ≤ captureMb s.dev.mem.dens)
    (hadmit : s.dev.fetched.admitAll (capYarns s.ctx.effTick a.bufc (es.map capSrcOf)) = some e) :
    exec (.captureArm h a b) s = .next { s with
      dev := e.planned s.ctx 0x0603 h (.arm a es (es.map fun x => s.dev.fetched.capRate a.format (capSrcOf x)).sum
        (subRing a.sizeMb a.nsrc)) } := by
  have hsrcs' : ((es.map capSrcOf).any fun x => s.dev.fetched.capSrcBad s.ident.member x) = false := by
    simpa using hsrcs
  have hspan' : (((es.map capSrcOf).map fun x => s.dev.fetched.capRate a.format x).any fun r =>
      decide (8000000 * subRing a.sizeMb a.nsrc < r * (a.preUs + a.postUs))) = false := by
    simpa using hspan
  have hmarch' : (s.dev.mem.march.any fun m => m.a.die == 8 && m.a.mode == 2) = false := by
    simpa [or_iff_not_imp_left] using hmarch
  have hrates' : ¬2000000000000 < s.dev.fetched.capRates +
      ((es.map capSrcOf).map fun x => s.dev.fetched.capRate a.format x).sum := by
    rw [List.map_map]
    exact Nat.not_lt.mpr hrates
  have hroom' : ¬captureMb s.dev.mem.dens < s.dev.fetched.capMbOthers a.bufc + a.sizeMb := Nat.not_lt.mpr hroom
  change Host.Outcome.next (cmdCaptureArm h a b s.fetched) = _
  simp only [cmdCaptureArm, ← hes, if_neg hsome]
  rw [State.onDev_accept_read (by
    simp only [State.ctx_ident, Dev.fetched_mem, Dev.fetched_ldl, hsrcs', hspan', hmarch', hrates', hroom', hadmit,
      hargs, List.cons_append, firstFail_false, firstFail_inChecks hbuf]
    simp [hmode, beq_false_of_ne hidle, beq_false_of_ne hquiet, -List.getD_eq_getElem?_getD]), hadmit, List.map_map]
  rfl

/-! ### CAPTURE.READ (R512) -/

section
variable {h : CmdHdr} {bufc offset : Nat} {o : OutBuf} {s : State} (hbuf : OutBufGood o) (hbufc : bufc ≤ 15)
  (hoffset : offset % 4 = 0) (hlen : o.len % 4 = 0) (hmode : modeAccepts s.modes.mode 0x0604 = true)
include hbuf hbufc hoffset hlen hmode

theorem exec_captureRead_held {b : Cap} (hcap : b = s.dev.ldl.caps.getD bufc default) (hheld : b.state = 3)
    (hwithin : offset + o.len ≤ b.srcs.length * b.subRing) :
    exec (.captureRead h bufc offset o) s = .next (s.outputs 0x0604 h o.addr
      ((List.range o.len).map fun i => b.byte (offset + i)) (leBytes 4 o.len) (some bufc)) := by
  change Host.Outcome.next (cmdCaptureRead h bufc offset o s.fetched) = _
  simp only [cmdCaptureRead]
  rw [State.onDev_accept_read (by
    simp [firstFail_outChecks hbuf, Nat.not_lt.mpr hbufc, hoffset, hlen, hmode, ← hcap, hheld,
      Nat.not_lt.mpr hwithin, -List.getD_eq_getElem?_getD]), State.fetched_startOutput, Dev.fetched_ldl, ← hcap]

theorem exec_captureRead_notHeld {b : Cap} (hcap : b = s.dev.ldl.caps.getD bufc default) (hheld : b.state ≠ 3) :
    exec (.captureRead h bufc offset o) s = .next (s.denied 0x0604 h 3) := by
  change Host.Outcome.next (cmdCaptureRead h bufc offset o s.fetched) = _
  simp only [cmdCaptureRead]
  rw [State.onDev_refuse_read (st := stDenied) (by
    simp [firstFail_outChecks hbuf, Nat.not_lt.mpr hbufc, hoffset, hlen, hmode, ← hcap, beq_false_of_ne hheld,
      bne_iff_ne.mpr hheld, -List.getD_eq_getElem?_getD])]
  rfl

end

/-- Settles O44: each command passes its checks in order, and its yarns are the ones that were admitted; the two refusals
are the first checks to fail. -/
theorem measurementCommands : Obligations.MeasurementCommands := by
  refine ⟨?subscribe, ?snapshot, ?noRoom,
    fun h a b s hnone hbufc hmode => exec_captureArm_noSource b hnone hbufc hmode, ?arm, ?read⟩
  case subscribe =>
    intro h a e g s hargs hmode hroom hadmit hdelay
    refine exec_measSub hargs hmode hroom hadmit ?_
    split
    case isTrue hdelete => rw [if_pos hdelete] at hdelay; rw [hdelay]
    case isFalse hkeep => rwa [if_neg hkeep] at hdelay
  case snapshot =>
    intro h a o e s hbuf hstrand hcentre hrho1 hrho8 hresp havg1 havg64 hmode hroom hadmit
    exact exec_specSnap hbuf hstrand hcentre (outside_of_within hrho1 hrho8) hresp (outside_of_within havg1 havg64)
      hmode hroom hadmit
  case noRoom =>
    intro h a o s hbuf hstrand hcentre hrho1 hrho8 hresp havg1 havg64 hmode hroom
    exact exec_specSnap_noRoom hbuf hstrand hcentre (outside_of_within hrho1 hrho8) hresp
      (outside_of_within havg1 havg64) hmode hroom
  case arm =>
    intro h a b es rates e s hsome hargs hbuf hes hsrcs hrates hspan hmode hidle hquiet hmarch hsum hroom hadmit
    subst hrates
    exact exec_captureArm hsome hargs hbuf hes hsrcs (List.forall_mem_map.mp hspan) hmode hidle hquiet hmarch hsum
      hroom hadmit
  case read =>
    intro h bufc offset o b s hbuf hbufc hoffset hlen hmode hcap
    exact ⟨exec_captureRead_held hbuf hbufc hoffset hlen hmode hcap,
      exec_captureRead_notHeld hbuf hbufc hoffset hlen hmode hcap⟩

end Sys2Proof.Machine
end

section
/-! PROOFS. Spectrum snapshots and captures: how a snapshot ends, and how a buffer is triggered, ends and posts its
record (R352, R353, R356, R357). -/

namespace Sys2Proof.Machine

/-! ### The end of a snapshot (R352) -/

/-- The device as a snapshot ends: the snapshot waits to be freed, one that has its samples writes its bins, and one that
was stopped is counted. -/
def Dev.endSnap (d : Dev) (x : Snap) : Dev :=
  { d with
    free := d.free + 1
    ldl := { d.ldl with
      snaps := d.ldl.snaps.map fun z : Snap => if z.key = x.key then { x with shed := 3, words := [] } else z
      snapShed := if x.shed = 0 then d.ldl.snapShed else satAdd 8 d.ldl.snapShed 1 }
    host := if x.shed = 0 then { d.host with written := some (x.addr, x.bins d.free) } else d.host }

theorem Dev.endSnap_of_complete {x : Snap} (d : Dev) (hshed : x.shed = 0) :
    d.endSnap x = { d with
      free := d.free + 1
      ldl := { d.ldl with
        snaps := d.ldl.snaps.map fun z : Snap => if z.key = x.key then { x with shed := 3, words := [] } else z }
      host := { d.host with written := some (x.addr, x.bins d.free) } } := by
  simp only [endSnap, if_pos hshed]

theorem Dev.endSnap_of_stopped {x : Snap} (d : Dev) (hshed : x.shed ≠ 0) :
    d.endSnap x = { d with
      free := d.free + 1
      ldl := { d.ldl with
        snaps := d.ldl.snaps.map fun z : Snap => if z.key = x.key then { x with shed := 3, words := [] } else z
        snapShed := min (d.ldl.snapShed + 1) 255 } } := by
  simp only [endSnap, if_neg hshed]
  rfl

/-- The state once the samples that come with a snapshot's end are taken. -/
def State.sampled (s : State) (w : Samples) : State :=
  (s.feed w).onDev fun c d => d.fillSnaps c (c.time.at10 c.time.sub)

theorem exec_specSnapDone {tag : Nat} {w : Samples} {x : Snap} {s : State}
    (hready : (s.sampled w).dev.snapReady tag = some x) :
    exec (.specSnapDone tag w) s = .next { s.sampled w with
      dev := ((s.sampled w).dev.endSnap x).record (s.sampled w).ctx 4
        (snapRecord x (s.sampled w).modes.mode (s.sampled w).time.n) (((s.sampled w).time.n + 1) % 2 ^ 32) } := by
  unfold State.sampled at hready
  change execSpecSnapDone tag w s = _
  simp only [execSpecSnapDone, hready]
  rfl

/-! ### The trigger of a buffer (R356) -/

theorem Cap.trigger_armed {b : Cap} (harmed : b.state = 1) (cause mute tick sub : Nat) :
    (b.trigger cause mute tick sub).state = 2 ∧ (b.trigger cause mute tick sub).trigTick = tick ∧
      (b.trigger cause mute tick sub).trigSub = sub ∧ (b.trigger cause mute tick sub).cause = cause ∧
      ((b.trigger cause mute tick sub).endTick, (b.trigger cause mute tick sub).endSub) =
        laterUs tick sub b.a.postUs := by
  simp only [trigger, if_pos harmed, and_self]

theorem exec_captureTrigger {c sub : Nat} {b : Cap} {s : State} (hcap : s.dev.ldl.caps[c]? = some b)
    (harmed : b.state = 1) (hfires : s.capFires b sub = true) :
    exec (.captureTrigger c sub) s = .next { s with dev := { s.dev with ldl := { s.dev.ldl with
      caps := s.dev.ldl.caps.set c (b.trigger b.a.trig 0 s.time.n sub)
      trigCnt := min (s.dev.ldl.trigCnt + 1) 255 } } } := by
  change execCaptureTrigger c sub s = _
  simp only [execCaptureTrigger, hcap]
  rw [if_neg (by simp [harmed, hfires])]
  rfl

/-! ### The end and the record of a buffer (R353, R357) -/

theorem exec_captureEnd {c sub : Nat} {b : Cap} {s : State} (hcap : s.dev.ldl.caps[c]? = some b)
    (htriggered : b.state = 2) (hcome : 0 ≤ elapsed10 b.endTick b.endSub s.time.n sub) :
    exec (.captureEnd c sub) s = .next { s with dev := { s.dev with ldl := { s.dev.ldl with
      caps := s.dev.ldl.caps.set c { b with state := 3, recDue := true }
      myarns := s.dev.ldl.myarns.map fun m =>
        if m.owner == 2 && m.tag == c then { m with ended := true } else m } } } := by
  change execCaptureEnd c sub s = _
  simp only [execCaptureEnd, hcap]
  rw [if_neg (by simp [htriggered, hcome]), Cap.endNow, if_pos htriggered]
  rfl

/-- A HELD buffer once its record is posted: the samples it kept are its contents. -/
def Cap.posted (b : Cap) (c : Ctx) : Cap :=
  { b.startFirst c with
    recDue := false, rings := [], marks := [], data := (List.range b.srcs.length).map fun i => b.held c i }

theorem exec_captureRecord {c : Nat} {till : Int} {w : Samples} {b : Cap} {s : State}
    (hcap : (s.feed w).dev.ldl.caps[c]? = some b) (hheld : b.state = 3) (hdue : b.recDue = true)
    (htill : (s.feed w).dev.sampledTo (s.feed w).ctx ((s.feed w).time.at10 (s.feed w).time.sub) = some till) :
    exec (.captureRecord c w) s = .next ((s.feed w).onDev fun x d =>
      ({ d with ldl := { d.ldl with caps := d.ldl.caps.set c ((d.fillCap x till c b).posted x) } }).record x 5
        (((d.fillCap x till c b).posted x).record c) (((d.fillCap x till c b).endTick + 64) % 2 ^ 32)) := by
  change execCaptureRecord c w s = _
  simp only [execCaptureRecord, hcap]
  rw [if_neg (by simp [hheld, hdue])]
  simp only [State.onDev, State.ctx_time, htill]
  rfl

/-- Settles O45: what the end of a snapshot writes turns on whether it has its samples, and each step of a capture on the
buffer's state. -/
theorem snapshotsAndCapturesEnd : Obligations.SnapshotsAndCapturesEnd := by
  refine ⟨?complete, ?stopped, ?trigger,
    fun _ _ _ _ hcap htriggered hcome => exec_captureEnd hcap htriggered hcome, ?record⟩
  case complete =>
    intro tag w x u s hu hready hshed
    subst hu
    rw [exec_specSnapDone hready, Dev.endSnap_of_complete _ hshed]
    rfl
  case stopped =>
    intro tag w x u s hu hready hshed
    subst hu
    rw [exec_specSnapDone hready, Dev.endSnap_of_stopped _ hshed]
    rfl
  case trigger =>
    intro c sub b s hcap harmed hfires
    obtain ⟨hstate, htick, hsub, hcause, hend⟩ := b.trigger_armed harmed b.a.trig 0 s.time.n sub
    have hlt : c < s.dev.ldl.caps.length := (List.getElem?_eq_some_iff.mp hcap).1
    exact ⟨_, _, exec_captureTrigger hcap harmed hfires, List.getElem?_set_self hlt, hstate, htick, hsub, hcause, hend,
      rfl, fun k hk => List.getElem?_set_ne hk.symm, ⟨rfl, rfl, rfl, rfl, rfl, rfl, rfl⟩, rfl⟩
  case record =>
    intro c till w b b' y u s hu hcap hheld hdue htill hb' hy
    subst hu hb' hy
    rw [exec_captureRecord hcap hheld hdue htill]
    rfl

end Sys2Proof.Machine
end

section
/-! PROOFS. The thermal manager: what a sample makes of the reported step, and what the critical shutdown sets (R389, R392,
R395, R396). -/

namespace Sys2Proof.Machine

/-! ### The count of samples and the waiting THM.CLR actions (R398) -/

/-- The same in the samples counted and in the THM.CLR actions that wait. -/
def Thermal.SameCount (t x : Thermal) : Prop := x.samples = t.samples ∧ x.pend = t.pend

theorem Thermal.SameCount.trans {t x y : Thermal} (htx : t.SameCount x) (hxy : x.SameCount y) : t.SameCount y :=
  ⟨hxy.1.trans htx.1, hxy.2.trans htx.2⟩

theorem Thermal.SameCount.foldl {α : Type} {step : Thermal → α → Thermal}
    (hstep : ∀ (t : Thermal) a, t.SameCount (step t a)) (l : List α) (t : Thermal) : t.SameCount (l.foldl step t) := by
  induction l generalizing t with
  | nil => exact ⟨rfl, rfl⟩
  | cons a l ih => exact (hstep t a).trans (ih _)

theorem Thermal.clearOne_sameCount (t : Thermal) (e : Nat × Nat) : t.SameCount (t.clearOne e) := by
  unfold Thermal.clearOne
  split <;> exact ⟨rfl, rfl⟩

/-- At the sample every waiting THM.CLR acts, and none waits any longer. -/
theorem Thermal.cleared_count (t : Thermal) : t.cleared.samples = t.samples ∧ t.cleared.pend = [] :=
  ⟨(SameCount.foldl clearOne_sameCount t.pend t).1, rfl⟩

theorem Thermal.coolStep_sameCount (t : Thermal) (u : Setup) (m : Member) (f : Freeze) :
    t.SameCount (t.coolStep u m f) := by
  unfold Thermal.coolStep
  dsimp only
  split <;> exact ⟨rfl, rfl⟩

/-! ### The reported step (R389) -/

theorem foldl_max_floor_le_iff (fs : List Freeze) (r b : Nat) :
    fs.foldl (fun r f => max r f.floor) r ≤ b ↔ r ≤ b ∧ ∀ f, f ∈ fs → f.floor ≤ b := by
  induction fs generalizing r with
  | nil => simp
  | cons f fs ih => simp [ih, and_assoc]

/-- The reported step stands at or above the computed one and the floor of every freeze. -/
def Thermal.Reports (t : Thermal) : Prop := t.computed ≤ t.reported ∧ ∀ f, f ∈ t.freezes → f.floor ≤ t.reported

theorem Thermal.reports_report (t : Thermal) (m : Member) : Thermal.Reports { t with reported := t.report m } := by
  obtain ⟨hstart, hfloors⟩ := (foldl_max_floor_le_iff t.freezes _ (t.report m)).mp le_rfl
  exact ⟨(le_max_left ..).trans hstart, hfloors⟩

/-- `x` is `t` one sample later: no THM.CLR waits, and the reported step stands. -/
def Thermal.Sampled (t x : Thermal) : Prop := x.samples = t.samples + 1 ∧ x.pend = [] ∧ x.Reports

/-- The steps of a sample before its last keep the count, and the last sets the reported step. -/
theorem Thermal.sample_sampled (t : Thermal) (u : Setup) (m : Member) (rs : List Reading) :
    t.Sampled (t.sample u m rs) := by
  unfold Thermal.sample
  extract_lets cleared gov wasValid read frozen stepped cooled
  obtain ⟨hcleared, hpend⟩ := t.cleared_count
  have hfrozen : read.SameCount frozen := by
    unfold frozen
    split <;> exact ⟨rfl, rfl⟩
  have hstepped : frozen.SameCount stepped := by
    unfold stepped
    split <;> exact ⟨rfl, rfl⟩
  have hcooled : stepped.SameCount cooled := .foldl (fun x f => x.coolStep_sameCount u m f) _ _
  obtain ⟨hsamples, hwait⟩ := (hfrozen.trans hstepped).trans hcooled
  exact ⟨hsamples.trans (congrArg (· + 1) hcleared), hwait.trans hpend, cooled.reports_report m⟩

/-! ### What a raise leaves of the thermal manager -/

theorem Dev.startBlockReset_thm (d : Dev) (c : Ctx) (h sub : Nat) : (d.startBlockReset c h sub).thm = d.thm := by
  obtain ⟨_, hpend⟩ := discardPend_eq c sub d.pend d
  unfold Dev.startBlockReset
  split
  · rfl
  · rw [chooseDefaults_thm, blockState, hpend]
    exact (discardBook_thm ..).trans (discardMode_thm ..)

/-- A raise of the Stopper leaves the thermal manager, with the block reset that it starts at most. -/
theorem Dev.raise_thm (d : Dev) (c : Ctx) (src sev unit sub : Nat) : (d.raise c src sev unit sub).thm = d.thm := by
  obtain ⟨_, _, _, _, _, hraise, -⟩ | ⟨_, h, ⟨_, _, _, _, _, rfl, -⟩, -, hraise⟩ :=
    d.raise_raised c src sev unit sub
  · rw [hraise]
  · rw [hraise, startBlockReset_thm]

theorem Dev.foldl_thm {α : Type} {step : Dev → α → Dev} (hstep : ∀ (d : Dev) a, (step d a).thm = d.thm) (l : List α)
    (d : Dev) : (l.foldl step d).thm = d.thm := by
  induction l generalizing d with
  | nil => rfl
  | cons a l ih => exact (ih _).trans (hstep d a)

theorem Dev.thermalRaises_thm (d : Dev) (c : Ctx) (old : Thermal) (sub : Nat) :
    (d.thermalRaises c old sub).thm = d.thm := by
  unfold Dev.thermalRaises
  dsimp only
  rw [foldl_thm fun d x => d.raise_thm .., foldl_thm fun d f => d.raise_thm .., foldl_thm fun d i => d.raise_thm ..]

/-! ### The critical shutdown (R395, R396) -/

/-- The trigger of the critical shutdown (Table PRT-5). -/
def criticalTrigger (sub : Nat) : Trigger := { trig := 15, level := 5, scope := 0, unit := 0, loopg := 0, sub := sub }

/-- The same in what the critical shutdown sets besides the mute: the thermal manager, the power of dies and tiles, and
the DRAM. -/
def Dev.SameShutdown (d e : Dev) : Prop :=
  e.thm = d.thm ∧ e.conv.power = d.conv.power ∧ e.mem.gated = d.mem.gated ∧ e.mem.selfRefresh = d.mem.selfRefresh

theorem Dev.SameShutdown.trans {d e f : Dev} (hde : d.SameShutdown e) (hef : e.SameShutdown f) : d.SameShutdown f := by
  obtain ⟨hthm, hpower, hgated, hself⟩ := hde
  obtain ⟨hthm', hpower', hgated', hself'⟩ := hef
  exact ⟨hthm'.trans hthm, hpower'.trans hpower, hgated'.trans hgated, hself'.trans hself⟩

/-- The mute of the critical shutdown, and the raise of source 0 with it, leave what the shutdown itself sets. -/
theorem Dev.impose_critical (d : Dev) (c : Ctx) (sub : Nat) : d.SameShutdown (d.impose c (criticalTrigger sub)) := by
  unfold Dev.impose
  extract_lets held k rel prt mutes mask recorded captured stopped m prt' muted sent
  split
  case isTrue => exact ⟨rfl, rfl, rfl, rfl⟩
  case isFalse =>
    have hstopped : d.SameShutdown stopped := by
      rw [show stopped = captured.stopTests from if_pos (Nat.le_succ 4)]
      simp [SameShutdown, Dev.stopTests, captured, recorded]
    have hmuted : stopped.SameShutdown muted := by
      obtain ⟨_, _, hcancel⟩ := ({ stopped with prt := prt' } : Dev).cancelPending_eq c
      rw [show muted = _ from hcancel]
      exact ⟨rfl, rfl, rfl, rfl⟩
    obtain ⟨_, _, _, _, _, hraise, -⟩ := (muted.kill c).raise_noted c (src := 0) (unit := 0) 5 sub rfl
    have hraised : muted.SameShutdown ((muted.kill c).raise c 0 5 0 sub) := by
      rw [hraise]
      simp [SameShutdown]
    exact (hstopped.trans hmuted).trans hraised

/-! ### Entry into LATCHED (R276, R412) -/

theorem Dev.enterLatched_sameShutdown (d : Dev) (c : Ctx) (sub : Nat) : d.SameShutdown (d.enterLatched c sub) := by
  refine ⟨enterLatched_thm .., by rw [enterLatched_conv], ?_⟩
  simp [Dev.enterLatched]

theorem State.settleMutesAt_sameShutdown (s : State) (sub : Nat) : s.dev.SameShutdown (s.settleMutesAt sub).dev := by
  unfold State.settleMutesAt
  extract_lets m posted d
  split
  · exact ⟨rfl, rfl, rfl, rfl⟩
  have hposted : s.dev.SameShutdown posted := by
    unfold posted
    split <;> simp [Dev.SameShutdown]
  change s.dev.SameShutdown d
  unfold d
  split
  · exact hposted.trans (posted.enterLatched_sameShutdown s.ctx sub)
  · exact hposted

theorem State.settleMutesAt_prt (s : State) (sub : Nat) : (s.settleMutesAt sub).dev.prt = s.dev.prt := by
  unfold State.settleMutesAt
  dsimp only
  split
  · rfl
  · dsimp only
    split <;> split <;> simp

/-- With a level 5 mute every mode but RESET becomes LATCHED. -/
theorem State.settleMutesAt_latched {s : State} (sub : Nat) (hmode : s.modes.mode ≠ .reset)
    (h5 : s.dev.level5 = true) : (s.settleMutesAt sub).modes.mode = .latched := by
  have hlatched : (s.modes.underMutes s.dev).mode = .latched := by
    rw [ModeSt.underMutes, if_neg hmode, if_pos h5]
    split
    next h => exact h
    · rfl
  unfold State.settleMutesAt
  dsimp only
  split
  next hsame => rw [← hsame, hlatched]
  · exact hlatched

/-! ### The state that a shutdown leaves -/

/-- The device part with the shutdown latched, its hawsers and tiles gated and the DRAM in self-refresh. -/
def Dev.shutDown (d : Dev) : Dev :=
  { d with
    thm := { d.thm with latched := true }
    conv := { d.conv with power := d.conv.power.map fun _ => false }
    mem := { d.mem with gated := true, selfRefresh := true } }

theorem State.thermalShutdown_eq {s : State} (sub : Nat) (hlatched : s.dev.thm.latched = false) :
    s.thermalShutdown sub =
      (s.onDev fun c d => (d.shutDown.impose c (criticalTrigger sub)).setAlert).settleMutesAt sub := by
  unfold State.thermalShutdown
  exact if_neg (by simp [hlatched])

theorem State.thermalShutdown_shutDown {s : State} (sub : Nat) (hlatched : s.dev.thm.latched = false) :
    s.dev.shutDown.SameShutdown (s.thermalShutdown sub).dev := by
  rw [thermalShutdown_eq sub hlatched]
  have halert (d : Dev) : d.SameShutdown d.setAlert := by simp [Dev.SameShutdown]
  exact ((s.dev.shutDown.impose_critical s.ctx sub).trans (halert _)).trans (settleMutesAt_sameShutdown _ sub)

/-- Of the thermal manager a shutdown sets its latch alone. -/
theorem State.thermalShutdown_thm (s : State) (sub : Nat) :
    (s.thermalShutdown sub).dev.thm = { s.dev.thm with latched := true } := by
  cases hlatched : s.dev.thm.latched with
  | false => exact (s.thermalShutdown_shutDown sub hlatched).1
  | true => rw [State.thermalShutdown, if_pos hlatched, ← hlatched]

theorem Dev.level5_of_holds {d : Dev} {trig scope : Nat} (h : d.holds trig 5 scope = true) : d.level5 = true := by
  obtain ⟨m, hm, -, hlevel, -⟩ := Dev.holds_iff.mp h
  exact List.any_eq_true.mpr ⟨m, hm, by simp [hlevel]⟩

/-- The mute of a shutdown holds, and outside RESET the module is in LATCHED (R276). -/
theorem State.thermalShutdown_latched {s : State} (sub : Nat) (hlatched : s.dev.thm.latched = false)
    (hmode : s.modes.mode ≠ .reset) :
    (s.thermalShutdown sub).modes.mode = .latched ∧ (s.thermalShutdown sub).dev.level5 = true := by
  rw [thermalShutdown_eq sub hlatched]
  have h5 : ((s.dev.shutDown.impose s.ctx (criticalTrigger sub)).setAlert).level5 = true := by
    rw [Dev.level5, Dev.setAlert_prt]
    exact Dev.level5_of_holds (Dev.impose_holds _ s.ctx (criticalTrigger sub))
  refine ⟨settleMutesAt_latched sub hmode h5, ?_⟩
  rw [Dev.level5, settleMutesAt_prt]
  exact h5

/-! ### The rows -/

/-- A sample of a powered module: the state with the sample taken, shut down where a sensor was critical twice in a row
(R395). -/
theorem exec_thermalSample (rs : List Reading) (sub : Nat) {s : State} (hpowered : s.dev.boot.powered = true) :
    ∃ u, s.SameOutside u ∧ s.dev.thm.Sampled u.dev.thm ∧
      (exec (.thermalSample rs sub) s = .next u ∨ exec (.thermalSample rs sub) s = .next (u.thermalShutdown sub)) := by
  change ∃ u, _ ∧ _ ∧ (execThermalSample rs sub s = _ ∨ execThermalSample rs sub s = _)
  unfold execThermalSample
  rw [if_neg (by simp [hpowered])]
  extract_lets taken crit dev counted
  have hsampled : s.dev.thm.Sampled taken.dev.thm := by
    simp only [taken, State.onDev_dev]
    split <;> simp only [Dev.event_thm, Dev.setAlert_thm, Dev.thermalRaises_thm] <;> exact Thermal.sample_sampled ..
  refine ⟨counted, ⟨rfl, rfl, rfl, rfl, rfl, rfl, rfl⟩, hsampled, ?_⟩
  split
  · exact .inr rfl
  · exact .inl rfl

/-- The comparator of a fitted die, the Bowline's, a hawser's or a tile's, shuts a powered module down (R395). -/
theorem exec_thermalCritical {die : Nat} (sub : Nat) {s : State} (hpowered : s.dev.boot.powered = true)
    (hfitted : die = 8 ∨ die < s.ctx.hawsers ∨ (9 ≤ die ∧ die < 9 + Config.tiles s.ident.member)) :
    exec (.thermalCritical die sub) s = .next (s.thermalShutdown sub) := by
  change execThermalCritical die sub s = _
  unfold execThermalCritical
  refine if_neg ?_
  simp only [hpowered, Bool.not_true, Bool.false_eq_true, false_or, Bool.not_eq_true', Bool.not_eq_false,
    Bool.or_eq_true, Bool.and_eq_true, beq_iff_eq, decide_eq_true_eq]
  omega

/-- Settles O46: the last step of a sample sets the reported step, in RESET too (assumption 31), and a shutdown sets its
latch alone of it; a tripped comparator shuts down, and without power does nothing (assumptions 3 and 60). -/
theorem temperatureSetsTheStep : Obligations.TemperatureSetsTheStep := by
  refine ⟨fun rs sub s hpowered => ?sample, fun die sub s hpowered hmode hlatched hfitted => ?critical,
    fun die sub s hoff => if_pos (.inl (by simp [hoff]))⟩
  case sample =>
    obtain ⟨u, ⟨-, -, hsetup, htime, -, hnv, hrings⟩, ⟨hsamples, hpend, hcomputed, hfloors⟩, hexec | hexec⟩ :=
      exec_thermalSample rs sub hpowered
    · exact ⟨u, hexec, hsamples, hcomputed, hfloors, hpend, hsetup, htime, hnv, hrings⟩
    · refine ⟨_, hexec, ?_⟩
      simp only [State.thermalShutdown_thm, State.thermalShutdown_setup, State.thermalShutdown_time,
        State.thermalShutdown_nv, State.thermalShutdown_rings]
      exact ⟨hsamples, hcomputed, hfloors, hpend, hsetup, htime, hnv, hrings⟩
  case critical =>
    obtain ⟨hmodes, h5⟩ := s.thermalShutdown_latched sub hlatched hmode
    obtain ⟨hthm, hpower, hgated, hself⟩ := s.thermalShutdown_shutDown sub hlatched
    refine ⟨_, exec_thermalCritical sub hpowered hfitted, hmodes, congrArg Thermal.latched hthm, hgated, hself,
      fun x hx => ?_, h5, by simp, by simp, by simp, by simp⟩
    rw [hpower] at hx
    obtain ⟨_, -, rfl⟩ := List.mem_map.mp hx
    rfl

end Sys2Proof.Machine
end

section
/-! PROOFS. LATCHED and power-on (R396, R404, R430): no command but a power cycle changes the mode of a module in
LATCHED. -/

namespace Sys2Proof.Machine

/-! ### What LATCHED leaves of the modes -/

/-- An outcome after which the modes are as they were. -/
def State.ModesKept (s : State) (o : Host.Outcome State Fault Refusal) : Prop :=
  ∀ t, o = .next t → t.modes = s.modes

namespace State.ModesKept

theorem same {s t : State} (h : t.modes = s.modes) : s.ModesKept (.next t) := by
  rintro _ ⟨⟩
  exact h

theorem ite {s : State} {p : Prop} [Decidable p] {a b : Host.Outcome State Fault Refusal} (ha : s.ModesKept a)
    (hb : s.ModesKept b) : s.ModesKept (if p then a else b) := by
  split
  · exact ha
  · exact hb

/-- A command whose condition does not hold leaves the state as it is (assumption 3). -/
theorem guard {s : State} {p : Prop} [Decidable p] {o : Host.Outcome State Fault Refusal} (h : s.ModesKept o) :
    s.ModesKept (if p then .next s else o) := ite (same rfl) h

end State.ModesKept

theorem State.ite_modes {p : Prop} [Decidable p] {a b : State} {m : ModeSt} (ha : a.modes = m) (hb : b.modes = m) :
    (if p then a else b).modes = m := by
  split
  · exact ha
  · exact hb

/-- No mute takes a module out of LATCHED, with a level 5 mute or without. -/
theorem ModeSt.underMutes_latched {m : ModeSt} (hm : m.mode = .latched) (d : Dev) : m.underMutes d = m := by
  have hreset : m.mode ≠ .reset := by simp [hm]
  have hrelays : (relays m.mode && d.level4) = false := by simp [hm, relays, isRelay]
  rw [ModeSt.underMutes, if_neg hreset, if_pos hm, hrelays]
  exact ite_self _

/-- A module in LATCHED has entered it already: the mutes of a later instant change nothing. -/
theorem State.settleMutesAt_of_latched {s : State} (hs : s.modes.mode = .latched) (sub : Nat) :
    s.settleMutesAt sub = s := by
  rw [State.settleMutesAt]
  exact if_pos (ModeSt.underMutes_latched hs s.dev)

/-- A device mute that begins in LATCHED leaves its mode. -/
theorem State.settleMutesAt_onDev_modes {s : State} (hs : s.modes.mode = .latched) (f : Ctx → Dev → Dev)
    (sub : Nat) : ((s.onDev f).settleMutesAt sub).modes = s.modes := by
  rw [State.settleMutesAt_of_latched (by exact hs), State.onDev_modes]

theorem State.thermalShutdown_modes_of_latched {s : State} (hs : s.modes.mode = .latched) (sub : Nat) :
    (s.thermalShutdown sub).modes = s.modes := by
  unfold State.thermalShutdown
  split
  · rfl
  · exact State.settleMutesAt_onDev_modes hs ..

/-- The mode changes of a Plan window leave LATCHED alone (R411). -/
theorem State.changeMode_of_latched {s : State} (hs : s.modes.mode = .latched) : s.changeMode = s := by
  rw [State.changeMode, if_pos (by simp [hs])]
  exact State.settleMutesAt_of_latched hs 0

theorem State.triggerWindow_modes_of_latched {s : State} (hs : s.modes.mode = .latched) :
    s.triggerWindow.modes = s.modes := State.settleMutesAt_onDev_modes hs ..

theorem State.modeWindow_modes_of_latched {s : State} (hs : s.modes.mode = .latched)
    (host : List (Nat × Nat × Bool)) : (s.modeWindow host).modes = s.modes := by
  rw [State.modeWindow, State.onDev_modes, State.changeMode_of_latched (by simpa using hs),
    State.triggerWindow_modes_of_latched (by simpa using hs)]
  simp

theorem State.planWork_modes_of_latched {s : State} (hs : s.modes.mode = .latched) (env : TickEnv) (s0 : State) :
    (s.planWork env s0).modes = s.modes := by
  rw [State.planWork, State.changeWindow, State.settleSync_modes, State.settleLock_modes, State.onDev_modes,
    State.modeWindow_modes_of_latched (by simpa using hs)]
  simp

@[simp] theorem State.countedTick_modes (s : State) (env : TickEnv) : (s.countedTick env).modes = s.modes := by
  simp [State.countedTick, State.endedTick]

/-! ### Host commands leave the modes alone -/

/-- `t` is `s` but for the device part and the stores. -/
structure State.SameOutsideNv (s t : State) : Prop where
  pending : t.pending = s.pending
  ident : t.ident = s.ident
  setup : t.setup = s.setup
  time : t.time = s.time
  modes : t.modes = s.modes
  rings : t.rings = s.rings

namespace State.SameOutsideNv

theorem put (s : State) (nv : NvSt) (d : Dev) : s.SameOutsideNv { s with nv := nv, dev := d } :=
  ⟨rfl, rfl, rfl, rfl, rfl, rfl⟩

theorem refl (s : State) : s.SameOutsideNv s := .put s s.nv s.dev

theorem trans {s t u : State} (hst : s.SameOutsideNv t) (htu : t.SameOutsideNv u) : s.SameOutsideNv u :=
  ⟨htu.pending.trans hst.pending, htu.ident.trans hst.ident, htu.setup.trans hst.setup, htu.time.trans hst.time,
    htu.modes.trans hst.modes, htu.rings.trans hst.rings⟩

theorem ite {s a b : State} {p : Prop} [Decidable p] (ha : s.SameOutsideNv a) (hb : s.SameOutsideNv b) :
    s.SameOutsideNv (if p then a else b) := by
  split
  · exact ha
  · exact hb

theorem logNow (s : State) (typ : Nat) (pinned : Bool) (payload : Bytes) :
    s.SameOutsideNv (s.logNow typ pinned payload) := by constructor <;> simp

end State.SameOutsideNv

theorem cmdTimeSet_sameOutsideNv (h : CmdHdr) (x : Nat) (s : State) : s.SameOutsideNv (cmdTimeSet h x s) := by
  unfold cmdTimeSet
  split <;> exact .put ..

theorem cmdPlanLoad_sameOutsideNv (h : CmdHdr) (b : InBuf) (s : State) : s.SameOutsideNv (cmdPlanLoad h b s) := by
  unfold cmdPlanLoad
  split <;> exact .put ..

theorem cmdLogClear_sameOutsideNv (h : CmdHdr) (b : InBuf) (s : State) : s.SameOutsideNv (cmdLogClear h b s) := by
  unfold cmdLogClear
  dsimp only
  split <;> exact .put ..

/-- LIFE.SET spends the nonce where it takes a token, and writes its record. -/
theorem cmdLifeSet_sameOutsideNv (h : CmdHdr) (st group : Nat) (b : InBuf) (s : State) :
    s.SameOutsideNv (cmdLifeSet h st group b s) := by
  unfold cmdLifeSet
  extract_lets target new needs t ok spent
  split
  · exact .put ..
  have hspent : s.SameOutsideNv spent := .ite (.put ..) (.refl s)
  split
  · exact hspent.trans (.put ..)
  · exact (hspent.trans (.logNow ..)).trans (.put ..)

/-- KEY.SET spends the nonce where it takes a token, and writes its record. -/
theorem cmdKeySet_sameOutsideNv (h : CmdHdr) (slot action : Nat) (b : InBuf) (s : State) :
    s.SameOutsideNv (cmdKeySet h slot action b s) := by
  unfold cmdKeySet
  split
  · exact .put ..
  extract_lets tok data key t digest arg ok spent
  have hspent : s.SameOutsideNv spent := .ite (.put ..) (.refl s)
  split
  · exact hspent.trans (.put ..)
  · exact ((hspent.trans (.put ..)).trans (.logNow ..)).trans (.put ..)

/-- A host command reaches the device part and the stores: what it plans for the modes waits for its Plan window
(R39). -/
theorem runCommand_sameOutsideNv (i : Instr) (s : State) : s.SameOutsideNv (runCommand i s) := by
  cases i with
  | timeSet h x => exact cmdTimeSet_sameOutsideNv h x s
  | planLoad h b => exact cmdPlanLoad_sameOutsideNv h b s
  | logClear h b => exact cmdLogClear_sameOutsideNv h b s
  | lifeSet h st group b => exact cmdLifeSet_sameOutsideNv h st group b s
  | keySet h slot action b => exact cmdKeySet_sameOutsideNv h slot action b s
  | _ => exact .put ..

theorem evaluate_sameOutsideNv (cidx : Nat) (x : Descriptor) (s : State) : s.SameOutsideNv (evaluate cidx x s) := by
  unfold evaluate
  dsimp only
  split
  · exact .put ..
  split
  · exact .put ..
  split
  · exact runCommand_sameOutsideNv _ s
  · exact .put ..

theorem runWaiting_sameOutsideNv (l : List (Nat × Descriptor)) (s : State) : s.SameOutsideNv (runWaiting l s) := by
  induction l generalizing s with
  | nil => exact .put ..
  | cons x xs ih =>
    unfold runWaiting
    split
    · exact .put ..
    · exact (evaluate_sameOutsideNv ..).trans (ih _)

theorem State.fetchOne_modes (s : State) (x : Descriptor) : (s.fetchOne x).modes = s.modes := by
  unfold State.fetchOne
  dsimp only
  split
  · rfl
  · exact (evaluate_sameOutsideNv ..).modes

theorem fetchAll_modes (ds : List Descriptor) (s : State) : (fetchAll ds s).modes = s.modes := by
  induction ds generalizing s with
  | nil => rfl
  | cons x xs ih =>
    unfold fetchAll
    split
    · rw [ih, State.fetchOne_modes]
    · rfl

theorem execCommandFetch_modesKept (ds : List Descriptor) (s : State) : s.ModesKept (execCommandFetch ds s) :=
  .same ((State.writeIndex_modes _).trans ((fetchAll_modes ..).trans (runWaiting_sameOutsideNv ..).modes))

/-- A host command, as its dispatch runs it. -/
theorem State.ModesKept.command {i : Instr} {s : State} (h : exec i s = .next (runCommand i s.fetched)) :
    s.ModesKept (exec i s) := h ▸ .same (runCommand_sameOutsideNv i s.fetched).modes

/-! ### The device's own rows -/

@[simp] theorem State.closeBurst_modes (s : State) (bg pos sub : Nat) : (s.closeBurst bg pos sub).modes = s.modes := by
  unfold State.closeBurst
  split
  · exact State.onDev_modes ..
  · rfl

@[simp] theorem State.evaluateOsc_modes (s : State) (byid sub : Nat) : (s.evaluateOsc byid sub).modes = s.modes := by
  unfold State.evaluateOsc
  dsimp only
  split
  · rfl
  · exact State.onDev_modes ..

theorem execPpsInEdge_modesKept (e : PpsEdge) (phase : Nat) (s : State) : s.ModesKept (execPpsInEdge e phase s) := by
  refine .guard (.same ?_)
  rw [State.settleSync_modes]
  exact State.ite_modes (by simp) rfl

theorem execTickEdge_modesKept {s : State} (hs : s.modes.mode = .latched) (env : TickEnv) :
    s.ModesKept (execTickEdge env s) := by
  refine .guard (.same ?_)
  rw [State.writeIndex_modes]
  exact (State.planWork_modes_of_latched (s := s.countedTick env) (by simpa using hs) ..).trans (by simp)

/-- No reset but that of a power cycle is taken in LATCHED (R430). -/
theorem State.resetUnlessLatched_of_latched {s : State} (hs : s.modes.mode = .latched) (cause : Nat) :
    s.resetUnlessLatched cause = s := if_pos (by simp [State.latches, hs])

/-- The chip reset that the Stopper calls for is ignored in LATCHED (R430). -/
theorem execChipResetBegin_modesKept {s : State} (hs : s.modes.mode = .latched) :
    s.ModesKept (execChipResetBegin s) := by
  unfold execChipResetBegin
  split
  · exact .same rfl
  · rw [if_pos (by simp [State.latches, hs])]
    exact .same rfl

/-- Only reset can be released into BOOT. -/
theorem execResetRelease_modesKept {s : State} (hs : s.modes.mode = .latched) : s.ModesKept (execResetRelease s) := by
  rw [execResetRelease, if_pos (.inl (by simp [hs]))]
  exact .same rfl

/-- Only COIL can be woken. -/
theorem execCoilWakeStart_modesKept {s : State} (hs : s.modes.mode = .latched) :
    s.ModesKept (execCoilWakeStart s) := by
  rw [execCoilWakeStart, if_pos (.inr (.inl (by simp [hs])))]
  exact .same rfl

theorem execDonorHoldExpiry_modesKept {s : State} (hs : s.modes.mode = .latched) :
    s.ModesKept (execDonorHoldExpiry s) := by
  unfold execDonorHoldExpiry
  split
  · exact .same rfl
  · exact .guard (.same (State.settleMutesAt_onDev_modes hs ..))

/-! ### Every command -/

/-- No command but a power cycle changes the modes of a module in LATCHED. The first rows are those that act on the
modes elsewhere; the rows of the engines leave the modes alone in each branch. -/
theorem exec_modesKept_of_latched {c : Instr} {s : State} (hs : s.modes.mode = .latched)
    (hpower : cyclesPower c = false) : s.ModesKept (exec c s) := by
  cases c with
  | powerGood | brownOut | ilimHold => cases hpower
  | tickEdge env => exact execTickEdge_modesKept hs env
  | warmResetRequest | chipResetRequest =>
    exact .ite (.same (by rw [State.resetUnlessLatched_of_latched hs])) (.same rfl)
  | lifecycleReset => exact .guard (.same (by rw [State.resetUnlessLatched_of_latched hs]))
  | chipResetBegin => exact execChipResetBegin_modesKept hs
  | resetRelease => exact execResetRelease_modesKept hs
  | coilWakeStart => exact execCoilWakeStart_modesKept hs
  | muteRelease => exact .guard (.same (State.leaveMuted_modes (by simp [hs])))
  | planExpiry => exact .guard (.same (State.settleMutesAt_onDev_modes hs ..))
  | thermalSample => exact .guard (.same (State.ite_modes (State.thermalShutdown_modes_of_latched (by exact hs) _) rfl))
  | thermalCritical die sub => exact .guard (.same (State.thermalShutdown_modes_of_latched hs sub))
  | donorHoldExpiry => exact execDonorHoldExpiry_modesKept hs
  | commandFetch ds => exact execCommandFetch_modesKept ds s
  | modeSet | coilEnter | coilWake | timeSet | sync | calRun | txTest | planLoad | muteSet | muteClr | netInd | ulSched
  | feLoad | yarnMap | beamSet | arrayCal | cancSet | entryLearn | trcScan | gainSet | belBank | belRead | bookBasis
  | bookLoad | bookRead | bookSet | bookDel | partnerRead | measSub | specSnap | captureArm | captureRead | reefCap
  | thmClr | marchRun | logRead | logNonce | logClear | lifeSet | keySet => exact .command rfl
  | stopFirstUnlatch | jtagInstruction | vinSample | ppsInTimeout | spliceRefLoss | spliceRefRestore | muteNFall
  | muteNRise | endpointWriteback | entryAged | txTestEnd | faultNHoldEnd | tickCntRead | utcLoRead => exact .same rfl
  | doorbellProducer | idxBaseHiWrite | setupLock | stopperAcknowledge | registerWrite | i2cRead | pcieLinkEvent
  | sramWipeDone | firmwareLoaded | dramTrained | synth | lanyardDiscovery | lanyardRediscovery | lanyardRsp
  | lanyardRspMissing | syncInEdge | searchTimeout | spliceLinkUp | spliceSyncMessage | splicePortDown | marlineFrame
  | donorLoss | lockQual | tracerEpoch | stopperRaise | blockResetDone | optimeSave | spliceCalReport | runStart
  | syncInstant | spliceTimingMessage =>
    exact .guard (.same rfl)
  | bookLoadCommit => exact .same (State.ite_modes rfl rfl)
  | ppsInEdge e phase => exact execPpsInEdge_modesKept e phase s
  | closeStart => exact .guard (.same (by simp))
  | burstOnset | signatureReady | weightSwitch | slotRelease | burstClose | oscEvaluate => exact .same (by simp)
  | tickOverrun | electionTimeout | masterTakeover | spliceCandidateReport => exact .guard (.same (by simp))
  | masterLost => exact .guard (.same (State.ite_modes (by simp) (by simp)))
  | ringRecordWrite | interruptDue | entryLearned | specSnapDone | captureRecord | loglineRecordWrite | logClearDone
  | calWaveDone | calRunDone | syncOccasion | donorReplace | sfnReload | readClear | synthLock =>
    dsimp only [exec, execRingRecordWrite, execInterruptDue, execEntryLearned, execSpecSnapDone,
      execCaptureRecord, execLoglineRecordWrite, execLogClearDone, execCalWaveDone, execCalRunDone, execSyncOccasion,
      execDonorReplace, execSfnReload, execReadClear, execSynthLock]
    (repeat' split) <;> exact .same (by simp)
  | doorbellConsumer | commandOutputDone | ringRecordDrop | ringCfgWrite | w1cClear | lanyardFrameSend
  | candidateExpire | marlineLinkRestore | clockSecond | timeFloorRaise | feedbackDecay | matchComplete | entryLearnDone
  | arrayCalDone | captureTrigger | captureEnd | marchWindow | portATouch | marchDone | tddSwitch | matchLate =>
    dsimp only [exec, execDoorbellConsumer, execCommandOutputDone, execRingRecordDrop, execRingCfgWrite, execW1cClear,
      execLanyardFrameSend, execCandidateExpire, execMarlineLinkRestore, execClockSecond, execTimeFloorRaise,
      execFeedbackDecay, execMatchComplete, execEntryLearnDone, execArrayCalDone, execCaptureTrigger,
      execCaptureEnd, execMarchWindow, execPortATouch, execMarchDone, execTddSwitch, execMatchLate]
    (repeat' split) <;> exact .same rfl

/-- Settles O8: what LATCHED leaves of the modes, over every command but those of a power cycle. -/
theorem latchedUntilPowerOn : Obligations.LatchedUntilPowerOn := by
  intro c s t hs hpower hexec
  rw [exec_modesKept_of_latched hs hpower t hexec, hs]

end Sys2Proof.Machine
end

section
/-! PROOFS. Power cycles and resets (R429 to R435, R465, R488, R543 to R546, Table MOD-9): what each reset kind returns
to reset values, and when a request is taken. -/

namespace Sys2Proof.Machine

/-! ### Power (R429, R474, R543 to R546, R550) -/

theorem execPowerLoss_eq {i : Instr} {s : State} (hi : i = .brownOut ∨ i = .ilimHold) :
    exec i s = if !s.dev.boot.powered then .next s else .next s.powerDown := by
  rcases hi with rfl | rfl <;> rfl

/-- Settles O53: a power-good and a loss of power return the module to its reset values; without power a loss does
nothing (assumption 3). What the store, the traces and the free counter keep is assumptions 22 and 60. -/
theorem powerCyclesResetTheModule : Obligations.PowerCyclesResetTheModule := by
  refine ⟨fun a s => rfl, fun i s hi hpowered => ?_, fun i s hi hoff => ?_⟩
  · rw [execPowerLoss_eq hi, hpowered]
    rfl
  · rw [execPowerLoss_eq hi, hoff]
    rfl

/-! ### Requests and begins (R430, R432, R434, R435, R465, R488) -/

theorem rstAsked_iff {v : Word} : rstAsked v = true ↔ v.field 8 8 = 0xA5 ∧ v.bit 0 ≠ v.bit 1 := by
  simp [rstAsked]

theorem rstAsked_of_one {v : Word} (hkey : v.field 8 8 = 0xA5) {b : Bool} (h0 : v.bit 0 = b) (h1 : v.bit 1 = !b) :
    rstAsked v = true := rstAsked_iff.mpr ⟨hkey, by simp [h0, h1]⟩

theorem State.latches_iff {s : State} : s.latches = true ↔ s.modes.mode = .latched ∨ s.dev.level5 = true := by
  simp [State.latches]

theorem State.latches_eq_false {s : State} (hmode : s.modes.mode ≠ .latched) (h5 : s.dev.level5 = false) :
    s.latches = false := by simp [State.latches, hmode, h5]

theorem State.resetUnlessLatched_taken {s : State} (h : s.latches = false) (cause : Nat) :
    s.resetUnlessLatched cause = s.resetModule cause := if_neg (by simp [h])

theorem State.resetUnlessLatched_ignored {s : State} (h : s.latches = true) (cause : Nat) :
    s.resetUnlessLatched cause = s := if_pos h

theorem exec_warmResetRequest (v : Word) (s : State) : exec (.warmResetRequest v) s =
    if rstAsked v ∧ v.bit 0 then .next (s.resetUnlessLatched causeWarm) else .next s := rfl

theorem exec_chipResetRequest (v : Word) (s : State) : exec (.chipResetRequest v) s =
    if rstAsked v ∧ v.bit 1 then .next (s.resetUnlessLatched causeCtl) else .next s := rfl

theorem exec_lifecycleReset (s : State) : exec .lifecycleReset s =
    if !s.dev.boot.lifeDue then .next s else .next (s.resetUnlessLatched causeLife) := rfl

theorem exec_chipResetBegin_secured {s : State} {cause : Nat} (hdue : s.dev.boot.due = some cause)
    (hlatch : s.latches = false) (hsecured : s.secured = true) :
    exec .chipResetBegin s = .next (s.resetModule cause) := by
  change execChipResetBegin s = _
  unfold execChipResetBegin
  rw [hdue]
  simp [hlatch, hsecured]

/-- Each of the three ways to a chip reset takes it with its cause, unless the module latches. -/
theorem exec_chipReset {i : Instr} {cause : Nat} {s : State} (hlatch : s.latches = false)
    (hi : (∃ v, i = .chipResetRequest v ∧ v.field 8 8 = 0xA5 ∧ v.bit 0 = false ∧ v.bit 1 = true ∧ cause = 1) ∨
      (i = .chipResetBegin ∧ s.dev.boot.due = some 2 ∧ s.secured = true ∧ cause = 2) ∨
      (i = .lifecycleReset ∧ s.dev.boot.lifeDue = true ∧ cause = 4)) :
    exec i s = .next (s.resetModule cause) ∧ (cause = 1 ∨ cause = 2 ∨ cause = 4) := by
  rcases hi with ⟨v, rfl, hkey, h0, h1, rfl⟩ | ⟨rfl, hdue, hsecured, rfl⟩ | ⟨rfl, hdue, rfl⟩
  · rw [exec_chipResetRequest, if_pos ⟨rstAsked_of_one hkey h0 h1, h1⟩, State.resetUnlessLatched_taken hlatch]
    exact ⟨rfl, .inl rfl⟩
  · exact ⟨exec_chipResetBegin_secured hdue hlatch hsecured, .inr (.inl rfl)⟩
  · rw [exec_lifecycleReset, if_neg (by simp [hdue]), State.resetUnlessLatched_taken hlatch]
    exact ⟨rfl, .inr (.inr rfl)⟩

/-- Settles O54: a chip reset by its three causes and a warm reset are `resetModule`, which latching keeps from being
taken (assumptions 46 and 60) and a word that asks for none never reaches. What the traces and the staged records keep
is assumptions 58 and 60. -/
theorem resetsKeepWhatTheirKindKeeps : Obligations.ResetsKeepWhatTheirKindKeeps := by
  refine ⟨fun i cause s hmode h5 hi => ?chip, fun v s hmode h5 hkey h0 h1 => ?warm, fun v s hlatch => ?latched,
    fun v s hnone => ?unasked⟩
  case chip =>
    obtain ⟨hexec, rfl | rfl | rfl⟩ := exec_chipReset (State.latches_eq_false hmode h5) hi <;> exact hexec
  case warm =>
    rw [exec_warmResetRequest, if_pos ⟨rstAsked_of_one hkey h0 h1, h0⟩,
      State.resetUnlessLatched_taken (State.latches_eq_false hmode h5)]
    rfl
  case latched =>
    have hlatch := State.latches_iff.mpr hlatch
    simp only [exec_warmResetRequest, exec_chipResetRequest, exec_lifecycleReset,
      State.resetUnlessLatched_ignored hlatch, ite_self, and_self]
  case unasked =>
    have hnot : ¬rstAsked v = true := by
      rw [rstAsked_iff]
      tauto
    exact ⟨if_neg fun h => hnot h.1, if_neg fun h => hnot h.1⟩

end Sys2Proof.Machine
end

section
/-! PROOFS. Start-up and COIL (R416, R420 to R428, R451): the training of the DRAM, the entry into COIL and the wake. -/

namespace Sys2Proof.Machine

/-! ### DRAM training (R451, R456) -/

/-- Eight channels of one density are all good. -/
theorem badChannels_replicate {x : Nat} (hlow : 1 ≤ x) (hhigh : x ≤ 4) : badChannels (List.replicate 8 x) = [] := by
  interval_cases x <;> decide

/-- The channels that train are all eight, bits 0 to 7 of TRAINED. -/
theorem trainedMask_replicate {x : Nat} (hlow : 1 ≤ x) (hhigh : x ≤ 4) :
    ((List.range 8).filter fun ch => (List.replicate 8 x).getD ch 0 != 0).foldl (fun a ch => a + 2 ^ ch) 0 = 255 := by
  interval_cases x <;> decide

theorem exec_dramTrained_good {x : Nat} (hlow : 1 ≤ x) (hhigh : x ≤ 4) {s : State} (hmode : s.modes.mode = .boot)
    (hfw : s.dev.boot.fwOk = true) (hdram : s.dev.boot.dramOk = false) (hfailed : s.dev.mem.failed = 0) :
    exec (.dramTrained (List.replicate 8 x)) s = .next { s with dev := { s.dev with
      mem := { s.dev.mem with
        dens := x, trained := 255, failed := 0, wiped := true, capDirty := false, key := s.dev.mem.key + 1 }
      log := { s.dev.log with mirrorOk := true }
      boot := { s.dev.boot with dramOk := true } } } := by
  change execDramTrained _ s = _
  rw [execDramTrained, if_neg (by simp [hmode, hfw, hdram, hfailed])]
  simp only [State.onDev, badChannels_replicate hlow hhigh, trainedMask_replicate hlow hhigh]
  rfl

/-- Refutes O48 by one field of its frame. The training of the DRAM marks the capture region as clean (R454, R456),
where the statement keeps `capDirty` as it was: with the firmware running and the region marked as written, eight
channels of 16 GB clear the mark. -/
theorem not_startUpStages : ¬ Obligations.StartUpStages := by
  intro hstages
  obtain ⟨-, -, -, -, -, -, htrain, -⟩ := hstages
  have hkept := htrain 4
    { State.reset with dev := { Dev.reset with
        mem := { Memory.reset with capDirty := true }
        boot := { Boot.reset with fwOk := true } } } (by decide) (by decide) rfl rfl rfl rfl
  rw [exec_dramTrained_good (by decide) (by decide) rfl rfl rfl rfl] at hkept
  have hsame := Host.Outcome.next.inj hkept
  exact Bool.false_ne_true (congrArg (fun t : State => t.dev.mem.capDirty) hsame)

/-! ### COIL (R420, R422, R426, R427) -/

/-- STANDBY, SURVEY and the relay modes accept COIL.ENTER (R420). -/
theorem modeAccepts_coilEnter {m : Mode} (h : m = .standby ∨ m = .survey ∨ isRelay m = true) :
    modeAccepts m 0x0102 = true := by
  revert h
  cases m <;> decide

theorem exec_coilEnter {s : State} (h : CmdHdr) {w : Nat} (hmode : modeAccepts s.modes.mode 0x0102 = true)
    (hw : w ≠ 1) (hpend : s.dev.qual.pend = none) (hplan : s.dev.plan.pending = none) (hbook : s.dev.book.load = none)
    (hsync : s.dev.conv.syncPend = none) :
    exec (.coilEnter h w) s = .next (({ s with dev := { s.dev with qual := { s.dev.qual with
      pend := some { opcode := 0x0102, target := .coil, tick := s.ctx.effTick, tag := h.tag }
      wakeIn := w } } }).answered 0x0102 h 0 0 (some s.ctx.effTick) []) := by
  change Host.Outcome.next (cmdCoilEnter h w s.fetched) = _
  rw [cmdCoilEnter, State.onDev_accept]
  · rfl
  · simp [hmode, beq_false_of_ne hw, hpend, hplan, hbook, hsync]

/-- Where no wake is set COIL.WAKE names the later of the next tick and the second one after the entry. -/
theorem exec_coilWake {s : State} (h : CmdHdr) {e : Nat} (hmode : s.modes.mode = .coil) (hpend : s.dev.qual.pend = none)
    (hentry : s.dev.qual.coilEntry = some e) (hwake : s.dev.qual.wakeTick = none) :
    exec (.coilWake h) s = .next (({ s with dev := { s.dev with qual := { s.dev.qual with
      pend := some { opcode := 0x0103, target := .coil, tick := laterTick (succ32 s.time.n) ((e + 2) % 2 ^ 32),
                     tag := h.tag } } } }).answered 0x0103 h 0 0
        (some (laterTick (succ32 s.time.n) ((e + 2) % 2 ^ 32))) []) := by
  change Host.Outcome.next (cmdCoilWake h s.fetched) = _
  have hpass : firstFail [(s.dev.qual.pend.isSome, stBusy), (s.modes.mode != .coil, stDenied)] = none := by
    simp [hmode, hpend]
  simp only [cmdCoilWake, State.onDev, State.fetched_dev, State.ctx_fetched, State.ctx_mode, Dev.fetched_qual, hentry,
    guarded_accept hpass, hwake]
  rfl

/-- Settles O21: the checks of COIL.ENTER and COIL.WAKE pass, and the wake that begins is the model's own state. -/
theorem coilIsEnteredAndLeft : Obligations.CoilIsEnteredAndLeft :=
  ⟨fun h _ _ hmode hw hpend hplan hbook hsync =>
      exec_coilEnter h (modeAccepts_coilEnter hmode) hw hpend hplan hbook hsync,
    fun h _ _ hmode hpend hentry hwake => exec_coilWake h hmode hpend hentry hwake,
    fun _ hrun hwin hmode hwaking hwakes => if_neg (by simp [State.inPlan, hrun, hwin, hmode, hwaking, hwakes])⟩

end Sys2Proof.Machine
end

section
/-! PROOFS. The Stopper (R431, R434, R461 to R469): what a raise and its reaction leave, what the host acknowledges, and
the Marline links (R463). -/

namespace Sys2Proof.Machine

/-! ### A reaction (R464 to R467) -/

/-- The level at which a reaction acts, after R464 and R466. -/
def Reaction.acts (r : Reaction) (m : Mode) (src unit : Nat) : Nat := levelForMode m (levelForUnit r.level src unit)

theorem levelForMode_le (m : Mode) (level : Nat) : levelForMode m level ≤ level := by
  unfold levelForMode
  (repeat' split) <;> omega

theorem Reaction.acts_le_two {r : Reaction} (m : Mode) {src : Nat} (unit : Nat) (hlevel : r.level ≤ 2) :
    r.acts m src unit ≤ 2 := by
  rw [Reaction.acts, levelForUnit, if_neg (by omega)]
  exact (levelForMode_le m r.level).trans hlevel

theorem Reaction.acts_three {r : Reaction} {m : Mode} {src unit x : Nat} (hlevel : r.level = 3)
    (hname : namedHawser src unit = some x) (hcoil : m ≠ .coil) (hlatched : m ≠ .latched) : r.acts m src unit = 3 := by
  rw [Reaction.acts, levelForUnit, if_neg (by simp [hname]), hlevel]
  cases m <;> simp_all [levelForMode]

theorem Reaction.acts_four {r : Reaction} {m : Mode} (src unit : Nat) (hlevel : r.level = 4) (hlatched : m ≠ .latched) :
    r.acts m src unit = 4 := by
  rw [Reaction.acts, levelForUnit, if_neg (by omega), hlevel]
  cases m <;> simp_all [levelForMode]

/-- `e` is `d` with the FAULT_N part of a source set, and what a reaction posts: its record, event and interrupt. -/
def Dev.Posted (d e : Dev) (src : Nat) : Prop := ∃ drive hold low log host,
  e = { d with
    stop := { d.stop with
      srcs := d.stop.srcs.set src { d.stop.src src with fault := drive }, faultHold := hold, faultLow := low }
    log := log
    host := host }

/-- What the level of a reaction does once it is posted (R464, R465). -/
def Dev.actOn (d : Dev) (c : Ctx) (src unit sub lvl : Nat) : Dev :=
  if lvl = 2 then
    let d := d.logRec 0x0202 false (leBytes 48 (Config.freeNmiSnapshot d.free).toNat)
    { d with stop := { d.stop with nmi := d.stop.nmi + 1 }, free := d.free + 1 }
  else if lvl = 3 then
    match namedHawser src unit with
    | some h => d.startBlockReset c h sub
    | none => d
  else if 4 ≤ lvl then { d with boot := { d.boot with due := some 2 } }
  else d

theorem Dev.msi_eq (d : Dev) (v : Nat) : ∃ host, d.msi v = { d with host := host } := by
  unfold Dev.msi
  split
  · exact ⟨_, rfl⟩
  · exact ⟨d.host, rfl⟩

/-- A reaction is posted, and then its level acts. -/
theorem Dev.react_acts (d : Dev) (c : Ctx) (src sev unit sub : Nat) (r : Reaction) :
    ∃ e, d.Posted e src ∧ d.react c src sev unit sub r = e.actOn c src unit sub (r.acts c.mode src unit) := by
  unfold Dev.react
  extract_lets lvl0 lvl supp drive s stop t low flags logged posted sent
  refine ⟨sent, ?_, rfl⟩
  obtain ⟨host, hposted⟩ : ∃ host, posted = { logged with host := host } := logged.event_eq ..
  have hsent : ∃ host, sent = { posted with host := host } := by
    unfold sent
    split
    · exact posted.msi_eq _
    · exact ⟨posted.host, rfl⟩
  obtain ⟨host', hsent⟩ := hsent
  rw [hsent, hposted]
  exact ⟨_, _, _, _, _, rfl⟩

/-- Of the Stopper a level adds to its count of NMIs at most. -/
theorem Dev.actOn_stop (d : Dev) (c : Ctx) (src unit sub lvl : Nat) :
    ∃ nmi, (d.actOn c src unit sub lvl).stop = { d.stop with nmi := nmi } := by
  unfold Dev.actOn
  split
  · exact ⟨_, rfl⟩
  refine ⟨d.stop.nmi, ?_⟩
  split
  · split
    · exact d.startBlockReset_stop ..
    · rfl
  split <;> rfl

/-- Of the Stopper a reaction reaches the FAULT_N part of its source, FAULT_N itself and the count of NMIs. -/
theorem Dev.react_stop (d : Dev) (c : Ctx) (src sev unit sub : Nat) (r : Reaction) : ∃ drive hold low nmi,
    (d.react c src sev unit sub r).stop = { d.stop with
      srcs := d.stop.srcs.set src { d.stop.src src with fault := drive }
      faultHold := hold, faultLow := low, nmi := nmi } := by
  obtain ⟨e, ⟨drive, hold, low, log, host, rfl⟩, hreact⟩ := d.react_acts c src sev unit sub r
  obtain ⟨nmi, hstop⟩ := Dev.actOn_stop _ c src unit sub (r.acts c.mode src unit)
  exact ⟨drive, hold, low, nmi, by rw [hreact, hstop]⟩

/-- Up to level 2 a reaction reaches no further than its records. -/
theorem Dev.react_of_le_two (d : Dev) {c : Ctx} (src sev unit sub : Nat) {r : Reaction} (hlevel : r.level ≤ 2) :
    ∃ stop log host free, d.react c src sev unit sub r =
      { d with stop := stop, log := log, host := host, free := free } := by
  obtain ⟨e, ⟨drive, hold, low, log, host, rfl⟩, hreact⟩ := d.react_acts c src sev unit sub r
  have hacts := r.acts_le_two c.mode (src := src) unit hlevel
  rw [hreact, actOn]
  split
  · exact ⟨_, _, _, _, rfl⟩
  rw [if_neg (by omega), if_neg (by omega)]
  exact ⟨_, _, _, _, rfl⟩

theorem Dev.mem_startBlockReset (d : Dev) (c : Ctx) (x sub : Nat) : x ∈ (d.startBlockReset c x sub).boot.blkRun := by
  unfold Dev.startBlockReset
  split
  case isTrue hrun => exact hrun
  case isFalse =>
    rw [chooseDefaults_boot]
    exact List.mem_append_right _ (List.mem_singleton_self x)

theorem Dev.react_of_three (d : Dev) {c : Ctx} {src unit x : Nat} (sev sub : Nat) {r : Reaction} (hlevel : r.level = 3)
    (hname : namedHawser src unit = some x) (hcoil : c.mode ≠ .coil) (hlatched : c.mode ≠ .latched) :
    x ∈ (d.react c src sev unit sub r).boot.blkRun := by
  obtain ⟨e, -, hreact⟩ := d.react_acts c src sev unit sub r
  rw [hreact, actOn, r.acts_three hlevel hname hcoil hlatched, hname]
  exact e.mem_startBlockReset c x sub

theorem Dev.react_of_four (d : Dev) {c : Ctx} (src sev unit sub : Nat) {r : Reaction} (hlevel : r.level = 4)
    (hlatched : c.mode ≠ .latched) : (d.react c src sev unit sub r).boot.due = some 2 := by
  obtain ⟨e, -, hreact⟩ := d.react_acts c src sev unit sub r
  rw [hreact, actOn, r.acts_four src unit hlevel hlatched]
  rfl

/-! ### A raise on an idle source (R461, R468, R469) -/

/-- The source's entry after the first raise of a severity. -/
def Src.raised (x : Src) (c : Ctx) (sev sub : Nat) : Src :=
  { x with bit := true, rpt := 0, raises := 1, maxSev := sev, lastTick := c.n, lastSub := sub }

/-- The Stopper and the Logline of `e` hold the first raise of a source that was idle in `d`; STOP_FIRST holds it too
where it held none. -/
structure Dev.FirstRaised (d e : Dev) (c : Ctx) (src sev unit sub : Nat) : Prop where
  eq : e = { d with stop := e.stop, log := e.log }
  srcs : e.stop.srcs = d.stop.srcs.set src ((d.stop.src src).raised c sev sub)
  first : d.stop.firstValid = false → e.stop.firstValid = true ∧ e.stop.firstSrc = src ∧ e.stop.firstSev = sev ∧
    e.stop.firstUnit = unit ∧ e.stop.firstTick = c.n

theorem Stopper.latchFirst_idle {t : Stopper} (h : t.firstValid = false) (n src sev unit sub : Nat) :
    (t.latchFirst n src sev unit sub).1 = { t with
      firstSrc := src, firstSev := sev, firstUnit := unit, firstTick := n, firstValid := true,
      firstAt := some (n, sub) } := by simp [Stopper.latchFirst, h]

/-- The first raise of a source that the member fits, outside a block reset, latches it and reacts at its level. -/
theorem Dev.raise_idle {d : Dev} {c : Ctx} {src unit : Nat} (sev sub : Nat) (hmode : c.mode ≠ .reset)
    (hfits : sourceFits c.ident.member src unit = true)
    (hblk : ∀ x, namedHawser src unit = some x → ¬(x ∈ d.boot.blkRun)) (hidle : (d.stop.src src).bit = false) :
    ∃ e r, d.FirstRaised e c src sev unit sub ∧ r.level = c.setup.level src ∧
      d.raise c src sev unit sub = e.react c src sev unit sub r := by
  have hfree : ¬((namedHawser src unit).any (· ∈ d.boot.blkRun)) := by
    cases hname : namedHawser src unit with
    | none => simp
    | some x => simpa using hblk x hname
  rw [raise, if_neg (by simp [hmode, hfits]), if_neg hfree]
  dsimp only
  rw [if_pos (by simp [hidle])]
  refine ⟨_, _, ⟨rfl, ?_, fun hfirst => ?_⟩, rfl, rfl⟩
  · simp [Stopper.latchFirst_srcs, Src.raised]
  · simp [Stopper.latchFirst_idle hfirst]

theorem Stopper.src_of_set {t u : Stopper} {src : Nat} {e : Src} (h : u.srcs = t.srcs.set src e) {j : Nat}
    (hj : j ≠ src) : u.src j = t.src j := by
  simp [Stopper.src, h, List.getD, List.getElem?_set_ne hj.symm]

/-- `u` is `t` after a first raise in tick n: its source's entry holds it and no other entry changes, and STOP_FIRST
holds it where it held none. -/
structure Stopper.Holds (t u : Stopper) (n src sev unit : Nat) : Prop where
  bit : (u.src src).bit = true
  maxSev : (u.src src).maxSev = sev
  lastTick : (u.src src).lastTick = n
  others : ∀ j, j ≠ src → u.src j = t.src j
  first : t.firstValid = false →
    u.firstValid = true ∧ u.firstSrc = src ∧ u.firstSev = sev ∧ u.firstUnit = unit ∧ u.firstTick = n

/-- The reaction to a first raise leaves what the raise has latched. -/
theorem Dev.FirstRaised.react_holds {d e : Dev} {c : Ctx} {src sev unit sub : Nat}
    (h : d.FirstRaised e c src sev unit sub) (hsrc : src < d.stop.srcs.length) (r : Reaction) :
    d.stop.Holds (e.react c src sev unit sub r).stop c.n src sev unit := by
  obtain ⟨drive, hold, low, nmi, hstop⟩ := e.react_stop c src sev unit sub r
  have hlatched : e.stop.src src = (d.stop.src src).raised c sev sub := by
    rw [Stopper.src, h.srcs, getD_set_src _ hsrc]
  have hown : (e.react c src sev unit sub r).stop.src src =
      { (d.stop.src src).raised c sev sub with fault := drive } := by
    rw [hstop, hlatched, h.srcs, List.set_set]
    exact getD_set_src _ hsrc
  refine ⟨by rw [hown]; rfl, by rw [hown]; rfl, by rw [hown]; rfl, fun j hj => ?_, by rw [hstop]; exact h.first⟩
  rw [hstop]
  exact (Stopper.src_of_set rfl hj).trans (Stopper.src_of_set h.srcs hj)

/-! ### Acknowledgement (R467, R468, R471) -/

theorem Dev.acknowledge_eq (d : Dev) (c : Ctx) (src sub : Nat) :
    ∃ stop log, d.acknowledge c src sub = { d with stop := stop, log := log } := by
  unfold Dev.acknowledge
  dsimp only
  split
  · exact ⟨d.stop, d.log, rfl⟩
  split <;> exact ⟨_, _, rfl⟩

theorem Dev.acknowledge_src_ne (d : Dev) (c : Ctx) {src j : Nat} (sub : Nat) (hj : j ≠ src) :
    (d.acknowledge c src sub).stop.src j = d.stop.src j := by
  unfold Dev.acknowledge
  dsimp only
  split
  · rfl
  split <;> exact Stopper.src_of_set rfl hj

theorem Dev.acknowledge_bit (d : Dev) (c : Ctx) (src sub : Nat) :
    ((d.acknowledge c src sub).stop.src src).bit = false := by
  unfold Dev.acknowledge
  dsimp only
  split
  case isTrue hidle => simpa using hidle
  case isFalse hbit =>
    have hsrc : src < d.stop.srcs.length := by
      by_contra hout
      rw [show d.stop.src src = Src.reset from List.getD_eq_default _ _ (Nat.not_lt.mp hout)] at hbit
      exact hbit rfl
    split <;> exact congrArg Src.bit (getD_set_src _ hsrc)

/-- An acknowledged source stays so when another one is acknowledged. -/
theorem Dev.acknowledge_bit_of_false {d : Dev} (c : Ctx) {j : Nat} (src sub : Nat) (hj : (d.stop.src j).bit = false) :
    ((d.acknowledge c src sub).stop.src j).bit = false := by
  by_cases hsame : j = src
  · rw [hsame]
    exact d.acknowledge_bit ..
  · rwa [d.acknowledge_src_ne c sub hsame]

/-- The sources of STOP_STATk at the named bits are acknowledged one after the other. -/
def Dev.acknowledgeAll (d : Dev) (c : Ctx) (k sub : Nat) (bits : List Nat) : Dev :=
  bits.foldl (fun d i => d.acknowledge c (32 * k + i) sub) d

theorem Dev.acknowledgeAll_eq (d : Dev) (c : Ctx) (k sub : Nat) (bits : List Nat) :
    ∃ stop log, d.acknowledgeAll c k sub bits = { d with stop := stop, log := log } := by
  induction bits generalizing d with
  | nil => exact ⟨d.stop, d.log, rfl⟩
  | cons i bits ih =>
    obtain ⟨stop, log, hone⟩ := d.acknowledge_eq c (32 * k + i) sub
    obtain ⟨stop', log', hrest⟩ := ih (d.acknowledge c (32 * k + i) sub)
    exact ⟨stop', log', hrest.trans (by rw [hone])⟩

theorem Dev.acknowledgeAll_src {j k : Nat} {bits : List Nat} (hj : ∀ i, i ∈ bits → j ≠ 32 * k + i) (d : Dev) (c : Ctx)
    (sub : Nat) : (d.acknowledgeAll c k sub bits).stop.src j = d.stop.src j := by
  induction bits generalizing d with
  | nil => rfl
  | cons i bits ih =>
    have hrest := ih (fun i' hi' => hj i' (List.mem_cons_of_mem _ hi')) (d.acknowledge c (32 * k + i) sub)
    exact hrest.trans (d.acknowledge_src_ne c sub (hj i List.mem_cons_self))

theorem Dev.acknowledgeAll_bit_of_false {d : Dev} (c : Ctx) {j : Nat} (k sub : Nat) (bits : List Nat)
    (hj : (d.stop.src j).bit = false) : ((d.acknowledgeAll c k sub bits).stop.src j).bit = false := by
  induction bits generalizing d with
  | nil => exact hj
  | cons i bits ih => exact ih (Dev.acknowledge_bit_of_false c _ sub hj)

theorem Dev.acknowledgeAll_bit {i : Nat} {bits : List Nat} (hi : i ∈ bits) (d : Dev) (c : Ctx) (k sub : Nat) :
    ((d.acknowledgeAll c k sub bits).stop.src (32 * k + i)).bit = false := by
  induction bits generalizing d with
  | nil => cases hi
  | cons i' bits ih =>
    rcases List.mem_cons.mp hi with rfl | hi
    · exact Dev.acknowledgeAll_bit_of_false c k sub bits (d.acknowledge_bit ..)
    · exact ih hi _

theorem exec_stopperAcknowledge {k : Nat} (hk : k ≤ 2) (v : Word) (s : State) :
    exec (.stopperAcknowledge k v) s =
      .next (s.onDev fun c d => d.acknowledgeAll c k c.time.sub ((List.range 32).filter fun i => v.bit i)) :=
  if_neg (Nat.not_lt.mpr hk)

/-! ### FAULT_N and the end of a block reset (R431, R434, R467) -/

/-- After its hold FAULT_N is low for the sources that hold it alone. -/
theorem Stopper.wantsFault_afterHold (t : Stopper) : ({ t with faultHold := false } : Stopper).wantsFault = true ↔
    ∃ x, x ∈ t.srcs ∧ x.bit = true ∧ x.fault = true := by
  simp [Stopper.wantsFault]

/-- The hawser leaves the list of block resets, which is counted and reported. -/
theorem exec_blockResetDone {s : State} {x : Nat} (hrun : x ∈ s.dev.boot.blkRun) : ∃ host,
    exec (.blockResetDone x) s = .next { s with dev := { s.dev with
      boot := { s.dev.boot with
        blkRun := s.dev.boot.blkRun.erase x, blkCnt := min (s.dev.boot.blkCnt + 1) 255, blkLast := x, blkDone := true }
      stop := { s.dev.stop with links := s.dev.stop.links.filter fun l => l.1 != 60 + x }
      host := host } } := by
  change ∃ host, execBlockResetDone x s = _
  rw [execBlockResetDone, if_neg (by simp [hrun])]
  obtain ⟨host, hevent⟩ := Dev.event_eq { s.dev with
    boot := { s.dev.boot with
      blkRun := s.dev.boot.blkRun.erase x, blkCnt := min (s.dev.boot.blkCnt + 1) 255, blkLast := x, blkDone := true }
    stop := { s.dev.stop with links := s.dev.stop.links.filter fun l => l.1 != 60 + x } } s.ctx 11 x s.time.sub 0 0
  exact ⟨host, congrArg (fun d => Host.Outcome.next { s with dev := d }) hevent⟩

/-! ### Marline links (R463) -/

theorem Dev.react_links (d : Dev) (c : Ctx) (src sev unit sub : Nat) (r : Reaction) :
    (d.react c src sev unit sub r).stop.links = d.stop.links := by
  obtain ⟨_, _, _, _, hstop⟩ := d.react_stop c src sev unit sub r
  rw [hstop]

theorem Stopper.latchFirst_links (t : Stopper) (n src sev unit sub : Nat) :
    (t.latchFirst n src sev unit sub).1.links = t.links := by
  unfold Stopper.latchFirst
  dsimp only
  split
  · rfl
  split <;> rfl

/-- A raise leaves the records of the Marline links. -/
theorem Dev.raise_links (d : Dev) (c : Ctx) (src sev unit sub : Nat) :
    (d.raise c src sev unit sub).stop.links = d.stop.links := by
  unfold Dev.raise
  split
  · rfl
  split
  · rfl
  dsimp only
  split
  · exact (react_links ..).trans (Stopper.latchFirst_links ..)
  split
  · exact react_links ..
  split
  · exact react_links ..
  · rfl

theorem Stopper.link_congr {t u : Stopper} (h : u.links = t.links) (src : Nat) : u.link src = t.link src := by
  rw [Stopper.link, h, Stopper.link]

theorem Stopper.link_putLink (t : Stopper) {l : Nat × Nat × Nat × Bool} {src : Nat} (hl : l.1 = src) :
    (t.putLink l).link src = some l := by
  subst hl
  have hnone : (t.links.filter fun x => x.1 != l.1).find? (fun x => x.1 == l.1) = none := by simp
  simp [Stopper.link, Stopper.putLink, List.find?_append, hnone]

/-- The record of another link stays when that of a link goes. -/
theorem find?_filter_link (links : List (Nat × Nat × Nat × Bool)) (src k : Nat) :
    (links.filter fun x => x.1 != src).find? (fun x => x.1 == k) =
      if k = src then none else links.find? fun x => x.1 == k := by
  rw [List.find?_filter]
  split
  next hk => simp [hk]
  next hk =>
    congr 1
    funext x
    by_cases hx : x.1 = k <;> simp [hx, hk]

/-- A link's second tick in a row with an uncorrectable frame takes it down. -/
theorem badFrame_down {src n : Nat} {l : Nat × Nat × Nat × Bool} (hnext : succ32 l.2.1 = n) (hother : l.2.1 ≠ n)
    (hrun : 1 ≤ l.2.2.1) : (badFrame src n (some l)).2.2.2 = true := by
  simp [badFrame, hnext, hother, hrun]

theorem exec_marlineFrame {src : Nat} {s : State} (hlow : 60 ≤ src) (hhigh : src ≤ 95)
    (hfits : sourceFits s.ident.member src 0 = true) (bad : Bool) :
    exec (.marlineFrame src bad) s = .next (s.onDev fun c d =>
      if bad then
        ({ d with stop := d.stop.putLink (badFrame src c.n (d.stop.link src)) } : Dev).raise c src 3 0 c.time.sub
      else d.raise c src 1 0 c.time.sub) :=
  if_neg (by simp [hfits, Nat.not_lt.mpr hlow, Nat.not_lt.mpr hhigh])

theorem exec_marlineLinkRestore {src : Nat} {l : Nat × Nat × Nat × Bool} {s : State} (hsrc : 68 ≤ src)
    (hlink : s.dev.stop.link src = some l) (hdown : l.2.2.2 = true) (hlong : 20 < sub32 s.time.n l.2.1) :
    exec (.marlineLinkRestore src) s = .next { s with dev := { s.dev with stop := { s.dev.stop with
      links := s.dev.stop.links.filter fun x => x.1 != src } } } := by
  change execMarlineLinkRestore src s = _
  unfold execMarlineLinkRestore
  rw [hlink]
  exact if_neg (by simp [hdown, Nat.not_lt.mpr hsrc, Nat.not_le.mpr hlong])

/-! ### Every row of the Stopper -/

theorem exec_stopperRaise {src sev : Nat} (hsrc : src ≤ 95) (hsev : sev ≤ 5) (unit sub : Nat) (s : State) :
    exec (.stopperRaise src sev unit sub) s = .next (s.onDev fun c d => d.raise c src sev unit sub) :=
  if_neg (by omega)

/-- Settles O49: the first raise of a source is latched and reacts at its level; acknowledgements reach the named bits
alone; and a raise leaves the records of the Marline links. -/
theorem faultsAreRaisedAndAcknowledged : Obligations.FaultsAreRaisedAndAcknowledged := by
  refine ⟨fun src sev unit sub s hhigh hsev hmode hfits hblk hsrc hidle => ?raise, fun k v s hk => ?acknowledge,
    fun v s => rfl, fun s => ⟨_, rfl, s.dev.stop.wantsFault_afterHold, rfl⟩, fun x s hrun => ?blockReset,
    fun src l s hlow hhigh hfits hlink hnext hother hrun => ?uncorrectable, fun src s hlow hhigh hfits => ?corrected,
    fun src l s hsrc hlink hdown hlong => ?restore⟩
  case raise =>
    obtain ⟨e, r, hfirst, hlevel, hraise⟩ := s.dev.raise_idle (c := s.ctx) sev sub hmode hfits hblk hidle
    have hholds := hfirst.react_holds hsrc r
    refine ⟨_, exec_stopperRaise hhigh hsev unit sub s, ?_⟩
    simp only [State.onDev_dev, hraise]
    refine ⟨hholds.bit, hholds.maxSev, hholds.lastTick, hholds.others, hholds.first, s.sameOutside_onDev _,
      fun hlow => ?_,
      fun x hthree hname hcoil hlatch => e.react_of_three sev sub (hlevel.trans hthree) hname hcoil hlatch,
      fun hfour hlatch => e.react_of_four src sev unit sub (hlevel.trans hfour) hlatch⟩
    obtain ⟨stop, log, host, free, hreact⟩ := e.react_of_le_two (c := s.ctx) src sev unit sub (hlevel.trans_le hlow)
    rw [hreact, hfirst.eq]
  case acknowledge =>
    refine ⟨_, exec_stopperAcknowledge hk v s, fun i hi hv => ?_, fun i hi hv => ?_, fun j hj => ?_,
      s.sameOutside_onDev _, ?_⟩
    · exact Dev.acknowledgeAll_bit (by simp [hi, hv]) ..
    · refine Dev.acknowledgeAll_src (fun i' hi' hsame => ?_) ..
      obtain rfl : i = i' := by omega
      exact absurd (List.of_mem_filter hi') (by simp [hv])
    · refine Dev.acknowledgeAll_src (fun i hi => ?_) ..
      have hrange : i < 32 := List.mem_range.mp (List.mem_of_mem_filter hi)
      omega
    · obtain ⟨stop, log, hall⟩ := s.dev.acknowledgeAll_eq s.ctx k s.time.sub ((List.range 32).filter fun i => v.bit i)
      exact hall.trans (by simp [hall])
  case blockReset =>
    obtain ⟨host, hexec⟩ := exec_blockResetDone hrun
    exact ⟨_, hexec, rfl, ⟨rfl, rfl, rfl, rfl, rfl, rfl, rfl⟩, rfl⟩
  case uncorrectable =>
    refine ⟨_, badFrame src s.time.n (some l), exec_marlineFrame hlow hhigh hfits true, ?_,
      badFrame_down hnext hother hrun, s.sameOutside_onDev _⟩
    refine (Stopper.link_congr (Dev.raise_links ..) src).trans ?_
    rw [← hlink]
    exact s.dev.stop.link_putLink (l := badFrame src s.time.n (s.dev.stop.link src)) (by rw [hlink]; rfl)
  case corrected =>
    exact ⟨_, exec_marlineFrame hlow hhigh hfits false, Dev.raise_links .., s.sameOutside_onDev _⟩
  case restore =>
    refine ⟨_, exec_marlineLinkRestore hsrc hlink hdown hlong, ?_, fun k hk => ?_, rfl⟩
    · exact (find?_filter_link ..).trans (if_pos rfl)
    · exact (find?_filter_link ..).trans (if_neg hk)

end Sys2Proof.Machine
end

section
/-! PROOFS. The rings and the stores under every command: no ring outgrows its size, no pinned region its 1 MB, and the
lifecycle state follows Table STP-11 (R477, R484, R485, R488, R495, R498, R499, R502). -/

namespace Sys2Proof.Machine

/-! ### 32-bit indices (R495) -/

theorem sub32_mod (a b : Nat) : sub32 (a % two32) b = sub32 a b := by
  simp only [sub32, Nat.mod_mod]

theorem sub32_self (a : Nat) : sub32 a a = 0 := by
  simp only [sub32, two32]
  omega

theorem sub32_succ32_le (p c : Nat) : sub32 (succ32 p) c ≤ sub32 p c + 1 := by
  simp only [sub32, succ32, two32]
  omega

/-- A consumer index that moves on within what is held leaves so much less behind it. -/
theorem sub32_consume_le {p c i : Nat} (h : sub32 i c ≤ sub32 p c) : sub32 p i ≤ sub32 p c := by
  simp only [sub32, two32] at h ⊢
  omega

theorem sub32_succ32_right_le {p c : Nat} (h : sub32 p c ≠ 0) : sub32 p (succ32 c) ≤ sub32 p c := by
  simp only [sub32, succ32, two32] at h ⊢
  omega

/-! ### Rings within their size (R495) -/

/-- A ring with 32-bit indices that holds no more than a size. -/
structure Ring.Fits (r : Ring) (size : Nat) : Prop where
  p : r.p < two32
  c : r.c < two32
  used : r.used ≤ size

/-- An empty ring fits any size. -/
theorem Ring.fits_of_zero {r : Ring} (hp : r.p = 0) (hc : r.c = 0) (size : Nat) : r.Fits size := by
  refine ⟨hp ▸ by decide, hc ▸ by decide, ?_⟩
  rw [Ring.used, hp, hc, sub32_self]
  exact Nat.zero_le size

/-- Counts beside the indices are free. -/
theorem Ring.Fits.of_indices {r q : Ring} {size : Nat} (hp : q.p = r.p) (hc : q.c = r.c) (h : r.Fits size) :
    q.Fits size := ⟨hp ▸ h.p, hc ▸ h.c, by rw [Ring.used, hp, hc]; exact h.used⟩

theorem Ring.Fits.push {r : Ring} {size : Nat} (h : r.Fits size) (hroom : r.used < size) (b : Bytes) :
    (r.push b).Fits size :=
  ⟨Nat.mod_lt _ (by decide), h.c, (sub32_succ32_le r.p r.c).trans hroom⟩

theorem Ring.Fits.produce {r : Ring} {size idx : Nat} (h : r.Fits size) (hvalid : producerValid r size idx = true) :
    ({ r with p := idx % two32 } : Ring).Fits size := by
  have hsize : sub32 idx r.c ≤ size := by simp [producerValid] at hvalid; exact hvalid.1
  exact ⟨Nat.mod_lt _ (by decide), h.c, (sub32_mod idx r.c).le.trans hsize⟩

theorem Ring.Fits.consume {r : Ring} {size idx : Nat} (h : r.Fits size) (hvalid : consumerValid r idx = true) :
    (r.consume idx).Fits size := by
  have hheld : sub32 (idx % two32) r.c ≤ sub32 r.p r.c := by
    rw [sub32_mod]
    exact of_decide_eq_true hvalid
  exact ⟨h.p, Nat.mod_lt _ (by decide), (sub32_consume_le hheld).trans h.used⟩

/-- The fetch of a descriptor frees its entry. -/
theorem Ring.Fits.fetch {r : Ring} {size : Nat} (h : r.Fits size) (hheld : r.used ≠ 0) :
    ({ r with c := succ32 r.c } : Ring).Fits size :=
  ⟨h.p, Nat.mod_lt _ (by decide), (sub32_succ32_right_le hheld).trans h.used⟩

/-! ### One ring of a state -/

theorem State.ring_congr {s t : State} (h : t.rings = s.rings) (k : Nat) : t.ring k = s.ring k := by
  rw [State.ring, State.ring, h]

theorem State.ring_setRing_ne (s : State) {j k : Nat} (r : Ring) (h : j ≠ k) : (s.setRing k r).ring j = s.ring j := by
  simp [State.ring, List.getElem?_set_ne h.symm]

theorem State.ring_setRing_self {s : State} {k : Nat} (r : Ring) (h : k < s.rings.length) :
    (s.setRing k r).ring k = r := by
  simp [State.ring, h]

theorem Ctx.ringSize_congr {c c' : Ctx} {k : Nat} (h : ringLog2 (c'.ringCfg k) = ringLog2 (c.ringCfg k)) :
    c'.ringSize k = c.ringSize k := by
  rw [Ctx.ringSize, Ctx.ringSize, Ctx.ringOn, Ctx.ringOn, h]

/-- The rings are as they should be where each of the six is there and fits its size. -/
theorem State.ringsOk_iff {s : State} :
    s.RingsOk ↔ s.rings.length = 6 ∧ ∀ k, k < 6 → (s.ring k).Fits (s.ctx.ringSize k) :=
  and_congr_right fun _ => forall₂_congr fun _ _ => ⟨fun ⟨hp, hc, hused⟩ => ⟨hp, hc, hused⟩,
    fun h => ⟨h.p, h.c, h.used⟩⟩

/-- The same rings under configurations of the same sizes. -/
theorem State.RingsOk.of_rings {s t : State} (h : s.RingsOk) (hrings : t.rings = s.rings)
    (hsize : ∀ k, ringLog2 (t.ctx.ringCfg k) = ringLog2 (s.ctx.ringCfg k)) : t.RingsOk := by
  rw [State.ringsOk_iff] at h ⊢
  refine ⟨hrings ▸ h.1, fun k hk => ?_⟩
  rw [State.ring_congr hrings, Ctx.ringSize_congr (hsize k)]
  exact h.2 k hk

/-- One ring is replaced by one that fits, and the others' sizes stay. -/
theorem State.RingsOk.setRing {s u : State} {k : Nat} {r : Ring} (h : s.RingsOk) (hrings : u.rings = s.rings)
    (hsize : ∀ j, j ≠ k → ringLog2 (u.ctx.ringCfg j) = ringLog2 (s.ctx.ringCfg j))
    (hr : (s.ring k).Fits (s.ctx.ringSize k) → r.Fits (u.ctx.ringSize k)) : (u.setRing k r).RingsOk := by
  rw [State.ringsOk_iff] at h ⊢
  obtain ⟨hlen, hfits⟩ := h
  refine ⟨by simpa [hrings] using hlen, fun j hj => ?_⟩
  by_cases hjk : j = k
  · subst hjk
    rw [State.ring_setRing_self r (by rw [hrings, hlen]; exact hj)]
    exact hr (hfits j hj)
  · rw [State.ring_setRing_ne u r hjk, State.ring_congr hrings]
    exact Ctx.ringSize_congr (c' := u.ctx) (hsize j hjk) ▸ hfits j hj

theorem State.ringsOk_of_reset {s : State} (h : s.rings = List.replicate 6 Ring.reset) : s.RingsOk := by
  rw [State.ringsOk_iff]
  refine ⟨by rw [h, List.length_replicate], fun k hk => ?_⟩
  have hring : s.ring k = Ring.reset := by rw [State.ring, h, List.getD_replicate _ hk]
  exact hring ▸ Ring.fits_of_zero rfl rfl _

/-! ### The pinned region (R476, R477, R482) -/

theorem logBytes_append (l m : List LogRec) : logBytes (l ++ m) = logBytes l + logBytes m := by
  simp [logBytes]

theorem insertBy_perm {α : Type} (le : α → α → Bool) (x : α) (l : List α) : (insertBy le x l).Perm (x :: l) := by
  induction l with
  | nil => exact .refl _
  | cons y ys ih =>
    rw [insertBy]
    split
    · exact .refl _
    · exact (ih.cons y).trans (.swap x y ys)

theorem sortBy_perm {α : Type} (le : α → α → Bool) (l : List α) : (sortBy le l).Perm l := by
  induction l with
  | nil => exact .refl _
  | cons x xs ih => exact (insertBy_perm le x _).trans (ih.cons x)

theorem bySeq_perm (l : List LogRec) : (bySeq l).Perm l := sortBy_perm _ l

theorem logBytes_bySeq (l : List LogRec) : logBytes (bySeq l) = logBytes l :=
  ((bySeq_perm l).map LogRec.len).sum_eq

theorem logBytes_filter_le (f : LogRec → Bool) (l : List LogRec) : logBytes (l.filter f) ≤ logBytes l :=
  (List.filter_sublist.map LogRec.len).sum_le_sum (fun _ _ => Nat.zero_le _)

/-- A record of the general ring leaves the pinned region and the lifecycle as they are. -/
theorem NvSt.putRing_eq (v : NvSt) (optime typ : Nat) (payload : Bytes) : ∃ ring pos seq,
    v.putRing optime typ payload = { v with ring := ring, ringPos := pos, seq := seq } := by
  unfold NvSt.putRing
  dsimp only
  split <;> exact ⟨_, _, _, rfl⟩

theorem NvSt.cleared_pinned_le (v : NvSt) (scope upto : Nat) :
    logBytes (v.cleared scope upto).pinned ≤ logBytes v.pinned := by
  rw [NvSt.cleared]
  dsimp only
  split
  · exact le_refl _
  · rw [logBytes_bySeq]
    exact logBytes_filter_le ..

/-! ### The stores from one command to the next -/

/-- How the stores may go on: the pinned region stays within its size, and the lifecycle stands still, or takes a
transition of Table STP-11 where none is pending, which is then pending. -/
structure NvSt.Follows (v w : NvSt) : Prop where
  pinned : logBytes v.pinned ≤ pinnedBytes → logBytes w.pinned ≤ pinnedBytes
  life : (w.life = v.life ∧ w.lifeFrom = v.lifeFrom) ∨
    (v.lifeFrom = none ∧ (lifeTransition v.life w.life).isSome = true ∧ w.lifeFrom = some v.life)

theorem NvSt.Follows.of_pinned {v w : NvSt} (h : logBytes v.pinned ≤ pinnedBytes → logBytes w.pinned ≤ pinnedBytes)
    (hlife : w.life = v.life) (hfrom : w.lifeFrom = v.lifeFrom) : v.Follows w := ⟨h, .inl ⟨hlife, hfrom⟩⟩

/-- Fields beside the pinned region and the lifecycle are free. -/
theorem NvSt.Follows.of_eq {v w : NvSt} (hpinned : w.pinned = v.pinned) (hlife : w.life = v.life)
    (hfrom : w.lifeFrom = v.lifeFrom) : v.Follows w := .of_pinned (fun h => hpinned ▸ h) hlife hfrom

theorem NvSt.Follows.refl (v : NvSt) : v.Follows v := .of_eq rfl rfl rfl

/-- At most one transition is taken before its reset: a second finds the first pending. -/
theorem NvSt.Follows.trans {u v w : NvSt} (huv : u.Follows v) (hvw : v.Follows w) : u.Follows w := by
  refine ⟨hvw.pinned ∘ huv.pinned, ?_⟩
  rcases huv.life with ⟨hlife, hfrom⟩ | ⟨hnone, hstep, hpend⟩
  · rw [← hlife, ← hfrom]
    exact hvw.life
  · rcases hvw.life with ⟨hlife, hfrom⟩ | ⟨hnone', -, -⟩
    · exact .inr ⟨hnone, hlife ▸ hstep, hfrom.trans hpend⟩
    · exact absurd (hpend.symm.trans hnone') (by simp)

/-- `w` is `v` once records were written to its two regions. -/
structure NvSt.Logged (v w : NvSt) : Prop where
  eq : w = { v with pinned := w.pinned, ring := w.ring, ringPos := w.ringPos, seq := w.seq }
  fits : logBytes v.pinned ≤ pinnedBytes → logBytes w.pinned ≤ pinnedBytes

theorem NvSt.Logged.refl (v : NvSt) : v.Logged v := ⟨rfl, id⟩

theorem NvSt.Logged.life {v w : NvSt} (h : v.Logged w) : w.life = v.life := by rw [h.eq]
theorem NvSt.Logged.lifeFrom {v w : NvSt} (h : v.Logged w) : w.lifeFrom = v.lifeFrom := by rw [h.eq]
theorem NvSt.Logged.keys {v w : NvSt} (h : v.Logged w) : w.keys = v.keys := by rw [h.eq]
theorem NvSt.Logged.group {v w : NvSt} (h : v.Logged w) : w.group = v.group := by rw [h.eq]

theorem NvSt.Logged.follows {v w : NvSt} (h : v.Logged w) : v.Follows w := .of_pinned h.fits h.life h.lifeFrom

/-- A record goes to the pinned region only where it has room (R477). -/
theorem NvSt.putLog_logged (v : NvSt) (optime typ : Nat) (pinned : Bool) (payload : Bytes) :
    v.Logged (v.putLog optime typ pinned payload) := by
  unfold NvSt.putLog
  split
  next hpin =>
    refine ⟨rfl, fun _ => ?_⟩
    rw [Bool.and_eq_true, NvSt.pinRoom, decide_eq_true_eq] at hpin
    rw [logBytes_append]
    exact hpin.2
  · obtain ⟨ring, pos, seq, hput⟩ := v.putRing_eq optime typ payload
    exact hput ▸ ⟨rfl, id⟩

theorem State.putLog_nv (s : State) (typ : Nat) (pinned : Bool) (payload : Bytes) :
    (s.putLog typ pinned payload).nv = s.nv.putLog s.dev.log.optime typ pinned payload := by
  unfold State.putLog
  dsimp only
  split <;> rfl

theorem State.logNow_logged (s : State) (typ : Nat) (pinned : Bool) (payload : Bytes) :
    s.nv.Logged (s.logNow typ pinned payload).nv := by
  unfold State.logNow
  split
  · exact .refl _
  · rw [State.putLog_nv]
    exact s.nv.putLog_logged ..

/-- The commit of a lifecycle change after its record (R488). -/
theorem NvSt.Logged.commitLife {v w : NvSt} (h : v.Logged w) {new : Life} (hnone : v.lifeFrom = none)
    (hstep : (lifeTransition v.life new).isSome = true) (group : Nat) (key : Bytes) :
    v.Follows (w.commitLife new group key) :=
  ⟨h.fits, .inr ⟨hnone, hstep, congrArg some h.life⟩⟩

theorem NvSt.cleared_follows (v : NvSt) (scope upto : Nat) : v.Follows (v.cleared scope upto) :=
  .of_pinned (v.cleared_pinned_le scope upto).trans rfl rfl

end Sys2Proof.Machine
end

section
/-! PROOFS. Every command from every state: each completes, leaves the queue alone, and keeps the setup registers while
SETUP_LOCK is 1, the rings within their sizes, the pinned region within its 1 MB and the lifecycle on Table STP-11
(R477, R484, R485, R488, R495, R498, R502, R527). -/

namespace Sys2Proof.Machine

/-! ### Commands that are no reset and write no setup register -/

/-- `t` follows `s` by what reaches the device, the rings and the stores alone. -/
structure State.Follows (s t : State) : Prop where
  pending : t.pending = s.pending
  setup : t.setup = s.setup
  nv : s.nv.Follows t.nv
  rings : s.RingsOk → t.RingsOk

namespace State.Follows

theorem of_nv {s t : State} (hpending : t.pending = s.pending) (hsetup : t.setup = s.setup)
    (hrings : t.rings = s.rings) (hnv : s.nv.Follows t.nv) : s.Follows t :=
  ⟨hpending, hsetup, hnv, fun h => h.of_rings hrings fun _ => by rw [Ctx.ringCfg, State.ctx_setup, hsetup]; rfl⟩

/-- A command that reaches the device, the time and the modes alone. -/
theorem same {s t : State} (hpending : t.pending = s.pending) (hsetup : t.setup = s.setup)
    (hrings : t.rings = s.rings) (hnv : t.nv = s.nv) : s.Follows t :=
  of_nv hpending hsetup hrings (hnv ▸ .refl _)

theorem refl (s : State) : s.Follows s := same rfl rfl rfl rfl

theorem trans {s t u : State} (hst : s.Follows t) (htu : t.Follows u) : s.Follows u :=
  ⟨htu.pending.trans hst.pending, htu.setup.trans hst.setup, hst.nv.trans htu.nv, htu.rings ∘ hst.rings⟩

theorem ite {s a b : State} {p : Prop} [Decidable p] (ha : s.Follows a) (hb : s.Follows b) :
    s.Follows (if p then a else b) := by
  split
  · exact ha
  · exact hb

theorem writeIndex (s : State) : s.Follows s.writeIndex := by apply same <;> simp

theorem fetched (s : State) : s.Follows s.fetched := same rfl rfl rfl rfl

theorem returns (s : State) (w : Word) : s.Follows (s.returns w) := same rfl rfl rfl rfl

/-- A ring is replaced by one that fits where the old one did; the device may change with it. -/
theorem setRing {s : State} {k : Nat} {r : Ring} (d : Dev)
    (h : ∀ size, (s.ring k).Fits size → size = s.ctx.ringSize k → r.Fits size) :
    s.Follows ({ s with dev := d }.setRing k r) :=
  ⟨rfl, rfl, .refl _, fun hs => hs.setRing rfl (fun _ _ => rfl) fun hfits => h _ hfits rfl⟩

/-- The counts of a ring are free. -/
theorem setCounts {s : State} {k : Nat} {r : Ring} (d : Dev) (hp : r.p = (s.ring k).p) (hc : r.c = (s.ring k).c) :
    s.Follows ({ s with dev := d }.setRing k r) := setRing d fun _ hfits _ => hfits.of_indices hp hc

theorem of_sameOutsideNv {s t : State} (h : s.SameOutsideNv t) (hnv : s.nv.Follows t.nv) : s.Follows t :=
  of_nv h.pending h.setup h.rings hnv

end State.Follows

/-! ### Host commands (R482, R485, R486, R488) -/

theorem State.ite_spendNonce_nv {p : Prop} [Decidable p] (s : State) :
    (if p then s.spendNonce else s).nv = s.nv := by
  split <;> rfl

/-- LIFE.SET takes a transition of Table STP-11 where none is pending. -/
theorem cmdLifeSet_nv_follows (h : CmdHdr) (st group : Nat) (b : InBuf) (s : State) :
    s.nv.Follows (cmdLifeSet h st group b s).nv := by
  unfold cmdLifeSet
  extract_lets target new needs t ok spent
  have hspent : spent.nv = s.nv := s.ite_spendNonce_nv
  split
  · exact .refl _
  next hchecks =>
    split
    · rw [hspent]
      exact .refl _
    next htoken =>
      have hnone : s.nv.lifeFrom = none := by
        rw [firstFail_eq_none_iff] at htoken
        simpa [hspent] using htoken (spent.nv.lifeFrom.isSome, stBusy) (by simp)
      have hstep : (lifeTransition s.nv.life new).isSome = true := by
        rw [firstFail_eq_none_iff] at hchecks
        have hsome : target.isSome = true := by simpa using hchecks (target.isNone, stBadArg) (by simp [lifeChecks])
        have hneed := hchecks ((target.bind fun x => lifeTransition s.nv.life x).isNone, stDenied)
          (by simp [lifeChecks])
        obtain ⟨x, hx⟩ := Option.isSome_iff_exists.mp hsome
        simpa [new, hx, Option.isSome_iff_ne_none] using hneed
      exact NvSt.Logged.commitLife (hspent ▸ spent.logNow_logged ..) hnone hstep ..

theorem cmdKeySet_nv_follows (h : CmdHdr) (slot action : Nat) (b : InBuf) (s : State) :
    s.nv.Follows (cmdKeySet h slot action b s).nv := by
  unfold cmdKeySet
  split
  · exact .refl _
  extract_lets tok data key t digest arg ok spent
  have hspent : spent.nv = s.nv := s.ite_spendNonce_nv
  split
  · rw [hspent]
    exact .refl _
  · have hkeys : s.nv.Follows { spent.nv with keys := spent.nv.keys.set slot key } := by
      rw [hspent]
      exact .of_eq rfl rfl rfl
    exact hkeys.trans
      (State.logNow_logged { spent with nv := { spent.nv with keys := spent.nv.keys.set slot key } } ..).follows

theorem cmdTimeSet_nv_follows (h : CmdHdr) (x : Nat) (s : State) : s.nv.Follows (cmdTimeSet h x s).nv := by
  unfold cmdTimeSet
  split <;> exact .of_eq rfl rfl rfl

theorem cmdPlanLoad_nv (h : CmdHdr) (b : InBuf) (s : State) : (cmdPlanLoad h b s).nv = s.nv := by
  unfold cmdPlanLoad
  split <;> rfl

theorem cmdLogClear_nv (h : CmdHdr) (b : InBuf) (s : State) : (cmdLogClear h b s).nv = s.nv := by
  unfold cmdLogClear
  dsimp only
  split <;> rfl

/-- Of the host commands LIFE.SET and KEY.SET write records, and TIME.SET moves TIME_FLOOR; none reaches more of the
stores. -/
theorem runCommand_nv_follows (i : Instr) (s : State) : s.nv.Follows (runCommand i s).nv := by
  cases i with
  | timeSet h x => exact cmdTimeSet_nv_follows h x s
  | planLoad h b => exact cmdPlanLoad_nv h b s ▸ .refl _
  | logClear h b => exact cmdLogClear_nv h b s ▸ .refl _
  | lifeSet h st group b => exact cmdLifeSet_nv_follows h st group b s
  | keySet h slot action b => exact cmdKeySet_nv_follows h slot action b s
  | _ => exact .refl _

theorem runCommand_follows (i : Instr) (s : State) : s.Follows (runCommand i s) :=
  .of_sameOutsideNv (runCommand_sameOutsideNv i s) (runCommand_nv_follows i s)

/-! ### COMMAND_FETCH (R500 to R503) -/

theorem evaluate_follows (cidx : Nat) (x : Descriptor) (s : State) : s.Follows (evaluate cidx x s) := by
  unfold evaluate
  dsimp only
  split
  · exact .same rfl rfl rfl rfl
  split
  · exact .same rfl rfl rfl rfl
  split
  · exact runCommand_follows _ s
  · exact .same rfl rfl rfl rfl

theorem runWaiting_follows (l : List (Nat × Descriptor)) (s : State) : s.Follows (runWaiting l s) := by
  induction l generalizing s with
  | nil => exact .same rfl rfl rfl rfl
  | cons x xs ih =>
    unfold runWaiting
    split
    · exact .same rfl rfl rfl rfl
    · exact (evaluate_follows ..).trans (ih _)

/-- A descriptor is fetched only from a ring that holds one. -/
theorem State.fetchOne_follows {s : State} (hheld : (s.ring 0).used ≠ 0) (x : Descriptor) :
    s.Follows (s.fetchOne x) := by
  have hfetch : s.Follows ((s.setRing 0 { s.ring 0 with c := succ32 (s.ring 0).c }).fetched) :=
    .setRing s.dev.fetched fun _ hfits _ => hfits.fetch hheld
  unfold State.fetchOne
  dsimp only
  split
  · exact hfetch.trans (.same rfl rfl rfl rfl)
  · exact hfetch.trans (evaluate_follows ..)

theorem State.used_ne_zero_of_mayFetch {s : State} (h : s.mayFetch = true) : (s.ring 0).used ≠ 0 := by
  simp [State.mayFetch] at h
  exact h.2

theorem fetchAll_follows (ds : List Descriptor) (s : State) : s.Follows (fetchAll ds s) := by
  induction ds generalizing s with
  | nil => exact .refl s
  | cons x xs ih =>
    unfold fetchAll
    split
    next hmay =>
      rw [Bool.and_eq_true] at hmay
      exact (State.fetchOne_follows (State.used_ne_zero_of_mayFetch hmay.1) x).trans (ih _)
    · exact .refl s

/-! ### The rings (R495 to R499, R516, R524) -/

/-- A register read clears the count of drops of a ring and reaches no index. -/
theorem State.readClears_follows (s : State) (off : Nat) : s.Follows (s.readClears off) := by
  unfold State.readClears
  dsimp only
  repeat' split
  · exact .setCounts s.dev rfl rfl
  all_goals exact .same rfl rfl rfl rfl

theorem State.dropLate_follows (s : State) (k : Nat) : s.Follows (s.dropLate k) := by
  unfold State.dropLate
  dsimp only
  split
  · exact .refl s
  · exact .setCounts _ rfl rfl

theorem State.overrun_follows (s : State) (item : WorkItem) : s.Follows (s.overrun item) := by
  cases item with
  | records k => exact .ite (s.dropLate_follows k) (.refl s)
  | belay | leadline => exact .ite (.same rfl rfl rfl rfl) (.refl s)
  | draft | solve => exact .same rfl rfl rfl rfl

/-! ### The Plan window and the samples -/

/-- A Plan window commits a plan, whose run counts and floors are no part of the lifecycle (R266, R272). -/
theorem State.planWork_counted_follows (s : State) (env : TickEnv) :
    s.Follows ((s.countedTick env).planWork env (s.endedTick env)) := by
  obtain ⟨runs, hruns⟩ := s.countedTick_nv env
  obtain ⟨runs', floors, floor, hnv⟩ := (s.countedTick env).planWork_nv env (s.endedTick env)
  refine .of_nv ?_ (by simp) (by simp) ?_
  · simp [State.countedTick, State.endedTick]
  · rw [hnv, hruns]
    exact .of_eq rfl rfl rfl

/-! ### The setup registers (R495, R523, R525, R527) -/

/-- ENTRIES_LOG2 reads as 0 exactly where its field is 0. -/
theorem ringLog2_eq_zero_iff (w : Word) : ringLog2 w = 0 ↔ w.field 0 5 = 0 := by
  unfold ringLog2
  dsimp only
  split
  · simp_all
  · constructor <;> intro <;> (repeat' split at *) <;> omega

theorem ringLog2_congr {v w : Word} (h : v.field 0 5 = w.field 0 5) : ringLog2 v = ringLog2 w := by
  rw [ringLog2, ringLog2, h]

theorem Word.field_zero_five (w : Word) : w.field 0 5 = (w &&& 0x1F#32).toNat := by
  rw [Word.field, BitVec.toNat_and]
  exact (Nat.and_two_pow_sub_one_eq_mod w.toNat 5).symm

/-- The low bits of a configuration word that keeps its ENTRIES_LOG2. -/
theorem keepLog2_and (v old : Word) : ((v &&& 0xFFFFFFE0#32) ||| (old &&& 0x1F#32)) &&& 0x1F#32 = old &&& 0x1F#32 := by
  rw [BitVec.and_or_distrib_right, BitVec.and_assoc, BitVec.and_assoc]
  simp

/-- A ring that stays enabled keeps its size (R495). -/
theorem ringLog2_ringCfgNext {k : Nat} {old v : Word} (hold : ringLog2 old ≠ 0)
    (hnew : ringLog2 (ringCfgNext k old v) ≠ 0) : ringLog2 (ringCfgNext k old v) = ringLog2 old := by
  unfold ringCfgNext at hnew ⊢
  dsimp only at hnew ⊢
  split at hnew
  next hboth =>
    rw [if_pos hboth]
    exact ringLog2_congr (by rw [Word.field_zero_five, keepLog2_and, ← Word.field_zero_five])
  next hboth =>
    rw [Ne, ringLog2_eq_zero_iff] at hold hnew
    exact absurd ⟨hold, hnew⟩ hboth

theorem Ctx.ringOn_iff {c : Ctx} {k : Nat} : c.ringOn k = true ↔ ringLog2 (c.ringCfg k) ≠ 0 := by
  simp [Ctx.ringOn]

theorem Ctx.ringOn_eq_false_iff {c : Ctx} {k : Nat} : c.ringOn k = false ↔ ringLog2 (c.ringCfg k) = 0 := by
  simp [Ctx.ringOn]

/-- The state once the configuration word of ring k is stored. -/
def State.putRingCfg (s : State) (k : Nat) (w : Word) : State :=
  { s with setup := { s.setup with ringCfg := s.setup.ringCfg.set k w } }

theorem State.putRingCfg_ringCfg_ne (s : State) {j k : Nat} (w : Word) (h : j ≠ k) :
    (s.putRingCfg k w).ctx.ringCfg j = s.ctx.ringCfg j := by
  simp [State.putRingCfg, Ctx.ringCfg, List.getElem?_set_ne h.symm]

theorem State.putRingCfg_ringCfg_self {s : State} {k : Nat} (w : Word) (h : k < s.setup.ringCfg.length) :
    (s.putRingCfg k w).ctx.ringCfg k = w := by
  simp [State.putRingCfg, Ctx.ringCfg, h]

theorem State.putRingCfg_of_le {s : State} {k : Nat} (w : Word) (h : s.setup.ringCfg.length ≤ k) :
    s.putRingCfg k w = s := by
  rw [State.putRingCfg, List.set_eq_of_length_le h]

/-- A write that neither enables nor disables a ring keeps its size. -/
theorem State.ringLog2_putRingCfg {s : State} {k : Nat} {v : Word}
    (hsame : s.ctx.ringOn k = (s.putRingCfg k (ringCfgNext k (s.ctx.ringCfg k) v)).ctx.ringOn k) :
    ringLog2 ((s.putRingCfg k (ringCfgNext k (s.ctx.ringCfg k) v)).ctx.ringCfg k) = ringLog2 (s.ctx.ringCfg k) := by
  rcases Nat.lt_or_ge k s.setup.ringCfg.length with hlt | hge
  · cases hon : s.ctx.ringOn k with
    | true =>
      have hnew := Ctx.ringOn_iff.mp (hsame.symm.trans hon)
      rw [State.putRingCfg_ringCfg_self _ hlt] at hnew ⊢
      exact ringLog2_ringCfgNext (Ctx.ringOn_iff.mp hon) hnew
    | false =>
      rw [Ctx.ringOn_eq_false_iff.mp hon, Ctx.ringOn_eq_false_iff.mp (hsame.symm.trans hon)]
  · rw [State.putRingCfg_of_le _ hge]

/-- A write to the configuration word of a ring while SETUP_LOCK is 0: where it enables or disables the ring, its
records go, but the staged completions, and its indices are 0. -/
theorem execRingCfgWrite_cfg {k : Nat} {s t : State} (v : Word) (hopen : ¬s.setup.locked = true) (hk : k ≤ 5)
    (ht : t = s.putRingCfg k (ringCfgNext k (s.ctx.ringCfg k) v)) :
    execRingCfgWrite k 2 v s =
      if s.ctx.ringOn k = t.ctx.ringOn k then .next t
      else .next ({ t with dev := { t.dev with host := { t.dev.host with
        staged := s.dev.host.staged.filter fun r => decide (r.ring ≠ k ∨ k = 1) } } }.setRing k (t.ring k).clear) := by
  subst ht
  rw [execRingCfgWrite, if_neg (by simp only [not_or]; exact ⟨hopen, by omega, by omega⟩)]
  rfl

theorem Setup.ite_ringCfg {p : Prop} [Decidable p] {a b : Setup} {l : List Word} (ha : a.ringCfg = l)
    (hb : b.ringCfg = l) : (if p then a else b).ringCfg = l := by
  split
  · exact ha
  · exact hb

/-- No register without a row of its own configures a ring. -/
theorem Setup.write_ringCfg (u : Setup) (m : Member) (off : Nat) (v : Word) :
    (u.write m off v).ringCfg = u.ringCfg := by
  unfold Setup.write
  repeat' apply Setup.ite_ringCfg
  all_goals rfl

/-! ### What every command keeps -/

/-- What a command keeps of a state, whatever the state. -/
structure State.Keeps (s : State) (c : Instr) (t : State) : Prop where
  pending : t.pending = s.pending
  setup : s.setup.locked = true →
    t.setup = s.setup ∨ (resetsSetup c = true ∧ t.setup = Setup.reset ∧ t.modes.mode = .reset)
  rings : s.RingsOk → t.RingsOk
  pinned : s.PinnedOk → t.PinnedOk
  life : t.nv.life = s.nv.life ∨
    (s.nv.lifeFrom = none ∧ (lifeTransition s.nv.life t.nv.life).isSome = true ∧ t.nv.lifeFrom = some s.nv.life)

/-- A command completes, and keeps what every command keeps. -/
def State.Completes (s : State) (c : Instr) (o : Host.Outcome State Fault Refusal) : Prop :=
  ∃ t, o = .next t ∧ s.Keeps c t

theorem State.Follows.keeps {s t : State} (h : s.Follows t) (c : Instr) : s.Keeps c t :=
  ⟨h.pending, fun _ => .inl h.setup, h.rings, h.nv.pinned, h.nv.life.imp_left And.left⟩

/-- A write to the setup registers is taken only while SETUP_LOCK is 0. -/
theorem State.Keeps.of_unlocked {s t : State} {c : Instr} (h : ¬s.setup.locked = true) (hpending : t.pending = s.pending)
    (hnv : t.nv = s.nv) (hrings : s.RingsOk → t.RingsOk) : s.Keeps c t :=
  ⟨hpending, fun hlocked => absurd hlocked h, hrings, fun hpin => by rw [State.PinnedOk, hnv]; exact hpin,
    .inl (congrArg NvSt.life hnv)⟩

/-- A reset empties the rings, and returns the setup registers to their reset values unless it is a warm one. -/
theorem State.Keeps.of_reset {s t : State} {c : Instr} {cause : Nat}
    (hcause : cause = causeWarm ∨ resetsSetup c = true) (hpending : t.pending = s.pending)
    (hsetup : t.setup = (s.resetModule cause).setup) (hmode : t.modes.mode = .reset)
    (hrings : t.rings = (s.resetModule cause).rings) (hnv : s.nv.Follows t.nv) : s.Keeps c t := by
  refine ⟨hpending, fun _ => ?_, fun _ => State.ringsOk_of_reset hrings, hnv.pinned, hnv.life.imp_left And.left⟩
  rw [hsetup, State.resetModule]
  dsimp only
  split
  · exact .inl rfl
  next hcold => exact .inr ⟨hcause.resolve_left hcold, rfl, hmode⟩

namespace State.Completes

theorem next {s t : State} {c : Instr} (h : s.Keeps c t) : s.Completes c (.next t) := ⟨t, rfl, h⟩

theorem follows {s t : State} {c : Instr} (h : s.Follows t) : s.Completes c (.next t) := next (h.keeps c)

/-- A command that reaches the device, the time and the modes alone. -/
theorem same {s t : State} {c : Instr} (hpending : t.pending = s.pending) (hsetup : t.setup = s.setup)
    (hrings : t.rings = s.rings) (hnv : t.nv = s.nv) : s.Completes c (.next t) :=
  follows (.same hpending hsetup hrings hnv)

theorem idle {s : State} {c : Instr} : s.Completes c (.next s) := follows (.refl s)

theorem ite {s : State} {c : Instr} {p : Prop} [Decidable p] {a b : Host.Outcome State Fault Refusal}
    (ha : s.Completes c a) (hb : s.Completes c b) : s.Completes c (if p then a else b) := by
  split
  · exact ha
  · exact hb

/-- A command whose condition does not hold leaves the state as it is (assumption 3). -/
theorem guard {s : State} {c : Instr} {p : Prop} [Decidable p] {o : Host.Outcome State Fault Refusal}
    (h : s.Completes c o) : s.Completes c (if p then .next s else o) := ite idle h

/-- A host command, as its dispatch runs it. -/
theorem command {i : Instr} {s : State} (h : exec i s = .next (runCommand i s.fetched)) : s.Completes i (exec i s) :=
  h ▸ follows ((State.Follows.fetched s).trans (runCommand_follows i s.fetched))

/-- A reset of the whole module, unless the module latches. -/
theorem reset {s : State} {c : Instr} {cause : Nat} (hcause : cause = causeWarm ∨ resetsSetup c = true) :
    s.Completes c (.next (s.resetModule cause)) := next (.of_reset hcause rfl rfl rfl rfl (.refl _))

theorem resetUnlessLatched {s : State} {c : Instr} {cause : Nat} (hcause : cause = causeWarm ∨ resetsSetup c = true) :
    s.Completes c (.next (s.resetUnlessLatched cause)) := by
  unfold State.resetUnlessLatched
  split
  · exact idle
  · exact reset hcause

end State.Completes

/-! ### The rows of the host interface -/

theorem execDoorbellProducer_completes (idx : Nat) (s : State) :
    s.Completes (.doorbellProducer idx) (execDoorbellProducer idx s) := by
  unfold execDoorbellProducer
  dsimp only
  split
  next hvalid =>
    rw [Bool.and_eq_true] at hvalid
    exact .follows (.setRing s.dev fun size hfits hsize => hfits.produce (hsize ▸ hvalid.2))
  · exact .same rfl rfl rfl rfl

theorem execDoorbellConsumer_completes (k idx : Nat) (s : State) :
    s.Completes (.doorbellConsumer k idx) (execDoorbellConsumer k idx s) := by
  refine .guard ?_
  dsimp only
  split
  next hvalid =>
    rw [Bool.and_eq_true] at hvalid
    exact .follows (.setRing s.dev fun _ hfits _ => hfits.consume hvalid.2)
  · exact .same rfl rfl rfl rfl

theorem execCommandFetch_completes (ds : List Descriptor) (s : State) :
    s.Completes (.commandFetch ds) (execCommandFetch ds s) :=
  .follows (((runWaiting_follows ..).trans (fetchAll_follows ..)).trans (.writeIndex _))

/-- A record is written only into a ring with room. -/
theorem execRingRecordWrite_completes (k : Nat) (s : State) :
    s.Completes (.ringRecordWrite k) (execRingRecordWrite k s) := by
  unfold execRingRecordWrite
  split
  · exact .idle
  split
  · exact .guard (.same rfl rfl rfl rfl)
  split
  · exact .idle
  next hwrite =>
    have hroom : (s.ring k).used < s.ctx.ringSize k := by
      simp only [State.ringRoom] at hwrite
      by_contra hfull
      exact hwrite (.inl (by simp [hfull]))
    refine .follows (.trans (.setRing _ fun size hfits hsize => ?_) (.writeIndex _))
    exact hfits.push (hsize ▸ hroom) _

theorem execRingRecordDrop_completes (k : Nat) (s : State) :
    s.Completes (.ringRecordDrop k) (execRingRecordDrop k s) := by
  refine .guard ?_
  split
  · exact .idle
  · exact .follows (.setCounts _ rfl rfl)

theorem execInterruptDue_completes (k : Nat) (s : State) :
    s.Completes (.interruptDue k) (execInterruptDue k s) := by
  have hring := State.ring_congr s.writeIndex_rings k
  exact .guard (.guard (.follows (.trans (.writeIndex s) (.setCounts _ (by rw [hring]) (by rw [hring])))))

/-- A write of ENTRIES_LOG2 that enables or disables a ring empties it; any other keeps its size (R495). -/
theorem putRingCfg_completes {c : Instr} {s t : State} (hopen : ¬s.setup.locked = true) (k : Nat) {v : Word}
    (ht : t = s.putRingCfg k (ringCfgNext k (s.ctx.ringCfg k) v)) (d : Dev) :
    s.Completes c (if s.ctx.ringOn k = t.ctx.ringOn k then .next t
      else .next ({ t with dev := d }.setRing k (t.ring k).clear)) := by
  subst ht
  have hother (j : Nat) (hj : j ≠ k) := congrArg ringLog2
    (s.putRingCfg_ringCfg_ne (ringCfgNext k (s.ctx.ringCfg k) v) hj)
  split
  next hsame =>
    refine .next (.of_unlocked hopen rfl rfl fun h => h.of_rings rfl fun j => ?_)
    by_cases hj : j = k
    · subst hj
      exact State.ringLog2_putRingCfg hsame
    · exact hother j hj
  · exact .next (.of_unlocked hopen rfl rfl fun h =>
      h.setRing rfl hother fun _ => Ring.fits_of_zero rfl rfl _)

theorem execRingCfgWrite_completes (k reg : Nat) (v : Word) (s : State) :
    s.Completes (.ringCfgWrite k reg v) (execRingCfgWrite k reg v s) := by
  unfold execRingCfgWrite
  split
  · exact .idle
  next hopen =>
    have hunlocked : ¬s.setup.locked = true := fun h => hopen (.inl h)
    have base {u : Setup} (hcfg : u.ringCfg = s.setup.ringCfg) :
        s.Completes (.ringCfgWrite k reg v) (.next { s with setup := u }) :=
      .next (.of_unlocked hunlocked rfl rfl fun h => h.of_rings rfl fun j =>
        congrArg (fun l => ringLog2 (l.getD j 0#32)) hcfg)
    exact .ite (.guard (base rfl)) (.ite (.guard (base rfl)) (putRingCfg_completes hunlocked _ rfl _))

theorem execIdxBaseHiWrite_completes (v : Word) (s : State) :
    s.Completes (.idxBaseHiWrite v) (execIdxBaseHiWrite v s) := by
  unfold execIdxBaseHiWrite
  split
  · exact .idle
  next hopen => exact .next (.of_unlocked hopen rfl rfl fun h => h.of_rings rfl fun _ => rfl)

theorem execSetupLock_completes (v : Word) (s : State) : s.Completes (.setupLock v) (execSetupLock v s) := by
  unfold execSetupLock
  split
  · exact .idle
  next hopen => exact .next (.of_unlocked hopen rfl rfl fun h => h.of_rings rfl fun _ => rfl)

theorem execRegisterWrite_completes (off : Nat) (v : Word) (s : State) :
    s.Completes (.registerWrite off v) (execRegisterWrite off v s) := by
  unfold execRegisterWrite
  split
  · exact .idle
  next hopen =>
    refine .next (.of_unlocked hopen rfl rfl fun h => h.of_rings rfl fun k => ?_)
    exact congrArg (fun l => ringLog2 (l.getD k 0#32)) (s.setup.write_ringCfg ..)

theorem execReadClear_completes (off : Nat) (s : State) : s.Completes (.readClear off) (execReadClear off s) :=
  .ite (.same rfl rfl rfl rfl) (.ite (.same rfl rfl rfl rfl) (.ite (.same rfl rfl rfl rfl)
    (.follows ((State.Follows.returns ..).trans (State.readClears_follows ..)))))

/-! ### The rows of resets (R411, R430, R435, R465, R488, R543, R545) -/

theorem State.powerDown_completes {s : State} {c : Instr} (h : resetsSetup c = true) :
    s.Completes c (.next s.powerDown) := 
  .next (.of_reset (cause := causePower) (.inr h) rfl rfl rfl rfl (.refl _))

theorem execPowerGood_completes (a : PowerGoodArgs) (s : State) : s.Completes (.powerGood a) (execPowerGood a s) :=
  .next (.of_reset (cause := causePower) (.inr rfl) rfl rfl rfl rfl (.of_eq rfl rfl rfl))

theorem execChipResetBegin_completes (s : State) : s.Completes .chipResetBegin (execChipResetBegin s) := by
  unfold execChipResetBegin
  split
  · exact .idle
  · exact .ite (.same rfl rfl rfl rfl) (.ite (.reset (.inr rfl)) .idle)

theorem NvSt.finishLife_life (v : NvSt) : v.finishLife.life = v.life := by
  unfold NvSt.finishLife
  split <;> rfl

theorem NvSt.finishLife_pinned (v : NvSt) : v.finishLife.pinned = v.pinned := by
  unfold NvSt.finishLife
  split <;> rfl

/-- The release completes a pending lifecycle change, whose state was in force already (R488). -/
theorem execResetRelease_completes (s : State) : s.Completes .resetRelease (execResetRelease s) := by
  refine .guard (.next ⟨by simp, fun _ => .inl (by simp), fun h => h.of_rings (by simp) fun k => by simp [Ctx.ringCfg],
    fun h => ?_, .inl ?_⟩)
  · rw [State.PinnedOk, State.settleMutes_nv, State.onDev_nv, s.nv.finishLife_pinned]
    exact h
  · rw [State.settleMutes_nv]
    exact s.nv.finishLife_life

/-! ### The rows of the stores (R474 to R477, R482) -/

theorem State.putLog_follows (s : State) (typ : Nat) (pinned : Bool) (payload : Bytes) :
    s.Follows (s.putLog typ pinned payload) :=
  .of_nv (by simp) (by simp) (by simp) (State.putLog_nv .. ▸ (s.nv.putLog_logged ..).follows)

theorem execLoglineRecordWrite_completes (readback : Bool) (s : State) :
    s.Completes (.loglineRecordWrite readback) (execLoglineRecordWrite readback s) := by
  unfold execLoglineRecordWrite
  split
  · exact .idle
  next r rest _ =>
    have htaken : s.Follows { s with dev := { s.dev with log := { s.dev.log with staged := rest } } } :=
      .same rfl rfl rfl rfl
    exact .guard (.ite (.follows (htaken.trans (State.putLog_follows ..))) (.same rfl rfl rfl rfl))

/-- The kibibytes that a clear frees. -/
def State.freedKb (s : State) (w : LogClearSt) : Nat :=
  let v := s.nv.cleared w.scope w.upto
  (logBytes s.nv.ring + logBytes s.nv.pinned - logBytes v.ring - logBytes v.pinned) / 1024

/-- The state once the records of a clear are gone, before its own record. -/
def State.afterClear (s : State) (w : LogClearSt) : State :=
  let v := s.nv.cleared w.scope w.upto
  { s with
    nv := v
    dev := { s.dev with log := { s.dev.log with
      clear := none
      pinFull := s.dev.log.pinFull && decide (pinnedBytes < logBytes v.pinned + 65536) } } }

/-- The clear record (Table STP-7). -/
def LogClearSt.payload (w : LogClearSt) (kb : Nat) : Bytes :=
  leBytes 1 w.scope ++ leBytes 1 w.slot ++ zeros 2 ++ leBytes 4 w.upto ++ leBytes 4 kb ++ zeros 4

/-- The state once a clear has ended: its record is written. -/
def State.clearLogged (s : State) (w : LogClearSt) : State :=
  (s.afterClear w).putLog 0x0001 true (w.payload (s.freedKb w))

theorem execLogClearDone_of_clear {s : State} {w : LogClearSt} (h : s.dev.log.clear = some w) :
    execLogClearDone s = .next { s.clearLogged w with
      dev := (s.clearLogged w).dev.complete 0x0803 w.hdr 0 0 none (leBytes 4 (s.freedKb w)) } := by
  rw [execLogClearDone, h]
  rfl

theorem State.clearLogged_follows (s : State) (w : LogClearSt) : s.Follows (s.clearLogged w) :=
  have hcleared : s.Follows (s.afterClear w) := .of_nv rfl rfl rfl (s.nv.cleared_follows w.scope w.upto)
  hcleared.trans (State.putLog_follows ..)

theorem execLogClearDone_completes (s : State) : s.Completes .logClearDone (execLogClearDone s) := by
  cases hclear : s.dev.log.clear with
  | none =>
    rw [execLogClearDone, hclear]
    exact .idle
  | some w =>
    rw [execLogClearDone_of_clear hclear]
    exact .follows ((s.clearLogged_follows w).trans (.same rfl rfl rfl rfl))

theorem execTimeFloorRaise_completes (s : State) : s.Completes .timeFloorRaise (execTimeFloorRaise s) := by
  unfold execTimeFloorRaise
  split
  · exact .idle
  · exact .guard (.follows (.of_nv rfl rfl rfl (.of_eq rfl rfl rfl)))

/-- A calibration writes the calibration store and nothing else of the stores (R483). -/
theorem State.calibrate_follows (s : State) (gs : List Nat) (res : List StrandCal) :
    s.Follows (s.calibrate gs res) := .of_nv (by simp) (by simp) (by simp) (.of_eq rfl rfl rfl)

theorem State.nextWave_follows (s : State) (wave : Nat) : s.Follows (s.nextWave wave) :=
  .same (by simp) (by simp) (by simp) (by simp)

theorem State.onDev_follows (s : State) (f : Ctx → Dev → Dev) : s.Follows (s.onDev f) := .same rfl rfl rfl rfl

theorem execCalWaveDone_completes (res : List StrandCal) (s : State) :
    s.Completes (.calWaveDone res) (execCalWaveDone res s) := by
  unfold execCalWaveDone
  split
  · exact .follows (.trans (s.calibrate_follows ..) (.same rfl rfl rfl rfl))
  · exact .guard (.follows (.trans (s.calibrate_follows ..) (State.nextWave_follows ..)))

theorem execCalRunDone_completes (res : List StrandCal) (s : State) :
    s.Completes (.calRunDone res) (execCalRunDone res s) := by
  unfold execCalRunDone
  split
  · exact .idle
  · exact .follows (.trans (s.calibrate_follows ..) (State.onDev_follows ..))

/-! ### Every command -/

theorem State.closeBurst_follows (s : State) (bg pos sub : Nat) : s.Follows (s.closeBurst bg pos sub) := by
  unfold State.closeBurst
  split
  · exact State.onDev_follows ..
  · exact .refl s

theorem State.evaluateOsc_follows (s : State) (byid sub : Nat) : s.Follows (s.evaluateOsc byid sub) := by
  unfold State.evaluateOsc
  dsimp only
  split
  · exact .refl s
  · exact State.onDev_follows ..

theorem State.thermalShutdown_follows (s : State) (sub : Nat) : s.Follows (s.thermalShutdown sub) :=
  .same (by simp) (by simp) (by simp) (by simp)

theorem State.becomeMaster_follows (s : State) : s.Follows s.becomeMaster :=
  .same (by simp) (by simp) (by simp) (by simp)

theorem State.feed_follows (s : State) (x : Samples) : s.Follows (s.feed x) :=
  .same (by simp) (by simp) (by simp) (by simp)

theorem State.settleSync_follows (s : State) : s.Follows s.settleSync := .same (by simp) (by simp) (by simp) (by simp)

theorem State.ppsMark_follows_stores (s : State) (phase : Nat) (freq : Int) : s.Follows (s.ppsLock phase freq).markPps :=
  .same (by simp) (by simp) (by simp) (by simp)

theorem execMasterLost_completes (s : State) : s.Completes .masterLost (execMasterLost s) := by
  refine .guard (.follows (.ite ?_ (.trans ?_ (State.becomeMaster_follows _))))
  · exact s.onDev_follows _
  · exact s.onDev_follows _

theorem execThermalSample_completes (rs : List Reading) (sub : Nat) (s : State) :
    s.Completes (.thermalSample rs sub) (execThermalSample rs sub s) := by
  refine .guard (.follows (.ite (.trans ?_ (State.thermalShutdown_follows _ sub)) ?_))
  · exact .same rfl rfl rfl rfl
  · exact .same rfl rfl rfl rfl

theorem execPpsInEdge_completes (e : PpsEdge) (phase : Nat) (s : State) :
    s.Completes (.ppsInEdge e phase) (execPpsInEdge e phase s) := by
  refine .guard (.follows (.trans (.ite (.trans ?_ (State.ppsMark_follows_stores _ phase _)) ?_)
    (State.settleSync_follows _)))
  · exact s.onDev_follows _
  · exact s.onDev_follows _

theorem execTickEdge_completes (env : TickEnv) (s : State) : s.Completes (.tickEdge env) (execTickEdge env s) :=
  .guard (.follows ((s.planWork_counted_follows env).trans (.writeIndex _)))

/-- No command faults and none is refused, and each keeps what every command keeps. The first rows are those that reach
the rings, the setup registers or the stores; the rows of the engines leave them alone in each branch. -/
theorem exec_completes (c : Instr) (s : State) : s.Completes c (exec c s) := by
  cases c with
  | doorbellProducer idx => exact execDoorbellProducer_completes idx s
  | doorbellConsumer k idx => exact execDoorbellConsumer_completes k idx s
  | commandFetch ds => exact execCommandFetch_completes ds s
  | ringRecordWrite k => exact execRingRecordWrite_completes k s
  | ringRecordDrop k => exact execRingRecordDrop_completes k s
  | interruptDue k => exact execInterruptDue_completes k s
  | ringCfgWrite k reg v => exact execRingCfgWrite_completes k reg v s
  | idxBaseHiWrite v => exact execIdxBaseHiWrite_completes v s
  | setupLock v => exact execSetupLock_completes v s
  | registerWrite off v => exact execRegisterWrite_completes off v s
  | readClear off => exact execReadClear_completes off s
  | tickOverrun item => exact .guard (.follows ((s.overrun_follows item).trans (.same rfl rfl rfl rfl)))
  | powerGood a => exact execPowerGood_completes a s
  | brownOut | ilimHold => exact .guard (State.powerDown_completes rfl)
  | warmResetRequest => exact .ite (.resetUnlessLatched (.inl rfl)) .idle
  | chipResetRequest => exact .ite (.resetUnlessLatched (.inr rfl)) .idle
  | lifecycleReset => exact .guard (.resetUnlessLatched (.inr rfl))
  | chipResetBegin => exact execChipResetBegin_completes s
  | resetRelease => exact execResetRelease_completes s
  | tickEdge env => exact execTickEdge_completes env s
  | loglineRecordWrite readback => exact execLoglineRecordWrite_completes readback s
  | logClearDone => exact execLogClearDone_completes s
  | optimeSave => exact .guard (.follows (.of_nv rfl rfl rfl (.of_eq rfl rfl rfl)))
  | timeFloorRaise => exact execTimeFloorRaise_completes s
  | calWaveDone res => exact execCalWaveDone_completes res s
  | calRunDone res => exact execCalRunDone_completes res s
  | modeSet | coilEnter | coilWake | timeSet | sync | calRun | txTest | planLoad | muteSet | muteClr | netInd | ulSched
  | feLoad | yarnMap | beamSet | arrayCal | cancSet | entryLearn | trcScan | gainSet | belBank | belRead | bookBasis
  | bookLoad | bookRead | bookSet | bookDel | partnerRead | measSub | specSnap | captureArm | captureRead | reefCap
  | thmClr | marchRun | logRead | logNonce | logClear | lifeSet | keySet => exact .command rfl
  | stopFirstUnlatch | jtagInstruction | vinSample | ppsInTimeout | spliceRefLoss | spliceRefRestore | muteNFall
  | muteNRise | endpointWriteback | entryAged | txTestEnd | faultNHoldEnd | tickCntRead | utcLoRead =>
    exact .same rfl rfl rfl rfl
  | stopperAcknowledge | i2cRead | pcieLinkEvent | sramWipeDone | firmwareLoaded | dramTrained | synth
  | lanyardDiscovery | lanyardRediscovery | lanyardRsp | lanyardRspMissing | syncInEdge | spliceLinkUp
  | spliceSyncMessage | splicePortDown | marlineFrame | donorLoss | lockQual | tracerEpoch | coilWakeStart
  | stopperRaise | blockResetDone | spliceCalReport | runStart | syncInstant | spliceTimingMessage =>
    exact .guard (.same rfl rfl rfl rfl)
  | closeStart | planExpiry | muteRelease | electionTimeout | masterTakeover | thermalCritical
  | spliceCandidateReport => exact .guard (.same (by simp) (by simp) (by simp) (by simp))
  | burstOnset | signatureReady | weightSwitch | slotRelease =>
    exact .same (by simp) (by simp) (by simp) (by simp)
  | burstClose bg pos at_ => exact .follows (.trans (State.feed_follows ..) (State.closeBurst_follows ..))
  | oscEvaluate a => exact .follows (.trans (State.feed_follows ..) (State.evaluateOsc_follows ..))
  | searchTimeout => exact .ite (.same rfl rfl rfl rfl) .idle
  | ppsInEdge e phase => exact execPpsInEdge_completes e phase s
  | bookLoadCommit => exact .follows (.ite (s.onDev_follows _) (.refl s))
  | masterLost => exact execMasterLost_completes s
  | thermalSample rs sub => exact execThermalSample_completes rs sub s
  | donorHoldExpiry | entryLearned | specSnapDone | captureRecord | syncOccasion | donorReplace | sfnReload
  | synthLock =>
    dsimp only [exec, execDonorHoldExpiry, execEntryLearned, execSpecSnapDone,
      execCaptureRecord, execSyncOccasion, execDonorReplace, execSfnReload, execSynthLock]
    (repeat' split) <;> exact .same (by simp) (by simp) (by simp) (by simp)
  | commandOutputDone | w1cClear | lanyardFrameSend
  | candidateExpire | marlineLinkRestore | clockSecond | feedbackDecay | matchComplete | entryLearnDone
  | arrayCalDone | captureTrigger | captureEnd | marchWindow | portATouch | marchDone | tddSwitch
  | matchLate =>
    dsimp only [exec, execCommandOutputDone, execW1cClear,
      execLanyardFrameSend, execCandidateExpire, execMarlineLinkRestore, execClockSecond,
      execFeedbackDecay, execMatchComplete, execEntryLearnDone, execArrayCalDone, execCaptureTrigger,
      execCaptureEnd, execMarchWindow, execPortATouch, execMarchDone, execTddSwitch, execMatchLate]
    (repeat' split) <;> exact .same rfl rfl rfl rfl

/-! ### What follows for each command and each step -/

theorem exec_keeps {c : Instr} {s t : State} (h : exec c s = .next t) : s.Keeps c t := by
  obtain ⟨u, hexec, hkeeps⟩ := exec_completes c s
  rw [hexec] at h
  cases h
  exact hkeeps

/-- An invariant that reads neither the queue nor more than every command keeps holds after each step. -/
theorem step_keeps {P : State → Prop} (hqueue : ∀ (s : State) (q : List Instr), P s → P { s with pending := q })
    (hexec : ∀ {c : Instr} {s t : State}, s.Keeps c t → P s → P t) {s t : State} (hs : P s) (h : step s = .next t) :
    P t := by
  unfold step at h
  split at h
  · cases h
    exact hs
  next c rest _ => exact hexec (exec_keeps h) (hqueue s rest hs)

/-- Settles O1: both clauses are the two arms of `step` (the idle one is assumption 1). -/
theorem stepRunsTheFrontCommand : Obligations.StepRunsTheFrontCommand := by
  refine ⟨fun c rest s h => ?_, fun s h => ?_⟩ <;> rw [step, h]

/-- Settles O2, for each command by its own meaning (assumption 3 for a condition that does not hold). -/
theorem everyCommandCompletes : Obligations.EveryCommandCompletes := fun c s => by
  obtain ⟨t, hexec, -⟩ := exec_completes c s
  exact ⟨t, hexec⟩

/-- Settles O3. -/
theorem commandsLeaveTheQueue : Obligations.CommandsLeaveTheQueue := fun _ _ _ h => (exec_keeps h).pending

/-- Settles O6: doorbells move an index within what a ring holds or has room for, a record is written into room alone, and
a change of ENTRIES_LOG2 between 0 and a size empties the ring. -/
theorem ringsStayBounded : Obligations.RingsStayBounded := fun _ _ hs h =>
  step_keeps (P := State.RingsOk) (fun _ _ hs => hs) (fun hkeeps => hkeeps.rings) hs h

/-- Settles O7: a record is written to the pinned region where it has room, and a clear only takes records from it. -/
theorem pinnedRegionStaysBounded : Obligations.PinnedRegionStaysBounded := fun _ _ hs h =>
  step_keeps (P := State.PinnedOk) (fun _ _ hs => hs) (fun hkeeps => hkeeps.pinned) hs h

/-- Settles O9: each write to a setup register asks for SETUP_LOCK 0, and a reset that is no warm one returns them all. -/
theorem setupLockHoldsUntilReset : Obligations.SetupLockHoldsUntilReset :=
  ⟨fun v s hopen => if_neg (by simp [hopen]), fun _ _ _ hlocked h => (exec_keeps h).setup hlocked⟩

/-- Settles O11: LIFE.SET alone changes the lifecycle state, along Table STP-11. That a pending change makes it BUSY, so
that none follows before the reset of the first, is the model's choice (assumption 59). -/
theorem lifecycleFollowsItsTransitions : Obligations.LifecycleFollowsItsTransitions := fun _ _ _ h =>
  (exec_keeps h).life

end Sys2Proof.Machine
end

section
/-! PROOFS. The host interface: doorbells, the fetch and evaluation of descriptors, records on their way to their rings,
and writes to the setup registers (R495 to R507, R516, R517, R523, R525, R527). -/

namespace Sys2Proof.Machine

/-! ### Doorbells (R498) -/

theorem Ctx.ringSize_of_on {c : Ctx} {k : Nat} (h : c.ringOn k = true) : c.ringSize k = 2 ^ ringLog2 (c.ringCfg k) :=
  if_pos h

theorem producerValid_iff {r : Ring} {size idx : Nat} :
    producerValid r size idx = true ↔ sub32 idx r.c ≤ size ∧ sub32 idx r.p ≤ size := by
  simp [producerValid]

theorem exec_doorbellProducer_valid {idx : Nat} {s : State} (hidx : idx < two32) (hon : s.ctx.ringOn 0 = true)
    (hvalid : producerValid (s.ring 0) (s.ctx.ringSize 0) idx = true) :
    exec (.doorbellProducer idx) s = .next (s.setRing 0 { s.ring 0 with p := idx }) := by
  change execDoorbellProducer idx s = _
  simp only [execDoorbellProducer, hon, hvalid, Bool.and_self, if_true, Nat.mod_eq_of_lt hidx]

theorem exec_doorbellProducer_invalid {idx : Nat} {s : State}
    (h : s.ctx.ringOn 0 = true → producerValid (s.ring 0) (s.ctx.ringSize 0) idx = false) :
    exec (.doorbellProducer idx) s = .next { s with dev := s.dev.doorbellError } :=
  if_neg (by simpa using h)

theorem exec_doorbellConsumer_valid {k idx : Nat} {s : State} (hlow : 1 ≤ k) (hhigh : k ≤ 5)
    (hon : s.ctx.ringOn k = true) (hvalid : consumerValid (s.ring k) idx = true) :
    exec (.doorbellConsumer k idx) s = .next (s.setRing k ((s.ring k).consume idx)) := by
  change execDoorbellConsumer k idx s = _
  rw [execDoorbellConsumer, if_neg (by omega)]
  exact if_pos (by rw [hon, hvalid, Bool.and_self])

theorem exec_doorbellConsumer_invalid {k idx : Nat} {s : State} (hlow : 1 ≤ k) (hhigh : k ≤ 5)
    (h : s.ctx.ringOn k = true → consumerValid (s.ring k) idx = false) :
    exec (.doorbellConsumer k idx) s = .next { s with dev := s.dev.doorbellError } := by
  change execDoorbellConsumer k idx s = _
  rw [execDoorbellConsumer, if_neg (by omega)]
  exact if_neg (by simpa using h)

/-- Settles O14: the two doorbells by the validity of their index, an invalid write being counted up to 255. -/
theorem doorbellsMoveValidIndices : Obligations.DoorbellsMoveValidIndices := by
  refine ⟨fun idx s hidx hon hc hp => exec_doorbellProducer_valid hidx hon ?_,
    fun k idx s hlow hhigh hidx hon hheld => ?consumer,
    fun idx s h => exec_doorbellProducer_invalid fun hon => ?_,
    fun k idx s hlow hhigh h => exec_doorbellConsumer_invalid hlow hhigh fun hon => ?_⟩
  · rw [producerValid_iff, Ctx.ringSize_of_on hon]
    exact ⟨hc, hp⟩
  case consumer =>
    rw [exec_doorbellConsumer_valid hlow hhigh hon (decide_eq_true hheld), Ring.consume, Nat.mod_eq_of_lt hidx]
  · rw [Bool.eq_false_iff, Ne, producerValid_iff, Ctx.ringSize_of_on hon]
    rcases h with hoff | hfar | hfar
    · exact absurd hon (by simp [hoff])
    · omega
    · omega
  · rcases h with hoff | hfar
    · exact absurd hon (by simp [hoff])
    · exact decide_eq_false (Nat.not_le.mpr hfar)

/-! ### The fetch of a descriptor (R502, R503) -/

theorem runWaiting_nil {s : State} (h : s.dev.host.waiting = []) : runWaiting [] s = s := by
  rw [runWaiting, ← h]

theorem State.mayFetch_eq_true {s : State} (hfw : s.dev.boot.fwOk = true) (hmaster : s.dev.host.mastering = true)
    (hon : s.ctx.ringOn 0 = true) (hheld : (s.ring 0).used ≠ 0) : s.mayFetch = true := by
  simp [State.mayFetch, hfw, hmaster, hon, hheld]

/-- Without a FENCE before it a descriptor that has none is evaluated at once. -/
theorem State.fetchOne_of_unfenced {s : State} {x : Descriptor} (hwait : s.dev.host.waiting = [])
    (hfence : x.flags % 2 = 0) : s.fetchOne x =
      evaluate (s.ring 0).c x (s.setRing 0 { s.ring 0 with c := succ32 (s.ring 0).c }).fetched :=
  if_neg (by simp [hwait, fenced, hfence])

theorem exec_commandFetch_one {s : State} {x : Descriptor} (hmay : s.mayFetch = true) (hroom : s.completionRoom = true)
    (hwait : s.dev.host.waiting = []) : exec (.commandFetch [x]) s = .next (s.fetchOne x).writeIndex := by
  change Host.Outcome.next (fetchAll [x] (runWaiting s.dev.host.waiting s)).writeIndex = _
  rw [hwait, runWaiting_nil hwait, fetchAll, if_pos (by rw [hmay, hroom, Bool.and_self]), fetchAll]

theorem fetchAll_stalled {s : State} (h : s.completionRoom = false) (ds : List Descriptor) : fetchAll ds s = s := by
  cases ds with
  | nil => rfl
  | cons x xs => exact if_neg (by simp [h])

theorem State.writeIndex_of_zero {s : State} (h : s.setup.idxBase = 0) : s.writeIndex = s := if_pos (.inl h)

theorem exec_commandFetch_stalled {s : State} (hroom : s.completionRoom = false) (hwait : s.dev.host.waiting = [])
    (hbase : s.setup.idxBase = 0) (ds : List Descriptor) : exec (.commandFetch ds) s = .next s := by
  change Host.Outcome.next (fetchAll ds (runWaiting s.dev.host.waiting s)).writeIndex = _
  rw [hwait, runWaiting_nil hwait, fetchAll_stalled hroom, State.writeIndex_of_zero hbase]

/-- CMD_STALL is bit 2 of BWL_HST_STAT (Table HST-14). -/
theorem State.reg_hstStat (s : State) : s.reg 0x110C = s.dev.host.statWord s.stalls := rfl

theorem HostIf.statWord_stall (h : HostIf) : (h.statWord true).getLsbD 2 = true := by
  simp [HostIf.statWord, pack, packWord, flag, bitNat]

/-- Settles O15: the room for a completion decides between the fetch of one descriptor and the stall. That the room asks
for one entry more than the completions owed is the model's choice (assumption 61). -/
theorem commandFetchTakesOneDescriptor : Obligations.CommandFetchTakesOneDescriptor := by
  refine ⟨fun x s hfw hmaster hon hheld hcpl hroom hwait hfence => ?fetch,
    fun ds s hfw hmaster hon hheld hfull hwait hbase => ?stall⟩
  case fetch =>
    have hcplRoom : s.completionRoom = true := by
      rw [State.completionRoom, hcpl, Ctx.ringSize_of_on hcpl, decide_eq_true hroom, Bool.and_self]
    rw [exec_commandFetch_one (State.mayFetch_eq_true hfw hmaster hon hheld) hcplRoom hwait,
      State.fetchOne_of_unfenced hwait hfence]
  case stall =>
    have hcplFull : s.completionRoom = false := by
      rw [State.completionRoom, Bool.and_eq_false_imp]
      intro hcpl
      rw [Ctx.ringSize_of_on hcpl, decide_eq_false_iff_not, Nat.not_le]
      exact hfull.resolve_left (by simp [hcpl])
    refine ⟨exec_commandFetch_stalled hcplFull hwait hbase ds, ?_⟩
    rw [State.reg_hstStat, State.stalls, State.mayFetch_eq_true hfw hmaster hon hheld, hcplFull]
    exact s.dev.host.statWord_stall

/-! ### The evaluation of a descriptor (R500, R507) -/

/-- A row of Table HST-8: its dispatch runs the command on the state that owes its completion. -/
def IsHostCommand (i : Instr) : Prop := ∀ s : State, exec i s = .next (runCommand i s.fetched)

theorem command1_isHost {h : CmdHdr} {d : Descriptor} {i : Instr} (hi : command1 h d = some i) : IsHostCommand i := by
  unfold command1 at hi
  split at hi <;> cases hi <;> exact fun _ => rfl

theorem command2_isHost {h : CmdHdr} {d : Descriptor} {i : Instr} (hi : command2 h d = some i) : IsHostCommand i := by
  unfold command2 at hi
  split at hi <;> cases hi <;> exact fun _ => rfl

theorem command3_isHost {h : CmdHdr} {d : Descriptor} {i : Instr} (hi : command3 h d = some i) : IsHostCommand i := by
  unfold command3 at hi
  split at hi <;> cases hi <;> exact fun _ => rfl

theorem command45_isHost {h : CmdHdr} {d : Descriptor} {i : Instr} (hi : command45 h d = some i) :
    IsHostCommand i := by
  unfold command45 at hi
  split at hi <;> cases hi <;> exact fun _ => rfl

theorem command6_isHost {h : CmdHdr} {d : Descriptor} {i : Instr} (hi : command6 h d = some i) : IsHostCommand i := by
  unfold command6 at hi
  split at hi <;> cases hi <;> exact fun _ => rfl

theorem command78_isHost {h : CmdHdr} {d : Descriptor} {i : Instr} (hi : command78 h d = some i) :
    IsHostCommand i := by
  unfold command78 at hi
  split at hi <;> cases hi <;> exact fun _ => rfl

/-- A descriptor spells no row but those of Table HST-8. -/
theorem commandOf_isHost {cidx : Nat} {d : Descriptor} {i : Instr} (hi : commandOf cidx d = some i) :
    IsHostCommand i := by
  unfold commandOf at hi
  dsimp only at hi
  split at hi
  · exact command1_isHost hi
  · exact command2_isHost hi
  · exact command3_isHost hi
  · exact command45_isHost hi
  · exact command45_isHost hi
  · exact command6_isHost hi
  · exact command78_isHost hi
  · exact command78_isHost hi
  · cases hi

theorem evaluate_command {cidx : Nat} {x : Descriptor} {i : Instr} (hlen : dlenOk x.dlen = true)
    (hi : commandOf cidx x = some i) (s : State) : evaluate cidx x s = runCommand i s := by
  have hne : x.dlen ≠ 0 := fun h => by simp [h, dlenOk] at hlen
  rw [evaluate, if_neg hne, if_neg (by simp [hlen]), hi]

theorem evaluate_noop {cidx : Nat} {x : Descriptor} (hlen : x.dlen = 0) (s : State) :
    evaluate cidx x s.fetched = s.answered x.opcode { tag := x.tag, cidx := cidx } 0 0 none [] := if_pos hlen

theorem evaluate_bad {cidx : Nat} {x : Descriptor} (hlen : x.dlen ≠ 0)
    (hbad : dlenOk x.dlen = false ∨ commandOf cidx x = none) (s : State) :
    evaluate cidx x s.fetched = s.denied x.opcode { tag := x.tag, cidx := cidx } 1 := by
  rw [evaluate, if_neg hlen]
  cases hok : dlenOk x.dlen with
  | false => rfl
  | true =>
    rw [if_neg (by simp), hbad.resolve_left (by simp [hok])]
    rfl

/-- Settles O16: the three ways of an evaluation, by DLEN and by Table HST-8. -/
theorem descriptorsAreEvaluated : Obligations.DescriptorsAreEvaluated := by
  refine ⟨fun cidx x i s hlen hi => ?_, fun cidx x s hlen => evaluate_noop hlen s,
    fun cidx x s hlen hbad => evaluate_bad hlen hbad s⟩
  rw [commandOf_isHost hi s, evaluate_command hlen hi]

/-! ### Records on their way to the host (R495, R499, R504, R516, R517) -/

/-- The index block is written to the host and to nothing of the module. -/
theorem State.writeIndex_eq (s : State) : ∃ b, s.writeIndex =
    { s with dev := { s.dev with host := { s.dev.host with idxBlock := b } } } := by
  unfold State.writeIndex
  split
  · exact ⟨s.dev.host.idxBlock, rfl⟩
  · exact ⟨_, rfl⟩

theorem State.writeIndex_of_base {s : State} (hbase : s.setup.idxBase ≠ 0) (hmaster : s.dev.host.mastering = true) :
    s.writeIndex = { s with dev := { s.dev with host := { s.dev.host with
      idxBlock := indexBlock s.rings s.time.n } } } := if_neg (by simp [hbase, hmaster])

/-- The host interface once the oldest staged record of ring k is written. -/
def HostIf.wrote (h : HostIf) (k : Nat) (rest : List Staged) : HostIf :=
  { h with
    staged := rest
    owed := if k = 1 then h.owed - 1 else h.owed
    lost := if k = 2 then false else h.lost }

section
variable {k : Nat} {r : Staged} {rest : List Staged} {s : State}
  (htake : takeStaged k s.dev.host.staged = some (r, rest)) (hon : s.ctx.ringOn k = true)

include htake hon

theorem exec_ringRecordWrite (hroom : (s.ring k).used < 2 ^ ringLog2 (s.ctx.ringCfg k))
    (hmaster : s.dev.host.mastering = true) (hlive : deadlinePassed s.time r = false) :
    exec (.ringRecordWrite k) s = .next ({ s with dev := { s.dev with host := s.dev.host.wrote k rest } }.setRing k
      ((s.ring k).push (finishRecord r s.time.n s.dev.host.lost))).writeIndex := by
  have hfree : s.ringRoom k = true := decide_eq_true (by rw [Ctx.ringSize_of_on hon]; exact hroom)
  change execRingRecordWrite k s = _
  simp only [execRingRecordWrite, htake, hon, hfree, hmaster, hlive]
  rfl

theorem exec_ringRecordWrite_late (hlate : deadlinePassed s.time r = true) :
    exec (.ringRecordWrite k) s = .next s := by
  change execRingRecordWrite k s = _
  simp [execRingRecordWrite, htake, hon, hlate]

end

theorem exec_ringRecordDrop {k : Nat} {rest : List Staged} {s : State} (hk : k ≠ 1) (hon : s.ctx.ringOn k = true)
    (htake : takeExpired s.time k s.dev.host.staged = some rest) :
    exec (.ringRecordDrop k) s = .next (({ s with dev := { s.dev with host := { s.dev.host with
      staged := rest
      lost := s.dev.host.lost || k == 2 } } }).setRing k { s.ring k with drop := satAdd 16 (s.ring k).drop 1 }) := by
  change execRingRecordDrop k s = _
  rw [execRingRecordDrop, if_neg (by simp [hk, hon]), htake]

/-- Completions are never dropped (R499). -/
theorem exec_ringRecordDrop_completion (s : State) : exec (.ringRecordDrop 1) s = .next s := by
  change execRingRecordDrop 1 s = _
  exact if_pos (.inl rfl)

theorem exec_commandOutputDone {cidx : Nat} {w : OutWork} {s : State}
    (hfind : s.dev.host.outs.find? (fun w => w.hdr.cidx = cidx) = some w) (hmaster : s.dev.host.mastering = true) :
    exec (.commandOutputDone cidx false) s = .next { s with
      dev := ({ s.dev with host := { s.dev.host with
        outs := s.dev.host.outs.erase w
        written := some (w.addr, w.bytes) } }).complete w.opcode w.hdr 0 0 none w.result } := by
  change execCommandOutputDone cidx false s = _
  rw [execCommandOutputDone, hfind]
  exact if_neg (by simp [hmaster])

/-- The index block goes before the vector (R516). -/
theorem exec_interruptDue {k : Nat} {s : State} (hlow : 1 ≤ k) (hhigh : k ≤ 5) (hsince : (s.ring k).since ≠ 0)
    (hon : s.ctx.ringOn k = true) (hmaster : s.dev.host.mastering = true) (hbase : s.setup.idxBase ≠ 0) :
    exec (.interruptDue k) s = .next (({ s with dev := { s.dev with host := { s.dev.host with
      idxBlock := indexBlock s.rings s.time.n
      sent := s.dev.host.sent ++ [(s.ctx.ringCfg k).field 8 6] } } }).setRing k { s.ring k with since := 0 }) := by
  change execInterruptDue k s = _
  rw [execInterruptDue, if_neg (by omega)]
  dsimp only
  rw [if_neg (by simp [hsince, hon, hmaster]), State.writeIndex_of_base hbase hmaster, Dev.msi]
  exact congrArg _ (congrArg (fun d => ({ s with dev := d } : State).setRing k _) (if_pos hmaster))

/-- Settles O17: a record whose deadline has passed is left to its drop, and no completion has one. -/
theorem recordsReachTheirRings : Obligations.RecordsReachTheirRings := by
  refine ⟨fun k r rest s htake hon hroom hmaster hlive hk => ?write,
    fun k r rest s htake hon hlate => exec_ringRecordWrite_late htake hon hlate,
    fun k rest s hk hon htake => exec_ringRecordDrop hk hon htake, fun s => exec_ringRecordDrop_completion s,
    fun cidx w s hfind hmaster => exec_commandOutputDone hfind hmaster,
    fun k s hlow hhigh hsince hon hmaster hbase => exec_interruptDue hlow hhigh hsince hon hmaster hbase⟩
  case write =>
    obtain ⟨b, hindex⟩ := State.writeIndex_eq
      ({ s with dev := { s.dev with host := s.dev.host.wrote k rest } }.setRing k
        ((s.ring k).push (finishRecord r s.time.n s.dev.host.lost)))
    refine ⟨_, exec_ringRecordWrite htake hon hroom hmaster hlive, ?_⟩
    rw [hindex]
    exact ⟨State.ring_setRing_self _ hk, rfl, fun j hj => State.ring_setRing_ne _ _ hj, fun h => if_pos h,
      fun h => if_neg h, rfl, rfl, rfl, rfl, rfl⟩

/-! ### Writes to the setup registers (R495, R523, R525, R527) -/

theorem ringCfgMask_and (k : Nat) : ringCfgMask k &&& 0x1F#32 = 0x1F#32 := by
  unfold ringCfgMask
  split <;> rfl

/-- The size bits of a ring are no reserved bits (Table HST-13). -/
theorem field_and_ringCfgMask (k : Nat) (v : Word) : (v &&& ringCfgMask k).field 0 5 = v.field 0 5 := by
  rw [Word.field_zero_five, BitVec.and_assoc, ringCfgMask_and, ← Word.field_zero_five]

/-- A size written to a disabled ring enables it. -/
theorem ringLog2_ringCfgNext_of_off {k : Nat} {old v : Word} (hold : ringLog2 old = 0) (hv : v.field 0 5 ≠ 0) :
    ringLog2 (ringCfgNext k old v) ≠ 0 := by
  rw [ringLog2_eq_zero_iff] at hold
  rw [ringCfgNext, if_neg (by simp [hold]), Ne, ringLog2_eq_zero_iff, field_and_ringCfgMask]
  exact hv

/-- A size written to an enabled ring is not taken. -/
theorem ringLog2_ringCfgNext_of_on {k : Nat} {old v : Word} (hold : ringLog2 old ≠ 0) (hv : v.field 0 5 ≠ 0) :
    ringLog2 (ringCfgNext k old v) = ringLog2 old := by
  rw [Ne, ringLog2_eq_zero_iff] at hold
  rw [ringCfgNext, if_pos ⟨hold, by rw [field_and_ringCfgMask]; exact hv⟩]
  exact ringLog2_congr (by rw [Word.field_zero_five, keepLog2_and, ← Word.field_zero_five])

theorem State.ringLog2_putRingCfg_of_on {s : State} {k : Nat} {v : Word} (hon : s.ctx.ringOn k = true)
    (hv : v.field 0 5 ≠ 0) :
    ringLog2 ((s.putRingCfg k (ringCfgNext k (s.ctx.ringCfg k) v)).ctx.ringCfg k) = ringLog2 (s.ctx.ringCfg k) := by
  rcases Nat.lt_or_ge k s.setup.ringCfg.length with hlt | hge
  · rw [State.putRingCfg_ringCfg_self _ hlt]
    exact ringLog2_ringCfgNext_of_on (Ctx.ringOn_iff.mp hon) hv
  · rw [State.putRingCfg_of_le _ hge]

theorem exec_ringCfgWrite_base {k : Nat} {s : State} (v : Word) (hopen : s.setup.locked = false) (hk : k ≤ 5)
    (hoff : s.ctx.ringOn k = false) :
    exec (.ringCfgWrite k 0 v) s =
      .next { s with setup := { s.setup with ringLo := s.setup.ringLo.set k (v &&& 0xFFFFF000#32) } } ∧
    exec (.ringCfgWrite k 1 v) s = .next { s with setup := { s.setup with ringHi := s.setup.ringHi.set k v } } := by
  change execRingCfgWrite k 0 v s = _ ∧ execRingCfgWrite k 1 v s = _
  constructor
  · rw [execRingCfgWrite, if_neg (by simp [hopen]; omega), hoff]
    rfl
  · rw [execRingCfgWrite, if_neg (by simp [hopen]; omega), hoff]
    rfl

/-- ENTRIES_LOG2 that changes from 0 enables the ring, and empties it (R495). -/
theorem exec_ringCfgWrite_enable {k : Nat} {v : Word} {s t : State} (hopen : s.setup.locked = false) (hk : k ≤ 5)
    (hcfg : k < s.setup.ringCfg.length) (hoff : s.ctx.ringOn k = false) (hv : v.field 0 5 ≠ 0)
    (ht : t = s.putRingCfg k (ringCfgNext k (s.ctx.ringCfg k) v)) :
    exec (.ringCfgWrite k 2 v) s = .next ({ t with dev := { t.dev with host := { t.dev.host with
        staged := s.dev.host.staged.filter fun r => decide (r.ring ≠ k ∨ k = 1) } } }.setRing k (t.ring k).clear) ∧
      t.ctx.ringOn k = true := by
  have hon : t.ctx.ringOn k = true := by
    rw [Ctx.ringOn_iff, ht, State.putRingCfg_ringCfg_self _ hcfg]
    exact ringLog2_ringCfgNext_of_off (Ctx.ringOn_eq_false_iff.mp hoff) hv
  change execRingCfgWrite k 2 v s = _ ∧ _
  rw [execRingCfgWrite_cfg v (by simp [hopen]) hk ht, if_neg (by simp [hoff, hon])]
  exact ⟨rfl, hon⟩

/-- No size of an enabled ring changes into another, whatever SETUP_LOCK holds (R495). -/
theorem exec_ringCfgWrite_keeps {k : Nat} {v : Word} {s t : State} (hon : s.ctx.ringOn k = true)
    (hv : v.field 0 5 ≠ 0) (h : exec (.ringCfgWrite k 2 v) s = .next t) :
    ringLog2 (t.ctx.ringCfg k) = ringLog2 (s.ctx.ringCfg k) := by
  change execRingCfgWrite k 2 v s = _ at h
  by_cases hopen : s.setup.locked ∨ 5 < k ∨ 2 < 2
  · rw [execRingCfgWrite, if_pos hopen] at h
    cases h
    rfl
  · have hsize := State.ringLog2_putRingCfg_of_on hon hv
    have hstays : s.ctx.ringOn k = (s.putRingCfg k (ringCfgNext k (s.ctx.ringCfg k) v)).ctx.ringOn k := by
      rw [Ctx.ringOn, Ctx.ringOn, hsize]
    rw [execRingCfgWrite_cfg v (fun hlock => hopen (.inl hlock)) (by omega) rfl, if_pos hstays] at h
    cases h
    exact hsize

/-- Settles O18: the base halves, the size of a ring, the index-block address and two registers that have no row of their
own. -/
theorem setupWritesAreStored : Obligations.SetupWritesAreStored := by
  refine ⟨fun k v s hopen hk hoff => exec_ringCfgWrite_base v hopen hk hoff,
    fun k v s hopen hk hrings hcfg hoff hv => ?enable, fun k v s t hon hv h => ?resize, fun v s hopen => ⟨?_, ?_⟩,
    fun v s hopen => ⟨?_, ?_⟩⟩
  case enable =>
    obtain ⟨hexec, hon⟩ := exec_ringCfgWrite_enable hopen hk hcfg hoff hv rfl
    have hring := State.ring_setRing_self (s := s.putRingCfg k (ringCfgNext k (s.ctx.ringCfg k) v))
      (Ring.clear ((s.putRingCfg k (ringCfgNext k (s.ctx.ringCfg k) v)).ring k)) hrings
    exact ⟨_, hexec, hon, congrArg Ring.p hring, congrArg Ring.c hring, congrArg Ring.entries hring,
      fun j hj => State.ring_setRing_ne _ _ hj, rfl, rfl, rfl, rfl⟩
  case resize => exact exec_ringCfgWrite_keeps hon hv h
  all_goals exact if_neg (by simp [hopen])

end Sys2Proof.Machine
end

section
/-! PROOFS. The march tests: how MARCH.RUN is accepted, how the engine goes from window to window, and what the end of a
test leaves (R444 to R450). -/

namespace Sys2Proof.Machine

/-! ### MARCH.RUN (R444, R445) -/

/-- A test as it is accepted: it starts at the next T0. -/
def March.accepted (h : CmdHdr) (a : MarchArgs) : March :=
  { hdr := h, a := { a with die := marchDie a.die }, started := false, next := 0, tested := 0, touched := 0,
    fails := 0, firstFail := 0, retry := [], untested := 0, partial_ := false, here := 0 }

theorem exec_marchRun_accepted {h : CmdHdr} {a : MarchArgs} {s : State} (hargs : marchBad s.ident.member a = false)
    (hmode : modeAccepts s.modes.mode 0x0703 = true) (hallowed : s.dev.marchDenied s.ctx a = false)
    (hfree : ∀ m, m ∈ s.dev.mem.march → m.a.die ≠ marchDie a.die) :
    exec (.marchRun h a) s = .next { s with dev := { s.dev with
      mem := { s.dev.mem with march := s.dev.mem.march ++ [March.accepted h a] }
      host := { s.dev.host with owed := s.dev.host.owed + 1 } } } := by
  have hidle : (s.dev.mem.march.any fun m => m.a.die == marchDie a.die) = false := by
    simpa using hfree
  have hallowed' : s.dev.fetched.marchDenied s.ctx a = false := hallowed
  refine congrArg _ (State.onDev_accept ?_)
  rw [State.ctx_ident, hargs, State.ctx_mode, hmode, Dev.fetched_mem, hidle, hallowed']
  rfl

/-! ### Windows (R448, R449) -/

theorem March.mayStart_eq_true {m : March} {w : Window} (hborrows : m.borrows = true)
    (hrun : m.a.die = 8 ∨ w = .run) (hpace : m.here < m.pace) : m.mayStart w = true := by
  rcases hrun with hdie | hw
  · simp [March.mayStart, hborrows, hdie, hpace]
  · simp [March.mayStart, hborrows, hw, hpace]

/-- The test once the engine has tested the window that it is at. -/
def March.testedWindow (m : March) (fails : List Nat) : March :=
  let x := (m.addFails fails).advance
  { x with tested := x.tested + 1, here := x.here + 1 }

theorem exec_marchWindow {die w : Nat} {fails : List Nat} {m : March} {s : State}
    (htest : s.dev.mem.test die = some m) (hstart : m.mayStart s.time.window = true) (hwindow : m.window = some w) :
    exec (.marchWindow die fails) s =
      .next { s with dev := { s.dev with mem := s.dev.mem.putTest (m.testedWindow fails) } } := by
  change execMarchWindow die fails s = _
  rw [execMarchWindow, htest]
  exact if_neg (by simp [hstart, hwindow])

theorem March.testedWindow_of_range {m : March} (fails : List Nat) (h : m.next < m.windows) :
    m.testedWindow fails = { m.addFails fails with
      next := m.next + 1, tested := m.tested + 1, here := m.here + 1 } := by
  rw [March.testedWindow, March.advance, if_pos (show (m.addFails fails).next < (m.addFails fails).windows from h)]
  rfl

theorem March.testedWindow_of_retry {m : March} (fails : List Nat) (h : m.windows ≤ m.next) :
    m.testedWindow fails = { m.addFails fails with
      retry := m.retry.tail, tested := m.tested + 1, here := m.here + 1 } := by
  rw [March.testedWindow, March.advance,
    if_neg (show ¬(m.addFails fails).next < (m.addFails fails).windows from Nat.not_lt.mpr h)]
  rfl

/-- A window of the range that port A touches is tested again behind it. -/
theorem exec_portATouch {die offset : Nat} {m : March} {s : State} (htest : s.dev.mem.test die = some m)
    (hborrows : m.borrows = true) (hrange : m.next < m.windows) (hoffset : offset / 4096 = m.a.offs / 4096 + m.next)
    (hstart : m.mayStart s.time.window = true) :
    exec (.portATouch die offset) s = .next { s with dev := { s.dev with
      mem := s.dev.mem.putTest { m with
        next := m.next + 1, touched := m.touched + 1, here := m.here + 1, retry := m.retry ++ [(m.next, 1)] } } } := by
  have howns : m.owns offset = false := by
    simp only [March.borrows, Bool.and_eq_true, beq_iff_eq] at hborrows
    simp [March.owns, hborrows.1.2]
  have htouch : m.touch m.next = { m with
      next := m.next + 1, touched := m.touched + 1, here := m.here + 1, retry := m.retry ++ [(m.next, 1)] } := by
    simp [March.touch, March.advance, hrange]
  change execPortATouch die offset s = _
  rw [execPortATouch, htest]
  dsimp only
  rw [howns, if_neg Bool.false_ne_true, March.window, if_pos hrange, ← htouch]
  exact if_neg (by simp [hstart, hoffset])

/-! ### The end of a test (R445, R447, R450) -/

/-- The dies under test, of each test in its turn. -/
def Memory.dies (x : Memory) : List Nat := x.march.map fun m => m.a.die

theorem Memory.test_eq_none_iff {x : Memory} {die : Nat} : x.test die = none ↔ die ∉ x.dies := by
  simp [Memory.test, Memory.dies]

/-- A block reset ends tests early, and takes none from its die. -/
theorem Dev.startBlockReset_dies (d : Dev) (c : Ctx) (h sub : Nat) :
    (d.startBlockReset c h sub).mem.dies = d.mem.dies := by
  obtain ⟨_, hpend⟩ := discardPend_eq c sub d.pend d
  unfold Dev.startBlockReset
  split
  · rfl
  · rw [chooseDefaults_mem, blockState, hpend]
    simp only [discardBook_mem, discardMode_mem, Memory.dies, List.map_map]
    refine List.map_congr_left fun m _ => ?_
    dsimp only [Function.comp]
    split <;> rfl

theorem Dev.raise_dies (d : Dev) (c : Ctx) (src sev unit sub : Nat) :
    (d.raise c src sev unit sub).mem.dies = d.mem.dies := by
  obtain ⟨_, _, _, _, _, hraise, -⟩ | ⟨_, h, ⟨_, _, _, _, _, rfl, -⟩, -, hraise⟩ := d.raise_raised c src sev unit sub
  · rw [hraise]
  · rw [hraise, startBlockReset_dies]

/-- The memory once the test of a die is over. -/
def Memory.withoutTest (x : Memory) (die : Nat) (m : March) : Memory :=
  { x with
    march := x.march.filter fun y => y.a.die != die
    rebuild := if m.a.mode = 2 ∧ m.started ∧ die ≠ 8 then x.rebuild ++ [(die, m.a.bank)] else x.rebuild }

theorem Memory.not_mem_dies_withoutTest (x : Memory) (die : Nat) (m : March) : die ∉ (x.withoutTest die m).dies := by
  simp [Memory.dies, Memory.withoutTest]

/-- A test ends with its completion, and with a raise of its die's source where words failed. -/
def Dev.endTest (d : Dev) (c : Ctx) (die : Nat) (m : March) : Dev :=
  let e : Dev := ({ d with mem := d.mem.withoutTest die m } : Dev).complete 0x0703 m.hdr 0 0 none m.result
  if m.fails = 0 then e else e.sramRaise c 3 die c.time.sub

theorem Dev.not_mem_dies_endTest (d : Dev) (c : Ctx) (die : Nat) (m : March) : die ∉ (d.endTest c die m).mem.dies := by
  unfold Dev.endTest
  dsimp only
  split
  · exact Memory.not_mem_dies_withoutTest _ _ _
  · rw [sramRaise, raise_dies]
    exact Memory.not_mem_dies_withoutTest _ _ _

/-- The failing words of a destructive test come with its end (R447). -/
theorem exec_marchDone {die : Nat} {m : March} {s : State} (htest : s.dev.mem.test die = some m)
    (hover : m.over = true) (fails : List Nat) :
    exec (.marchDone die fails) s = .next
      (s.onDev fun c d => d.endTest c die (if m.a.mode = 2 then m.addFails fails else m)) := by
  change execMarchDone die fails s = _
  rw [execMarchDone, htest]
  exact if_neg (by simp [hover])

/-- Settles O47: what the engine does in a window is `March.testedWindow`, and an access by port A puts it off. That a
window asks for the pace of assumption 98 is its premise. -/
theorem marchTestsRunWindowByWindow : Obligations.MarchTestsRunWindowByWindow := by
  refine ⟨fun h a s hargs hmode hallowed hfree => exec_marchRun_accepted hargs hmode hallowed hfree,
    fun die w fails m s htest hborrows hwindow hrun hpace => ?window,
    fun die offset m s htest hborrows hrange hoffset hrun hpace =>
      exec_portATouch htest hborrows hrange hoffset (March.mayStart_eq_true hborrows hrun hpace),
    fun die fails m s htest hover hmode hgood => ?good, fun die fails m s htest hover => ?done⟩
  case window =>
    refine ⟨_, m.testedWindow fails,
      exec_marchWindow htest (March.mayStart_eq_true hborrows hrun hpace) hwindow, rfl, ?_⟩
    rcases Nat.lt_or_ge m.next m.windows with hrange | hretry
    · rw [March.testedWindow_of_range fails hrange]
      exact ⟨rfl, rfl, rfl, rfl, rfl, fun _ => ⟨rfl, rfl⟩, fun h => absurd hrange (Nat.not_lt.mpr h)⟩
    · rw [March.testedWindow_of_retry fails hretry]
      exact ⟨rfl, rfl, rfl, rfl, rfl, fun h => absurd h (Nat.not_lt.mpr hretry), fun _ => ⟨rfl, rfl⟩⟩
  case good =>
    rw [exec_marchDone htest hover fails, if_neg (by omega)]
    simp [State.onDev, Dev.endTest, hgood, Memory.withoutTest, hmode]
  case done =>
    exact ⟨_, exec_marchDone htest hover fails, Memory.test_eq_none_iff.mpr (Dev.not_mem_dies_endTest _ _ _ _),
      s.sameOutside_onDev _⟩

end Sys2Proof.Machine
end

section
/-! PROOFS. The Logline store: how records are written and read, the nonce, and the clear (R473 to R482). -/

namespace Sys2Proof.Machine

/-! ### What a raise leaves of the commands that wait -/

/-- The completions owed and the clear that runs are as they were. -/
structure Dev.SameWaits (d e : Dev) : Prop where
  owed : e.host.owed = d.host.owed
  clear : e.log.clear = d.log.clear

theorem Dev.SameWaits.refl (d : Dev) : d.SameWaits d := ⟨rfl, rfl⟩

theorem Dev.SameWaits.trans {d e f : Dev} (hde : d.SameWaits e) (hef : e.SameWaits f) : d.SameWaits f :=
  ⟨hef.owed.trans hde.owed, hef.clear.trans hde.clear⟩

theorem Dev.sameWaits_stop (d : Dev) (t : Stopper) : d.SameWaits { d with stop := t } := ⟨rfl, rfl⟩

theorem Dev.event_sameWaits (d : Dev) (c : Ctx) (kind a sub b cc : Nat) : d.SameWaits (d.event c kind a sub b cc) := by
  unfold Dev.event
  split <;> exact ⟨rfl, rfl⟩

theorem Dev.msi_sameWaits (d : Dev) (v : Nat) : d.SameWaits (d.msi v) := by
  unfold Dev.msi
  split <;> exact ⟨rfl, rfl⟩

theorem Dev.react_sameWaits (d : Dev) (c : Ctx) {src unit : Nat} (sev sub : Nat) (r : Reaction)
    (hname : namedHawser src unit = none) : d.SameWaits (d.react c src sev unit sub r) := by
  unfold Dev.react
  extract_lets lvl0 lvl supp drive s stop t low flags logged posted sent
  have hsent : d.SameWaits sent := by
    have hlogged : d.SameWaits logged := ⟨rfl, rfl⟩
    have hposted : d.SameWaits posted := hlogged.trans (Dev.event_sameWaits ..)
    unfold sent
    split
    · exact hposted.trans (posted.msi_sameWaits _)
    · exact hposted
  refine hsent.trans ?_
  split
  · exact ⟨rfl, rfl⟩
  rw [hname]
  split
  · exact .refl sent
  split <;> exact ⟨rfl, rfl⟩

/-- A raise that names no hawser owes no completion, and neither begins nor ends a clear. -/
theorem Dev.raise_sameWaits (d : Dev) (c : Ctx) {src unit : Nat} (sev sub : Nat) (hname : namedHawser src unit = none) :
    d.SameWaits (d.raise c src sev unit sub) := by
  unfold Dev.raise
  split
  · exact .refl d
  split
  · exact .refl d
  dsimp only
  split
  · refine SameWaits.trans ?_ (react_sameWaits _ _ _ _ _ hname)
    constructor
    · rfl
    · dsimp only
      split <;> rfl
  split
  · exact (d.sameWaits_stop _).trans (react_sameWaits _ _ _ _ _ hname)
  split
  · exact (d.sameWaits_stop _).trans (react_sameWaits _ _ _ _ _ hname)
  · exact d.sameWaits_stop _

/-! ### Records of the general ring (R476) -/

theorem mem_trimRing {limit t : Nat} {l : List LogRec} {r : LogRec} (h : r ∈ trimRing limit t l) : r ∈ l := by
  induction l generalizing t with
  | nil => exact h
  | cons x xs ih =>
    rw [trimRing] at h
    split at h
    · exact h
    · exact .tail _ (ih h)

/-- The newest record stays where it fits at all. -/
theorem mem_trimRing_append {limit : Nat} {r : LogRec} (h : r.len ≤ limit) (l : List LogRec) :
    r ∈ trimRing limit (logBytes (l ++ [r])) (l ++ [r]) := by
  induction l with
  | nil => simp [trimRing, logBytes, h]
  | cons x xs ih =>
    have hrest : logBytes (x :: xs ++ [r]) - x.len = logBytes (xs ++ [r]) := by simp [logBytes]
    rw [List.cons_append, trimRing]
    split
    · simp
    · rw [← List.cons_append, hrest]
      exact ih

theorem NvSt.mem_putAtRing {v : NvSt} {r : LogRec} (h : r.len ≤ ringBytes) : r ∈ (v.putAtRing r).ring :=
  mem_trimRing_append h v.ring

theorem NvSt.mem_ring_of_putAtRing {v : NvSt} {r x : LogRec} (h : x ∈ (v.putAtRing r).ring) : x ∈ v.ring ∨ x = r := by
  simpa using mem_trimRing h

/-- The record that is written stands in the ring, with the OPTIME and the payload that it was given. -/
theorem NvSt.exists_mem_putRing (v : NvSt) (optime typ : Nat) {payload : Bytes} (h : 16 + payload.length ≤ ringBytes) :
    ∃ r, r ∈ (v.putRing optime typ payload).ring ∧ r.typ = typ ∧ r.payload = payload ∧ r.optime = optime :=
  ⟨_, NvSt.mem_putAtRing h, rfl, rfl, rfl⟩

/-- A write adds to the ring a padding record at most, and its own. -/
theorem NvSt.mem_ring_of_putRing {v : NvSt} {optime typ : Nat} {payload : Bytes} {x : LogRec}
    (h : x ∈ (v.putRing optime typ payload).ring) : x ∈ v.ring ∨ x.typ = 0 ∨ x.typ = typ := by
  rcases NvSt.mem_ring_of_putAtRing h with hold | rfl
  · split at hold
    · rcases NvSt.mem_ring_of_putAtRing hold with hold | rfl
      · exact .inl hold
      · exact .inr (.inl rfl)
    · exact .inl hold
  · exact .inr (.inr rfl)

/-! ### Writing a record (R476, R477) -/

/-- A record that finds the region that it is meant for is written and nothing more. -/
theorem State.putLog_of_room {s : State} {typ : Nat} {pinned : Bool} {payload : Bytes}
    (h : pinned = true → s.nv.pinRoom (16 + payload.length) = true) :
    s.putLog typ pinned payload = { s with nv := s.nv.putLog s.dev.log.optime typ pinned payload } :=
  if_neg (by simpa using h)

theorem NvSt.putLog_pinned {v : NvSt} {payload : Bytes} (h : v.pinRoom (16 + payload.length) = true)
    (optime typ : Nat) : v.putLog optime typ true payload =
      { v with pinned := v.pinned ++ [v.newRec optime typ payload], seq := succ32 v.seq } := if_pos h

theorem exec_loglineRecordWrite {r : StagedLog} {rest : List StagedLog} {s : State}
    (hstaged : s.dev.log.staged = r :: rest) (hclear : s.dev.log.clear = none) (readback : Bool) :
    exec (.loglineRecordWrite readback) s =
      if readback then .next (State.putLog
        { s with dev := { s.dev with log := { s.dev.log with staged := rest } } } r.typ r.pinned r.payload)
      else .next (State.onDev (fun c d => d.raise c 1 3 1 c.time.sub)
        { s with dev := { s.dev with log := { s.dev.log with staged := rest } } }) := by
  change execLoglineRecordWrite readback s = _
  rw [execLoglineRecordWrite, hstaged]
  exact if_neg (by simp [hclear])

/-! ### LOG.READ (R479) -/

theorem exec_logRead {h : CmdHdr} {region fromSeq : Nat} {o : OutBuf} {items : List (Nat × Bytes)} {out : List Bytes}
    {s : State} (hbuf : OutBufGood o) (hlen : o.len % 4 = 0) (hlow : 1 ≤ region) (hhigh : region ≤ 4)
    (hmode : modeAccepts s.modes.mode 0x0801 = true) (hitems : items = s.logItems region fromSeq)
    (hout : out = takeWhole o.len (items.map (·.2))) (hroom : items = [] ∨ out ≠ []) :
    exec (.logRead h region fromSeq o) s = .next (s.outputs 0x0801 h o.addr out.flatten
      (leBytes 4 out.flatten.length ++ leBytes 4 out.length ++ leBytes 4
        (((items[out.length]?).map (·.1)).getD (if region = 4 then 0 else s.nv.seq)))) := by
  subst hitems hout
  change Host.Outcome.next (State.onDev (fun c d => guarded 0x0801 h
    (outChecks o ++ [(decide (o.len % 4 ≠ 0), stBadArg), (outside region 1 4, stBadArg),
      (!modeAccepts c.mode 0x0801, stDenied), (!(s.logItems region fromSeq).isEmpty &&
        (takeWhole o.len ((s.logItems region fromSeq).map (·.2))).isEmpty, stNoRoom)]) _ d) s.fetched) = _
  refine congrArg _ (State.onDev_accept ?_)
  have hregion : outside region 1 4 = false := by simp [outside, hhigh, Nat.one_le_iff_ne_zero.mp hlow]
  have hfits : (!(s.logItems region fromSeq).isEmpty &&
      (takeWhole o.len ((s.logItems region fromSeq).map (·.2))).isEmpty) = false := by
    rcases hroom with hnil | hsome
    · simp [hnil]
    · simp [hsome]
  rw [firstFail_outChecks hbuf, hregion, State.ctx_mode, hmode, hfits, decide_eq_false (not_not.mpr hlen)]
  rfl

/-- Settles O50: the pinned region takes a record with room, the ring any other, and a lost one raises source 1. NEXT_SEQ 0
for the calibration store is assumption 58, OPTIME_SAVE before its time assumption 3. -/
theorem loglineRecordsAreWrittenAndRead : Obligations.LoglineRecordsAreWrittenAndRead := by
  refine ⟨fun r rest s hstaged hclear hpin hroom => ?pinned, fun r rest s hstaged hclear hpin hlen => ?ring,
    fun r rest s hstaged hclear hmode hsrcs => ?lost, fun s hdue => if_neg (Nat.not_lt.mpr hdue),
    fun s hearly => if_pos hearly,
    fun h region fromSeq o items out s hbuf hlen hlow hhigh hmode hitems hout hroom =>
      exec_logRead hbuf hlen hlow hhigh hmode hitems hout hroom⟩
  case pinned =>
    have hput := NvSt.putLog_pinned hroom s.dev.log.optime r.typ
    rw [exec_loglineRecordWrite hstaged hclear, if_pos rfl, hpin]
    refine congrArg _ (.trans (State.putLog_of_room fun _ => hroom) ?_)
    dsimp only
    rw [hput]
    rfl
  case ring =>
    obtain ⟨ring, pos, seq, hput⟩ := s.nv.putRing_eq s.dev.log.optime r.typ r.payload
    obtain ⟨x, hx, htyp, hpayload, hoptime⟩ := s.nv.exists_mem_putRing s.dev.log.optime r.typ (payload := r.payload)
      (by simp only [ringBytes]; omega)
    refine ⟨{ s with
      nv := s.nv.putRing s.dev.log.optime r.typ r.payload
      dev := { s.dev with log := { s.dev.log with staged := rest } } }, x, ?_, hx, htyp, hpayload, hoptime, ?_⟩
    · rw [exec_loglineRecordWrite hstaged hclear, if_pos rfl, hpin]
      exact congrArg _ (State.putLog_of_room (by simp))
    · dsimp only
      rw [hput]
      exact ⟨rfl, rfl, rfl, rfl, rfl, rfl, rfl, rfl⟩
  case lost =>
    refine ⟨_, (exec_loglineRecordWrite hstaged hclear false).trans (if_neg Bool.false_ne_true), ?_, ?_⟩
    · exact Dev.raise_bit _ 3 _ hmode rfl (by simp [namedHawser]) (by simp [hsrcs])
    · exact ⟨rfl, rfl, rfl, rfl, rfl, rfl, rfl⟩

end Sys2Proof.Machine
end

section
/-! PROOFS. The nonce and the clear of the Logline (R480 to R482). -/

namespace Sys2Proof.Machine

theorem length_leBytes (n v : Nat) : (leBytes n v).length = n := by
  induction n generalizing v with
  | zero => rfl
  | succ n ih => rw [leBytes, List.length_cons, ih]

/-! ### What the record of a command leaves as it is -/

/-- The only source that a record raises, 1, names no hawser. -/
theorem State.putLog_sameWaits (s : State) (typ : Nat) (pinned : Bool) (payload : Bytes) :
    s.dev.SameWaits (s.putLog typ pinned payload).dev := by
  have hname : namedHawser 1 1 = none := by simp [namedHawser]
  unfold State.putLog
  dsimp only
  split
  · unfold State.onDev
    dsimp only
    split
    · refine Dev.SameWaits.trans ?_ (Dev.raise_sameWaits _ _ _ _ hname)
      exact ⟨rfl, rfl⟩
    · exact ⟨rfl, rfl⟩
  · exact .refl _

theorem NvSt.mem_pinned_putLog {v : NvSt} {x : LogRec} (h : x ∈ v.pinned) (optime typ : Nat) (pinned : Bool)
    (payload : Bytes) : x ∈ (v.putLog optime typ pinned payload).pinned := by
  unfold NvSt.putLog
  split
  · exact List.mem_append_left _ h
  · obtain ⟨ring, pos, seq, hput⟩ := v.putRing_eq optime typ payload
    exact hput ▸ h

/-- A write adds to the ring at most a padding record and its own. -/
theorem NvSt.mem_ring_of_putLog {v : NvSt} {optime typ : Nat} {pinned : Bool} {payload : Bytes} {x : LogRec}
    (h : x ∈ (v.putLog optime typ pinned payload).ring) : x ∈ v.ring ∨ x.typ = 0 ∨ x.typ = typ := by
  unfold NvSt.putLog at h
  split at h
  · exact .inl h
  · exact NvSt.mem_ring_of_putRing h

/-! ### The store after a clear (R482) -/

theorem NvSt.mem_ring_of_cleared {v : NvSt} {scope upto : Nat} {r : LogRec} (h : r ∈ (v.cleared scope upto).ring) :
    r ∈ v.ring ∧ (scope = 2 ∨ (upto ≠ 0xFFFFFFFF ∧ 0 < dist32 r.seq upto)) := by
  simp only [NvSt.cleared] at h
  split at h
  next hscope => exact ⟨h, .inl hscope⟩
  · obtain ⟨hmem, hkept⟩ := List.mem_filter.mp h
    exact ⟨hmem, .inr (by simpa using hkept)⟩

theorem NvSt.mem_pinned_cleared {v : NvSt} {r : LogRec} (h : r ∈ v.pinned) (hkept : neverCleared r.typ = true)
    (scope upto : Nat) : r ∈ (v.cleared scope upto).pinned := by
  simp only [NvSt.cleared]
  split
  · exact h
  · exact (bySeq_perm _).mem_iff.mpr (List.mem_filter.mpr ⟨h, by simp [hkept]⟩)

/-! ### LOG.NONCE and LOG.CLEAR -/

/-- The identity signature of a nonce's head (R480). -/
def nonceSig (idGen : Nat) (head : Bytes) : Bytes :=
  leBytes 32 (Config.freeIdSigR idGen (leNat head)).toNat ++ leBytes 32 (Config.freeIdSigS idGen (leNat head)).toNat

theorem length_nonceSig (idGen : Nat) (head : Bytes) : (nonceSig idGen head).length = 64 := by
  simp [nonceSig, length_leBytes]

theorem exec_logNonce {h : CmdHdr} {o : OutBuf} {nonce : Nat} {s : State} (hbuf : OutBufGood o) (hlen : 96 ≤ o.len)
    (hmode : modeAccepts s.modes.mode 0x0802 = true) (hnonce : nonce = (Config.freeNonce s.dev.free).toNat)
    {head : Bytes} (hhead : head = leBytes 16 nonce ++ leBytes 8 s.ident.serial ++ leBytes 4 s.nv.pcc ++ zeros 4) :
    exec (.logNonce h o) s = .next (({ s with dev := { s.dev with
      free := s.dev.free + 1
      log := { s.dev.log with nonce := some nonce } } }).outputs 0x0802 h o.addr (head ++ nonceSig s.nv.idGen head) []) := by
  subst hhead hnonce
  change Host.Outcome.next (cmdLogNonce h o s.fetched) = _
  refine congrArg _ (State.onDev_accept ?_)
  rw [firstFail_outChecks hbuf, State.ctx_mode, hmode, decide_eq_false (Nat.not_lt.mpr hlen)]
  rfl

section
variable {h : CmdHdr} {b : InBuf} {t : Bytes} {s : State} (hbuf : InBufGood b 144) (ht : t = b.data.take b.len)
  (hlow : 1 ≤ fieldAt t 6 2) (hhigh : fieldAt t 6 2 ≤ 3) (hmode : modeAccepts s.modes.mode 0x0803 = true)
include hbuf ht hlow hhigh hmode

/-- A LOG.CLEAR of a known scope spends the nonce on its token's check. -/
theorem exec_logClear : exec (.logClear h b) s = .next { s with
    dev := guarded 0x0803 h
      [(!tokenOk s.nv s.ident.serial s.dev.log.nonce t 1 (fieldAt t 6 2) (fieldAt t 40 4) (zeros 32), stDenied),
        (s.dev.log.clear.isSome, stBusy)]
      (fun d => { d with log := { d.log with
        clear := some { hdr := h, scope := fieldAt t 6 2, slot := byteAt t 5, upto := fieldAt t 40 4 } } })
      s.fetched.spendNonce.dev } := by
  subst ht
  have hscope : outside (fieldAt (b.data.take b.len) 6 2) 1 3 = false := by
    simp [outside, hhigh, Nat.one_le_iff_ne_zero.mp hlow]
  have hchecks : firstFail (inChecks b 144 ++ [(outside (fieldAt (b.data.take b.len) 6 2) 1 3, stBadArg),
      (!modeAccepts s.fetched.modes.mode 0x0803, stDenied)]) = none := by
    rw [firstFail_inChecks hbuf, hscope, State.fetched_modes, hmode]
    rfl
  change Host.Outcome.next (cmdLogClear h b s.fetched) = _
  simp only [cmdLogClear, hchecks]
  rfl

theorem exec_logClear_good (hidle : s.dev.log.clear = none)
    (hok : tokenOk s.nv s.ident.serial s.dev.log.nonce t 1 (fieldAt t 6 2) (fieldAt t 40 4) (zeros 32) = true) :
    exec (.logClear h b) s = .next { s with dev := { s.dev with
      log := { s.dev.log with
        nonce := none
        clear := some { hdr := h, scope := fieldAt t 6 2, slot := byteAt t 5, upto := fieldAt t 40 4 } }
      host := { s.dev.host with owed := s.dev.host.owed + 1 } } } := by
  rw [exec_logClear hbuf ht hlow hhigh hmode, guarded_accept (by rw [hok, hidle]; rfl)]
  rfl

theorem exec_logClear_bad
    (hbad : tokenOk s.nv s.ident.serial s.dev.log.nonce t 1 (fieldAt t 6 2) (fieldAt t 40 4) (zeros 32) = false) :
    exec (.logClear h b) s = .next (({ s with dev := { s.dev with
      log := { s.dev.log with nonce := none } } }).denied 0x0803 h 3) := by
  rw [exec_logClear hbuf ht hlow hhigh hmode, guarded_refuse (by rw [hbad]; exact firstFail_true ..)]
  rfl

end

/-! ### The end of a clear -/

theorem State.clearLogged_clear (s : State) (w : LogClearSt) : (s.clearLogged w).dev.log.clear = none :=
  (State.putLog_sameWaits ..).clear

theorem State.mem_pinned_clearLogged {s : State} {r : LogRec} (h : r ∈ s.nv.pinned)
    (hkept : r.typ = 0x0001 ∨ r.typ = 0x0300 ∨ r.typ = 0x0301) (w : LogClearSt) :
    r ∈ (s.clearLogged w).nv.pinned := by
  have hnever : neverCleared r.typ = true := by simpa [neverCleared, or_assoc] using hkept
  rw [State.clearLogged, State.putLog_nv]
  exact NvSt.mem_pinned_putLog (NvSt.mem_pinned_cleared h hnever ..) ..

theorem State.mem_ring_of_clearLogged {s : State} {w : LogClearSt} {r : LogRec} (h : r ∈ (s.clearLogged w).nv.ring)
    (htyp : 2 ≤ r.typ) : r ∈ s.nv.ring ∧ (w.scope = 2 ∨ (w.upto ≠ 0xFFFFFFFF ∧ 0 < dist32 r.seq w.upto)) := by
  rw [State.clearLogged, State.putLog_nv] at h
  rcases NvSt.mem_ring_of_putLog h with hold | hpad | hown
  · exact NvSt.mem_ring_of_cleared hold
  · omega
  · omega

theorem State.clearLogged_nv_logged (s : State) (w : LogClearSt) :
    (s.nv.cleared w.scope w.upto).Logged (s.clearLogged w).nv := by
  rw [State.clearLogged, State.putLog_nv]
  exact NvSt.putLog_logged ..

theorem State.clearLogged_time (s : State) (w : LogClearSt) : (s.clearLogged w).time = s.time :=
  (s.afterClear w).putLog_time ..

theorem State.clearLogged_modes (s : State) (w : LogClearSt) : (s.clearLogged w).modes = s.modes :=
  (s.afterClear w).putLog_modes ..

theorem State.clearLogged_setup (s : State) (w : LogClearSt) : (s.clearLogged w).setup = s.setup :=
  (s.afterClear w).putLog_setup ..

theorem State.clearLogged_rings (s : State) (w : LogClearSt) : (s.clearLogged w).rings = s.rings :=
  (s.afterClear w).putLog_rings ..

/-- The completion of a LOG.CLEAR stands behind the records that are staged. -/
theorem Dev.exists_staged_complete (d : Dev) (h : CmdHdr) (result : Bytes) :
    ∃ r, r ∈ (d.complete 0x0803 h 0 0 none result).host.staged ∧ r.ring = 1 ∧ fieldAt r.bytes 0 2 = 0x0803 ∧
      fieldAt r.bytes 2 1 = 0 :=
  ⟨_, List.mem_append_right _ (.head _), rfl, rfl, rfl⟩

/-- Settles O51: both checks of a token spend the nonce; the clear that ends filters the regions, and its own record and a
padding record are all that is added. -/
theorem clearingNeedsAToken : Obligations.ClearingNeedsAToken := by
  refine ⟨fun h o nonce s hbuf hlen hmode hnonce =>
      ⟨_, exec_logNonce hbuf hlen hmode hnonce rfl, length_nonceSig ..⟩,
    fun h b t s hbuf ht hlow hhigh hmode hidle hok => exec_logClear_good hbuf ht hlow hhigh hmode hidle hok,
    fun h b t s hbuf ht hlow hhigh hmode hbad => exec_logClear_bad hbuf ht hlow hhigh hmode hbad,
    fun w s hclear => ⟨_, execLogClearDone_of_clear hclear, s.clearLogged_clear w,
      fun r hr hkept => State.mem_pinned_clearLogged hr hkept w, fun r hr htyp => State.mem_ring_of_clearLogged hr htyp,
      Dev.exists_staged_complete .., (s.clearLogged_nv_logged w).life, (s.clearLogged_nv_logged w).keys,
      s.clearLogged_time w, s.clearLogged_modes w, s.clearLogged_setup w, s.clearLogged_rings w⟩⟩

end Sys2Proof.Machine
end

section
/-! PROOFS. LIFE.SET and KEY.SET (R485, R486, R488). -/

namespace Sys2Proof.Machine

/-! ### The record of a command -/

theorem State.logNow_owed (s : State) (typ : Nat) (pinned : Bool) (payload : Bytes) :
    (s.logNow typ pinned payload).dev.host.owed = s.dev.host.owed := by
  unfold State.logNow
  split
  · rfl
  · exact (s.putLog_sameWaits ..).owed

theorem State.ite_spendNonce_owed {p : Prop} [Decidable p] (s : State) :
    (if p then s.spendNonce else s).dev.host.owed = s.dev.host.owed := by
  split <;> rfl

/-! ### The commit of a lifecycle change (R488, Table STP-12) -/

theorem NvSt.commitLife_first {v : NvSt} (h : v.life = .blank) (group : Nat) (key : Bytes) :
    (v.commitLife .provisioned group key).group = group ∧
      (v.commitLife .provisioned group key).keys = v.keys.set 0 (some key) := by
  simp [NvSt.commitLife, h]

theorem NvSt.commitLife_later {v : NvSt} {new : Life} (h : ¬(v.life = .blank ∧ new = .provisioned)) (group : Nat)
    (key : Bytes) : (v.commitLife new group key).group = v.group ∧ (v.commitLife new group key).keys = v.keys := by
  have hfirst : (v.life == .blank && new == .provisioned) = false := by simpa using h
  simp [NvSt.commitLife, hfirst]

/-! ### LIFE.SET -/

theorem exec_lifeSet_of_failed {h : CmdHdr} {state group st : Nat} {b : InBuf} {s : State}
    (hchecks : firstFail (lifeChecks s (lifeOfId state) group b) = some st) :
    exec (.lifeSet h state group b) s = .next (s.denied 0x0804 h st) := by
  have hfetched : firstFail (lifeChecks s.fetched (lifeOfId state) group b) = some st := hchecks
  change Host.Outcome.next (cmdLifeSet h state group b s.fetched) = _
  simp only [cmdLifeSet, hfetched]
  rfl

/-- A transition that Table STP-11 does not have is DENIED: whichever of the later checks fails, its status is that. -/
theorem firstFail_lifeChecks_of_no_transition {s : State} {new : Life} (h : lifeTransition s.nv.life new = none)
    (group : Nat) (b : InBuf) : firstFail (lifeChecks s (some new) group b) = some 3 := by
  have hfirst : (s.nv.life == .blank && some new == some Life.provisioned) = false := by
    by_contra htrue
    obtain ⟨hblank, rfl⟩ : s.nv.life = .blank ∧ new = .provisioned := by simpa using htrue
    simp [hblank, lifeTransition] at h
  cases hmode : modeAccepts s.modes.mode 0x0804
  all_goals
    simp only [lifeChecks, hfirst, hmode, Option.bind_some, h]
    rfl

section
variable {h : CmdHdr} {state group : Nat} {b : InBuf} {new : Life} {s : State} (hnew : lifeOfId state = some new)
  (hchecks : firstFail (lifeChecks s (some new) group b) = none)
include hnew hchecks

theorem exec_lifeSet_bad (hneeds : lifeTransition s.nv.life new = some true)
    (hbad : tokenOk s.nv s.ident.serial s.dev.log.nonce (b.data.take b.len) 2 state 0 (zeros 32) = false) :
    exec (.lifeSet h state group b) s = .next (({ s with dev := { s.dev with
      log := { s.dev.log with nonce := none } } }).denied 0x0804 h 3) := by
  change Host.Outcome.next (cmdLifeSet h state group b s.fetched) = _
  unfold cmdLifeSet
  extract_lets target new' needs t ok spent
  have htarget : target = some new := hnew
  have hneeds' : needs = true := by simp [needs, new', htarget, hneeds]
  have hspent : spent = s.fetched.spendNonce := if_pos hneeds'
  have hok : ok = false := by simp only [ok, hneeds']; exact hbad
  rw [htarget]
  split
  next hfail => exact absurd (hchecks.symm.trans hfail) (by simp)
  next =>
    rw [hok, hspent]
    rfl

/-- A transition that needs no token or has a good one writes its record, then is committed. -/
theorem exists_cmdLifeSet_committed (hidle : s.nv.lifeFrom = none)
    (hok : lifeTransition s.nv.life new = some false ∨
      tokenOk s.nv s.ident.serial s.dev.log.nonce (b.data.take b.len) 2 state 0 (zeros 32) = true) :
    ∃ v : NvSt, s.nv.Logged v ∧ (cmdLifeSet h state group b s).nv = v.commitLife new group (b.data.take 64) ∧
      (cmdLifeSet h state group b s).dev.boot.lifeDue = true ∧
      (cmdLifeSet h state group b s).dev.host.owed = s.dev.host.owed := by
  unfold cmdLifeSet
  extract_lets target new' needs t ok spent
  have hspent : spent.nv = s.nv := s.ite_spendNonce_nv
  have htarget : target = some new := hnew
  have hnew' : new' = new := by simp [new', htarget]
  have hok' : ok = true := by
    rcases hok with hfree | hgood
    · simp [ok, needs, hnew', hfree]
    · simp [ok, t, hgood]
  rw [htarget]
  split
  next hfail => exact absurd (hchecks.symm.trans hfail) (by simp)
  split
  next hfail => simp [hok', hspent, hidle] at hfail
  next u _ _ _ _ _ _ =>
    have howed : u.dev.host.owed = s.dev.host.owed := (State.logNow_owed ..).trans s.ite_spendNonce_owed
    exact ⟨u.nv, hspent ▸ State.logNow_logged .., by rw [hnew'], rfl, howed⟩

theorem exec_lifeSet_good (hidle : s.nv.lifeFrom = none)
    (hok : lifeTransition s.nv.life new = some false ∨
      tokenOk s.nv s.ident.serial s.dev.log.nonce (b.data.take b.len) 2 state 0 (zeros 32) = true) :
    ∃ t, exec (.lifeSet h state group b) s = .next t ∧ t.nv.life = new ∧ t.nv.lifeFrom = some s.nv.life ∧
      t.dev.boot.lifeDue = true ∧
      (s.nv.life = .blank → new = .provisioned → t.nv.group = group ∧
        t.nv.keys = s.nv.keys.set 0 (some (b.data.take 64))) ∧
      (¬(s.nv.life = .blank ∧ new = .provisioned) → t.nv.group = s.nv.group ∧ t.nv.keys = s.nv.keys) ∧
      t.dev.host.owed = s.dev.host.owed + 1 ∧ t.time = s.time ∧ t.modes = s.modes ∧ t.setup = s.setup ∧
      t.rings = s.rings := by
  obtain ⟨v, hlogged, hnv, hdue, howed⟩ :=
    exists_cmdLifeSet_committed (h := h) (s := s.fetched) hnew hchecks hidle hok
  have hout := runCommand_sameOutsideNv (.lifeSet h state group b) s.fetched
  have hlife : v.life = s.nv.life := hlogged.life
  refine ⟨cmdLifeSet h state group b s.fetched, rfl, ?_, ?_, hdue, ?_, ?_, howed, hout.time, hout.modes, hout.setup,
    hout.rings⟩ <;> rw [hnv]
  · rfl
  · exact congrArg some hlife
  · rintro hblank rfl
    obtain ⟨hgroup, hkeys⟩ := NvSt.commitLife_first (hlife.trans hblank) group (b.data.take 64)
    exact ⟨hgroup, hkeys.trans (congrArg (List.set · 0 _) hlogged.keys)⟩
  · intro hlater
    obtain ⟨hgroup, hkeys⟩ := NvSt.commitLife_later (v := v) (by rwa [hlife]) group (b.data.take 64)
    exact ⟨hgroup.trans hlogged.group, hkeys.trans hlogged.keys⟩

end

/-! ### KEY.SET -/

theorem exec_keySet_of_failed {h : CmdHdr} {slot action st : Nat} {b : InBuf} {s : State}
    (hchecks : firstFail (keyChecks s slot action b) = some st) :
    exec (.keySet h slot action b) s = .next (s.denied 0x0805 h st) := by
  have hfetched : firstFail (keyChecks s.fetched slot action b) = some st := hchecks
  change Host.Outcome.next (cmdKeySet h slot action b s.fetched) = _
  simp only [cmdKeySet, hfetched]
  rfl

/-- The key that an action leaves in its slot: 1 stores one, 2 removes it. -/
def keyAfter (action : Nat) (b : InBuf) : Option Bytes := if action = 1 then some ((b.data.take b.len).take 64) else none

/-- PROVISIONED takes KEY.SET, and without a token (R486). -/
theorem Life.provisioned_open {l : Life} (h : l = .provisioned) :
    (l == .blank || l == .retired) = false ∧ (l == .deployed || l == .service) = false := by
  subst h
  exact ⟨rfl, rfl⟩

/-- The state with a key in its slot, before the Key record. -/
def State.keyStored (s : State) (slot : Nat) (key : Option Bytes) : State :=
  { s with nv := { s.nv with keys := s.nv.keys.set slot key } }

/-- Where no token is needed, the key goes to its slot and its record follows. -/
theorem cmdKeySet_provisioned {h : CmdHdr} {slot action : Nat} {b : InBuf} {s u : State}
    (hlife : s.nv.life = .provisioned) (hchecks : firstFail (keyChecks s slot action b) = none)
    (hu : u = (s.keyStored slot (keyAfter action b)).logNow 0x0301 true (keyPayload slot action 0xFF (keyAfter action b))) :
    cmdKeySet h slot action b s = { u with dev := u.dev.ok 0x0805 h } := by
  obtain ⟨-, htok⟩ := Life.provisioned_open hlife
  subst hu
  simp only [cmdKeySet, hchecks, htok]
  rfl

/-- KEY.SET in PROVISIONED needs no token (R486). -/
theorem exec_keySet_provisioned {h : CmdHdr} {slot action : Nat} {b : InBuf} {s : State}
    (hlife : s.nv.life = .provisioned) (hchecks : firstFail (keyChecks s slot action b) = none) :
    ∃ t, exec (.keySet h slot action b) s = .next t ∧ t.nv.keys = s.nv.keys.set slot (keyAfter action b) ∧
      t.nv.life = s.nv.life ∧ t.dev.host.owed = s.dev.host.owed + 1 ∧ t.time = s.time ∧ t.modes = s.modes ∧
      t.setup = s.setup ∧ t.rings = s.rings := by
  have hset := cmdKeySet_provisioned (h := h) (s := s.fetched) hlife hchecks rfl
  have hlogged := (s.fetched.keyStored slot (keyAfter action b)).logNow_logged 0x0301 true
    (keyPayload slot action 0xFF (keyAfter action b))
  have hout := runCommand_sameOutsideNv (.keySet h slot action b) s.fetched
  refine ⟨cmdKeySet h slot action b s.fetched, rfl, ?_, ?_, ?_, hout.time, hout.modes, hout.setup, hout.rings⟩
  all_goals rw [hset]
  · exact hlogged.keys
  · exact hlogged.life
  · exact State.logNow_owed (s.fetched.keyStored slot (keyAfter action b)) ..

theorem firstFail_keyChecks_store {slot : Nat} {b : InBuf} {s : State} (hlife : s.nv.life = .provisioned)
    (hslot : slot ≤ 3) (hbuf : InBufGood b 64) (hkey : keyOk (b.data.take 64) = true)
    (hmode : modeAccepts s.modes.mode 0x0805 = true) : firstFail (keyChecks s slot 1 b) = none := by
  obtain ⟨hclosed, htok⟩ := Life.provisioned_open hlife
  simp [keyChecks, outside, hclosed, htok, Nat.not_lt.mpr hslot, firstFail_inChecks hbuf, hkey, hmode]

theorem firstFail_keyChecks_remove {slot : Nat} {b : InBuf} {s : State} (hlife : s.nv.life = .provisioned)
    (hlow : 1 ≤ slot) (hhigh : slot ≤ 3) (hmode : modeAccepts s.modes.mode 0x0805 = true) :
    firstFail (keyChecks s slot 2 b) = none := by
  obtain ⟨hclosed, htok⟩ := Life.provisioned_open hlife
  have hslot : (slot == 0) = false := by simp [Nat.one_le_iff_ne_zero.mp hlow]
  simp [keyChecks, outside, hclosed, htok, Nat.not_lt.mpr hhigh, hslot, hmode]

/-- KEY.SET is DENIED in BLANK and RETIRED, whether or not the mode accepts it. -/
theorem firstFail_keyChecks_of_closed {slot action : Nat} {b : InBuf} {s : State}
    (hlife : s.nv.life = .blank ∨ s.nv.life = .retired) (hslot : slot ≤ 3)
    (hact : action = 2 ∨ (action = 1 ∧ InBufGood b 64 ∧ keyOk (b.data.take 64) = true)) :
    firstFail (keyChecks s slot action b) = some 3 := by
  have hclosed : (s.nv.life == .blank || s.nv.life == .retired) = true := by simpa using hlife
  have htok : (s.nv.life == .deployed || s.nv.life == .service) = false := by rcases hlife with h | h <;> rw [h] <;> rfl
  have hslot' := Nat.not_lt.mpr hslot
  cases hmode : modeAccepts s.modes.mode 0x0805
  all_goals
    rcases hact with rfl | ⟨rfl, hbuf, hkey⟩
    · simp [keyChecks, outside, htok, hclosed, hslot', hmode, stDenied]
    · simp [keyChecks, outside, htok, hclosed, hslot', hmode, firstFail_inChecks hbuf, hkey, stDenied]

/-- Settles O52: a transition is checked, spends the nonce where it needs a token, and is committed with its record; a key
is stored the same way. -/
theorem lifecycleAndKeys : Obligations.LifecycleAndKeys := by
  refine ⟨fun h state group b new s hnew hchecks hidle hok => exec_lifeSet_good hnew hchecks hidle hok,
    fun h state group b new s hnew hstep =>
      exec_lifeSet_of_failed (hnew ▸ firstFail_lifeChecks_of_no_transition hstep group b),
    fun h state group b new s hnew hchecks hneeds hbad => exec_lifeSet_bad hnew hchecks hneeds hbad,
    fun h slot b s hlife hslot hbuf hkey hmode =>
      exec_keySet_provisioned hlife (firstFail_keyChecks_store hlife hslot hbuf hkey hmode),
    fun h slot b s hlife hlow hhigh hmode => ?remove,
    fun h slot action b s hlife hslot hact => exec_keySet_of_failed (firstFail_keyChecks_of_closed hlife hslot hact)⟩
  case remove =>
    obtain ⟨t, ht, hkeys, hlife', -, hframe⟩ :=
      exec_keySet_provisioned (h := h) hlife (firstFail_keyChecks_remove (b := b) hlife hlow hhigh hmode)
    exact ⟨t, ht, hkeys, hlife', hframe⟩

end Sys2Proof.Machine
end
